-- ==== Sys2Proof/Word.lean ====
section
/-! DEFINITION. The words of the NSY4160: registers are 32 bits wide (R132), bytes are 8, and the structures of
R4 are made of 64-bit words. -/

namespace Sys2Proof

abbrev Byte := BitVec 8
abbrev Word := BitVec 32
abbrev DWord := BitVec 64

end Sys2Proof
end

