-- ==== Sys2Proof/Syntax.lean ====
section
/-! DEFINITION. The commands of the NSY4160, one constructor of `Instr` per row of spec/opcode_table.json, and the
data their operands carry: readings, frames, segments and the outcomes that the outside world or a unit reports.
An operand is what the step observes; everything else a command uses is read from the state. -/

namespace Sys2Proof

/-! ### Package, intake (02, 03) -/

/-- The two directions of the intake link (R23). -/
inductive LinkDir where
  | toLogic | toIntake
  deriving DecidableEq, Repr

/-- The 22 PLLs of the clock tree (02, PLLs and the island clock tree). -/
inductive Pll where
  | core | sram | channel (n : Nat) | serdes (p : Nat) | port (p : Nat)
  deriving DecidableEq, Repr

/-- The boundary-scan instructions of the TAP (R47). -/
inductive TapInstr where
  | bypass | idcode | sample | preload | extest | acExtest | acPulse
  deriving DecidableEq, Repr

/-- Feed A or feed B of the shelf bus. -/
inductive Feed where
  | a | b
  deriving DecidableEq, Repr

/-- One conversion of the fast inputs by one ADC path: millivolts and milliamperes (03, Measurement). -/
structure Reading where
  feedA : Int
  feedB : Int
  vout : Int
  cur : Int
  deriving DecidableEq, Repr

/-! ### Ethernet frames (06) -/

/-- An IPv4 or IPv6 datagram header, as far as R187 and R188 look at it. -/
structure IpHeader where
  v6 : Bool
  src : BitVec 128
  dst : BitVec 128
  totalLen : Nat
  ihl : Nat
  hdrSumOk : Bool
  fragmented : Bool
  next : Nat
  dscp : Nat
  ce : Bool
  deriving DecidableEq, Repr

/-- The SecTAG of a MACsec frame, with the key and nonce that its ICV was made under (R202, R204): verification is equality
with what the receiver expects. `sci` is the explicit SCI, where the tag carries one; `pn` is the whole packet number. -/
structure SecTag where
  an : Nat
  pn : Nat
  sci : Option (BitVec 64)
  key : BitVec 256
  nonce : BitVec 96
  deriving DecidableEq, Repr

/-- The UDP checksum of a datagram (R183 check 8). -/
inductive UdpSum where
  | good | bad | zero
  deriving DecidableEq, Repr

/-- The KCT base header of R224. -/
structure BaseHeader where
  version : BitVec 4
  ar : Bool
  rt : Bool
  type : Byte
  client : BitVec 12
  epoch : BitVec 4
  seq : Word
  cumAck : Word
  sack : BitVec 16
  channel : BitVec 2
  keyPhase : Bool
  ecnEcho : Bool
  segIndex : BitVec 7
  last : Bool
  msgId : BitVec 24
  status : Byte
  payloadLen : BitVec 16
  credit : BitVec 16
  deriving DecidableEq, Repr

/-- A GCM-protected segment: the key and nonce it was sealed under, the header authenticated with it, and the
plaintext (message header, if any, and payload; R222). Verification is equality with what the receiver expects. -/
structure Sealed where
  key : BitVec 256
  nonce : BitVec 96
  aad : BaseHeader
  plain : List Byte
  deriving DecidableEq, Repr

/-- The dataset an Announce carries, most significant criterion first (R207), and the sender's clock identity. -/
structure Announce where
  dataset : List Nat
  identity : DWord
  deriving DecidableEq, Repr

/-- The PTP messages the device processes (R206). Times are nanoseconds; `t` is the origin or receive time the
message carries, `src` the clock identity of its sender, `req` that of the clock whose Delay_Req it answers. -/
inductive PtpMsg where
  | announce (a : Announce)
  | sync (src : DWord) (seqId : Nat) (twoStep : Bool) (t : Int)
  | followUp (src : DWord) (seqId : Nat) (t : Int)
  | delayResp (src req : DWord) (seqId : Nat) (t : Int) (logInterval : Int)
  | other
  deriving DecidableEq, Repr

/-- What a received frame carries above its link and network headers (R183 checks 5 and 7). -/
inductive FrameBody where
  | kct (hdr : BaseHeader) (box : Sealed)
  | ptp (domain : Nat) (m : PtpMsg)
  | echo (data : List Byte)
  | neighSol (target : BitVec 128) (srcMac : BitVec 48) (src : BitVec 128)
  | neighAdv (target : BitVec 128) (mac : BitVec 48)
  | arp (request : Bool) (senderMac : BitVec 48) (senderIp targetIp : BitVec 32)
  | macControl (opcode : Nat) (enable : BitVec 8) (quanta : List Nat)
  | other
  deriving DecidableEq, Repr

/-- A frame on the wire as the port parses it (R183). -/
structure EthFrame where
  fcsOk : Bool
  length : Nat
  secTag : Option SecTag
  da : BitVec 48
  sa : BitVec 48
  /-- Tags from outer to inner: EtherType of the tag and VID. -/
  tags : List (Nat × Nat)
  etherType : Nat
  ip : Option IpHeader
  udpDst : Nat
  udpSrc : Nat
  udpLen : Nat
  udpSum : UdpSum
  /-- The first 128 bytes as far as the fields above and below do not give them (R215). -/
  first : List Byte
  body : FrameBody
  deriving DecidableEq, Repr


/-- A shaped entity on the timing wheel (R691). -/
inductive WheelEntity where
  | session (client : BitVec 12)
  | shaper (mac cls : Nat)
  deriving DecidableEq, Repr

/-- What a handshake between two stages is for: a request in the pipeline, or a delivered message on its way into it
(R17). -/
inductive HsRef where
  | flight (id : Nat)
  | message (client : BitVec 12) (msgId : BitVec 24)
  deriving DecidableEq, Repr

/-! ### Memory (14, 16) -/

/-- The bits that are read inverted when a line is read: at the first read, at the retry of R552, and at the re-read of
a failed tag (R605); codeword bit j of word k is bit 80 k + j. `engineFault`: the first decryption of the line goes wrong
and its tag shows it. -/
structure ReadErrs where
  first : BitVec 640
  again : BitVec 640
  tagRead : BitVec 640
  engineFault : Bool
  deriving DecidableEq, Repr

/-- No bit is read inverted. -/
def ReadErrs.none : ReadErrs := ⟨0, 0, 0, false⟩

/-- An access to a word of a bank (R638, R650, R651). -/
inductive SramOp where
  | read
  | write (v : DWord)
  | add (v : DWord)
  | swap (v : DWord)
  | set (v : DWord)
  | clear (v : DWord)
  deriving DecidableEq, Repr

/-- An access of port A that meets one of port B at its word: whether it is the earlier of the two, as it is where their arrival
cycles are equal (R644). -/
structure SramMeet where
  op : SramOp
  first : Bool
  deriving DecidableEq, Repr

/-- What a window command that a register record starts meets (R355, R628, R646): the bits read inverted in a line of DRAM, the
bits of an SRAM word at its first and second read, and whether a write of port A meets it. -/
structure RecordErrs where
  errs : ReadErrs
  first : BitVec 80
  again : BitVec 80
  lost : Bool
  meet : Option SramMeet
  deriving DecidableEq, Repr

/-- A record that meets none of these. -/
def RecordErrs.none : RecordErrs := ⟨ReadErrs.none, 0, 0, false, Option.none⟩

/-- What discovery reads of a DIMM (R525, R526, R561): of a kind the device supports or not, 1, 2 or 4 ranks, ×8 or ×4,
density 0 16 Gb, 1 32 Gb, 2 64 Gb, RFM and DRFM, the highest data rate in MT/s, the speed bin, the timing registers of
page 2 that its SPD gives at the chosen point, and how often an SPD block was read again. -/
structure SpdReport where
  kindOk : Bool
  ranks : Nat
  x8 : Bool
  density : Nat
  rfm : Bool
  drfm : Bool
  rate : Nat
  bin : Nat
  timing : List Word
  rereads : Nat
  /-- Every block's CRC matched, at the second read at the latest (R562), and the PMIC answered. -/
  answers : Bool
  deriving DecidableEq, Repr


/-! ### On-chip memory (17) -/

/-- What a word that reads uncorrectable twice belongs to, as its owner sees it (R653). Descriptor cache entries name
the damaged word. -/
inductive SramHit where
  | descriptor (region page word : Nat)
  | region (r : Nat)
  | grant (i : Nat)
  | client (c : Nat)
  | key (k : Nat)
  | classTable (c : Nat) (dict : Bool)
  | replay (c : Nat)
  | egress (c : Nat)
  | move (region page : Nat)
  | summary (stretch : Nat)
  | tracker (flight : Nat)
  | shaper (mac cls : Nat)
  | session (c : Nat)
  | policer (c : Nat)
  | log (seq : Word)
  | opSlot (i : Nat)
  deriving DecidableEq, Repr

/-- The commands of the block, in the order of spec/opcode_table.json. -/
inductive Instr where
  /-- R23. A 48-bit frame arrives on the intake link; a frame that fails its CRC is discarded and resent once, and a second failure is logged. -/
  | intakeLinkFrame (dir : LinkDir) (frame : BitVec 48)
  /-- R24. The logic die has received no valid intake-link frame for 100 µs; it logs a fatal event and asserts the fault wire. -/
  | logicLinkTimeout
  /-- R25. The intake die has received no valid frame for 100 µs after PG_OUT; it holds the pass FET and PG_OUT and asserts FAULT_N. -/
  | intakeLinkTimeout
  /-- R26. The logic die asserts the fault wire, and the intake die asserts FAULT_N within 10 µs. -/
  | faultWireAssert
  /-- R34. The junction reaches 160 °C; THERMTRIP_N is asserted and the intake die deasserts PG_OUT and asserts FAULT_N. -/
  | thermalTrip
  /-- R49. VSTBY rises through its threshold; the intake die loads its defaults and applies and checks its fuse profile. -/
  | vstbyRise
  /-- R35. VSTBY falls below 2.8 V; intake state is lost and strap sampling and latches are released. -/
  | vstbyFall
  /-- R36. 1 ms after VSTBY rise, the intake die samples SEQ_FIRST and FEED_MODE. -/
  | intakeStrapSample (first : Bool) (mode : BitVec 2)
  /-- R42. An enabled PLL reaches lock. -/
  | pllLock (pll : Pll)
  /-- R43. A PLL has not locked 30 µs after enable; it is retried once, and a second failure stops boot or fails its domain. -/
  | pllLockTimeout (pll : Pll)
  /-- R46. TRST_N is asserted, or TMS is held high for five TCK cycles, and the TAP enters Test-Logic-Reset. `trst`: by TRST_N,
  which stays low. -/
  | tapReset (trst : Bool)
  /-- R47. A boundary-scan instruction is loaded; instructions other than BYPASS, IDCODE and SAMPLE take effect only in test hold. `trst`: TRST_N is low. -/
  | tapInstruction (instr : TapInstr) (trst : Bool)
  /-- R50. A write of the unlock value to INT_UNLOCK opens a 1 ms window for fuse programming and protected clears. -/
  | intUnlock (value : Word)
  /-- R50. A write to INT_PROFILE_PROG within the unlock window starts programming of one profile word. -/
  | intProfileProg (value : Word)
  /-- R50. Programming of a profile fuse word completes after 2 ms. -/
  | profileWordProgrammed
  /-- R52. GO is written to INT_CFG_COMMIT; the staged intake configuration is checked and takes effect at one tick, or is refused. -/
  | intCfgCommit (value : Word)
  /-- R54. The intake die acknowledges a management write that needs the link, and the write is answered. -/
  | intLinkWriteAck
  /-- R55. When the intake link first comes up, the intake die delivers the held events to the event log. -/
  | intEvtHistDelivery
  /-- R57. A reading has lain outside its plausibility window for 500 µs; the fault is latched and FAULT_N is asserted. -/
  | plausibilityFault
  /-- R58. The two ADC paths have differed by more than 2 % for 500 µs; the fault is latched and FAULT_N is asserted. -/
  | senseDisagree
  /-- R61. A feed has stayed between V_QUAL and V_OV for t_QUAL and becomes valid; feed selection is re-evaluated. -/
  | feedValid (feed : Feed)
  /-- R62. A feed has fallen below V_SW for t_FILT and ceases to be valid; the intake die switches feeds or keeps the active one. -/
  | feedInvalid (feed : Feed)
  /-- R63. A break-before-make switch begins: the old feed's isolation FETs turn off and t_BREAK starts. -/
  | feedSwitch
  /-- R63. t_BREAK expires and the new feed's isolation FETs are turned on. -/
  | feedBreakEnd
  /-- R62. The active feed has been below V_RST for t_FILT; PG_OUT is deasserted, the FETs turn off and feed qualification restarts. -/
  | feedBelowVrst
  /-- R65. The active feed has exceeded V_OV for t_FILT; the intake die switches feeds, or turns the pass FET off. -/
  | feedOvervoltage
  /-- R64. Feed A has been valid for t_RETURN while feed B is active and REVERT is 1; the intake die switches back to A. -/
  | feedReturn
  /-- R67. A feed is valid and any SEQ wait is over; the feed's isolation FETs turn on and the 1 ms enhancement wait starts. -/
  | softStart
  /-- R67. The enhancement wait ends and the pass FET gate is driven under the current limit. -/
  | passFetDrive
  /-- R68. The current reaches I_limit and the fault timer starts. -/
  | currentLimitEnter
  /-- R68. The current leaves limit and the fault timer returns to idle, cleared. -/
  | currentLimitLeave
  /-- R68. The fault timer reaches t_FT and the intake die trips. -/
  | ftimerExpired
  /-- R70. Power-good qualification has held for PG_DELAY, and PG_OUT is asserted. -/
  | pgOutAssert
  /-- R75. The breaker curve accumulator reaches 1 and the breaker trips. -/
  | curveTrip
  /-- R76. The I²t accumulator reaches its limit and the breaker trips. -/
  | i2tTrip
  /-- R77. The fast-trip comparator sees the current above I_FAST, and the gate is pulled down within 1 µs. -/
  | fastTrip
  /-- R78. FET_TEMP has been at or above T_TRIP for 1 ms, and the intake die trips. -/
  | fetOvertemp
  /-- R79. The t_COOL portion of the retry timer ends and the t_RETRY portion begins. -/
  | retryCoolEnd
  /-- R79. The retry timer ends and soft start begins again, unless FET_TEMP is at or above T_START. -/
  | retryEnd
  /-- R80. A W1C write to INT_FAULT clears latched intake faults, ending latch-off, or, after unlock, the short-FET lockout. -/
  | intFaultClear (value : Word)
  /-- R81. PG_OUT has stayed asserted for 60 s, and FAULT_COUNT returns to 0. -/
  | faultCountReset
  /-- R82. VOUT has stayed above 10 % of the feed for 1 ms with the gate off; both feeds' FETs open and a lockout is latched. -/
  | shortFet
  /-- R83. V_DS exceeds 1 V at low current with the gate fully on for 1 ms, and an open FET is latched. -/
  | openFet
  /-- R84. A presence pin reads deasserted on two ticks; the gate is pulled down, FEED_WARN_N asserted and soft start abandoned. -/
  | removal (long short : Bool)
  /-- R85. Both presence pins have stayed asserted for 100 ms, and insertion is complete. -/
  | insertionComplete
  /-- R87. The active feed has been below V_WARN for t_FILT; FEED_WARN_N is asserted and a brace frame is sent. -/
  | earlyWarning
  /-- R88. The logic die receives the brace frame; new writes are answered Busy, background work stops and the last-gasp write starts. -/
  | braceEntry
  /-- R89. The page program of the last-gasp record completes. -/
  | lastGaspWritten
  /-- R91. The feed has stayed above V_WARN plus hysteresis for t_RECOV; FEED_WARN_N is deasserted and brace ends. -/
  | dipRecovered
  /-- R94. SEQ_IN has been asserted for 1 ms during the SEQ wait, and the wait ends. -/
  | seqInAssert
  /-- R94. The SEQ wait reaches SEQ_TIMEOUT and ends with SEQ_TIMED_OUT set. -/
  | seqTimeout
  /-- R96. PG_OUT has stayed asserted for SEQ_DELAY, and SEQ_OUT is asserted. -/
  | seqOutAssert
  /-- R97. OFF_REQ is written, and the intake die deasserts PG_OUT. -/
  | offReq
  /-- R97. 100 ms after OFF_REQ, the pass FET is turned off and Off is entered. -/
  | offPassFetOff
  /-- R97. A rising edge on SEQ_IN ends Off while SEQ_WAKE is 1. -/
  | seqWakeEdge
  /-- R100. PG_OUT is asserted and all VRM_PG_IN inputs have been asserted for 2 ms; the logic die leaves power-on reset and samples its straps. -/
  | porRelease (bootSel : BitVec 2) (shelf : BitVec 6)
  /-- R101. The VRM_PG_IN inputs are not all asserted within 200 ms of PG_OUT; PG_OUT is deasserted and the retry timer runs. -/
  | vrmPgTimeout
  /-- R102. A VRM_PG_IN input has been deasserted for 10 µs after release; the logic die returns to power-on reset. -/
  | vrmPgLost
  /-- R103. SYS_RST_N is asserted; the channels are reset, the key store is zeroised and the dies are held in reset. -/
  | sysRstAssert
  /-- R103. 100 µs after SYS_RST_N deasserts, the dies are released and boot begins. -/
  | sysRstRelease (bootSel : BitVec 2) (shelf : BitVec 6)
  /-- R105. Boot stage 1 completes: core PLL locked, fuses read and wrap key derived. -/
  | bootStart (pufOk : Bool)
  /-- R114. Both image headers have been read, and the sequencer chooses a slot. -/
  | imageHeadersRead
  /-- R113. The chosen image has been read and hashed and its signature checked; an invalid slot makes the sequencer try the other. -/
  | imageVerified
  /-- R115. The image's sections are applied in order; an apply failure makes the sequencer try the other slot. -/
  | imageApply
  /-- R115. A REG_POLL record of the image times out, which is an apply failure. -/
  | regPollTimeout
  /-- R655. The boot SRAM march completes; failing banks are replaced by spares, or the march stage fails. -/
  | bootMarchDone (failed : List Nat)
  /-- R561. Discovery over the sideband buses reads the SPD, checks population and loads timings. -/
  | dimmDiscovery (reports : List (Option SpdReport))
  /-- R564. A PMIC reports power good, and the next PMIC of the bus is enabled after PMIC_STAGGER. -/
  | pmicPowerGood (chan : Nat) (q : Nat)
  /-- R564. A PMIC does not report power good within 10 ms, and discovery fails. -/
  | pmicGoodTimeout (chan : Nat) (q : Nat)
  /-- R565. 200 µs after the channel's last PMIC is good, CHn_RESET_N deasserts, the RCDs and DRAM are initialised and training starts. -/
  | channelResetRelease (chan : Nat)
  /-- R571. Boot training ends on all channels and the results of every point are saved. -/
  | trainingComplete
  /-- R106. Stage 8 prepares the last-gasp area and enables the ports, and the device becomes Ready. -/
  | bootReady
  /-- R117. Neither slot yields an applied image, or a stage fails without LIMITED_OK, and boot halts. -/
  | bootHalt
  /-- R121. A march, discovery or training failure with LIMITED_OK set puts the device in Limited. -/
  | limitedEntry
  /-- R122. CONTINUE is written in Limited, and boot resumes at the failed stage without the excluded channels. -/
  | bootContinue
  /-- R123. MGT_RESET_CTRL is written with the key, or a fatal event occurs under AUTO_WARM; new requests are answered Busy and drain starts. -/
  | warmReset (auto : Bool) (value : Word)
  /-- R124. Drain finishes or WARM_DRAIN passes; sessions are closed, stands enter self-refresh, blocks are reset and boot reruns from stage 2. -/
  | warmDrainEnd (timeout : Bool)
  /-- R126. The warm-reset sweep applies the dead-session handling to one descriptor that is not Uncached. -/
  | warmSweepDescriptor (errs : ReadErrs)
  /-- R127. The warm-reset descriptor sweep finishes and event 0x0206 is raised. -/
  | warmSweepDone
  /-- R128. A background 4 KiB sector erase of the last-gasp area completes. -/
  | lastGaspErase (ok : Bool)
  /-- R110. The flash window starts a 256-byte read of the boot store. -/
  | flashRead
  /-- R110. The flash window starts a 256-byte program, refused for the booted slot or the last-gasp area. -/
  | flashProgram
  /-- R110. The flash window starts a 4 KiB erase, refused for the booted slot or the last-gasp area. -/
  | flashErase
  /-- R110. A flash window operation completes and BUSY clears. -/
  | flashOpDone (ok : Bool)
  /-- R116. MGT_FUSE_PROG is written within the unlock window, raising the fused rollback level. -/
  | fuseProg (value : Word)
  /-- R134. A write to a register without behaviour of its own is applied, or refused under the access type and range rules. -/
  | registerWrite (addr : BitVec 24) (value : Word)
  /-- R640. PAGE_CTRL.ENABLE is written: clearing stops new work, and setting is refused unless the block's SRAM uses are complete. -/
  | pageEnable (addr : BitVec 24) (on : Bool)
  /-- R140. SOFT_RESET is written while ENABLE is 0, and the block's soft reset starts. -/
  | pageSoftReset (addr : BitVec 24) (enable : Bool)
  /-- R140. The block's soft reset completes within 10 µs. -/
  | softResetDone (addr : BitVec 24)
  /-- R142. PAGE_CTRL.LOCK is set, and the page's RWL registers refuse writes until a reset. -/
  | pageLock (addr : BitVec 24)
  /-- R153. A W1C write to EVT_STATUS clears event bits, re-arming them. -/
  | evtStatusClear (addr : BitVec 24) (value : Word)
  /-- R155. A write to EVT_FORCE raises the named events as forced occurrences. -/
  | evtForce (addr : BitVec 24) (value : Word)
  /-- R153. An event occurs; a 0-to-1 transition of its bit logs it, and otherwise RAS_EVT_REPEAT is counted. -/
  | eventRaise (code : BitVec 16) (inst : Nat) (detail : DWord) (second : Word)
  /-- R158. HOLDOFF after logging, entries are sent in an Event message to every matching subscriber, or skipped if its window is full. -/
  | eventDelivery (subscr : Nat)
  /-- R143. The parity scan visits a register and, on a parity error, sets PAGE_PARITY and raises event 0x0301. -/
  | parityScan (addr : BitVec 24) (flip : Word) (passEnd : Bool)
  /-- R147. A MgmtRead message is executed record by record and answered with a MgmtResp. -/
  | mgmtRead
  /-- R147. A MgmtWrite message is executed record by record and answered with a MgmtResp. -/
  | mgmtWrite (errs : List RecordErrs)
  /-- R150. MGT_MGR_LOCK is written to take or release the management lock. -/
  | mgrLock (client : BitVec 12) (value : Word)
  /-- R172. An OpCommand acts on a slot as the equivalent register writes and is answered with an OpStatus. -/
  | opCommand
  /-- R168. Start is written to an operation slot; code and arguments are checked and the slot becomes Queued or Failed. -/
  | opStart (op : Nat) (client : BitVec 12)
  /-- R167. Suspend is written to an operation slot. -/
  | opSuspend (op : Nat)
  /-- R167. Resume is written to a Suspended slot, and it becomes Queued. -/
  | opResume (op : Nat)
  /-- R167. Cancel is written to an operation slot. -/
  | opCancel (op : Nat)
  /-- R163. A Queued operation's engine has room and no conflict, and the operation becomes Running. -/
  | opAdmit (op : Nat)
  /-- R167. A Suspending operation reaches its suspend point and becomes Suspended. -/
  | opSuspendPoint (op : Nat)
  /-- R169. An operation finishes and its slot becomes Done, raising event 0x0209. -/
  | opFinished (op : Nat)
  /-- R169. An operation meets an error and its slot becomes Failed, raising event 0x020A. -/
  | opError (op : Nat)
  /-- R167. A Cancelling operation's clean-up completes and its slot becomes Cancelled. -/
  | opCleanupDone (op : Nat)
  /-- R182. A MAC's link-up condition has held for LINK_UP_HOLD; the link becomes up and gratuitous announcements and gateway resolution start. -/
  | linkUp (mac : Nat)
  /-- R182. The link-up condition has failed for LINK_HOLD; the link becomes down and sessions fail over. -/
  | linkDown (mac : Nat)
  /-- R200. The primary's link has been up for FAILBACK_HOLD with a destination, and the session returns to it. -/
  | failback (client : BitVec 12)
  /-- R181. A link is not up within 3 s of starting negotiation; negotiation restarts and AN_FAIL is counted. -/
  | anTimeout (mac : Nat)
  /-- R179. A 1 ms window ends with the uncorrected-codeword count above threshold, raising event 0x1005. -/
  | fecAlarm (mac corrected uncorrected symbols : Nat)
  /-- R183. A received frame passes the checks in order, is dropped and counted at the first that fails, or is accepted. -/
  | frameReceive (mac : Nat) (frame : EthFrame)
  /-- R190. 32,768 bit times pass with the class above XON, and the PFC frame is repeated. -/
  | pfcRepeat (mac cls : Nat)
  /-- R189. An 802.1Qbb frame pauses an enabled class of the MAC's egress. -/
  | pfcReceive (mac : Nat)
  /-- R189. A class's pause time runs out and the class reopens. -/
  | pfcPauseExpire (mac cls : Nat)
  /-- R192. An ARP request for the MAC's IPv4 address is answered with an ARP reply. -/
  | arpRequest (mac : Nat)
  /-- R192. A neighbour solicitation for one of the MAC's IPv6 addresses is answered with an advertisement. -/
  | neighborSolicitation (mac : Nat)
  /-- R195. An ICMP or ICMPv6 echo request is answered, or dropped above ECHO_RATE. -/
  | echoRequest (mac : Nat)
  /-- R193. A gateway resolution timer fires and a request is sent, with event 0x100E after three failures. -/
  | gatewayResolve (mac : Nat) (v6 : Bool)
  /-- R203. GO is written to PRTn_MS_SA_INSTALL, and the staged MACsec key is unwrapped into the named SA. -/
  | msSaInstall (port : Nat) (value : Word)
  /-- R206. A PTP Announce, Sync, Follow_Up or Delay_Resp is processed. -/
  | ptpMessage (mac : Nat)
  /-- R207. The Delay_Req interval expires and a Delay_Req is sent. -/
  | delayReqSend
  /-- R208. No Sync is accepted for PTP_TIMEOUT, and SYNCED is cleared. -/
  | ptpTimeout
  /-- R210. SET is written while SYNCED is 0, and the time base is set at the next 10 ns tick. -/
  | ptpSet (value : Word)
  /-- R211. The time base reaches a whole second and PTP_PPS_OUT rises for WIDTH ms. -/
  | ppsOutSecond
  /-- R212. A rising edge on PTP_PPS_IN is timestamped and, in IN_MODE 2, disciplines the time base. -/
  | ppsInEdge
  /-- R212. No PTP_PPS_IN edge arrives for 2 s in IN_MODE 2, raising event 0x100D. -/
  | ppsInMissing
  /-- R216. A frame matches the wake filter in Dormant; the wake vote is raised and KCT frames are held. -/
  | wakeFrameMatch (mac : Nat) (frame : EthFrame)
  /-- R266. KCT_KEY_INSTALL GO unwraps a session key into a context slot, or sets ERR. -/
  | keyInstall (value : Word)
  /-- R269. A Hello is verified, checked for duplicate and epoch replay, and either refused or opens a session with HelloAck. -/
  | hello (mac : Nat)
  /-- R271. The dead-session handling of the client ID's old session ends, and the waiting session opens with its HelloAck. -/
  | sessionOpenDeferred (client : BitVec 12)
  /-- R287. A sequenced segment is verified and taken as duplicate, out of window, no-session or accepted. -/
  | segmentReceive (mac : Nat)
  /-- R281. An Ack with a higher control count advances CUM_ACK and SACK and may trigger SACK retransmission. -/
  | ackReceive (mac : Nat)
  /-- R291. A Keepalive is received and, with AR, answered by an Ack. -/
  | keepaliveReceive (mac : Nat)
  /-- R292. A Nak makes the device retransmit the named segment unless recently retransmitted. -/
  | nakReceive (mac : Nat)
  /-- R302. A Close is received; delivered requests complete and the device sends its own Close. -/
  | closeReceive (mac : Nat)
  /-- R302. All segments of a closing session are acknowledged or DEAD_TIME passes, and the session ends. -/
  | sessionEnd (client : BitVec 12) (timeout : Bool)
  /-- R290. ACK_COUNT is reached or ACK_DELAY expires, and an Ack is sent. -/
  | ackSend (client : BitVec 12)
  /-- R292. A gap before a held segment has lasted NAK_DELAY, and a Nak is sent. -/
  | nakDelayExpire (client : BitVec 12)
  /-- R294. The retransmission timer expires; the oldest segment is resent and the timer doubled, or the session is dead. -/
  | retransmitTimeout (client : BitVec 12)
  /-- R295. DEAD_TIME passes without CUM_ACK advancing, and the session is dead. -/
  | deadTimeExpire (client : BitVec 12)
  /-- R297. A session is silent for KEEPALIVE and a Keepalive with AR is sent. -/
  | keepaliveTimer (client : BitVec 12)
  /-- R284. The transmit phase has not moved within KCT_REKEY_GRACE, and the session is closed with REASON 3. -/
  | rekeyGraceExpire (client : BitVec 12)
  /-- R298. An RTT passes without a decrease while segments waited, and R rises by AI. -/
  | rateIncrease (client : BitVec 12)
  /-- R304. KCT_SESS_CTRL CLOSE, or clearing a context's ENABLE, makes the device send Close with REASON 5. -/
  | sessCtrlClose (client : BitVec 12)
  /-- R282. KCT_SESS_CTRL SWITCH moves the session's transmit phase to the other keyed slot. -/
  | sessCtrlSwitch (client : BitVec 12)
  /-- R369. A ReadShared is translated and acted on by the home by directory state, with snoops, forwarding or data from memory. -/
  | readShared (client : BitVec 12) (msgId : BitVec 24) (crc : Nat)
  /-- R369. A ReadOwn invalidates other copies and grants E. -/
  | readOwn (client : BitVec 12) (msgId : BitVec 24) (crc : Nat)
  /-- R369. An Upgrade invalidates other sharers and grants E without data, or is answered Stale. -/
  | upgrade (client : BitVec 12) (msgId : BitVec 24) (crc : Nat)
  /-- R369. A ReadCurrent reads memory, snooping an owner to Shared first. -/
  | readCurrent (client : BitVec 12) (msgId : BitVec 24) (crc : Nat)
  /-- R369. A WriteThrough invalidates every copy and writes the masked bytes. -/
  | writeThrough (client : BitVec 12) (msgId : BitVec 24) (crc : Nat)
  /-- R369. A WriteBackDirty from the owner is written and the page becomes Uncached, or it is answered Stale. -/
  | writeBackDirty (client : BitVec 12) (msgId : BitVec 24) (crc : Nat)
  /-- R369. An EvictClean removes the client's pointer and is answered OK. -/
  | evictClean (client : BitVec 12) (msgId : BitVec 24) (crc : Nat)
  /-- R396. An Atomic recalls copies, brings the page to Canopy and applies the operation to the line. -/
  | atomic (client : BitVec 12) (msgId : BitVec 24) (crc : Nat)
  /-- R345. A ReadBulk is checked once and split into per-page sub-requests. -/
  | readBulk (client : BitVec 12) (msgId : BitVec 24) (crc : Nat)
  /-- R345. A WriteBulk is checked once and split into per-page sub-requests. -/
  | writeBulk (client : BitVec 12) (msgId : BitVec 24) (crc : Nat)
  /-- R262. Every page of a bulk request has succeeded or failed, and the Completion is composed. -/
  | bulkCompletion (client : BitVec 12) (msgId : BitVec 24) (crc : Bool)
  /-- R349. A Hint is checked, entered in the TIER queue or dropped, and answered OK at once. -/
  | hint (client : BitVec 12) (msgId : BitVec 24) (crc : Nat)
  /-- R350. TIER processes one queued Hint page under its lock. -/
  | hintPage (errs : ReadErrs)
  /-- R352. A descriptor fetch returns, is installed in the cache and locked, or is uncorrectable. -/
  | descriptorFetchDone (flight : Nat) (errs : ReadErrs)
  /-- R352. A way of a fully pinned set is unpinned, and a waiting agent takes it. -/
  | cacheWayUnpinned (flight : Nat)
  /-- R390. A tracker is released to the shared pool and given to the retry list head or the stage-5 waiter. -/
  | trackerFree (flight : Nat)
  /-- R391. A credit tag passes COH_CREDIT_HOLD unspent, and its tracker returns to the pool. -/
  | creditExpire (client : BitVec 12) (tag : BitVec 12)
  /-- R367. The active tracker on a page closes, and the next queued request for the page proceeds. -/
  | pageQueueAdvance (region page : Nat)
  /-- R376. A SnpResp is received and applied to its tracker and the directory. -/
  | snpResp (client : BitVec 12) (msgId : BitVec 24)
  /-- R380. A snoop is unanswered for COH_SNP_LIMIT, and the session is ended as dead. -/
  | snoopTimeout (flight : Nat) (client : BitVec 12)
  /-- R397. A queued holder sweep of a client ID begins. -/
  | holderSweepStart
  /-- R398. The holder sweep applies dead-session handling to one descriptor. -/
  | holderSweepPage (errs : ReadErrs)
  /-- R397. HELD reaches 0 or the wide phase ends, and the sweep ends with event 0x5002. -/
  | holderSweepEnd
  /-- R375. The share group Read command reports a client's membership. -/
  | sgRead
  /-- R375. The share group Add command adds a member, refused with NoSpace at 512. -/
  | sgAdd
  /-- R375. The share group Remove command removes a member without an open session or sweep. -/
  | sgRemove
  /-- R375. The share group Clear command empties a group with no open member session. -/
  | sgClear
  /-- R311. The region Read command copies an entry into PIPE_RGN_DATA. -/
  | regionRead
  /-- R312. The region Create command takes plots for the descriptor array and starts Initialising. -/
  | regionCreate (lost : Bool)
  /-- R313. The descriptor array is clear; the region becomes Ready with event 0x4001. -/
  | regionInitDone (region : Nat)
  /-- R314. The region Modify command changes permitted fields. -/
  | regionModify (lost : Bool)
  /-- R315. The region Disable command clears ENABLE and holds BUSY for translated requests. -/
  | regionDisable (lost : Bool)
  /-- R315. Every request translated before Disable has completed, and BUSY clears. -/
  | regionDisableDrained
  /-- R311. The region Enable command sets ENABLE. -/
  | regionEnable (lost : Bool)
  /-- R316. The region Destroy command sets Releasing and removes grants, and releases slots and plots. -/
  | regionDestroy (lost : Bool)
  /-- R316. Destroy's slot release completes; VALID is cleared and event 0x4002 raised. -/
  | regionReleased
  /-- R320. The grant Read command copies the grant for the key. -/
  | grantRead
  /-- R320. The grant Add command installs a grant along its chain. -/
  | grantAdd (lost : Bool)
  /-- R320. The grant Modify command replaces a grant's rights and range. -/
  | grantModify (lost : Bool)
  /-- R320. The grant Remove command clears a grant's VALID. -/
  | grantRemove (lost : Bool)
  /-- R355. The descriptor Read command returns a locked, consistent copy. -/
  | descRead (errs : ReadErrs)
  /-- R355. The descriptor SetPin command sets PINNED under the lock. -/
  | descSetPin (errs : ReadErrs)
  /-- R355. The descriptor ClearPin command clears PINNED under the lock. -/
  | descClearPin (errs : ReadErrs)
  /-- R353. FLUSH is written and every changed cache entry is written back. -/
  | dcFlush
  /-- R353. The descriptor cache flush completes and FLUSHING clears. -/
  | dcFlushDone
  /-- R327. A holder keeps a descriptor lock past PIPE_LOCK_TIMEOUT; the lock is released unwritten and the holder fails. -/
  | lockTimeout (flight : Nat)
  /-- R477. A compression lane finishes a page with inline verify, storing a stream, raw, Zero or Pattern. -/
  | compressDone (flight lane : Nat) (stream : List Byte) (fault crc : Bool)
  /-- R512. An encrypted unit is decrypted by its check lane and compared, retried once on mismatch. -/
  | xtsUnitCheck (flight engine : Nat) (ok again crc : Bool)
  /-- R532. A channel accepts every line of a write into its queue. -/
  | memoryWriteAccept (flight chan : Nat) (crc : Bool)
  /-- R13. The descriptor update ends and the write's Completion is sent. -/
  | writeCommit (flight : Nat) (crc : Bool)
  /-- R552. A channel returns a line with its status; uncorrectable lines are retried once. -/
  | memoryReadReturn (chan sub : Nat) (errs : ReadErrs) (crc : Bool)
  /-- R484. A demand lane finishes a page and checks the trailer, retrying a failed decode once. -/
  | decompressDone (flight lane : Nat) (fault again crc : Bool)
  /-- R17. A stage handshake times out; it is retried once, then the request is answered InternalFault. -/
  | handshakeTimeout (who : HsRef) (stage : Nat) (cleared : Bool)
  /-- R19. An island clock stops or leaves its window and a fatal event is logged. -/
  | clockMonitor (island : Nat)
  /-- R629. A duplicated state machine's copies disagree, raising Fatal event 0x0308. -/
  | dupStateMismatch (block : Nat)
  /-- R424. EPOCH_LEN passes and the epoch counter advances. -/
  | epochAdvance
  /-- R437. The scan visits a descriptor and tests it for demotion or age reset. -/
  | scanVisit (errs : List ReadErrs)
  /-- R432. A scan pass ends and is recorded, with event 0x6004 if too long. -/
  | scanPassEnd
  /-- R433. The mover records a move and sets the page to Transit. -/
  | moveStart (region page : Nat) (errs : List ReadErrs)
  /-- R433. The mover commits a move under the lock, or discards it, and releases source slots. -/
  | moveCommit (region page : Nat) (errs : ReadErrs)
  /-- R438. The mover compresses a Canopy page into Understory. -/
  | demoteUnderstory (region page lane : Nat) (stream : List Byte) (fault : Bool) (engine : Nat) (ok again : Bool) (errs : List ReadErrs)
  /-- R440. The open demotion batch closes at BATCH_FILL, BATCH_AGE or opportunity. -/
  | batchClose
  /-- R441. A closed batch is written to its target Floor stand and each extent committed. -/
  | batchWrite
  /-- R444. A queued promotion decompresses an extent into a new Canopy group. -/
  | promoteCanopy (region page lane : Nat) (fault again : Bool) (engine : Nat) (ok retry : Bool) (errs : List ReadErrs)
  /-- R445. PROMO_HOLD passes for a WillNeed entry, and the mover wakes the stand. -/
  | promoHoldExpire (stand : Nat)
  /-- R448. FLOOR_LINGER passes after a stand's last use, and TIER withdraws its vote. -/
  | floorLingerExpire (stand : Nat)
  /-- R434. MOVER_EN is cleared, brace or warm reset begins, and Transit pages are restored. -/
  | moverStop
  /-- R449. Thinning relocates a page of a sparse Awake plot. -/
  | thinningRun (region page : Nat) (errs : List ReadErrs)
  /-- R430. GO commits the staged policy table or refuses it. -/
  | tierPolCommit
  /-- R452. A stand's ROLE is written; same role clears DRAINING, another is accepted only on an empty stand. -/
  | tierStandCfgWrite (stand : Nat) (value : Word)
  /-- R415. A stretch's summary is rebuilt from its bitmaps after a failed reload. -/
  | stretchRebuildDone (stretch : Nat)
  /-- R446. A woken stand becomes Awake and waiting requests proceed in arrival order. -/
  | standWakeDone (stand : Nat)
  /-- R479. A write of 1 to CMP_CLANE_OOS returns a compression lane to service. -/
  | claneReturn (value : Word)
  /-- R779. A write of 1 to CMP_DLANE_OOS returns a demand lane to service. -/
  | dlaneReturn (value : Word)
  /-- R488. A CMP_CLS_DATA write stores four stage bytes and advances PTR. -/
  | classDataWrite (value : Word)
  /-- R489. The class Commit command validates and loads the staged class. -/
  | classCommit
  /-- R490. The class Unload command is checked and waits for lanes to leave the class. -/
  | classUnload
  /-- R490. No lane works with the class and it becomes Empty. -/
  | classUnloadDone
  /-- R496. The ClearStage command zeroes the stage bytes and PTR. -/
  | classClearStage
  /-- R498. BURN within the unlock window starts provisioning of the wrap key fuses. -/
  | dwkBurn (value : Word)
  /-- R498. Fuse provisioning completes, the DWK is derived and VALID set. -/
  | dwkProvisioned
  /-- R503. The key slot Load command unwraps and installs an XTS key pair. -/
  | keySlotLoad
  /-- R504. The key slot Zeroise command overwrites and verifies the slot. -/
  | keySlotZeroise
  /-- R503. The key slot Read command shows a slot's state and KCV. -/
  | keySlotRead
  /-- R514. A write of 1 to CRY_XTS_OOS or CRY_GCM_OOS returns an engine to service. -/
  | xtsEngineReturn (gcm : Bool) (value : Word)
  /-- R515. An encrypted segment is verified before the replay buffer, rebuilt on other engines on failure. -/
  | gcmSegmentVerify (fails : List Nat)
  /-- R519. The rekey re-encrypts one page under the new slot and advances MARK. -/
  | rekeyPage (op engine : Nat) (ok again : Bool) (errs : List ReadErrs)
  /-- R537. At a command clock, a subchannel issues the highest-ranked command whose timing is met. -/
  | dramCommandIssue (chan sub skip : Nat)
  /-- R536. A queue entry exceeds its class age limit and becomes aged. -/
  | entryAged (chan sub la : Nat)
  /-- R543. A rank's refresh falls due; it is postponed or issued at the limit. -/
  | refreshDue (chan rank : Nat)
  /-- R540. ROW_IDLE passes since a row's last column command and the row is closed. -/
  | rowIdleExpire (chan sub rank bankId : Nat)
  /-- R553. ALERT_N is sampled low; the channel stops commands to the DIMM and waits ALERT_WAIT. -/
  | parityAlert (chan q : Nat)
  /-- R553. ALERT_WAIT passes; the RCD is cleared, banks precharged and recent commands reissued. -/
  | alertWaitEnd (chan : Nat)
  /-- R566. DRC0_FP_CTRL.TARGET is written and the effective point is recomputed. -/
  | fpTargetWrite (value : Word)
  /-- R567. The effective point changes and every channel starts the change sequence. -/
  | fpChange
  /-- R567. All channels have relocked at the new point and exited self-refresh. -/
  | fpChangeDone
  /-- R577. A training phase ends, its sweeps choosing settings or failing. -/
  | trainingPhaseEnd (chan : Nat) (sweeps : List (List Bool)) (errs : List (Nat × ReadErrs))
  /-- R573. A training phase does not finish within PHASE_LIMIT and training fails. -/
  | phaseLimitExpire (chan : Nat)
  /-- R580. RECAL_PERIOD passes and a rank is recalibrated; `drift` is what its oscillator shows, in steps of 1/64 UI. -/
  | recalibrate (chan rank : Nat) (drift : Int)
  /-- R581. POLL passes; DIMM sensors and PMIC status are read and the refresh rate set. `temps`: the valid readings of the three
  sensors, in 0.25 °C. -/
  | sensorPoll (chan q : Nat) (temps : List Int) (pmicFault : Bool)
  /-- R584. No sensor of a DIMM is readable for 1 s; the DIMM is treated as hot. -/
  | sensorUnreadable (chan q : Nat)
  /-- R587. A Drowsy rank is idle for PD_IDLE and enters precharge power-down. -/
  | pdIdleExpire (chan rank : Nat)
  /-- R588. A stand's ranks drain writes and refreshes, precharge and issue SRE. -/
  | selfRefreshEntry (stand chan : Nat)
  /-- R589. A request arrives before every channel has issued SRE and the entry is abandoned stand-wide. -/
  | selfRefreshAbort (stand : Nat)
  /-- R588. CLK_STOP_DELAY passes after SRE and the DIMM's DCK is stopped. -/
  | clkStopDelayExpire (chan q : Nat)
  /-- R592. A stand's ranks restart DCK, issue SRX and resume after tXS. -/
  | selfRefreshExit (stand : Nat)
  /-- R593. A write to DRC0_DIMM_OFF switches off a slot position's DIMMs if empty. -/
  | dimmOff (value : Word)
  /-- R620. The scrubber reads a line, corrects and rewrites it, or retries an uncorrectable word. -/
  | scrubLine (stand chan : Nat) (errs reread : ReadErrs)
  /-- R617. A Retention stand's scrub progress falls to target and the scrubber raises its vote. -/
  | scrubTargetReached (stand : Nat)
  /-- R617. Progress leads the target by 2 × LAG_WAKE and the scrubber withdraws its vote. -/
  | scrubLeadReached (stand : Nat)
  /-- R623. A stand's scrub pass ends, raising event 0xA016. -/
  | scrubPassEnd (stand : Nat)
  /-- R623. A pass runs past its target end, raising event 0xA017 and clearing SCRUB. -/
  | scrubPassLate (stand : Nat)
  /-- R636. CLEAR_SEL empties the selected combining table entry. -/
  | cetClearSel (chan : Nat)
  /-- R636. CLEAR_ALL empties every combining table entry. -/
  | cetClearAll (chan : Nat)
  /-- R641. A write to SRM_BANK_OWNER changes a bank's owner, optionally clearing it. -/
  | bankOwnerWrite (bank : Nat) (value : Word)
  /-- R642. A bank's clearing completes and BUSY clears. -/
  | bankClearDone (bank : Nat)
  /-- R664. The SRAM window Read command reads an MGT-owned word. -/
  | winRead (first again : BitVec 80) (meet : Option SramMeet)
  /-- R649. The SRAM window Write command writes a word, reporting Retry if LOST. -/
  | winWrite (meet : Option SramMeet)
  /-- R650. The SRAM window Add command adds to a small-bank word. -/
  | winAdd (first again : BitVec 80) (meet : Option SramMeet)
  /-- R650. The SRAM window Swap command swaps a small-bank word. -/
  | winSwap (first again : BitVec 80) (meet : Option SramMeet)
  /-- R651. The SRAM window Set command ORs bits into a large-bank word. -/
  | winSet (first again : BitVec 80) (meet : Option SramMeet)
  /-- R651. The SRAM window Clear command clears bits of a large-bank word. -/
  | winClear (first again : BitVec 80) (meet : Option SramMeet)
  /-- R658. The background test saves, borrows, marches and restores one region. -/
  | bistRegionTest (hits : List (Nat × Option SramHit)) (corrected retried : Nat) (fails : Bool)
  /-- R661. A background test cycle exceeds 60 min, clearing SRAM_TEST. -/
  | bistCycleLate
  /-- R667. A regulation window ends; counts reset, held requests re-tested and staged changes applied. -/
  | regWindowBoundary
  /-- R677. GO commits the staged budget table after the admission check. -/
  | mregCommit
  /-- R679. MREG_EFFICIENCY or MREG_ADMIT_PCT is written and D and S are recomputed. -/
  | mregEfficiencyWrite (admission : Bool) (value : Word)
  /-- R687. A MAC can start a frame and sends the head of the highest candidate class. -/
  | frameTransmit (mac : Nat)
  /-- R691. The timing wheel reaches an entity's slot and it becomes eligible. -/
  | wheelSlot (entity : WheelEntity)
  /-- R685. Room appears in a session's egress queue and its held segment is enqueued. -/
  | egressQueueRoom (client : BitVec 12)
  /-- R694. A write to EGR_SESS_SHAPE resets the session shaper. -/
  | sessShapeWrite (value : Word)
  /-- R694. A write to EGR_CSHP resets a class shaper. -/
  | cshpWrite (mac cls : Nat) (value : Word)
  /-- R696. GO checks the admin gate list and fixes its switch time, or refuses it. -/
  | gclCommit (port : Nat) (value : Word)
  /-- R697. The time base reaches T and the admin list becomes operational. -/
  | gclSwitch (port : Nat)
  /-- R706. A yellow message waits YELLOW_AGE at a stage and is served as green. -/
  | yellowAgeExpire (client : BitVec 12) (msgId : BitVec 24)
  /-- R707. A write to ING_SESS_CFG resets the session's policer buckets. -/
  | ingSessCfgWrite (value : Word)
  /-- R712. The profile Read command copies a profile into the page 1 registers. -/
  | ingProfileRead
  /-- R708. The profile Write command installs a profile and resets its sessions' buckets. -/
  | ingProfileWrite (value : Word)
  /-- R725. PWR_REQ is written and the device moves toward the effective state, or the request is refused. -/
  | pwrReqWrite (value : Word)
  /-- R725. No request is delivered for IDLE_DROWSY and the auto depth becomes Drowsy. -/
  | idleDrowsyExpire
  /-- R725. No request is delivered for IDLE_DORMANT and the auto depth becomes Dormant. -/
  | idleDormantExpire
  /-- R726. The time base reaches PWR_ALARM while ALARM_EN is 1, a wake event. -/
  | alarm
  /-- R730. Dropping domains hold no vote but STATE and entry passes AP1 to save. -/
  | entryQuiesced
  /-- R730. The AP2 saves complete and the stands move to their target states. -/
  | entrySaved
  /-- R730. The AP3 DRAM step completes and clocks of dropping domains stop. -/
  | entryDramDone
  /-- R730. STATE votes of dropping domains are withdrawn and they power down. -/
  | pointOfNoReturn
  /-- R730. Every dropping domain is Off or in Retention and the state is entered. -/
  | entryDone
  /-- R736. AP1 or AP2 is not passed within PWR_ENTRY_LIMIT and the entry is abandoned. -/
  | entryLimitExpire
  /-- R739. A request for Off closes every session and starts the wait. -/
  | offRequest
  /-- R739. Sessions have ended or the limit passed, and OFF_REQ is written to the intake. -/
  | offSessionsEnded (timeout : Bool)
  /-- R740. An exit closes the next wave of domain switches, 10 µs after the last. -/
  | exitWave
  /-- R716. An Off domain becomes wanted and starts powering up. -/
  | domainPowerUp (domain : Nat)
  /-- R742. A domain reports Up; saved channel settings are restored and stalled accesses proceed. -/
  | domainUp (domain : Nat) (pufOk : Bool)
  /-- R744. A domain is not Up within 40 µs; it is retried once, then marked Failed. -/
  | domainWakeTimeout (domain : Nat)
  /-- R716. A domain's hysteresis passes without a vote and it powers down. -/
  | domainHysteresisExpire (domain : Nat)
  /-- R716. A domain's power-down completes, with its channel settings saved. -/
  | domainPowerDownDone (domain : Nat)
  /-- R720. A manager writes MGR votes in PWR_VOTE or PWR_STAND_VOTE. -/
  | pwrVoteWrite (toStand : Bool) (index : Nat) (value : Word)
  /-- R724. A block has no work for PWR_CLK_IDLE clocks and its clock is gated. -/
  | clockIdleGate (domain : Nat)
  /-- R765. The sensors are read every 100 µs and the active throttle record updated. -/
  | thermalSample (readings : List Int)
  /-- R765. A sensor differs from the median by over 10 °C for 10 ms and is marked invalid. -/
  | sensorInvalid (sensor : Nat)
  /-- R771. The core PLL relocks after a clock change and the core island resumes. -/
  | coreClockRelock
  /-- R751. MIGRATE_TIER moves one page of its range toward the named tier. -/
  | migrateTierPage (op : Nat) (errs : List ReadErrs)
  /-- R451. DRAIN_STAND relocates one page of its stand. -/
  | drainStandMove (op region page : Nat) (errs : List ReadErrs)
  /-- R450. THIN_STAND relocates one page within its stand. -/
  | thinStandMove (op region page : Nat) (errs : List ReadErrs)
  /-- R523. ERASE_REGION zeroises the key slot and clears descriptors one at a time. -/
  | eraseRegionStep (op : Nat) (errs : ReadErrs)
  /-- R752. RESIZE_REGION writes or releases descriptors of its region. -/
  | resizeRegionStep (op : Nat) (errs : ReadErrs)
  /-- R753. RETIRE marks covered slots in use and relocates a covering page, or retires an SRAM region. -/
  | retireStep (op region page : Nat) (errs : List ReadErrs)
  /-- R749. SCRUB_NOW scrubs one selected line. -/
  | scrubNowLine (op : Nat) (errs reread : ReadErrs)
  /-- R656. MARCH_SRAM completes its march of a bank, marking it Failed on failure. -/
  | marchSramDone (op : Nat) (fails : Bool)
  /-- R754. IMPORT_REGION opens an outbound peer session with a Hello. -/
  | importOpen (op : Nat)
  /-- R755. The peer's HelloAck opens the import session, or fails it. -/
  | helloAckReceive (mac : Nat)
  /-- R757. The source sends a page as EvacData in its chosen format within WINDOW. -/
  | evacSend (op lane dlane : Nat) (stream : List Byte) (fault dfault again : Bool) (errs : List ReadErrs)
  /-- R758. The target stores a received EvacData page and answers EvacAck. -/
  | evacData (lane dlane : Nat) (stream : List Byte) (fault dfault again : Bool) (engine : Nat) (ok retry crc : Bool) (errs : ReadErrs)
  /-- R759. The source acts on an EvacAck by its status. -/
  | evacAck
  /-- R755. The source's Close with REASON 0 arrives and the import ends Done. -/
  | importClose (op : Nat)
  /-- R75. At each 1 µs intake evaluation tick, and at each 100 µs FET_TEMP conversion, the intake die updates the breaker and I²t accumulators, the current-limit setpoint, the PG qualification count and the filter counts, and re-tests its thresholds. `seq`: SEQ_IN is asserted. -/
  | evaluationTick (pathA pathB : Reading) (tFet : Option (Int × Int)) (gateFull seq : Bool)
  /-- R23. A side of the intake link has sent no frame for 10 µs and sends a Keepalive frame. -/
  | intakeKeepaliveFrame (dir : LinkDir)
  /-- R687. The duration of the current operational gate-list entry ends, and the next entry's gate mask opens and closes classes on every MAC of the port. -/
  | gateListEntryEnd (port : Nat)
  /-- R211. WIDTH ms after a whole second, PTP_PPS_OUT returns low. -/
  | ppsOutFall
  /-- R743. TIER finishes reloading the allocator summary from its save area after a wake from Dormant, and requests waiting for new slots proceed. -/
  | summaryReloadDone (bad : List Nat)
  deriving DecidableEq, Repr

end Sys2Proof
end

