-- ==== Sys2Proof/Machine/EventMap.lean ====
section
/-! DEFINITION. The events of every chapter's event table with their severities (R152): 0 Info, 1 Warning, 2 Error,
3 Fatal for the events that a table marks FAULT_N yes. -/

namespace Sys2Proof.Machine

/-- Events of 03_intake.md. -/
def events03 : List (Nat × Nat) := [(0x0501, 0), (0x0502, 0), (0x0503, 0), (0x0504, 0), (0x0505, 0), (0x0506, 0), (0x0507, 0), (0x0508, 0), (0x0509, 3), (0x050A, 3), (0x050B, 3), (0x050C, 3), (0x050D, 0), (0x050E, 0), (0x050F, 3), (0x0510, 0), (0x0511, 0), (0x0512, 0), (0x0513, 3), (0x0514, 0), (0x0515, 3), (0x0516, 0), (0x0517, 0), (0x0518, 0)]

/-- Events of 04_startup.md. -/
def events04 : List (Nat × Nat) := [(0x0201, 0), (0x0202, 0), (0x0203, 3), (0x0204, 3), (0x0205, 0), (0x0206, 0), (0x0207, 0), (0x0208, 0), (0x020E, 3), (0x0519, 3), (0x051A, 3)]

/-- Events of 05_registers_ops.md. -/
def events05 : List (Nat × Nat) := [(0x0209, 0), (0x020A, 1), (0x020B, 1), (0x0301, 3), (0x0302, 1), (0x0303, 0)]

/-- Events of 06_ports.md. -/
def events06 : List (Nat × Nat) := [(0x1001, 0), (0x1002, 1), (0x1003, 0), (0x1004, 0), (0x1005, 1), (0x1006, 1), (0x1007, 2), (0x1008, 0), (0x1009, 1), (0x100A, 0), (0x100B, 1), (0x100C, 1), (0x100D, 1), (0x100E, 1)]

/-- Events of 08_transport_sessions.md. -/
def events08 : List (Nat × Nat) := [(0x2001, 0), (0x2002, 0), (0x2003, 1), (0x2004, 1), (0x2005, 1), (0x2006, 0), (0x2007, 1), (0x2008, 2), (0x2009, 1)]

/-- Events of 09_addressing.md. -/
def events09 : List (Nat × Nat) := [(0x4001, 0), (0x4002, 0), (0x4003, 2), (0x4004, 2), (0x4005, 1), (0x4006, 1), (0x4007, 2)]

/-- Events of 10_coherence.md. -/
def events10 : List (Nat × Nat) := [(0x5001, 1), (0x5002, 0), (0x5003, 1), (0x5004, 2), (0x5005, 1), (0x5006, 0), (0x5007, 1)]

/-- Events of 11_tiers.md. -/
def events11 : List (Nat × Nat) := [(0x6001, 1), (0x6002, 2), (0x6003, 0), (0x6004, 1), (0x6005, 1), (0x6006, 2), (0x6007, 0), (0x6008, 1), (0x6009, 1), (0x600A, 2)]

/-- Events of 12_compression.md. -/
def events12 : List (Nat × Nat) := [(0x7001, 2), (0x7002, 2), (0x7003, 2), (0x7004, 1), (0x7005, 1), (0x7006, 1), (0x7007, 1), (0x7008, 2), (0x7009, 2)]

/-- Events of 13_crypto.md. -/
def events13 : List (Nat × Nat) := [(0x8001, 1), (0x8002, 2), (0x8003, 2), (0x8004, 1), (0x8005, 0), (0x8006, 0), (0x8007, 2), (0x8008, 3), (0x8009, 0), (0x800A, 2)]

/-- Events of 14_dram_scheduling.md. -/
def events14 : List (Nat × Nat) := [(0xA001, 1), (0xA002, 3), (0xA003, 0), (0xA004, 1), (0xA005, 2), (0xA006, 1)]

/-- Events of 15_dram_bringup_stands.md. -/
def events15 : List (Nat × Nat) := [(0xA007, 0), (0xA008, 2), (0xA009, 0), (0xA00A, 0), (0xA00B, 0), (0xA00C, 1), (0xA00D, 1), (0xA00E, 3), (0xA00F, 0)]

/-- Events of 16_ecc_ras.md. -/
def events16 : List (Nat × Nat) := [(0x0304, 2), (0x0305, 2), (0x0306, 1), (0x0307, 3), (0x0308, 3), (0x0309, 1), (0x030A, 2), (0x030B, 1), (0xA010, 1), (0xA011, 1), (0xA012, 2), (0xA013, 1), (0xA014, 1), (0xA015, 2), (0xA016, 0), (0xA017, 1)]

/-- Events of 17_sram.md. -/
def events17 : List (Nat × Nat) := [(0xC001, 0), (0xC002, 1), (0xC003, 2), (0xC004, 0), (0xC005, 2), (0xC006, 1), (0xC007, 1)]

/-- Events of 18_regulation.md. -/
def events18 : List (Nat × Nat) := [(0x9001, 1), (0x9002, 1), (0x9003, 0), (0x9004, 1), (0x9005, 1)]

/-- Events of 19_egress_policing.md. -/
def events19 : List (Nat × Nat) := [(0x3001, 0), (0x3002, 1), (0x3003, 1), (0x3004, 1), (0x3005, 1), (0x3006, 1), (0x3201, 1)]

/-- Events of 20_power_states.md. -/
def events20 : List (Nat × Nat) := [(0x0401, 0), (0x0402, 0), (0x0403, 1), (0x0404, 0), (0x0405, 1), (0x0406, 3), (0x0407, 0)]

/-- Events of 21_fleet_operations.md. -/
def events21 : List (Nat × Nat) := [(0x020C, 0), (0x020D, 1)]

/-- Events of 22_electrical.md. -/
def events22 : List (Nat × Nat) := [(0x0101, 0), (0x0102, 2), (0x0103, 1)]

/-- Every event the manual defines, with its severity. -/
def eventTable : List (Nat × Nat) :=
  events03 ++ events04 ++ events05 ++ events06 ++ events08 ++ events09 ++ events10 ++ events11 ++ events12 ++ events13 ++ events14 ++ events15 ++ events16 ++ events17 ++ events18 ++ events19 ++ events20 ++ events21 ++ events22

end Sys2Proof.Machine
end

