-- ==== Sys2Proof/Config.lean ====
section
/-! DEFINITION. What an implementation or the world fixes and the manual does not give: constants without a body, so
that nothing can be proved of their values. A statement that mentions one holds for every value it could have. -/

namespace Sys2Proof.Config

/-- The `n`-th free value drawn: each open value of the manual that an instruction leaves behind is one of these,
reduced to the range that the manual gives it. -/
opaque freeValue : Nat → Nat

/-- One block of AES-256 encryption under a key (FIPS 197): a permutation of the 128-bit blocks. -/
opaque aes : BitVec 256 → Equiv.Perm (BitVec 128)

/-- SHA-384 of a byte string (FIPS 180-4). -/
opaque sha384 : List Byte → BitVec 384

/-- A key pair of ECDSA P-384: its public key, and a signature that its private key makes of each digest. -/
opaque ecdsaPair : BitVec 768 × (BitVec 384 → BitVec 768)

/-- What else verifies, besides those signatures of that pair. -/
opaque ecdsaOther : List Byte → BitVec 384 → List Byte → Bool

/-- The 96 bytes of a public key or a signature, first byte most significant. -/
def bytes96 (v : BitVec 768) : List Byte := (List.range 96).map fun i => BitVec.ofNat 8 (v.toNat >>> (8 * (95 - i)))

/-- ECDSA P-384 verification of a digest under a 96-byte public key with a 96-byte signature (FIPS 186-5): what a private
key has signed verifies under its public key. -/
def ecdsaVerify (pub : List Byte) (digest : BitVec 384) (sig : List Byte) : Bool :=
  (pub == bytes96 ecdsaPair.1 && sig == bytes96 (ecdsaPair.2 digest)) || ecdsaOther pub digest sig

/-- The hash of region ID and page index that assigns a message to pipeline A (false) or B (true) (R11). -/
opaque pipeHash : (region page : Nat) → Bool

/-- Bytes of a port's egress queue memory beyond the 9,600 that one session may be given at the least. -/
opaque queueMemoryMore : Nat

/-- Bytes of a port's egress queue memory (R685), which the manual does not give: at least the 9,600 that are the least
value of EGR_SESS_QMAX (DEDUCED). -/
def queueMemory : Nat := 9600 + queueMemoryMore

/-- Bytes of reassembly space of a session beyond the least. -/
opaque reassemblyMore : Nat

/-- Bytes of reassembly space of a session (R292), which the manual does not give: at the least four of the largest messages, one
for each channel (DESIGN CHOICE, log 106). -/
def reassembly : Nat := 4 * 65548 + reassemblyMore

/-- M of R497: the value derived on the die from its physically unclonable source. -/
opaque pufValue : BitVec 256

/-- The built-in training sequence table (R576), as records of 16 bytes. -/
opaque trainTable : List (List Byte)

/-- What the body of an image's gate list table (table ID 0x06) says, whose format the manual does not give: none for a body that
is refused, or for each port that it sets the base time in ns and the entries, mask and duration. -/
opaque gateLists : List Byte → Option (List (Nat × Nat × List (Nat × Nat)))

/-- The device's clock identity as a PTP ordinary clock, which the manual does not give (R206). -/
opaque clockIdentity : DWord

/-- The traffic class of the frames that a port sends of its own: ARP, neighbour discovery, echo and PTP (R186 names the class
of a frame as its PCP, and no rule gives these frames one). -/
opaque ownClass : Fin 8

end Sys2Proof.Config
end

