-- ==== Sys2Proof/Machine/Operands.lean ====
section
/-! DEFINITION. Operand forms: bit fields of words, byte strings in either order (R2 to R4), and the two CRCs of the
device. -/

namespace Sys2Proof.Machine

open Sys2Proof

/-- The field [hi:lo] of a number (R2). -/
def bits (w hi lo : Nat) : Nat := (w >>> lo) % 2 ^ (hi + 1 - lo)

/-- Bit `i` of a number. -/
def bit (w i : Nat) : Bool := Nat.testBit w i

/-- `w` with its field [hi:lo] replaced by `v`. -/
def putBits (w : Word) (hi lo v : Nat) : Word :=
  let m : Word := BitVec.ofNat 32 ((2 ^ (hi + 1 - lo) - 1) <<< lo)
  (w &&& ~~~ m) ||| (BitVec.ofNat 32 (v <<< lo) &&& m)

/-- One if true. -/
def bitNat (b : Bool) : Nat := if b then 1 else 0

/-- The `n` bytes of `v`, most significant first (R3). -/
def beBytes : (n v : Nat) → List Byte
  | 0, _ => []
  | n + 1, v => BitVec.ofNat 8 (v >>> (8 * n)) :: beBytes n v

/-- The number that bytes spell, most significant first (R3). -/
def beNat (l : List Byte) : Nat := l.foldl (fun acc b => acc * 256 + b.toNat) 0

/-- The `n` bytes of `v`, least significant first (R4). -/
def leBytes : (n v : Nat) → List Byte
  | 0, _ => []
  | n + 1, v => BitVec.ofNat 8 v :: leBytes n (v >>> 8)

/-- The number that bytes spell, least significant first (R4). -/
def leNat : List Byte → Nat
  | [] => 0
  | b :: r => b.toNat + 256 * leNat r

/-- `n` bytes of `l` from offset `o`, most significant first. -/
def beAt (l : List Byte) (o n : Nat) : Nat := beNat ((l.drop o).take n)

/-- The signed value of a field of `n` bits. -/
def signed (n v : Nat) : Int := if v < 2 ^ (n - 1) then v else (v : Int) - 2 ^ n

/-- The low `n` bits of an integer, as the register holds them. -/
def ofSigned (n : Nat) (v : Int) : Nat := (v % (2 ^ n : Nat)).toNat

/-- One bit through the CRC-8 of the intake link, polynomial x^8 + x^2 + x + 1 (02, Intake link). -/
def crc8Bit (c : BitVec 8) (b : Bool) : BitVec 8 :=
  let c' := c <<< 1
  if c.msb != b then c' ^^^ 0x07#8 else c'

/-- The CRC-8 of the `n` low bits of `v`, most significant bit first, from 0. -/
def crc8 : (n v : Nat) → BitVec 8
  | 0, _ => 0
  | n + 1, v => crc8Bit (crc8 n (v >>> 1)) (Nat.testBit v 0)

/-- One byte through CRC-32C (Castagnoli, reflected). -/
def crc32cByte (c : BitVec 32) (b : Byte) : BitVec 32 :=
  let step (x : BitVec 32) : BitVec 32 := if x.getLsbD 0 then (x >>> 1) ^^^ 0x82F63B78#32 else x >>> 1
  let c := c ^^^ (b.setWidth 32)
  step (step (step (step (step (step (step (step c)))))))

/-- CRC-32C of a byte string, from all ones and complemented. -/
def crc32c (l : List Byte) : BitVec 32 := ~~~ (l.foldl crc32cByte 0xFFFFFFFF#32)

/-- The least element's position: insert into a list sorted by `key`, after equal keys. -/
def insertBy {α : Type} (key : α → Nat) (x : α) : List α → List α
  | [] => [x]
  | y :: r => if key x < key y then x :: y :: r else y :: insertBy key x r

/-- Take the first element that satisfies `p` out of a list. -/
def takeFirst {α : Type} (p : α → Bool) : List α → Option (α × List α)
  | [] => none
  | x :: r =>
    if p x then some (x, r)
    else match takeFirst p r with
      | none => none
      | some (y, r') => some (y, x :: r')

/-- Replace the first element that satisfies `p` by `f` of it. -/
def updFirst {α : Type} (p : α → Bool) (f : α → α) : List α → List α
  | [] => []
  | x :: r => if p x then f x :: r else x :: updFirst p f r

end Sys2Proof.Machine
end

