-- ==== Sys2Proof/Machine/RegAddr.lean ====
section
/-! DEFINITION. The addresses of the registers by name, from the register maps of the spec (bases of R133).
A register of a replicated block takes the instance first (`n` for DRCn, `p` for PRTp and EGRp), then its indices. -/

namespace Sys2Proof.Machine.Reg

/-! 03_intake.md -/

abbrev INT_CTRL : Nat := 0x028040
abbrev INT_STATUS : Nat := 0x028044
abbrev INT_FAULT : Nat := 0x028048
abbrev INT_UNLOCK : Nat := 0x02804C
abbrev INT_CFG_COMMIT : Nat := 0x028050
abbrev INT_CFG_STATUS : Nat := 0x028054
abbrev INT_LINK_STATUS : Nat := 0x028058
abbrev INT_LINK_ERR : Nat := 0x02805C
abbrev INT_EVT_HIST_COUNT : Nat := 0x028060
abbrev INT_EVT_HIST (i : Nat) : Nat := 0x028080 + 0x4 * i
abbrev INT_FEED_CFG : Nat := 0x029040
abbrev INT_V_QUAL : Nat := 0x029044
abbrev INT_V_OV : Nat := 0x029048
abbrev INT_V_SW : Nat := 0x02904C
abbrev INT_V_WARN : Nat := 0x029050
abbrev INT_V_RST : Nat := 0x029054
abbrev INT_FEED_TIMES : Nat := 0x029058
abbrev INT_FEED_TIMES2 : Nat := 0x02905C
abbrev INT_FEED_STATUS : Nat := 0x029060
abbrev INT_SHUNT : Nat := 0x02A040
abbrev INT_VOUT_DIV : Nat := 0x02A044
abbrev INT_ILIM : Nat := 0x02A048
abbrev INT_PFET : Nat := 0x02A04C
abbrev INT_FTIMER : Nat := 0x02A050
abbrev INT_PG_CFG : Nat := 0x02A054
abbrev INT_FET_TEMP_CFG : Nat := 0x02A058
abbrev INT_I_NOM : Nat := 0x02A05C
abbrev INT_I2T_LIMIT : Nat := 0x02A060
abbrev INT_BRK_PT (k : Nat) : Nat := 0x02A080 + 0x4 * k
abbrev INT_BRK_ACC : Nat := 0x02A0C0
abbrev INT_I2T_ACC : Nat := 0x02A0C4
abbrev INT_RETRY_CFG : Nat := 0x02B040
abbrev INT_RETRY_MAX : Nat := 0x02B044
abbrev INT_RETRY_STATUS : Nat := 0x02B048
abbrev INT_SEQ_CFG : Nat := 0x02B04C
abbrev INT_PRESENCE : Nat := 0x02B050
abbrev INT_TLM_VA : Nat := 0x02C040
abbrev INT_TLM_VB : Nat := 0x02C044
abbrev INT_TLM_VOUT : Nat := 0x02C048
abbrev INT_TLM_I : Nat := 0x02C04C
abbrev INT_TLM_P : Nat := 0x02C050
abbrev INT_TLM_TFET : Nat := 0x02C054
abbrev INT_TLM_ENERGY_LO : Nat := 0x02C058
abbrev INT_TLM_ENERGY_HI : Nat := 0x02C05C
abbrev INT_TLM_PATH_DIFF : Nat := 0x02C060
abbrev INT_TLM_MAX (j : Nat) : Nat := 0x02C080 + 0x4 * j
abbrev INT_PROFILE_STATUS : Nat := 0x02C100
abbrev INT_PROFILE_PROG : Nat := 0x02C104
abbrev INT_PROFILE_DATA : Nat := 0x02C108
abbrev INT_PROFILE (w : Nat) : Nat := 0x02C180 + 0x4 * w

/-! 04_startup.md -/

abbrev MGT_BOOT_STATUS : Nat := 0x005040
abbrev MGT_BOOT_ERR : Nat := 0x005044
abbrev MGT_BOOT_IMG_VER : Nat := 0x005048
abbrev MGT_BOOT_CTRL : Nat := 0x00504C
abbrev MGT_BOOT_EXCLUDE : Nat := 0x005050
abbrev MGT_RESET_CAUSE : Nat := 0x005054
abbrev MGT_RESET_CTRL : Nat := 0x005058
abbrev MGT_RESET_CFG : Nat := 0x00505C
abbrev MGT_BOOT_TIME : Nat := 0x005060
abbrev MGT_LG_NEXT : Nat := 0x005064
abbrev MGT_LG_SEQ : Nat := 0x005068
abbrev MGT_SWEEP_STATUS : Nat := 0x00506C
abbrev MGT_FLASH_CTRL : Nat := 0x005070
abbrev MGT_FLASH_ADDR : Nat := 0x005074
abbrev MGT_FUSE_PROG : Nat := 0x005078
abbrev MGT_FLASH_DATA (i : Nat) : Nat := 0x005100 + 0x4 * i

/-! 05_registers_ops.md -/

abbrev GLB_ID : Nat := 0x000040
abbrev GLB_STRAP : Nat := 0x000044
abbrev GLB_CTRL : Nat := 0x000048
abbrev GLB_PARITY_SCAN : Nat := 0x00004C
abbrev MGT_MGR_LOCK : Nat := 0x004040
abbrev MGT_ACC_DENIED : Nat := 0x004044
abbrev MGT_BATCH_COUNT : Nat := 0x004048
abbrev MGT_BATCH_ERR : Nat := 0x00404C
abbrev MGT_OP_SUMMARY : Nat := 0x004050
abbrev RAS_LOG_WSEQ : Nat := 0x010040
abbrev RAS_LOG_SEL : Nat := 0x010044
abbrev RAS_EVT_REPEAT : Nat := 0x010048
abbrev RAS_FAULT_SUMMARY : Nat := 0x01004C
abbrev RAS_DELIVERY_CFG : Nat := 0x010050
abbrev RAS_LOG_DATA (j : Nat) : Nat := 0x010080 + 0x4 * j
abbrev RAS_SUB (i : Nat) : Nat := 0x0100C0 + 0x4 * i

/-! 06_ports.md -/

abbrev PRT_PORT_CTRL (pt : Nat) : Nat := 0x100040 + 0x10000 * pt
abbrev PRT_PORT_STATUS (pt : Nat) : Nat := 0x100044 + 0x10000 * pt
abbrev PRT_LINK_HOLD (pt : Nat) : Nat := 0x100048 + 0x10000 * pt
abbrev PRT_KCT_UDP_PORT (pt : Nat) : Nat := 0x10004C + 0x10000 * pt
abbrev PRT_RXBUF_LEVEL (pt : Nat) : Nat := 0x100050 + 0x10000 * pt
abbrev PRT_LANE_CFG (pt l : Nat) : Nat := 0x101040 + 0x10000 * pt + 0x20 * l
abbrev PRT_LANE_STATUS (pt l : Nat) : Nat := 0x101044 + 0x10000 * pt + 0x20 * l
abbrev PRT_LANE_TXEQ (pt l : Nat) : Nat := 0x101048 + 0x10000 * pt + 0x20 * l
abbrev PRT_LANE_SNR (pt l : Nat) : Nat := 0x10104C + 0x10000 * pt + 0x20 * l
abbrev PRT_LANE_PRBS (pt l : Nat) : Nat := 0x101050 + 0x10000 * pt + 0x20 * l
abbrev PRT_LANE_PRBS_ERR_LO (pt l : Nat) : Nat := 0x101054 + 0x10000 * pt + 0x20 * l
abbrev PRT_LANE_PRBS_ERR_HI (pt l : Nat) : Nat := 0x101058 + 0x10000 * pt + 0x20 * l
abbrev PRT_FEC_CORR_LO (pt m : Nat) : Nat := 0x102040 + 0x10000 * pt + 0x40 * m
abbrev PRT_FEC_CORR_HI (pt m : Nat) : Nat := 0x102044 + 0x10000 * pt + 0x40 * m
abbrev PRT_FEC_UNCORR_LO (pt m : Nat) : Nat := 0x102048 + 0x10000 * pt + 0x40 * m
abbrev PRT_FEC_UNCORR_HI (pt m : Nat) : Nat := 0x10204C + 0x10000 * pt + 0x40 * m
abbrev PRT_FEC_SYM_LO (pt m : Nat) : Nat := 0x102050 + 0x10000 * pt + 0x40 * m
abbrev PRT_FEC_SYM_HI (pt m : Nat) : Nat := 0x102054 + 0x10000 * pt + 0x40 * m
abbrev PRT_PCS_STATUS (pt m : Nat) : Nat := 0x102058 + 0x10000 * pt + 0x40 * m
abbrev PRT_FEC_ALARM (pt m : Nat) : Nat := 0x10205C + 0x10000 * pt + 0x40 * m
abbrev PRT_AN_CFG (pt m : Nat) : Nat := 0x103040 + 0x10000 * pt + 0x4 * m
abbrev PRT_AN_STATUS (pt m : Nat) : Nat := 0x103050 + 0x10000 * pt + 0x4 * m
abbrev PRT_AN_FAIL (pt m : Nat) : Nat := 0x103060 + 0x10000 * pt + 0x4 * m
abbrev PRT_MAC_ADDR_LO (pt m : Nat) : Nat := 0x104040 + 0x10000 * pt + 0x1000 * m
abbrev PRT_MAC_ADDR_HI (pt m : Nat) : Nat := 0x104044 + 0x10000 * pt + 0x1000 * m
abbrev PRT_MAC_CFG (pt m : Nat) : Nat := 0x104048 + 0x10000 * pt + 0x1000 * m
abbrev PRT_IPV4 (pt m : Nat) : Nat := 0x10404C + 0x10000 * pt + 0x1000 * m
abbrev PRT_IPV6_LL (pt m w : Nat) : Nat := 0x104050 + 0x10000 * pt + 0x1000 * m + 0x4 * w
abbrev PRT_IPV6_GL (pt m w : Nat) : Nat := 0x104060 + 0x10000 * pt + 0x1000 * m + 0x4 * w
abbrev PRT_GW_IPV4 (pt m : Nat) : Nat := 0x104070 + 0x10000 * pt + 0x1000 * m
abbrev PRT_GW_IPV6 (pt m w : Nat) : Nat := 0x104074 + 0x10000 * pt + 0x1000 * m + 0x4 * w
abbrev PRT_GW_STATUS (pt m : Nat) : Nat := 0x104084 + 0x10000 * pt + 0x1000 * m
abbrev PRT_GW_MAC4_LO (pt m : Nat) : Nat := 0x104088 + 0x10000 * pt + 0x1000 * m
abbrev PRT_GW_MAC4_HI (pt m : Nat) : Nat := 0x10408C + 0x10000 * pt + 0x1000 * m
abbrev PRT_GW_MAC6_LO (pt m : Nat) : Nat := 0x104090 + 0x10000 * pt + 0x1000 * m
abbrev PRT_GW_MAC6_HI (pt m : Nat) : Nat := 0x104094 + 0x10000 * pt + 0x1000 * m
abbrev PRT_NEIGH_CFG (pt m : Nat) : Nat := 0x104098 + 0x10000 * pt + 0x1000 * m
abbrev PRT_DSCP_MAP (pt m j : Nat) : Nat := 0x1040A0 + 0x10000 * pt + 0x1000 * m + 0x4 * j
abbrev PRT_TX_DSCP (pt m j : Nat) : Nat := 0x1040C0 + 0x10000 * pt + 0x1000 * m + 0x4 * j
abbrev PRT_PFC_CFG (pt m : Nat) : Nat := 0x1040C8 + 0x10000 * pt + 0x1000 * m
abbrev PRT_PFC_THRESH (pt m c : Nat) : Nat := 0x1040D0 + 0x10000 * pt + 0x1000 * m + 0x4 * c
abbrev PRT_MS_CTRL (pt m : Nat) : Nat := 0x109040 + 0x10000 * pt + 0x40 * m
abbrev PRT_MS_REPLAY (pt m : Nat) : Nat := 0x109044 + 0x10000 * pt + 0x40 * m
abbrev PRT_MS_TX_PN_LO (pt m : Nat) : Nat := 0x109048 + 0x10000 * pt + 0x40 * m
abbrev PRT_MS_TX_PN_HI (pt m : Nat) : Nat := 0x10904C + 0x10000 * pt + 0x40 * m
abbrev PRT_MS_PN_THRESH_LO (pt m : Nat) : Nat := 0x109050 + 0x10000 * pt + 0x40 * m
abbrev PRT_MS_PN_THRESH_HI (pt m : Nat) : Nat := 0x109054 + 0x10000 * pt + 0x40 * m
abbrev PRT_MS_STATUS (pt m : Nat) : Nat := 0x109058 + 0x10000 * pt + 0x40 * m
abbrev PRT_MS_ICV_FAIL (pt m : Nat) : Nat := 0x10905C + 0x10000 * pt + 0x40 * m
abbrev PRT_MS_REPLAY_DROP (pt m : Nat) : Nat := 0x109060 + 0x10000 * pt + 0x40 * m
abbrev PRT_MS_SA (pt m s : Nat) : Nat := 0x10A040 + 0x10000 * pt + 0x200 * m + 0x40 * s
abbrev PRT_MS_SA_INSTALL (pt : Nat) : Nat := 0x10A840 + 0x10000 * pt
abbrev PRT_PTP_CFG (pt : Nat) : Nat := 0x10B040 + 0x10000 * pt
abbrev PRT_PTP_STATUS (pt : Nat) : Nat := 0x10B044 + 0x10000 * pt
abbrev PRT_PTP_TIME_NS (pt : Nat) : Nat := 0x10B048 + 0x10000 * pt
abbrev PRT_PTP_TIME_SEC_LO (pt : Nat) : Nat := 0x10B04C + 0x10000 * pt
abbrev PRT_PTP_TIME_SEC_HI (pt : Nat) : Nat := 0x10B050 + 0x10000 * pt
abbrev PRT_PTP_SET_NS (pt : Nat) : Nat := 0x10B054 + 0x10000 * pt
abbrev PRT_PTP_SET_SEC_LO (pt : Nat) : Nat := 0x10B058 + 0x10000 * pt
abbrev PRT_PTP_SET_SEC_HI (pt : Nat) : Nat := 0x10B05C + 0x10000 * pt
abbrev PRT_PTP_CTRL (pt : Nat) : Nat := 0x10B060 + 0x10000 * pt
abbrev PRT_PTP_OFFSET (pt : Nat) : Nat := 0x10B064 + 0x10000 * pt
abbrev PRT_PTP_DELAY (pt : Nat) : Nat := 0x10B068 + 0x10000 * pt
abbrev PRT_PTP_ADJ (pt : Nat) : Nat := 0x10B06C + 0x10000 * pt
abbrev PRT_PTP_PARENT_LO (pt : Nat) : Nat := 0x10B070 + 0x10000 * pt
abbrev PRT_PTP_PARENT_HI (pt : Nat) : Nat := 0x10B074 + 0x10000 * pt
abbrev PRT_PTP_LOCK_NS (pt : Nat) : Nat := 0x10B078 + 0x10000 * pt
abbrev PRT_PTP_STEP_NS (pt : Nat) : Nat := 0x10B07C + 0x10000 * pt
abbrev PRT_PTP_TIMEOUT (pt : Nat) : Nat := 0x10B080 + 0x10000 * pt
abbrev PRT_PPS_CFG (pt : Nat) : Nat := 0x10B084 + 0x10000 * pt
abbrev PRT_PPS_IN_NS (pt : Nat) : Nat := 0x10B088 + 0x10000 * pt
abbrev PRT_PPS_IN_SEC_LO (pt : Nat) : Nat := 0x10B08C + 0x10000 * pt
abbrev PRT_PPS_IN_SEC_HI (pt : Nat) : Nat := 0x10B090 + 0x10000 * pt
abbrev PRT_TS_LAT (pt m : Nat) : Nat := 0x10B0A0 + 0x10000 * pt + 0x4 * m
abbrev PRT_FAILOVER (pt m : Nat) : Nat := 0x10C040 + 0x10000 * pt + 0x4 * m
abbrev PRT_FAILOVER_CFG (pt : Nat) : Nat := 0x10C050 + 0x10000 * pt
abbrev PRT_FAILOVER_SKIP (pt : Nat) : Nat := 0x10C054 + 0x10000 * pt
abbrev PRT_WAKE_CFG (pt : Nat) : Nat := 0x10C058 + 0x10000 * pt
abbrev PRT_WAKE_DROP (pt : Nat) : Nat := 0x10C05C + 0x10000 * pt
abbrev PRT_WAKE_PAT_VAL (pt p w : Nat) : Nat := 0x10C100 + 0x10000 * pt + 0x100 * p + 0x4 * w
abbrev PRT_WAKE_PAT_MASK (pt p w : Nat) : Nat := 0x10C180 + 0x10000 * pt + 0x100 * p + 0x4 * w
abbrev PRT_CNT (pt m c : Nat) : Nat := 0x10D040 + 0x10000 * pt + 0x100 * m + 0x8 * c

/-! 08_transport_sessions.md -/

abbrev KCT_CFG : Nat := 0x200040
abbrev KCT_RTO : Nat := 0x200044
abbrev KCT_DEAD : Nat := 0x200048
abbrev KCT_ACK_CFG : Nat := 0x20004C
abbrev KCT_KEEPALIVE : Nat := 0x200050
abbrev KCT_CC_CFG : Nat := 0x200054
abbrev KCT_CC_RATE : Nat := 0x200058
abbrev KCT_KEY_LIMIT : Nat := 0x20005C
abbrev KCT_REKEY_GRACE : Nat := 0x200060
abbrev KCT_SESS_OPEN : Nat := 0x200064
abbrev KCT_SESS_CTRL : Nat := 0x200068
abbrev KCT_RX_MALFORMED : Nat := 0x201040
abbrev KCT_RX_AUTHFAIL : Nat := 0x201044
abbrev KCT_RX_BADVER : Nat := 0x201048
abbrev KCT_RX_DUP : Nat := 0x20104C
abbrev KCT_RX_WINDOW : Nat := 0x201050
abbrev KCT_RX_NOSESSION : Nat := 0x201054
abbrev KCT_HELLO_REPLAY : Nat := 0x201058
abbrev KCT_TX_RETX : Nat := 0x20105C
abbrev KCT_RX_NAK : Nat := 0x201060
abbrev KCT_CC_DECREASE : Nat := 0x201064
abbrev KCT_KEY_STAGE (w : Nat) : Nat := 0x202040 + 0x4 * w
abbrev KCT_KEY_SALT : Nat := 0x202068
abbrev KCT_KEY_INSTALL : Nat := 0x20206C
abbrev KCT_CTX_SEL : Nat := 0x203040
abbrev KCT_CTX_CFG : Nat := 0x203044
abbrev KCT_CTX_STATE : Nat := 0x203048
abbrev KCT_CTX_USED : Nat := 0x20304C
abbrev KCT_CTX_RTO : Nat := 0x203050
abbrev KCT_CTX_RATE : Nat := 0x203054
abbrev KCT_CTX_RTT : Nat := 0x203058
abbrev KCT_CTX_TXSEQ : Nat := 0x20305C
abbrev KCT_CTX_RXCUM : Nat := 0x203060
abbrev KCT_CTX_OUTSTANDING : Nat := 0x203064

/-! 09_addressing.md -/

abbrev PIPE_DESC_STANDS : Nat := 0x400040
abbrev PIPE_LOCK_TIMEOUT : Nat := 0x400044
abbrev PIPE_INIT_RETRY : Nat := 0x400048
abbrev PIPE_REGIONS_VALID : Nat := 0x40004C
abbrev PIPE_RGN_SEL : Nat := 0x401040
abbrev PIPE_RGN_CMD : Nat := 0x401044
abbrev PIPE_RGN_STATUS : Nat := 0x401048
abbrev PIPE_RGN_DATA (j : Nat) : Nat := 0x401080 + 0x4 * j
abbrev PIPE_GNT_KEY : Nat := 0x402040
abbrev PIPE_GNT_CMD : Nat := 0x402044
abbrev PIPE_GNT_STATUS : Nat := 0x402048
abbrev PIPE_GNT_USED : Nat := 0x40204C
abbrev PIPE_GNT_MAXCHAIN : Nat := 0x402050
abbrev PIPE_GNT_DATA (j : Nat) : Nat := 0x402080 + 0x4 * j
abbrev PIPE_DSC_REGION : Nat := 0x403040
abbrev PIPE_DSC_PAGE_LO : Nat := 0x403044
abbrev PIPE_DSC_PAGE_HI : Nat := 0x403048
abbrev PIPE_DSC_CMD : Nat := 0x40304C
abbrev PIPE_DSC_STATUS : Nat := 0x403050
abbrev PIPE_DSC_DATA (j : Nat) : Nat := 0x403080 + 0x4 * j
abbrev PIPE_DC_CTRL : Nat := 0x404040
abbrev PIPE_DC_STATUS : Nat := 0x404044
abbrev PIPE_DC_PINNED : Nat := 0x404048
abbrev PIPE_DC_HIT_LO : Nat := 0x404050
abbrev PIPE_DC_HIT_HI : Nat := 0x404054
abbrev PIPE_DC_MISS_LO : Nat := 0x404058
abbrev PIPE_DC_MISS_HI : Nat := 0x40405C
abbrev PIPE_DC_WB_LO : Nat := 0x404060
abbrev PIPE_DC_WB_HI : Nat := 0x404064
abbrev PIPE_DC_ALLPINNED : Nat := 0x404068
abbrev PIPE_LOCK_WAIT_MAX : Nat := 0x40406C
abbrev PIPE_CNT (p k : Nat) : Nat := 0x405040 + 0x1000 * p + 0x8 * k

/-! 10_coherence.md -/

abbrev COH_CTRL : Nat := 0x500040
abbrev COH_CREDIT_HOLD : Nat := 0x500044
abbrev COH_SNP_LIMIT : Nat := 0x500048
abbrev COH_TRK_STATUS : Nat := 0x50004C
abbrev COH_RETRY_STATUS : Nat := 0x500050
abbrev COH_SG_SEL : Nat := 0x501040
abbrev COH_SG_CLIENT : Nat := 0x501044
abbrev COH_SG_CMD : Nat := 0x501048
abbrev COH_SG_STATUS : Nat := 0x50104C
abbrev COH_SWEEP_STATUS : Nat := 0x502040
abbrev COH_SWEEP_QUEUE : Nat := 0x502044
abbrev COH_SWEEP_LEFT : Nat := 0x502048
abbrev COH_CNT (k : Nat) : Nat := 0x503040 + 0x8 * k
abbrev KCT_FWD_SNP : Nat := 0x204040
abbrev KCT_FWD_DONE : Nat := 0x204044
abbrev KCT_FWD_FALLBACK : Nat := 0x204048
abbrev KCT_FWD_V2_HOME : Nat := 0x20404C
abbrev KCT_CTX_TRK : Nat := 0x205040
abbrev KCT_CTX_HELD : Nat := 0x205044
abbrev KCT_CTX_OWNED : Nat := 0x205048
abbrev KCT_CTX_SWEEP : Nat := 0x20504C

/-! 11_tiers.md -/

abbrev TIER_CTRL : Nat := 0x600040
abbrev TIER_EPOCH_CFG : Nat := 0x600044
abbrev TIER_EPOCH : Nat := 0x600048
abbrev TIER_BITMAP_CFG : Nat := 0x60004C
abbrev TIER_RESERVE : Nat := 0x600050
abbrev TIER_AWAKE_LOW : Nat := 0x600054
abbrev TIER_STATUS : Nat := 0x600058
abbrev TIER_CHANNELS : Nat := 0x60005C
abbrev TIER_RETIRED_LO : Nat := 0x600060
abbrev TIER_RETIRED_HI : Nat := 0x600064
abbrev TIER_STAND_CFG (k : Nat) : Nat := 0x601040 + 0x20 * k
abbrev TIER_STAND_STATUS (k : Nat) : Nat := 0x601044 + 0x20 * k
abbrev TIER_STAND_PLOTS (k : Nat) : Nat := 0x601048 + 0x20 * k
abbrev TIER_STAND_USED_LO (k : Nat) : Nat := 0x60104C + 0x20 * k
abbrev TIER_STAND_USED_HI (k : Nat) : Nat := 0x601050 + 0x20 * k
abbrev TIER_STAND_FREE_PLOTS (k : Nat) : Nat := 0x601054 + 0x20 * k
abbrev TIER_STAND_CANOPY (k : Nat) : Nat := 0x601058 + 0x20 * k
abbrev TIER_STAND_WAKES (k : Nat) : Nat := 0x60105C + 0x20 * k
abbrev TIER_STAND_RETIRED (k : Nat) : Nat := 0x601140 + 0x4 * k
abbrev TIER_POL (c w : Nat) : Nat := 0x602040 + 0x10 * c + 0x4 * w
abbrev TIER_POL_COMMIT : Nat := 0x602140
abbrev TIER_POL_STATUS : Nat := 0x602144
abbrev TIER_MOVER_CFG : Nat := 0x603040
abbrev TIER_FLOOR_LINGER : Nat := 0x603044
abbrev TIER_PROMO_HOLD : Nat := 0x603048
abbrev TIER_SCAN_STATUS : Nat := 0x60304C
abbrev TIER_SCAN_PASS : Nat := 0x603050
abbrev TIER_PROMO_LEVEL : Nat := 0x603054
abbrev TIER_BATCH_STATUS : Nat := 0x603058
abbrev TIER_THIN_CFG : Nat := 0x604040
abbrev TIER_THIN_STATUS : Nat := 0x604044
abbrev TIER_CNT (k : Nat) : Nat := 0x605040 + 0x8 * k

/-! 12_compression.md -/

abbrev CMP_CTRL : Nat := 0x700040
abbrev CMP_RAW_THRESHOLD : Nat := 0x700044
abbrev CMP_VERIFY_LIMIT : Nat := 0x700048
abbrev CMP_CLANE_OOS : Nat := 0x70004C
abbrev CMP_DLANE_OOS : Nat := 0x700050
abbrev CMP_LANE_BUSY : Nat := 0x700054
abbrev CMP_CLS_SEL : Nat := 0x701040
abbrev CMP_CLS_CMD : Nat := 0x701044
abbrev CMP_CLS_STATUS : Nat := 0x701048
abbrev CMP_CLS_STAGE : Nat := 0x70104C
abbrev CMP_CLS_PTR : Nat := 0x701050
abbrev CMP_CLS_DATA : Nat := 0x701054
abbrev CMP_CLASS_STATE (c : Nat) : Nat := 0x702040 + 0x10 * c
abbrev CMP_CLASS_CRC (c : Nat) : Nat := 0x702044 + 0x10 * c
abbrev CMP_CLASS_PAGES_LO (c : Nat) : Nat := 0x702048 + 0x10 * c
abbrev CMP_CLASS_PAGES_HI (c : Nat) : Nat := 0x70204C + 0x10 * c
abbrev CMP_CLASS_MEAN (c : Nat) : Nat := 0x703040 + 0x4 * c
abbrev CMP_CNT (k : Nat) : Nat := 0x704040 + 0x8 * k

/-! 13_crypto.md -/

abbrev CRY_CTRL : Nat := 0x800040
abbrev CRY_DWK_STATUS : Nat := 0x800044
abbrev CRY_DWK_CMD : Nat := 0x800048
abbrev CRY_DWK_PROV (w : Nat) : Nat := 0x800050 + 0x4 * w
abbrev CRY_XTS_OOS : Nat := 0x800070
abbrev CRY_GCM_OOS : Nat := 0x800074
abbrev CRY_CHECK_LIMIT : Nat := 0x800078
abbrev CRY_DROWSY_KEEP : Nat := 0x80007C
abbrev CRY_ENGINE_BUSY : Nat := 0x800080
abbrev CRY_KS_SEL : Nat := 0x801040
abbrev CRY_KS_CMD : Nat := 0x801044
abbrev CRY_KS_STATUS : Nat := 0x801048
abbrev CRY_KS_STATE : Nat := 0x80104C
abbrev CRY_KS_KCV : Nat := 0x801050
abbrev CRY_KS_LOADED : Nat := 0x801054
abbrev CRY_KS_STAGE (w : Nat) : Nat := 0x801080 + 0x4 * w
abbrev CRY_RK_REGION (r : Nat) : Nat := 0x802040 + 0x10 * r
abbrev CRY_RK_SLOTS (r : Nat) : Nat := 0x802044 + 0x10 * r
abbrev CRY_RK_MARK_LO (r : Nat) : Nat := 0x802048 + 0x10 * r
abbrev CRY_RK_MARK_HI (r : Nat) : Nat := 0x80204C + 0x10 * r
abbrev CRY_CNT (k : Nat) : Nat := 0x803040 + 0x8 * k

/-! 14_dram_scheduling.md -/

abbrev DRC_CTRL (n : Nat) : Nat := 0xA00040 + 0x10000 * n
abbrev DRC_STATE (n : Nat) : Nat := 0xA00044 + 0x10000 * n
abbrev DRC_POP (n q : Nat) : Nat := 0xA00048 + 0x10000 * n + 0x4 * q
abbrev DRC_POP_STATUS (n : Nat) : Nat := 0xA00050 + 0x10000 * n
abbrev DRC_GEOMETRY (n : Nat) : Nat := 0xA00054 + 0x10000 * n
abbrev DRC_T_ROW (n : Nat) : Nat := 0xA02040 + 0x10000 * n
abbrev DRC_T_CAS (n : Nat) : Nat := 0xA02044 + 0x10000 * n
abbrev DRC_T_RRD (n : Nat) : Nat := 0xA02048 + 0x10000 * n
abbrev DRC_T_WTR (n : Nat) : Nat := 0xA0204C + 0x10000 * n
abbrev DRC_T_REF (n : Nat) : Nat := 0xA02050 + 0x10000 * n
abbrev DRC_T_RFM (n : Nat) : Nat := 0xA02054 + 0x10000 * n
abbrev DRC_RAA (n : Nat) : Nat := 0xA02058 + 0x10000 * n
abbrev DRC_T_SPD (n k : Nat) : Nat := 0xA02080 + 0x10000 * n + 0x4 * k
abbrev DRC_AGE (n c : Nat) : Nat := 0xA0303C + 0x10000 * n + 0x4 * c
abbrev DRC_QCFG (n : Nat) : Nat := 0xA0304C + 0x10000 * n
abbrev DRC_ROW_IDLE (n : Nat) : Nat := 0xA03050 + 0x10000 * n
abbrev DRC_REF_CFG (n : Nat) : Nat := 0xA03054 + 0x10000 * n
abbrev DRC_NRR_CFG (n : Nat) : Nat := 0xA03058 + 0x10000 * n
abbrev DRC_ALERT_CFG (n : Nat) : Nat := 0xA0305C + 0x10000 * n
abbrev DRC_REF_OWED (n : Nat) : Nat := 0xA03060 + 0x10000 * n
abbrev DRC_QLEVEL (n : Nat) : Nat := 0xA03064 + 0x10000 * n
abbrev DRC_WDRAIN (n : Nat) : Nat := 0xA03068 + 0x10000 * n
abbrev DRC_CNT (n k : Nat) : Nat := 0xA04040 + 0x10000 * n + 0x8 * k

/-! 15_dram_bringup_stands.md -/

abbrev DRC_FP_CTRL (n : Nat) : Nat := 0xA01040 + 0x10000 * n
abbrev DRC_FP_STATUS (n : Nat) : Nat := 0xA01044 + 0x10000 * n
abbrev DRC_TRAIN_STATUS (n : Nat) : Nat := 0xA01048 + 0x10000 * n
abbrev DRC_TRAIN_CFG (n : Nat) : Nat := 0xA0104C + 0x10000 * n
abbrev DRC_TRAIN_SAVED (n p : Nat) : Nat := 0xA01050 + 0x10000 * n + 0x4 * p
abbrev DRC_RECAL_CFG (n : Nat) : Nat := 0xA0105C + 0x10000 * n
abbrev DRC_TEMP_CFG (n : Nat) : Nat := 0xA01060 + 0x10000 * n
abbrev DRC_DIMM_TEMP (n q : Nat) : Nat := 0xA01064 + 0x10000 * n + 0x4 * q
abbrev DRC_PMIC_STATUS (n q : Nat) : Nat := 0xA0106C + 0x10000 * n + 0x4 * q
abbrev DRC_SR_CFG (n : Nat) : Nat := 0xA01074 + 0x10000 * n
abbrev DRC_SR_CFG2 (n : Nat) : Nat := 0xA01078 + 0x10000 * n
abbrev DRC_RANK_STATE (n : Nat) : Nat := 0xA0107C + 0x10000 * n
abbrev DRC_SR_ABORTS (n : Nat) : Nat := 0xA01080 + 0x10000 * n
abbrev DRC_SR_ENTRIES (n : Nat) : Nat := 0xA01084 + 0x10000 * n
abbrev DRC_DIMM_OFF (n : Nat) : Nat := 0xA01088 + 0x10000 * n
abbrev DRC_DIMM_OFF_STATUS (n : Nat) : Nat := 0xA0108C + 0x10000 * n
abbrev DRC_DISC_STATUS (n : Nat) : Nat := 0xA01090 + 0x10000 * n

/-! 16_ecc_ras.md -/

abbrev RAS_PROMISE_STATUS : Nat := 0x011040
abbrev RAS_CLK_MON_STATUS : Nat := 0x011044
abbrev RAS_DUP_STATUS : Nat := 0x011048
abbrev RAS_CRC_FAIL : Nat := 0x01104C
abbrev RAS_HS_RETRY_OK : Nat := 0x011050
abbrev RAS_HS_FAIL : Nat := 0x011054
abbrev RAS_TAG_RETRY_OK : Nat := 0x011058
abbrev RAS_TAG_FAIL : Nat := 0x01105C
abbrev RAS_SCRUB_CFG : Nat := 0x012040
abbrev RAS_SCRUB_BURST : Nat := 0x012044
abbrev RAS_SCRUB_PROG (k : Nat) : Nat := 0x012048 + 0x10 * k
abbrev RAS_SCRUB_PASS (k : Nat) : Nat := 0x01204C + 0x10 * k
abbrev RAS_SCRUB_FOUND (k : Nat) : Nat := 0x012050 + 0x10 * k
abbrev RAS_SCRUB_STATUS : Nat := 0x0120D0
abbrev DRC_CE_RANK (n r : Nat) : Nat := 0xA00080 + 0x10000 * n + 0x4 * r
abbrev DRC_CE_BANK_SEL (n : Nat) : Nat := 0xA000A0 + 0x10000 * n
abbrev DRC_CE_BANK (n g : Nat) : Nat := 0xA000A4 + 0x10000 * n + 0x4 * g
abbrev DRC_CE_THRESH (n : Nat) : Nat := 0xA000C4 + 0x10000 * n
abbrev DRC_UE_COUNT (n : Nat) : Nat := 0xA000C8 + 0x10000 * n
abbrev DRC_UE_RETRY_OK (n : Nat) : Nat := 0xA000CC + 0x10000 * n
abbrev DRC_POISON_READS (n : Nat) : Nat := 0xA000D0 + 0x10000 * n
abbrev DRC_MERGE_REFUSED (n : Nat) : Nat := 0xA000D4 + 0x10000 * n
abbrev DRC_RETIRED_HITS (n : Nat) : Nat := 0xA000D8 + 0x10000 * n
abbrev DRC_SCRUB_STATUS (n : Nat) : Nat := 0xA000DC + 0x10000 * n
abbrev DRC_CET_SEL (n : Nat) : Nat := 0xA04100 + 0x10000 * n
abbrev DRC_CET_STATE (n : Nat) : Nat := 0xA04104 + 0x10000 * n
abbrev DRC_CET_SLOT (n : Nat) : Nat := 0xA04108 + 0x10000 * n
abbrev DRC_CET_BITS (n : Nat) : Nat := 0xA0410C + 0x10000 * n
abbrev DRC_CET_TIME (n : Nat) : Nat := 0xA04110 + 0x10000 * n
abbrev DRC_CET_CTRL (n : Nat) : Nat := 0xA04114 + 0x10000 * n
abbrev DRC_CET_OVERFLOW (n : Nat) : Nat := 0xA04118 + 0x10000 * n

/-! 17_sram.md -/

abbrev SRM_CTRL : Nat := 0xC00040
abbrev SRM_BIST_CYCLE : Nat := 0xC00044
abbrev SRM_BIST_STATUS : Nat := 0xC00048
abbrev SRM_BIST_LAST : Nat := 0xC0004C
abbrev SRM_RET_MASK : Nat := 0xC00050
abbrev SRM_RET_EFFECTIVE : Nat := 0xC00054
abbrev SRM_GROUP_STATE : Nat := 0xC00058
abbrev SRM_REMAP_USED : Nat := 0xC0005C
abbrev SRM_BANK_OWNER (b : Nat) : Nat := 0xC01040 + 0x4 * b
abbrev SRM_BANK_STATUS (b : Nat) : Nat := 0xC02040 + 0x4 * b
abbrev SRM_WIN_BANK : Nat := 0xC03040
abbrev SRM_WIN_ADDR : Nat := 0xC03044
abbrev SRM_WIN_DATA_LO : Nat := 0xC03048
abbrev SRM_WIN_DATA_HI : Nat := 0xC0304C
abbrev SRM_WIN_CMD : Nat := 0xC03050
abbrev SRM_WIN_STATUS : Nat := 0xC03054
abbrev SRM_REMAP_SRC (e : Nat) : Nat := 0xC04040 + 0x8 * e
abbrev SRM_REMAP_DST (e : Nat) : Nat := 0xC04044 + 0x8 * e
abbrev SRM_CNT (k : Nat) : Nat := 0xC05040 + 0x8 * k

/-! 18_regulation.md -/

abbrev MREG_CTRL : Nat := 0x900040
abbrev MREG_EFFICIENCY : Nat := 0x900044
abbrev MREG_ADMIT_PCT : Nat := 0x900048
abbrev MREG_DELIVERABLE : Nat := 0x90004C
abbrev MREG_D_FULL : Nat := 0x900050
abbrev MREG_D_ADMIT : Nat := 0x900054
abbrev MREG_SCALE : Nat := 0x900058
abbrev MREG_CHANNELS : Nat := 0x90005C
abbrev MREG_RT_OVERRUN : Nat := 0x900060
abbrev MREG_WINDOW : Nat := 0x901040
abbrev MREG_CHAN_FACTOR : Nat := 0x901044
abbrev MREG_BUDGET (m : Nat) : Nat := 0x901080 + 0x4 * m
abbrev MREG_COMMIT : Nat := 0x9010C0
abbrev MREG_COMMIT_STATUS : Nat := 0x9010C4
abbrev MREG_LIMIT_XBAR (m : Nat) : Nat := 0x902040 + 0x10 * m
abbrev MREG_LIMIT_CHAN (m : Nat) : Nat := 0x902044 + 0x10 * m
abbrev MREG_COUNT (m : Nat) : Nat := 0x902048 + 0x10 * m
abbrev MREG_STATE (m : Nat) : Nat := 0x90204C + 0x10 * m
abbrev MREG_BYTES_LO (m : Nat) : Nat := 0x903040 + 0x20 * m
abbrev MREG_BYTES_HI (m : Nat) : Nat := 0x903044 + 0x20 * m
abbrev MREG_DEMOTED_WIN_LO (m : Nat) : Nat := 0x903048 + 0x20 * m
abbrev MREG_DEMOTED_WIN_HI (m : Nat) : Nat := 0x90304C + 0x20 * m
abbrev MREG_HELD_LO (m : Nat) : Nat := 0x903050 + 0x20 * m
abbrev MREG_HELD_HI (m : Nat) : Nat := 0x903054 + 0x20 * m
abbrev MREG_HOLD_MAX (m : Nat) : Nat := 0x903058 + 0x20 * m

/-! 19_egress_policing.md -/

abbrev EGR_CTRL (pt : Nat) : Nat := 0x300040 + 0x10000 * pt
abbrev EGR_SESS_QMAX (pt : Nat) : Nat := 0x300044 + 0x10000 * pt
abbrev EGR_QMEM_LEVEL (pt : Nat) : Nat := 0x300048 + 0x10000 * pt
abbrev EGR_WHEEL_STATUS (pt : Nat) : Nat := 0x30004C + 0x10000 * pt
abbrev EGR_PARKED (pt : Nat) : Nat := 0x300050 + 0x10000 * pt
abbrev EGR_HOLDS (pt : Nat) : Nat := 0x300054 + 0x10000 * pt
abbrev EGR_SESS_SEL (pt : Nat) : Nat := 0x301040 + 0x10000 * pt
abbrev EGR_SESS_CLASS (pt : Nat) : Nat := 0x301044 + 0x10000 * pt
abbrev EGR_SESS_SHAPE (pt : Nat) : Nat := 0x301048 + 0x10000 * pt
abbrev EGR_SESS_STATE (pt : Nat) : Nat := 0x30104C + 0x10000 * pt
abbrev EGR_SESS_NEXT (pt : Nat) : Nat := 0x301050 + 0x10000 * pt
abbrev EGR_CSHP (pt m c : Nat) : Nat := 0x302040 + 0x10000 * pt + 0x20 * m + 0x4 * c
abbrev EGR_CSHP_TOKENS (pt m c : Nat) : Nat := 0x3020C0 + 0x10000 * pt + 0x20 * m + 0x4 * c
abbrev EGR_GCL_ADMIN_BASE_NS (pt : Nat) : Nat := 0x303040 + 0x10000 * pt
abbrev EGR_GCL_ADMIN_BASE_SEC_LO (pt : Nat) : Nat := 0x303044 + 0x10000 * pt
abbrev EGR_GCL_ADMIN_BASE_SEC_HI (pt : Nat) : Nat := 0x303048 + 0x10000 * pt
abbrev EGR_GCL_ADMIN_COUNT (pt : Nat) : Nat := 0x30304C + 0x10000 * pt
abbrev EGR_GCL_COMMIT (pt : Nat) : Nat := 0x303050 + 0x10000 * pt
abbrev EGR_GCL_STATUS (pt : Nat) : Nat := 0x303054 + 0x10000 * pt
abbrev EGR_GCL_SWITCH_NS (pt : Nat) : Nat := 0x303058 + 0x10000 * pt
abbrev EGR_GCL_SWITCH_SEC_LO (pt : Nat) : Nat := 0x30305C + 0x10000 * pt
abbrev EGR_GCL_SWITCH_SEC_HI (pt : Nat) : Nat := 0x303060 + 0x10000 * pt
abbrev EGR_GCL_OPER_CYCLE (pt : Nat) : Nat := 0x303064 + 0x10000 * pt
abbrev EGR_GCL_OPER_ENTRY (pt : Nat) : Nat := 0x303068 + 0x10000 * pt
abbrev EGR_SWITCH_LEAD (pt : Nat) : Nat := 0x30306C + 0x10000 * pt
abbrev EGR_GCL_OPER_BASE_NS (pt : Nat) : Nat := 0x303070 + 0x10000 * pt
abbrev EGR_GCL_OPER_BASE_SEC_LO (pt : Nat) : Nat := 0x303074 + 0x10000 * pt
abbrev EGR_GCL_OPER_BASE_SEC_HI (pt : Nat) : Nat := 0x303078 + 0x10000 * pt
abbrev EGR_GCL_ADMIN_MASK (pt i : Nat) : Nat := 0x304040 + 0x10000 * pt + 0x8 * i
abbrev EGR_GCL_ADMIN_DUR (pt i : Nat) : Nat := 0x304044 + 0x10000 * pt + 0x8 * i
abbrev EGR_GCL_OPER_MASK (pt i : Nat) : Nat := 0x305040 + 0x10000 * pt + 0x8 * i
abbrev EGR_GCL_OPER_DUR (pt i : Nat) : Nat := 0x305044 + 0x10000 * pt + 0x8 * i
abbrev EGR_TX_BYTES_LO (pt m c : Nat) : Nat := 0x306040 + 0x10000 * pt + 0x40 * m + 0x8 * c
abbrev EGR_TX_BYTES_HI (pt m c : Nat) : Nat := 0x306044 + 0x10000 * pt + 0x40 * m + 0x8 * c
abbrev EGR_GUARD_WAITS (pt m c : Nat) : Nat := 0x307040 + 0x10000 * pt + 0x20 * m + 0x4 * c
abbrev EGR_OVERRUNS (pt m : Nat) : Nat := 0x3070C0 + 0x10000 * pt + 0x4 * m
abbrev EGR_PFC_PAUSED (pt m : Nat) : Nat := 0x3070D0 + 0x10000 * pt + 0x4 * m
abbrev ING_CTRL : Nat := 0x320040
abbrev ING_RED_MIN : Nat := 0x320044
abbrev ING_YELLOW_AGE : Nat := 0x320048
abbrev ING_PROF_SEL : Nat := 0x321040
abbrev ING_PROF_CIR : Nat := 0x321044
abbrev ING_PROF_CBS : Nat := 0x321048
abbrev ING_PROF_PIR : Nat := 0x32104C
abbrev ING_PROF_PBS : Nat := 0x321050
abbrev ING_PROF_CMD : Nat := 0x321054
abbrev ING_PROF_STATUS : Nat := 0x321058
abbrev ING_SESS_SEL : Nat := 0x322040
abbrev ING_SESS_CFG : Nat := 0x322044
abbrev ING_SESS_TC : Nat := 0x322048
abbrev ING_SESS_TP : Nat := 0x32204C
abbrev ING_SESS_RED : Nat := 0x322050
abbrev ING_CNT (k : Nat) : Nat := 0x323040 + 0x8 * k

/-! 20_power_states.md -/

abbrev PWR_REQ : Nat := 0x020040
abbrev PWR_STATE : Nat := 0x020044
abbrev PWR_RESULT : Nat := 0x020048
abbrev PWR_AUTO : Nat := 0x02004C
abbrev PWR_IDLE_DROWSY : Nat := 0x020050
abbrev PWR_IDLE_DORMANT : Nat := 0x020054
abbrev PWR_WAKE_CFG : Nat := 0x020058
abbrev PWR_ALARM_SEC_LO : Nat := 0x02005C
abbrev PWR_ALARM_SEC_HI : Nat := 0x020060
abbrev PWR_ENTRY_LIMIT : Nat := 0x020064
abbrev PWR_WAKE_SRC : Nat := 0x020068
abbrev PWR_EXIT_TIME : Nat := 0x02006C
abbrev PWR_CLK_IDLE : Nat := 0x020070
abbrev PWR_VOTE (d : Nat) : Nat := 0x021040 + 0x4 * d
abbrev PWR_DOM_STATE (d : Nat) : Nat := 0x021100 + 0x4 * d
abbrev PWR_HYST (d : Nat) : Nat := 0x022040 + 0x4 * d
abbrev PWR_STAND_VOTE (k : Nat) : Nat := 0x023040 + 0x4 * k
abbrev PWR_CNT (j : Nat) : Nat := 0x023080 + 0x8 * j

/-! 21_fleet_operations.md -/

abbrev MGT_PEER_CFG (p : Nat) : Nat := 0x007040 + 0x20 * p
abbrev MGT_PEER_IP (p w : Nat) : Nat := 0x007044 + 0x20 * p + 0x4 * w
abbrev MGT_PEER_PORT (p : Nat) : Nat := 0x007054 + 0x20 * p
abbrev MGT_PEER_STATUS (p : Nat) : Nat := 0x007058 + 0x20 * p

/-! 22_electrical.md -/

abbrev GLB_TEMP : Nat := 0x001040
abbrev GLB_THROTTLE_STATUS : Nat := 0x001044
abbrev GLB_TEMP_SENSOR (i : Nat) : Nat := 0x001048 + 0x4 * i
abbrev GLB_TEMP_MAX : Nat := 0x001070

end Sys2Proof.Machine.Reg
end

