-- ==== Sys2Proof/Machine/RegMap.lean ====
section
/-! DEFINITION. The register maps of every chapter (03 R99 to 22 R772) as data: base address, array strides,
access type of R134, reset value, the bits a write reaches, and the field ranges that R778 refuses by. -/

namespace Sys2Proof.Machine

/-- The access types of R134. -/
inductive Access where
  | rw | ro | w1c | w1s | rc | wo | rwl
  deriving DecidableEq, Repr

/-- A field range of a register map (R778): bits `hi` down to `lo` hold `min` to `max`, a multiple of `mul`. -/
structure FieldRange where
  hi : Nat
  lo : Nat
  min : Nat
  max : Nat
  mul : Nat := 1
  deriving DecidableEq, Repr

/-- One row of a register map: the address is `base` plus, for each `(stride, count)` of `dims`, an index below
`count` times `stride`, largest stride first. -/
structure RegDef where
  base : Nat
  dims : List (Nat × Nat)
  access : Access
  reset : Nat
  mask : Nat
  ranges : List FieldRange
  deriving DecidableEq, Repr

/-- Rows of 03_intake.md: INT_CTRL to INT_PG_CFG. -/
def intakeRows0 : List RegDef := [
  ⟨0x028040, [], .rwl, 0x30, 0xB0, []⟩  /- INT_CTRL -/,
  ⟨0x028044, [], .ro, 0x0, 0xFFFFFFFF, []⟩  /- INT_STATUS -/,
  ⟨0x028048, [], .w1c, 0x0, 0xFFFFFFFF, []⟩  /- INT_FAULT -/,
  ⟨0x02804C, [], .wo, 0x0, 0xFFFFFFFF, []⟩  /- INT_UNLOCK -/,
  ⟨0x028050, [], .w1s, 0x0, 0x1, []⟩  /- INT_CFG_COMMIT -/,
  ⟨0x028054, [], .ro, 0x0, 0xC0007FFF, []⟩  /- INT_CFG_STATUS -/,
  ⟨0x028058, [], .ro, 0x0, 0x3, []⟩  /- INT_LINK_STATUS -/,
  ⟨0x02805C, [], .rc, 0x0, 0xFFFFFFFF, []⟩  /- INT_LINK_ERR -/,
  ⟨0x028060, [], .ro, 0x0, 0x1F, []⟩  /- INT_EVT_HIST_COUNT -/,
  ⟨0x028080, [(4, 16)], .ro, 0x0, 0xFFFFFFFF, []⟩  /- INT_EVT_HIST -/,
  ⟨0x029040, [], .rwl, 0xA0064, 0xFFFFFFFF, []⟩  /- INT_FEED_CFG -/,
  ⟨0x029044, [], .rwl, 0x17C, 0x3FF, []⟩  /- INT_V_QUAL -/,
  ⟨0x029048, [], .rwl, 0x294, 0x3FF, []⟩  /- INT_V_OV -/,
  ⟨0x02904C, [], .rwl, 0x168, 0x3FF, []⟩  /- INT_V_SW -/,
  ⟨0x029050, [], .rwl, 0xA0154, 0x3FF03FF, []⟩  /- INT_V_WARN -/,
  ⟨0x029054, [], .rwl, 0x12C, 0x3FF, []⟩  /- INT_V_RST -/,
  ⟨0x029058, [], .rwl, 0x3200A, 0x3FF0FF, []⟩  /- INT_FEED_TIMES -/,
  ⟨0x02905C, [], .rwl, 0xA, 0x3FF, []⟩  /- INT_FEED_TIMES2 -/,
  ⟨0x029060, [], .ro, 0x0, 0x30003, []⟩  /- INT_FEED_STATUS -/,
  ⟨0x02A040, [], .rwl, 0x3E8, 0xFFFFFFFF, []⟩  /- INT_SHUNT -/,
  ⟨0x02A044, [], .rwl, 0x4E20, 0xFFFFFFFF, []⟩  /- INT_VOUT_DIV -/,
  ⟨0x02A048, [], .rwl, 0x1C2012C, 0xFFFFFFFF, []⟩  /- INT_ILIM -/,
  ⟨0x02A04C, [], .rwl, 0x1400C8, 0xFFFFFFFF, []⟩  /- INT_PFET -/,
  ⟨0x02A050, [], .rwl, 0xC8, 0xFFFFFFFF, []⟩  /- INT_FTIMER -/,
  ⟨0x02A054, [], .rwl, 0xA000A, 0xFFFFFFFF, []⟩  /- INT_PG_CFG -/]

/-- Rows of 03_intake.md: INT_FET_TEMP_CFG to INT_PROFILE. -/
def intakeRows1 : List RegDef := [
  ⟨0x02A058, [], .rwl, 0x46007D, 0xFFFFFFFF, []⟩  /- INT_FET_TEMP_CFG -/,
  ⟨0x02A05C, [], .rwl, 0xC8, 0xFFFFFFFF, []⟩  /- INT_I_NOM -/,
  ⟨0x02A060, [], .rwl, 0x7D0, 0xFFFFFFFF, []⟩  /- INT_I2T_LIMIT -/,
  ⟨0x02A080, [(4, 16)], .rwl, 0x0, 0xFFFFFFFF, []⟩  /- INT_BRK_PT -/,
  ⟨0x02A0C0, [], .ro, 0x0, 0xFFFFFFFF, []⟩  /- INT_BRK_ACC -/,
  ⟨0x02A0C4, [], .ro, 0x0, 0xFFFFFFFF, []⟩  /- INT_I2T_ACC -/,
  ⟨0x02B040, [], .rwl, 0x30321194, 0x03FFFFFF, []⟩  /- INT_RETRY_CFG -/,
  ⟨0x02B044, [], .rwl, 0x3, 0xF, []⟩  /- INT_RETRY_MAX -/,
  ⟨0x02B048, [], .ro, 0x0, 0xFFFFFFFF, []⟩  /- INT_RETRY_STATUS -/,
  ⟨0x02B04C, [], .rwl, 0x1E00C8, 0xFFFFFFFF, []⟩  /- INT_SEQ_CFG -/,
  ⟨0x02B050, [], .ro, 0x0, 0x103, []⟩  /- INT_PRESENCE -/,
  ⟨0x02C040, [], .ro, 0x0, 0xFFFFFFFF, []⟩  /- INT_TLM_VA -/,
  ⟨0x02C044, [], .ro, 0x0, 0xFFFFFFFF, []⟩  /- INT_TLM_VB -/,
  ⟨0x02C048, [], .ro, 0x0, 0xFFFFFFFF, []⟩  /- INT_TLM_VOUT -/,
  ⟨0x02C04C, [], .ro, 0x0, 0xFFFFFFFF, []⟩  /- INT_TLM_I -/,
  ⟨0x02C050, [], .ro, 0x0, 0xFFFFFFFF, []⟩  /- INT_TLM_P -/,
  ⟨0x02C054, [], .ro, 0x0, 0xFFFFFFFF, []⟩  /- INT_TLM_TFET -/,
  ⟨0x02C058, [], .ro, 0x0, 0xFFFFFFFF, []⟩  /- INT_TLM_ENERGY_LO -/,
  ⟨0x02C05C, [], .ro, 0x0, 0xFFFFFFFF, []⟩  /- INT_TLM_ENERGY_HI -/,
  ⟨0x02C060, [], .rc, 0x0, 0xFFFFFFFF, []⟩  /- INT_TLM_PATH_DIFF -/,
  ⟨0x02C080, [(4, 6)], .rc, 0x0, 0xFFFFFFFF, []⟩  /- INT_TLM_MAX -/,
  ⟨0x02C100, [], .ro, 0x0, 0xC000001F, []⟩  /- INT_PROFILE_STATUS -/,
  ⟨0x02C104, [], .wo, 0x0, 0x1F, []⟩  /- INT_PROFILE_PROG -/,
  ⟨0x02C108, [], .rw, 0x0, 0xFFFFFFFF, []⟩  /- INT_PROFILE_DATA -/,
  ⟨0x02C180, [(4, 32)], .ro, 0x0, 0xFFFFFFFF, []⟩  /- INT_PROFILE -/]

/-- Rows of 04_startup.md: MGT_BOOT_STATUS to MGT_FLASH_DATA. -/
def bootRows0 : List RegDef := [
  ⟨0x005040, [], .ro, 0x0, 0xE000000F, []⟩  /- MGT_BOOT_STATUS -/,
  ⟨0x005044, [], .ro, 0x0, 0xFFFFFFFF, []⟩  /- MGT_BOOT_ERR -/,
  ⟨0x005048, [], .ro, 0x0, 0xFFFFFFFF, []⟩  /- MGT_BOOT_IMG_VER -/,
  ⟨0x00504C, [], .w1s, 0x0, 0x1, []⟩  /- MGT_BOOT_CTRL -/,
  ⟨0x005050, [], .rw, 0x0, 0xFFFF, []⟩  /- MGT_BOOT_EXCLUDE -/,
  ⟨0x005054, [], .w1c, 0x0, 0x3F, []⟩  /- MGT_RESET_CAUSE -/,
  ⟨0x005058, [], .wo, 0x0, 0xFFFF0001, []⟩  /- MGT_RESET_CTRL -/,
  ⟨0x00505C, [], .rw, 0x1F4, 0x8000FFFF, []⟩  /- MGT_RESET_CFG -/,
  ⟨0x005060, [], .ro, 0x0, 0xFFFFFFFF, []⟩  /- MGT_BOOT_TIME -/,
  ⟨0x005064, [], .ro, 0x0, 0x800003FF, []⟩  /- MGT_LG_NEXT -/,
  ⟨0x005068, [], .ro, 0x0, 0xFFFFFFFF, []⟩  /- MGT_LG_SEQ -/,
  ⟨0x00506C, [], .ro, 0x0, 0x8000FFFF, []⟩  /- MGT_SWEEP_STATUS -/,
  ⟨0x005070, [], .rw, 0x0, 0x301, []⟩  /- MGT_FLASH_CTRL -/,
  ⟨0x005074, [], .rw, 0x0, 0xFFFFFF, []⟩  /- MGT_FLASH_ADDR -/,
  ⟨0x005078, [], .wo, 0x0, 0xFF, []⟩  /- MGT_FUSE_PROG -/,
  ⟨0x005100, [(4, 64)], .rw, 0x0, 0xFFFFFFFF, []⟩  /- MGT_FLASH_DATA -/]

/-- Rows of 05_registers_ops.md: GLB_ID to RAS_SUB. -/
def regsRows0 : List RegDef := [
  ⟨0x000040, [], .ro, 0x4160B001, 0xFFFFFFFF, []⟩  /- GLB_ID -/,
  ⟨0x000044, [], .ro, 0x0, 0xFFFFFFFF, []⟩  /- GLB_STRAP -/,
  ⟨0x000048, [], .rw, 0x1, 0x1, []⟩  /- GLB_CTRL -/,
  ⟨0x00004C, [], .ro, 0x0, 0xFFFFFFFF, []⟩  /- GLB_PARITY_SCAN -/,
  ⟨0x004040, [], .rw, 0x0, 0x8F000FFF, []⟩  /- MGT_MGR_LOCK -/,
  ⟨0x004044, [], .rc, 0x0, 0xFFFFFFFF, []⟩  /- MGT_ACC_DENIED -/,
  ⟨0x004048, [], .ro, 0x0, 0xFFFFFFFF, []⟩  /- MGT_BATCH_COUNT -/,
  ⟨0x00404C, [], .rc, 0x0, 0xFFFFFFFF, []⟩  /- MGT_BATCH_ERR -/,
  ⟨0x004050, [], .ro, 0x0, 0xFFFFFFFF, []⟩  /- MGT_OP_SUMMARY -/,
  ⟨0x010040, [], .ro, 0x0, 0xFFFFFFFF, []⟩  /- RAS_LOG_WSEQ -/,
  ⟨0x010044, [], .rw, 0x0, 0x3FF, []⟩  /- RAS_LOG_SEL -/,
  ⟨0x010048, [], .rc, 0x0, 0xFFFFFFFF, []⟩  /- RAS_EVT_REPEAT -/,
  ⟨0x01004C, [], .ro, 0x0, 0x7FFFF, []⟩  /- RAS_FAULT_SUMMARY -/,
  ⟨0x010050, [], .rw, 0xA10, 0xFF1F, [⟨15, 8, 1, 255, 1⟩, ⟨4, 0, 1, 16, 1⟩]⟩  /- RAS_DELIVERY_CFG -/,
  ⟨0x010080, [(4, 8)], .ro, 0x0, 0xFFFFFFFF, []⟩  /- RAS_LOG_DATA -/,
  ⟨0x0100C0, [(4, 8)], .rw, 0x0, 0xBF000FFF, []⟩  /- RAS_SUB -/,
  ⟨0x006040, [(0x40, 32)], .rw, 0x0, 0xFF, []⟩  /- MGT_OP_CODE -/,
  ⟨0x006044, [(0x40, 32), (4, 4)], .rw, 0x0, 0xFFFFFFFF, []⟩  /- MGT_OP_ARG -/,
  ⟨0x006054, [(0x40, 32)], .wo, 0x0, 0xF, []⟩  /- MGT_OP_CMD -/,
  ⟨0x006058, [(0x40, 32), (4, 5)], .ro, 0x0, 0xFFFFFFFF, []⟩  /- MGT_OP_STATE to MGT_OP_OWNER -/,
  ⟨0x00606C, [(0x40, 32), (4, 5)], .ro, 0x0, 0x0, []⟩  /- reserved words of a slot -/]

/-- Rows of 06_ports.md: PRT_PORT_CTRL to PRT_MAC_ADDR_HI. -/
def portsRows0 : List RegDef := [
  ⟨0x100040, [(65536, 2)], .rwl, 0x0, 0x7, [⟨2, 0, 0, 5, 1⟩]⟩  /- PRT_PORT_CTRL -/,
  ⟨0x100044, [(65536, 2)], .ro, 0x0, 0xFF, []⟩  /- PRT_PORT_STATUS -/,
  ⟨0x100048, [(65536, 2)], .rw, 0x27100014, 0xFFFFFFFF, [⟨15, 0, 0, 10000, 1⟩]⟩  /- PRT_LINK_HOLD -/,
  ⟨0x10004C, [(65536, 2)], .rwl, 0xBEA0, 0xFFFF, []⟩  /- PRT_KCT_UDP_PORT -/,
  ⟨0x100050, [(65536, 2)], .ro, 0x0, 0xFFFFFFFF, []⟩  /- PRT_RXBUF_LEVEL -/,
  ⟨0x101040, [(65536, 2), (32, 8)], .rwl, 0x0, 0x3, []⟩  /- PRT_LANE_CFG -/,
  ⟨0x101044, [(65536, 2), (32, 8)], .ro, 0x0, 0x3, []⟩  /- PRT_LANE_STATUS -/,
  ⟨0x101048, [(65536, 2), (32, 8)], .rw, 0x3C00, 0xFFFFFF, []⟩  /- PRT_LANE_TXEQ -/,
  ⟨0x10104C, [(65536, 2), (32, 8)], .ro, 0x0, 0xFFFFFFFF, []⟩  /- PRT_LANE_SNR -/,
  ⟨0x101050, [(65536, 2), (32, 8)], .rw, 0x0, 0x3, [⟨1, 0, 0, 2, 1⟩]⟩  /- PRT_LANE_PRBS -/,
  ⟨0x101054, [(65536, 2), (32, 8)], .ro, 0x0, 0xFFFFFFFF, []⟩  /- PRT_LANE_PRBS_ERR_LO -/,
  ⟨0x101058, [(65536, 2), (32, 8)], .ro, 0x0, 0xFFFFFFFF, []⟩  /- PRT_LANE_PRBS_ERR_HI -/,
  ⟨0x102040, [(65536, 2), (64, 4)], .ro, 0x0, 0xFFFFFFFF, []⟩  /- PRT_FEC_CORR_LO -/,
  ⟨0x102044, [(65536, 2), (64, 4)], .ro, 0x0, 0xFFFFFFFF, []⟩  /- PRT_FEC_CORR_HI -/,
  ⟨0x102048, [(65536, 2), (64, 4)], .ro, 0x0, 0xFFFFFFFF, []⟩  /- PRT_FEC_UNCORR_LO -/,
  ⟨0x10204C, [(65536, 2), (64, 4)], .ro, 0x0, 0xFFFFFFFF, []⟩  /- PRT_FEC_UNCORR_HI -/,
  ⟨0x102050, [(65536, 2), (64, 4)], .ro, 0x0, 0xFFFFFFFF, []⟩  /- PRT_FEC_SYM_LO -/,
  ⟨0x102054, [(65536, 2), (64, 4)], .ro, 0x0, 0xFFFFFFFF, []⟩  /- PRT_FEC_SYM_HI -/,
  ⟨0x102058, [(65536, 2), (64, 4)], .ro, 0x0, 0x7, []⟩  /- PRT_PCS_STATUS -/,
  ⟨0x10205C, [(65536, 2), (64, 4)], .rw, 0xA, 0xFFFFFFFF, []⟩  /- PRT_FEC_ALARM -/,
  ⟨0x103040, [(65536, 2), (4, 4)], .rwl, 0x0, 0x1, []⟩  /- PRT_AN_CFG -/,
  ⟨0x103050, [(65536, 2), (4, 4)], .ro, 0x0, 0x7, []⟩  /- PRT_AN_STATUS -/,
  ⟨0x103060, [(65536, 2), (4, 4)], .rc, 0x0, 0xFFFFFFFF, []⟩  /- PRT_AN_FAIL -/,
  ⟨0x104040, [(65536, 2), (4096, 4)], .rwl, 0x0, 0xFFFFFFFF, []⟩  /- PRT_MAC_ADDR_LO -/,
  ⟨0x104044, [(65536, 2), (4096, 4)], .rwl, 0x0, 0xFFFF, []⟩  /- PRT_MAC_ADDR_HI -/]

/-- Rows of 06_ports.md: PRT_MAC_CFG to PRT_MS_REPLAY_DROP. -/
def portsRows1 : List RegDef := [
  ⟨0x104048, [(65536, 2), (4096, 4)], .rwl, 0xC0002328, 0xFFFF3FFF, [⟨29, 28, 0, 2, 1⟩, ⟨27, 16, 1, 4094, 1⟩, ⟨13, 0, 1280, 9600, 1⟩]⟩  /- PRT_MAC_CFG -/,
  ⟨0x10404C, [(65536, 2), (4096, 4)], .rwl, 0x0, 0xFFFFFFFF, []⟩  /- PRT_IPV4 -/,
  ⟨0x104050, [(65536, 2), (4096, 4), (4, 4)], .rwl, 0x0, 0xFFFFFFFF, []⟩  /- PRT_IPV6_LL -/,
  ⟨0x104060, [(65536, 2), (4096, 4), (4, 4)], .rwl, 0x0, 0xFFFFFFFF, []⟩  /- PRT_IPV6_GL -/,
  ⟨0x104070, [(65536, 2), (4096, 4)], .rwl, 0x0, 0xFFFFFFFF, []⟩  /- PRT_GW_IPV4 -/,
  ⟨0x104074, [(65536, 2), (4096, 4), (4, 4)], .rwl, 0x0, 0xFFFFFFFF, []⟩  /- PRT_GW_IPV6 -/,
  ⟨0x104084, [(65536, 2), (4096, 4)], .ro, 0x0, 0x3, []⟩  /- PRT_GW_STATUS -/,
  ⟨0x104088, [(65536, 2), (4096, 4)], .ro, 0x0, 0xFFFFFFFF, []⟩  /- PRT_GW_MAC4_LO -/,
  ⟨0x10408C, [(65536, 2), (4096, 4)], .ro, 0x0, 0xFFFFFFFF, []⟩  /- PRT_GW_MAC4_HI -/,
  ⟨0x104090, [(65536, 2), (4096, 4)], .ro, 0x0, 0xFFFFFFFF, []⟩  /- PRT_GW_MAC6_LO -/,
  ⟨0x104094, [(65536, 2), (4096, 4)], .ro, 0x0, 0xFFFFFFFF, []⟩  /- PRT_GW_MAC6_HI -/,
  ⟨0x104098, [(65536, 2), (4096, 4)], .rw, 0x12C03E8, 0xFFFFFFFF, []⟩  /- PRT_NEIGH_CFG -/,
  ⟨0x1040A0, [(65536, 2), (4096, 4), (4, 8)], .rw, 0x0, 0x77777777, []⟩  /- PRT_DSCP_MAP -/,
  ⟨0x1040C0, [(65536, 2), (4096, 4), (4, 2)], .rw, 0x0, 0x3F3F3F3F, []⟩  /- PRT_TX_DSCP -/,
  ⟨0x1040C8, [(65536, 2), (4096, 4)], .rw, 0x0, 0xFF, []⟩  /- PRT_PFC_CFG -/,
  ⟨0x1040D0, [(65536, 2), (4096, 4), (4, 8)], .rw, 0x0, 0xFFFFFFFF, []⟩  /- PRT_PFC_THRESH -/,
  ⟨0x109040, [(65536, 2), (64, 4)], .rwl, 0x0, 0x37, []⟩  /- PRT_MS_CTRL -/,
  ⟨0x109044, [(65536, 2), (64, 4)], .rw, 0x0, 0xFFFFFFFF, []⟩  /- PRT_MS_REPLAY -/,
  ⟨0x109048, [(65536, 2), (64, 4)], .ro, 0x0, 0xFFFFFFFF, []⟩  /- PRT_MS_TX_PN_LO -/,
  ⟨0x10904C, [(65536, 2), (64, 4)], .ro, 0x0, 0xFFFFFFFF, []⟩  /- PRT_MS_TX_PN_HI -/,
  ⟨0x109050, [(65536, 2), (64, 4)], .rw, 0xC0000000, 0xFFFFFFFF, []⟩  /- PRT_MS_PN_THRESH_LO -/,
  ⟨0x109054, [(65536, 2), (64, 4)], .rw, 0x0, 0xFFFFFFFF, []⟩  /- PRT_MS_PN_THRESH_HI -/,
  ⟨0x109058, [(65536, 2), (64, 4)], .ro, 0x0, 0x1FF, []⟩  /- PRT_MS_STATUS -/,
  ⟨0x10905C, [(65536, 2), (64, 4)], .rc, 0x0, 0xFFFFFFFF, []⟩  /- PRT_MS_ICV_FAIL -/,
  ⟨0x109060, [(65536, 2), (64, 4)], .rc, 0x0, 0xFFFFFFFF, []⟩  /- PRT_MS_REPLAY_DROP -/]

/-- Rows of 06_ports.md: PRT_MS_SA to PRT_FAILOVER. -/
def portsRows2 : List RegDef := [
  ⟨0x10A040, [(65536, 2), (512, 4), (64, 8), (4, 16)], .wo, 0x0, 0xFFFFFFFF, []⟩  /- PRT_MS_SA -/,
  ⟨0x10A840, [(65536, 2)], .w1s, 0x0, 0x8000001F, []⟩  /- PRT_MS_SA_INSTALL -/,
  ⟨0x10B040, [(65536, 2)], .rw, 0x0, 0xFF0103FF, [⟨9, 8, 0, 2, 1⟩]⟩  /- PRT_PTP_CFG -/,
  ⟨0x10B044, [(65536, 2)], .ro, 0x0, 0xF0000007, []⟩  /- PRT_PTP_STATUS -/,
  ⟨0x10B048, [], .ro, 0x0, 0xFFFFFFFF, []⟩  /- PRT_PTP_TIME_NS -/,
  ⟨0x10B04C, [], .ro, 0x0, 0xFFFFFFFF, []⟩  /- PRT_PTP_TIME_SEC_LO -/,
  ⟨0x10B050, [], .ro, 0x0, 0xFFFF, []⟩  /- PRT_PTP_TIME_SEC_HI -/,
  ⟨0x10B054, [], .rw, 0x0, 0xFFFFFFFF, []⟩  /- PRT_PTP_SET_NS -/,
  ⟨0x10B058, [], .rw, 0x0, 0xFFFFFFFF, []⟩  /- PRT_PTP_SET_SEC_LO -/,
  ⟨0x10B05C, [], .rw, 0x0, 0xFFFF, []⟩  /- PRT_PTP_SET_SEC_HI -/,
  ⟨0x10B060, [], .w1s, 0x0, 0x1, []⟩  /- PRT_PTP_CTRL -/,
  ⟨0x10B064, [], .ro, 0x0, 0xFFFFFFFF, []⟩  /- PRT_PTP_OFFSET -/,
  ⟨0x10B068, [], .ro, 0x0, 0xFFFFFFFF, []⟩  /- PRT_PTP_DELAY -/,
  ⟨0x10B06C, [], .ro, 0x0, 0xFFFFFFFF, []⟩  /- PRT_PTP_ADJ -/,
  ⟨0x10B070, [], .ro, 0x0, 0xFFFFFFFF, []⟩  /- PRT_PTP_PARENT_LO -/,
  ⟨0x10B074, [], .ro, 0x0, 0xFFFFFFFF, []⟩  /- PRT_PTP_PARENT_HI -/,
  ⟨0x10B078, [], .rw, 0x64, 0xFFFFFFFF, []⟩  /- PRT_PTP_LOCK_NS -/,
  ⟨0x10B07C, [], .rw, 0x3E8, 0xFFFFFFFF, []⟩  /- PRT_PTP_STEP_NS -/,
  ⟨0x10B080, [], .rw, 0x3, 0xFFFFFFFF, []⟩  /- PRT_PTP_TIMEOUT -/,
  ⟨0x10B084, [], .rw, 0x64, 0xF000FFFF, [⟨29, 28, 0, 2, 1⟩]⟩  /- PRT_PPS_CFG -/,
  ⟨0x10B088, [], .ro, 0x0, 0xFFFFFFFF, []⟩  /- PRT_PPS_IN_NS -/,
  ⟨0x10B08C, [], .ro, 0x0, 0xFFFFFFFF, []⟩  /- PRT_PPS_IN_SEC_LO -/,
  ⟨0x10B090, [], .ro, 0x0, 0xFFFFFFFF, []⟩  /- PRT_PPS_IN_SEC_HI -/,
  ⟨0x10B0A0, [(65536, 2), (4, 4)], .rw, 0x0, 0xFFFFFFFF, []⟩  /- PRT_TS_LAT -/,
  ⟨0x10C040, [(65536, 2), (4, 4)], .rw, 0x0, 0x80000007, []⟩  /- PRT_FAILOVER -/]

/-- Rows of 06_ports.md: PRT_FAILOVER_CFG to PRT_CNT. -/
def portsRows3 : List RegDef := [
  ⟨0x10C050, [(65536, 2)], .rw, 0x3E8, 0xFFFFFFFF, []⟩  /- PRT_FAILOVER_CFG -/,
  ⟨0x10C054, [(65536, 2)], .rc, 0x0, 0xFFFFFFFF, []⟩  /- PRT_FAILOVER_SKIP -/,
  ⟨0x10C058, [(65536, 2)], .rw, 0x100, 0x1F1, []⟩  /- PRT_WAKE_CFG -/,
  ⟨0x10C05C, [(65536, 2)], .rc, 0x0, 0xFFFFFFFF, []⟩  /- PRT_WAKE_DROP -/,
  ⟨0x10C100, [(65536, 2), (256, 4), (4, 32)], .rw, 0x0, 0xFFFFFFFF, []⟩  /- PRT_WAKE_PAT_VAL -/,
  ⟨0x10C180, [(65536, 2), (256, 4), (4, 32)], .rw, 0x0, 0xFFFFFFFF, []⟩  /- PRT_WAKE_PAT_MASK -/,
  ⟨0x10D040, [(65536, 2), (256, 4), (8, 18), (4, 2)], .ro, 0x0, 0xFFFFFFFF, []⟩  /- PRT_CNT -/]

/-- Rows of 08_transport_sessions.md: KCT_CFG to KCT_CTX_SEL. -/
def kctRows0 : List RegDef := [
  ⟨0x200040, [], .rwl, 0xC3000200, 0xCF00FFFF, [⟨15, 0, 64, 512, 1⟩]⟩  /- KCT_CFG -/,
  ⟨0x200044, [], .rw, 0x1F400040, 0xFFFFFFFF, [⟨15, 0, 16, 1000, 1⟩]⟩  /- KCT_RTO -/,
  ⟨0x200048, [], .rw, 0x200000C8, 0xFF00FFFF, [⟨15, 0, 100, 6000, 1⟩]⟩  /- KCT_DEAD -/,
  ⟨0x20004C, [], .rw, 0x8020028, 0xFFFFFFFF, []⟩  /- KCT_ACK_CFG -/,
  ⟨0x200050, [], .rw, 0x0, 0xFFFF, []⟩  /- KCT_KEEPALIVE -/,
  ⟨0x200054, [], .rw, 0x4014000A, 0xFFFFFFFF, []⟩  /- KCT_CC_CFG -/,
  ⟨0x200058, [], .rw, 0xFA0001, 0xFFFFFFFF, []⟩  /- KCT_CC_RATE -/,
  ⟨0x20005C, [], .rw, 0x24, 0x3F, []⟩  /- KCT_KEY_LIMIT -/,
  ⟨0x200060, [], .rw, 0x2710, 0xFFFFFFFF, []⟩  /- KCT_REKEY_GRACE -/,
  ⟨0x200064, [], .ro, 0x0, 0xFFFFFFFF, []⟩  /- KCT_SESS_OPEN -/,
  ⟨0x200068, [], .wo, 0x0, 0xC0000FFF, []⟩  /- KCT_SESS_CTRL -/,
  ⟨0x201040, [], .rc, 0x0, 0xFFFFFFFF, []⟩  /- KCT_RX_MALFORMED -/,
  ⟨0x201044, [], .rc, 0x0, 0xFFFFFFFF, []⟩  /- KCT_RX_AUTHFAIL -/,
  ⟨0x201048, [], .rc, 0x0, 0xFFFFFFFF, []⟩  /- KCT_RX_BADVER -/,
  ⟨0x20104C, [], .rc, 0x0, 0xFFFFFFFF, []⟩  /- KCT_RX_DUP -/,
  ⟨0x201050, [], .rc, 0x0, 0xFFFFFFFF, []⟩  /- KCT_RX_WINDOW -/,
  ⟨0x201054, [], .rc, 0x0, 0xFFFFFFFF, []⟩  /- KCT_RX_NOSESSION -/,
  ⟨0x201058, [], .rc, 0x0, 0xFFFFFFFF, []⟩  /- KCT_HELLO_REPLAY -/,
  ⟨0x20105C, [], .rc, 0x0, 0xFFFFFFFF, []⟩  /- KCT_TX_RETX -/,
  ⟨0x201060, [], .rc, 0x0, 0xFFFFFFFF, []⟩  /- KCT_RX_NAK -/,
  ⟨0x201064, [], .rc, 0x0, 0xFFFFFFFF, []⟩  /- KCT_CC_DECREASE -/,
  ⟨0x202040, [(4, 10)], .wo, 0x0, 0xFFFFFFFF, []⟩  /- KCT_KEY_STAGE -/,
  ⟨0x202068, [], .rw, 0x0, 0xFFFFFFFF, []⟩  /- KCT_KEY_SALT -/,
  ⟨0x20206C, [], .w1s, 0x0, 0x80010FFF, []⟩  /- KCT_KEY_INSTALL -/,
  ⟨0x203040, [], .rw, 0x0, 0xFFF, []⟩  /- KCT_CTX_SEL -/]

/-- Rows of 08_transport_sessions.md: KCT_CTX_CFG to KCT_CTX_OUTSTANDING. -/
def kctRows1 : List RegDef := [
  ⟨0x203044, [], .rw, 0x0, 0xE0000000, []⟩  /- KCT_CTX_CFG -/,
  ⟨0x203048, [], .ro, 0x0, 0xFFFE001F, []⟩  /- KCT_CTX_STATE -/,
  ⟨0x20304C, [], .ro, 0x0, 0xFFFFFFFF, []⟩  /- KCT_CTX_USED -/,
  ⟨0x203050, [], .ro, 0x0, 0xFFFFFFFF, []⟩  /- KCT_CTX_RTO -/,
  ⟨0x203054, [], .ro, 0x0, 0xFFFFFFFF, []⟩  /- KCT_CTX_RATE -/,
  ⟨0x203058, [], .ro, 0x0, 0xFFFFFFFF, []⟩  /- KCT_CTX_RTT -/,
  ⟨0x20305C, [], .ro, 0x0, 0xFFFFFFFF, []⟩  /- KCT_CTX_TXSEQ -/,
  ⟨0x203060, [], .ro, 0x0, 0xFFFFFFFF, []⟩  /- KCT_CTX_RXCUM -/,
  ⟨0x203064, [], .ro, 0x0, 0xFFFFFFFF, []⟩  /- KCT_CTX_OUTSTANDING -/]

/-- Rows of 09_addressing.md: PIPE_DESC_STANDS to PIPE_DC_HIT_HI. -/
def pipeRows0 : List RegDef := [
  ⟨0x400040, [], .rwl, 0x1, 0xFF, []⟩  /- PIPE_DESC_STANDS -/,
  ⟨0x400044, [], .rw, 0x32, 0xFFFF, [⟨15, 0, 5, 1000, 1⟩]⟩  /- PIPE_LOCK_TIMEOUT -/,
  ⟨0x400048, [], .rw, 0x3E8, 0xFFFFFFFF, []⟩  /- PIPE_INIT_RETRY -/,
  ⟨0x40004C, [], .ro, 0x0, 0x1FFFF, []⟩  /- PIPE_REGIONS_VALID -/,
  ⟨0x401040, [], .rw, 0x0, 0xFFFF, []⟩  /- PIPE_RGN_SEL -/,
  ⟨0x401044, [], .wo, 0x0, 0x7, [⟨2, 0, 1, 6, 1⟩]⟩  /- PIPE_RGN_CMD -/,
  ⟨0x401048, [], .ro, 0x0, 0x800000FF, []⟩  /- PIPE_RGN_STATUS -/,
  ⟨0x401080, [(4, 16)], .rw, 0x0, 0xFFFFFFFF, []⟩  /- PIPE_RGN_DATA -/,
  ⟨0x402040, [], .rw, 0x0, 0xFFFF0FFF, []⟩  /- PIPE_GNT_KEY -/,
  ⟨0x402044, [], .wo, 0x0, 0x7, [⟨2, 0, 1, 4, 1⟩]⟩  /- PIPE_GNT_CMD -/,
  ⟨0x402048, [], .ro, 0x0, 0x80FFFFFF, []⟩  /- PIPE_GNT_STATUS -/,
  ⟨0x40204C, [], .ro, 0x0, 0x1FFFF, []⟩  /- PIPE_GNT_USED -/,
  ⟨0x402050, [], .ro, 0x0, 0x1F, []⟩  /- PIPE_GNT_MAXCHAIN -/,
  ⟨0x402080, [(4, 8)], .rw, 0x0, 0xFFFFFFFF, []⟩  /- PIPE_GNT_DATA -/,
  ⟨0x403040, [], .rw, 0x0, 0xFFFF, []⟩  /- PIPE_DSC_REGION -/,
  ⟨0x403044, [], .rw, 0x0, 0xFFFFFFFF, []⟩  /- PIPE_DSC_PAGE_LO -/,
  ⟨0x403048, [], .rw, 0x0, 0x3, []⟩  /- PIPE_DSC_PAGE_HI -/,
  ⟨0x40304C, [], .wo, 0x0, 0x3, [⟨1, 0, 1, 3, 1⟩]⟩  /- PIPE_DSC_CMD -/,
  ⟨0x403050, [], .ro, 0x0, 0x800000FF, []⟩  /- PIPE_DSC_STATUS -/,
  ⟨0x403080, [(4, 8)], .ro, 0x0, 0xFFFFFFFF, []⟩  /- PIPE_DSC_DATA -/,
  ⟨0x404040, [], .w1s, 0x0, 0x1, []⟩  /- PIPE_DC_CTRL -/,
  ⟨0x404044, [], .ro, 0x0, 0x803FFFFF, []⟩  /- PIPE_DC_STATUS -/,
  ⟨0x404048, [], .ro, 0x0, 0x3FFFFF, []⟩  /- PIPE_DC_PINNED -/,
  ⟨0x404050, [], .ro, 0x0, 0xFFFFFFFF, []⟩  /- PIPE_DC_HIT_LO -/,
  ⟨0x404054, [], .ro, 0x0, 0xFFFFFFFF, []⟩  /- PIPE_DC_HIT_HI -/]

/-- Rows of 09_addressing.md: PIPE_DC_MISS_LO to PIPE_CNT. -/
def pipeRows1 : List RegDef := [
  ⟨0x404058, [], .ro, 0x0, 0xFFFFFFFF, []⟩  /- PIPE_DC_MISS_LO -/,
  ⟨0x40405C, [], .ro, 0x0, 0xFFFFFFFF, []⟩  /- PIPE_DC_MISS_HI -/,
  ⟨0x404060, [], .ro, 0x0, 0xFFFFFFFF, []⟩  /- PIPE_DC_WB_LO -/,
  ⟨0x404064, [], .ro, 0x0, 0xFFFFFFFF, []⟩  /- PIPE_DC_WB_HI -/,
  ⟨0x404068, [], .rc, 0x0, 0xFFFFFFFF, []⟩  /- PIPE_DC_ALLPINNED -/,
  ⟨0x40406C, [], .rc, 0x0, 0xFFFFFFFF, []⟩  /- PIPE_LOCK_WAIT_MAX -/,
  ⟨0x405040, [(4096, 2), (8, 18), (4, 2)], .ro, 0x0, 0xFFFFFFFF, []⟩  /- PIPE_CNT -/]

/-- Rows of 10_coherence.md: COH_CTRL to KCT_CTX_SWEEP. -/
def cohRows0 : List RegDef := [
  ⟨0x500040, [], .rwl, 0x1, 0x1, []⟩  /- COH_CTRL -/,
  ⟨0x500044, [], .rw, 0x1F4, 0xFFFF, [⟨15, 0, 50, 10000, 1⟩]⟩  /- COH_CREDIT_HOLD -/,
  ⟨0x500048, [], .rw, 0x64, 0xFFFF, [⟨15, 0, 1, 10000, 1⟩]⟩  /- COH_SNP_LIMIT -/,
  ⟨0x50004C, [], .ro, 0x20000000, 0xFFFF7FFF, []⟩  /- COH_TRK_STATUS -/,
  ⟨0x500050, [], .ro, 0x0, 0xFFFFFFFF, []⟩  /- COH_RETRY_STATUS -/,
  ⟨0x501040, [], .rw, 0x0, 0x3FF, []⟩  /- COH_SG_SEL -/,
  ⟨0x501044, [], .rw, 0x0, 0xFFF, []⟩  /- COH_SG_CLIENT -/,
  ⟨0x501048, [], .wo, 0x0, 0x7, [⟨2, 0, 1, 4, 1⟩]⟩  /- COH_SG_CMD -/,
  ⟨0x50104C, [], .ro, 0x0, 0x8103FFFF, []⟩  /- COH_SG_STATUS -/,
  ⟨0x502040, [], .ro, 0x0, 0xCF000FFF, []⟩  /- COH_SWEEP_STATUS -/,
  ⟨0x502044, [], .ro, 0x0, 0x1FFF, []⟩  /- COH_SWEEP_QUEUE -/,
  ⟨0x502048, [], .ro, 0x0, 0xFFFFFFFF, []⟩  /- COH_SWEEP_LEFT -/,
  ⟨0x503040, [(8, 16), (4, 2)], .ro, 0x0, 0xFFFFFFFF, []⟩  /- COH_CNT -/,
  ⟨0x204040, [], .rc, 0x0, 0xFFFFFFFF, []⟩  /- KCT_FWD_SNP -/,
  ⟨0x204044, [], .rc, 0x0, 0xFFFFFFFF, []⟩  /- KCT_FWD_DONE -/,
  ⟨0x204048, [], .rc, 0x0, 0xFFFFFFFF, []⟩  /- KCT_FWD_FALLBACK -/,
  ⟨0x20404C, [], .rc, 0x0, 0xFFFFFFFF, []⟩  /- KCT_FWD_V2_HOME -/,
  ⟨0x205040, [], .ro, 0x0, 0xFF7F007F, []⟩  /- KCT_CTX_TRK -/,
  ⟨0x205044, [], .ro, 0x0, 0xFFFFFFFF, []⟩  /- KCT_CTX_HELD -/,
  ⟨0x205048, [], .ro, 0x0, 0xFFFFFFFF, []⟩  /- KCT_CTX_OWNED -/,
  ⟨0x20504C, [], .ro, 0x0, 0xC0000000, []⟩  /- KCT_CTX_SWEEP -/]

/-- Rows of 11_tiers.md: TIER_CTRL to TIER_PROMO_HOLD. -/
def tierRows0 : List RegDef := [
  ⟨0x600040, [], .rw, 0xF, 0xF, []⟩  /- TIER_CTRL -/,
  ⟨0x600044, [], .rwl, 0x3E8, 0xFFFFFFFF, [⟨31, 0, 10, 3600000, 1⟩]⟩  /- TIER_EPOCH_CFG -/,
  ⟨0x600048, [], .ro, 0x0, 0xFFFF, []⟩  /- TIER_EPOCH -/,
  ⟨0x60004C, [], .rwl, 0x0, 0x7, []⟩  /- TIER_BITMAP_CFG -/,
  ⟨0x600050, [], .rw, 0x400, 0xFFFFFF, []⟩  /- TIER_RESERVE -/,
  ⟨0x600054, [], .rw, 0x4000, 0xFFFFFF, []⟩  /- TIER_AWAKE_LOW -/,
  ⟨0x600058, [], .ro, 0x0, 0xC00000FF, []⟩  /- TIER_STATUS -/,
  ⟨0x60005C, [], .ro, 0x0, 0x1F, []⟩  /- TIER_CHANNELS -/,
  ⟨0x600060, [], .ro, 0x0, 0xFFFFFFFF, []⟩  /- TIER_RETIRED_LO -/,
  ⟨0x600064, [], .ro, 0x0, 0xFFFFFFFF, []⟩  /- TIER_RETIRED_HI -/,
  ⟨0x601040, [(32, 8)], .rw, 0x0, 0x3, [⟨1, 0, 0, 2, 1⟩]⟩  /- TIER_STAND_CFG -/,
  ⟨0x601044, [(32, 8)], .ro, 0x0, 0xE0000007, []⟩  /- TIER_STAND_STATUS -/,
  ⟨0x601048, [(32, 8)], .ro, 0x0, 0xFFFFFFFF, []⟩  /- TIER_STAND_PLOTS -/,
  ⟨0x60104C, [(32, 8)], .ro, 0x0, 0xFFFFFFFF, []⟩  /- TIER_STAND_USED_LO -/,
  ⟨0x601050, [(32, 8)], .ro, 0x0, 0xFFFFFFFF, []⟩  /- TIER_STAND_USED_HI -/,
  ⟨0x601054, [(32, 8)], .ro, 0x0, 0xFFFFFFFF, []⟩  /- TIER_STAND_FREE_PLOTS -/,
  ⟨0x601058, [(32, 8)], .ro, 0x0, 0xFFFFFFFF, []⟩  /- TIER_STAND_CANOPY -/,
  ⟨0x60105C, [(32, 8)], .rc, 0x0, 0xFFFFFFFF, []⟩  /- TIER_STAND_WAKES -/,
  ⟨0x601140, [(4, 8)], .ro, 0x0, 0xFFFFFFFF, []⟩  /- TIER_STAND_RETIRED -/,
  ⟨0x602040, [(16, 16), (4, 3)], .rwl, 0x0, 0xFFFFFFFF, []⟩  /- TIER_POL, words 0 to 2 -/,
  ⟨0x60204C, [(16, 16)], .rwl, 0x0, 0x7, []⟩  /- TIER_POL, word 3 -/,
  ⟨0x602140, [], .w1s, 0x0, 0x1, []⟩  /- TIER_POL_COMMIT -/,
  ⟨0x602144, [], .ro, 0x0, 0x8000000F, []⟩  /- TIER_POL_STATUS -/,
  ⟨0x603040, [], .rw, 0xC003C04, 0xFFFFFFFF, [⟨31, 24, 1, 12, 1⟩]⟩  /- TIER_MOVER_CFG -/,
  ⟨0x603044, [], .rw, 0x3E8, 0xFFFFFFFF, []⟩  /- TIER_FLOOR_LINGER -/,
  ⟨0x603048, [], .rw, 0xA, 0xFFFFFFFF, []⟩  /- TIER_PROMO_HOLD -/]

/-- Rows of 11_tiers.md: TIER_SCAN_STATUS to TIER_CNT. -/
def tierRows1 : List RegDef := [
  ⟨0x60304C, [], .ro, 0x0, 0x8000FFFF, []⟩  /- TIER_SCAN_STATUS -/,
  ⟨0x603050, [], .ro, 0x0, 0xFFFFFFFF, []⟩  /- TIER_SCAN_PASS -/,
  ⟨0x603054, [], .ro, 0x0, 0x1FFF, []⟩  /- TIER_PROMO_LEVEL -/,
  ⟨0x603058, [], .ro, 0x0, 0x8700FFFF, []⟩  /- TIER_BATCH_STATUS -/,
  ⟨0x604040, [], .rw, 0x100019, 0xFFFFFF7F, []⟩  /- TIER_THIN_CFG -/,
  ⟨0x604044, [], .ro, 0x0, 0x87FFFFFF, []⟩  /- TIER_THIN_STATUS -/,
  ⟨0x605040, [(8, 16), (4, 2)], .ro, 0x0, 0xFFFFFFFF, []⟩  /- TIER_CNT -/]

/-- Rows of 12_compression.md: CMP_CTRL to CMP_CNT. -/
def cmpRows0 : List RegDef := [
  ⟨0x700040, [], .rw, 0x1, 0x1, []⟩  /- CMP_CTRL -/,
  ⟨0x700044, [], .rw, 0xE00, 0xFFF, [⟨11, 0, 1024, 3968, 1⟩]⟩  /- CMP_RAW_THRESHOLD -/,
  ⟨0x700048, [], .rw, 0x4, 0xFF, []⟩  /- CMP_VERIFY_LIMIT -/,
  ⟨0x70004C, [], .w1c, 0x0, 0xFFFF, []⟩  /- CMP_CLANE_OOS -/,
  ⟨0x700050, [], .w1c, 0x0, 0xFFFF, []⟩  /- CMP_DLANE_OOS -/,
  ⟨0x700054, [], .ro, 0x0, 0xFFFFFFFF, []⟩  /- CMP_LANE_BUSY -/,
  ⟨0x701040, [], .rw, 0x0, 0xF, []⟩  /- CMP_CLS_SEL -/,
  ⟨0x701044, [], .wo, 0x0, 0x3, [⟨1, 0, 1, 3, 1⟩]⟩  /- CMP_CLS_CMD -/,
  ⟨0x701048, [], .ro, 0x0, 0x800000FF, []⟩  /- CMP_CLS_STATUS -/,
  ⟨0x70104C, [], .rw, 0x0, 0x3, []⟩  /- CMP_CLS_STAGE -/,
  ⟨0x701050, [], .rw, 0x0, 0x1FFF, [⟨12, 0, 0, 4252, 4⟩]⟩  /- CMP_CLS_PTR -/,
  ⟨0x701054, [], .wo, 0x0, 0xFFFFFFFF, []⟩  /- CMP_CLS_DATA -/,
  ⟨0x702040, [(16, 16)], .ro, 0x0, 0xF0000000, []⟩  /- CMP_CLASS_STATE -/,
  ⟨0x702044, [(16, 16)], .ro, 0x0, 0xFFFFFFFF, []⟩  /- CMP_CLASS_CRC -/,
  ⟨0x702048, [(16, 16)], .ro, 0x0, 0xFFFFFFFF, []⟩  /- CMP_CLASS_PAGES_LO -/,
  ⟨0x70204C, [(16, 16)], .ro, 0x0, 0xFFFFFFFF, []⟩  /- CMP_CLASS_PAGES_HI -/,
  ⟨0x703040, [(4, 16)], .ro, 0x400, 0x1FFF, []⟩  /- CMP_CLASS_MEAN -/,
  ⟨0x704040, [(8, 16), (4, 2)], .ro, 0x0, 0xFFFFFFFF, []⟩  /- CMP_CNT -/]

/-- Rows of 13_crypto.md: CRY_CTRL to CRY_CNT. -/
def cryRows0 : List RegDef := [
  ⟨0x800040, [], .rw, 0x1, 0x1, []⟩  /- CRY_CTRL -/,
  ⟨0x800044, [], .ro, 0x0, 0xE0000000, []⟩  /- CRY_DWK_STATUS -/,
  ⟨0x800048, [], .w1s, 0x0, 0x1, []⟩  /- CRY_DWK_CMD -/,
  ⟨0x800050, [(4, 8)], .wo, 0x0, 0xFFFFFFFF, []⟩  /- CRY_DWK_PROV -/,
  ⟨0x800070, [], .w1c, 0x0, 0xFFF, []⟩  /- CRY_XTS_OOS -/,
  ⟨0x800074, [], .w1c, 0x0, 0xFFF, []⟩  /- CRY_GCM_OOS -/,
  ⟨0x800078, [], .rw, 0x4, 0xFF, []⟩  /- CRY_CHECK_LIMIT -/,
  ⟨0x80007C, [], .rw, 0x7, 0xFFF, [⟨11, 0, 1, 4095, 1⟩]⟩  /- CRY_DROWSY_KEEP -/,
  ⟨0x800080, [], .ro, 0x0, 0xFFF0FFF, []⟩  /- CRY_ENGINE_BUSY -/,
  ⟨0x801040, [], .rw, 0x0, 0xFFF, []⟩  /- CRY_KS_SEL -/,
  ⟨0x801044, [], .wo, 0x0, 0x3, [⟨1, 0, 1, 3, 1⟩]⟩  /- CRY_KS_CMD -/,
  ⟨0x801048, [], .ro, 0x0, 0x800000FF, []⟩  /- CRY_KS_STATUS -/,
  ⟨0x80104C, [], .ro, 0x0, 0xC001FFFF, []⟩  /- CRY_KS_STATE -/,
  ⟨0x801050, [], .ro, 0x0, 0xFFFFFF, []⟩  /- CRY_KS_KCV -/,
  ⟨0x801054, [], .ro, 0x0, 0x1FFF, []⟩  /- CRY_KS_LOADED -/,
  ⟨0x801080, [(4, 18)], .wo, 0x0, 0xFFFFFFFF, []⟩  /- CRY_KS_STAGE -/,
  ⟨0x802040, [(16, 16)], .ro, 0x0, 0x8000FFFF, []⟩  /- CRY_RK_REGION -/,
  ⟨0x802044, [(16, 16)], .ro, 0x0, 0xFFF0FFF, []⟩  /- CRY_RK_SLOTS -/,
  ⟨0x802048, [(16, 16)], .ro, 0x0, 0xFFFFFFFF, []⟩  /- CRY_RK_MARK_LO -/,
  ⟨0x80204C, [(16, 16)], .ro, 0x0, 0x3, []⟩  /- CRY_RK_MARK_HI -/,
  ⟨0x803040, [(8, 12), (4, 2)], .ro, 0x0, 0xFFFFFFFF, []⟩  /- CRY_CNT -/]

/-- Rows of 14_dram_scheduling.md: DRC_CTRL to DRC_CNT. -/
def drcRows0 : List RegDef := [
  ⟨0xA00040, [(65536, 16)], .rwl, 0x3, 0x3, []⟩  /- DRC_CTRL -/,
  ⟨0xA00044, [(65536, 16)], .ro, 0x0, 0xF0000000, []⟩  /- DRC_STATE -/,
  ⟨0xA00048, [(65536, 16), (4, 2)], .ro, 0x0, 0xB33CFFFF, []⟩  /- DRC_POP -/,
  ⟨0xA00050, [(65536, 16)], .ro, 0x0, 0xFFFF, []⟩  /- DRC_POP_STATUS -/,
  ⟨0xA00054, [(65536, 16)], .ro, 0x0, 0xF0F1F, []⟩  /- DRC_GEOMETRY -/,
  ⟨0xA02040, [(65536, 16)], .rwl, 0x0, 0xFFFFFFFF, []⟩  /- DRC_T_ROW -/,
  ⟨0xA02044, [(65536, 16)], .rwl, 0x0, 0xFFFFFFFF, []⟩  /- DRC_T_CAS -/,
  ⟨0xA02048, [(65536, 16)], .rwl, 0x0, 0xFFFFFFFF, []⟩  /- DRC_T_RRD -/,
  ⟨0xA0204C, [(65536, 16)], .rwl, 0x0, 0xFFFFFFFF, []⟩  /- DRC_T_WTR -/,
  ⟨0xA02050, [(65536, 16)], .rwl, 0x0, 0xFFFFFFFF, []⟩  /- DRC_T_REF -/,
  ⟨0xA02054, [(65536, 16)], .rwl, 0x0, 0xFFFFFFFF, []⟩  /- DRC_T_RFM -/,
  ⟨0xA02058, [(65536, 16)], .rwl, 0x0, 0xFFFFFFFF, []⟩  /- DRC_RAA -/,
  ⟨0xA02080, [(65536, 16), (4, 7)], .ro, 0x0, 0xFFFFFFFF, []⟩  /- DRC_T_SPD -/,
  ⟨0xA0303C, [(65536, 16), (4, 4)], .rw, 0xC8, 0xFFFF, [⟨15, 0, 10, 65535, 1⟩]⟩  /- DRC_AGE -/,
  ⟨0xA0304C, [(65536, 16)], .rw, 0x28102010, 0x3F3F3F1F, [⟨29, 24, 0, 56, 1⟩, ⟨13, 8, 0, 56, 1⟩, ⟨4, 0, 1, 31, 1⟩]⟩  /- DRC_QCFG -/,
  ⟨0xA03050, [(65536, 16)], .rw, 0x64, 0xFFFF, []⟩  /- DRC_ROW_IDLE -/,
  ⟨0xA03054, [(65536, 16)], .rwl, 0x8, 0xF, [⟨3, 0, 0, 8, 1⟩]⟩  /- DRC_REF_CFG -/,
  ⟨0xA03058, [(65536, 16)], .rw, 0xA, 0x1F, [⟨4, 0, 4, 16, 1⟩]⟩  /- DRC_NRR_CFG -/,
  ⟨0xA0305C, [(65536, 16)], .rw, 0x1800064, 0xFFFFFFFF, []⟩  /- DRC_ALERT_CFG -/,
  ⟨0xA03060, [(65536, 16)], .ro, 0x0, 0xFFFFFFFF, []⟩  /- DRC_REF_OWED -/,
  ⟨0xA03064, [(65536, 16)], .ro, 0x0, 0x7F007F, []⟩  /- DRC_QLEVEL -/,
  ⟨0xA03068, [(65536, 16)], .ro, 0x0, 0x3, []⟩  /- DRC_WDRAIN -/,
  ⟨0xA04040, [(65536, 16), (8, 16), (4, 2)], .ro, 0x0, 0xFFFFFFFF, []⟩  /- DRC_CNT -/]

/-- Rows of 15_dram_bringup_stands.md: DRC_FP_CTRL to DRC_DISC_STATUS. -/
def bringupRows0 : List RegDef := [
  ⟨0xA01040, [(65536, 16)], .rw, 0x0, 0x3, [⟨1, 0, 0, 2, 1⟩]⟩  /- DRC_FP_CTRL -/,
  ⟨0xA01044, [(65536, 16)], .ro, 0x202, 0xC0000333, []⟩  /- DRC_FP_STATUS -/,
  ⟨0xA01048, [(65536, 16)], .ro, 0x0, 0xE73001FF, []⟩  /- DRC_TRAIN_STATUS -/,
  ⟨0xA0104C, [(65536, 16)], .rw, 0x32, 0xFFFF, [⟨15, 0, 1, 1000, 1⟩]⟩  /- DRC_TRAIN_CFG -/,
  ⟨0xA01050, [(65536, 16), (4, 3)], .ro, 0x0, 0xC000FFFF, []⟩  /- DRC_TRAIN_SAVED -/,
  ⟨0xA0105C, [(65536, 16)], .rw, 0x800002, 0xFFFF00FF, []⟩  /- DRC_RECAL_CFG -/,
  ⟨0xA01060, [(65536, 16)], .rw, 0x195F0002, 0xFFFF00FF, []⟩  /- DRC_TEMP_CFG -/,
  ⟨0xA01064, [(65536, 16), (4, 2)], .ro, 0x0, 0xE000FFFF, []⟩  /- DRC_DIMM_TEMP -/,
  ⟨0xA0106C, [(65536, 16), (4, 2)], .ro, 0x0, 0xE00000FF, []⟩  /- DRC_PMIC_STATUS -/,
  ⟨0xA01074, [(65536, 16)], .rw, 0x803203E8, 0x80FFFFFF, [⟨15, 0, 500, 5000, 1⟩]⟩  /- DRC_SR_CFG -/,
  ⟨0xA01078, [(65536, 16)], .rw, 0x3E8, 0xFFFF, []⟩  /- DRC_SR_CFG2 -/,
  ⟨0xA0107C, [(65536, 16)], .ro, 0x66666666, 0xFFFFFFFF, []⟩  /- DRC_RANK_STATE -/,
  ⟨0xA01080, [(65536, 16)], .rc, 0x0, 0xFFFFFFFF, []⟩  /- DRC_SR_ABORTS -/,
  ⟨0xA01084, [(65536, 16)], .rc, 0x0, 0xFFFFFFFF, []⟩  /- DRC_SR_ENTRIES -/,
  ⟨0xA01088, [(65536, 16)], .w1s, 0x0, 0x3, []⟩  /- DRC_DIMM_OFF -/,
  ⟨0xA0108C, [(65536, 16)], .ro, 0x0, 0x80000003, []⟩  /- DRC_DIMM_OFF_STATUS -/,
  ⟨0xA01090, [(65536, 16)], .ro, 0x0, 0x8000FF03, []⟩  /- DRC_DISC_STATUS -/]

/-- Rows of 16_ecc_ras.md: RAS_PROMISE_STATUS to DRC_CET_SEL. -/
def rasRows0 : List RegDef := [
  ⟨0x011040, [], .ro, 0x8000000F, 0x8000000F, []⟩  /- RAS_PROMISE_STATUS -/,
  ⟨0x011044, [], .w1c, 0x0, 0xFFFFF, []⟩  /- RAS_CLK_MON_STATUS -/,
  ⟨0x011048, [], .w1c, 0x0, 0xFFFFFFFF, []⟩  /- RAS_DUP_STATUS -/,
  ⟨0x01104C, [], .rc, 0x0, 0xFFFFFFFF, []⟩  /- RAS_CRC_FAIL -/,
  ⟨0x011050, [], .rc, 0x0, 0xFFFFFFFF, []⟩  /- RAS_HS_RETRY_OK -/,
  ⟨0x011054, [], .rc, 0x0, 0xFFFFFFFF, []⟩  /- RAS_HS_FAIL -/,
  ⟨0x011058, [], .rc, 0x0, 0xFFFFFFFF, []⟩  /- RAS_TAG_RETRY_OK -/,
  ⟨0x01105C, [], .rc, 0x0, 0xFFFFFFFF, []⟩  /- RAS_TAG_FAIL -/,
  ⟨0x012040, [], .rwl, 0xC00C0005, 0xC0FF00FF, [⟨23, 16, 1, 24, 1⟩, ⟨7, 0, 1, 60, 1⟩]⟩  /- RAS_SCRUB_CFG -/,
  ⟨0x012044, [], .rw, 0xC8, 0xFFFF, []⟩  /- RAS_SCRUB_BURST -/,
  ⟨0x012048, [(16, 8)], .ro, 0x0, 0xFFFFFFFF, []⟩  /- RAS_SCRUB_PROG -/,
  ⟨0x01204C, [(16, 8)], .ro, 0x0, 0xFFFFFFFF, []⟩  /- RAS_SCRUB_PASS -/,
  ⟨0x012050, [(16, 8)], .ro, 0x0, 0xFFFFFFFF, []⟩  /- RAS_SCRUB_FOUND -/,
  ⟨0x0120D0, [], .ro, 0x0, 0xC7000000, []⟩  /- RAS_SCRUB_STATUS -/,
  ⟨0xA00080, [(65536, 16), (4, 8)], .rc, 0x0, 0xFFFFFFFF, []⟩  /- DRC_CE_RANK -/,
  ⟨0xA000A0, [(65536, 16)], .rw, 0x0, 0x7, []⟩  /- DRC_CE_BANK_SEL -/,
  ⟨0xA000A4, [(65536, 16), (4, 8)], .rc, 0x0, 0xFFFFFFFF, []⟩  /- DRC_CE_BANK -/,
  ⟨0xA000C4, [(65536, 16)], .rw, 0x3C0100, 0xFFFFFFFF, [⟨31, 16, 1, 1440, 1⟩]⟩  /- DRC_CE_THRESH -/,
  ⟨0xA000C8, [(65536, 16)], .rc, 0x0, 0xFFFFFFFF, []⟩  /- DRC_UE_COUNT -/,
  ⟨0xA000CC, [(65536, 16)], .rc, 0x0, 0xFFFFFFFF, []⟩  /- DRC_UE_RETRY_OK -/,
  ⟨0xA000D0, [(65536, 16)], .rc, 0x0, 0xFFFFFFFF, []⟩  /- DRC_POISON_READS -/,
  ⟨0xA000D4, [(65536, 16)], .rc, 0x0, 0xFFFFFFFF, []⟩  /- DRC_MERGE_REFUSED -/,
  ⟨0xA000D8, [(65536, 16)], .rc, 0x0, 0xFFFFFFFF, []⟩  /- DRC_RETIRED_HITS -/,
  ⟨0xA000DC, [(65536, 16)], .ro, 0x0, 0xC700FFFF, []⟩  /- DRC_SCRUB_STATUS -/,
  ⟨0xA04100, [(65536, 16)], .rw, 0x0, 0x3F, []⟩  /- DRC_CET_SEL -/]

/-- Rows of 16_ecc_ras.md: DRC_CET_STATE to DRC_CET_OVERFLOW. -/
def rasRows1 : List RegDef := [
  ⟨0xA04104, [(65536, 16)], .ro, 0x0, 0xE7000370, []⟩  /- DRC_CET_STATE -/,
  ⟨0xA04108, [(65536, 16)], .ro, 0x0, 0x1FFFFFFF, []⟩  /- DRC_CET_SLOT -/,
  ⟨0xA0410C, [(65536, 16)], .ro, 0x0, 0xFFFFFFFF, []⟩  /- DRC_CET_BITS -/,
  ⟨0xA04110, [(65536, 16)], .ro, 0x0, 0xFFFFFFFF, []⟩  /- DRC_CET_TIME -/,
  ⟨0xA04114, [(65536, 16)], .w1s, 0x0, 0x3, []⟩  /- DRC_CET_CTRL -/,
  ⟨0xA04118, [(65536, 16)], .rc, 0x0, 0xFFFFFFFF, []⟩  /- DRC_CET_OVERFLOW -/]

/-- Rows of 17_sram.md: SRM_CTRL to SRM_CNT. -/
def sramRows0 : List RegDef := [
  ⟨0xC00040, [], .rw, 0x3, 0x7, []⟩  /- SRM_CTRL -/,
  ⟨0xC00044, [], .rw, 0x1E, 0x3F, [⟨5, 0, 1, 60, 1⟩]⟩  /- SRM_BIST_CYCLE -/,
  ⟨0xC00048, [], .ro, 0x0, 0xC1FF00FF, []⟩  /- SRM_BIST_STATUS -/,
  ⟨0xC0004C, [], .ro, 0x0, 0xFFFFFFFF, []⟩  /- SRM_BIST_LAST -/,
  ⟨0xC00050, [], .rw, 0x3, 0xFF, []⟩  /- SRM_RET_MASK -/,
  ⟨0xC00054, [], .ro, 0x3, 0xFF, []⟩  /- SRM_RET_EFFECTIVE -/,
  ⟨0xC00058, [], .ro, 0xFFFF, 0xFFFFFFFF, []⟩  /- SRM_GROUP_STATE -/,
  ⟨0xC0005C, [], .ro, 0x0, 0x7F, []⟩  /- SRM_REMAP_USED -/,
  ⟨0xC01040, [(4, 368)], .rw, 0x0, 0xFFFFFFFF, []⟩  /- SRM_BANK_OWNER -/,
  ⟨0xC02040, [(4, 368)], .ro, 0x0, 0xE70001FF, []⟩  /- SRM_BANK_STATUS -/,
  ⟨0xC03040, [], .rw, 0x0, 0x1FF, []⟩  /- SRM_WIN_BANK -/,
  ⟨0xC03044, [], .rw, 0x0, 0x1FFFF, []⟩  /- SRM_WIN_ADDR -/,
  ⟨0xC03048, [], .rw, 0x0, 0xFFFFFFFF, []⟩  /- SRM_WIN_DATA_LO -/,
  ⟨0xC0304C, [], .rw, 0x0, 0xFFFFFFFF, []⟩  /- SRM_WIN_DATA_HI -/,
  ⟨0xC03050, [], .wo, 0x0, 0x7, [⟨2, 0, 1, 6, 1⟩]⟩  /- SRM_WIN_CMD -/,
  ⟨0xC03054, [], .ro, 0x0, 0x800000FF, []⟩  /- SRM_WIN_STATUS -/,
  ⟨0xC04040, [(8, 64)], .ro, 0x0, 0x81FF00FF, []⟩  /- SRM_REMAP_SRC -/,
  ⟨0xC04044, [(8, 64)], .ro, 0x0, 0x1FF00FF, []⟩  /- SRM_REMAP_DST -/,
  ⟨0xC05040, [(8, 10), (4, 2)], .ro, 0x0, 0xFFFFFFFF, []⟩  /- SRM_CNT -/]

/-- Rows of 18_regulation.md: MREG_CTRL to MREG_HOLD_MAX. -/
def mregRows0 : List RegDef := [
  ⟨0x900040, [], .rwl, 0x1, 0x1, []⟩  /- MREG_CTRL -/,
  ⟨0x900044, [], .rwl, 0x46, 0x7F, [⟨6, 0, 50, 90, 1⟩]⟩  /- MREG_EFFICIENCY -/,
  ⟨0x900048, [], .rwl, 0x50, 0x7F, [⟨6, 0, 50, 95, 1⟩]⟩  /- MREG_ADMIT_PCT -/,
  ⟨0x90004C, [], .ro, 0x0, 0xFFFF, []⟩  /- MREG_DELIVERABLE -/,
  ⟨0x900050, [], .ro, 0x0, 0xFFFF, []⟩  /- MREG_D_FULL -/,
  ⟨0x900054, [], .ro, 0x0, 0xFFFF, []⟩  /- MREG_D_ADMIT -/,
  ⟨0x900058, [], .ro, 0x10000, 0x1FFFF, []⟩  /- MREG_SCALE -/,
  ⟨0x90005C, [], .ro, 0x0, 0xFFFF001F, []⟩  /- MREG_CHANNELS -/,
  ⟨0x900060, [], .rc, 0x0, 0xFFFFFFFF, []⟩  /- MREG_RT_OVERRUN -/,
  ⟨0x901040, [], .rw, 0x8, 0x7FF, [⟨10, 0, 1, 1024, 1⟩]⟩  /- MREG_WINDOW -/,
  ⟨0x901044, [], .rw, 0x2, 0xF, [⟨3, 0, 1, 8, 1⟩]⟩  /- MREG_CHAN_FACTOR -/,
  ⟨0x901080, [(4, 12)], .rw, 0x0, 0xFFFFFF, []⟩  /- MREG_BUDGET -/,
  ⟨0x9010C0, [], .w1s, 0x0, 0x1, []⟩  /- MREG_COMMIT -/,
  ⟨0x9010C4, [], .ro, 0x0, 0xE000FFFF, []⟩  /- MREG_COMMIT_STATUS -/,
  ⟨0x902040, [(16, 12)], .ro, 0x0, 0xFFFFFF, []⟩  /- MREG_LIMIT_XBAR -/,
  ⟨0x902044, [(16, 12)], .ro, 0x0, 0xFFFFFF, []⟩  /- MREG_LIMIT_CHAN -/,
  ⟨0x902048, [(16, 12)], .ro, 0x0, 0xFFFFFF, []⟩  /- MREG_COUNT -/,
  ⟨0x90204C, [(16, 12)], .ro, 0x0, 0x8000FFFF, []⟩  /- MREG_STATE -/,
  ⟨0x903040, [(32, 12)], .ro, 0x0, 0xFFFFFFFF, []⟩  /- MREG_BYTES_LO -/,
  ⟨0x903044, [(32, 12)], .ro, 0x0, 0xFFFFFFFF, []⟩  /- MREG_BYTES_HI -/,
  ⟨0x903048, [(32, 12)], .ro, 0x0, 0xFFFFFFFF, []⟩  /- MREG_DEMOTED_WIN_LO -/,
  ⟨0x90304C, [(32, 12)], .ro, 0x0, 0xFFFFFFFF, []⟩  /- MREG_DEMOTED_WIN_HI -/,
  ⟨0x903050, [(32, 12)], .ro, 0x0, 0xFFFFFFFF, []⟩  /- MREG_HELD_LO -/,
  ⟨0x903054, [(32, 12)], .ro, 0x0, 0xFFFFFFFF, []⟩  /- MREG_HELD_HI -/,
  ⟨0x903058, [(32, 12)], .rc, 0x0, 0xFFFFFFFF, []⟩  /- MREG_HOLD_MAX -/]

/-- Rows of 19_egress_policing.md: EGR_CTRL to EGR_SWITCH_LEAD. -/
def egrRows0 : List RegDef := [
  ⟨0x300040, [(65536, 2)], .rwl, 0x1, 0x3, []⟩  /- EGR_CTRL -/,
  ⟨0x300044, [(65536, 2)], .rw, 0x10000, 0xFFFFFF, [⟨23, 0, 9600, 4194304, 1⟩]⟩  /- EGR_SESS_QMAX -/,
  ⟨0x300048, [(65536, 2)], .ro, 0x0, 0x7FFFFF, []⟩  /- EGR_QMEM_LEVEL -/,
  ⟨0x30004C, [(65536, 2)], .ro, 0x0, 0xFFFFFFFF, []⟩  /- EGR_WHEEL_STATUS -/,
  ⟨0x300050, [(65536, 2)], .ro, 0x0, 0xFFFF, []⟩  /- EGR_PARKED -/,
  ⟨0x300054, [(65536, 2)], .rc, 0x0, 0xFFFFFFFF, []⟩  /- EGR_HOLDS -/,
  ⟨0x301040, [(65536, 2)], .rw, 0x0, 0xFFF, []⟩  /- EGR_SESS_SEL -/,
  ⟨0x301044, [(65536, 2)], .rw, 0x76533, 0x77777, []⟩  /- EGR_SESS_CLASS -/,
  ⟨0x301048, [(65536, 2)], .rw, 0x900040, 0xFFFFFFFF, [⟨25, 16, 1, 1023, 1⟩, ⟨15, 0, 1, 65535, 1⟩]⟩  /- EGR_SESS_SHAPE -/,
  ⟨0x30104C, [(65536, 2)], .ro, 0x0, 0xD37FFFFF, []⟩  /- EGR_SESS_STATE -/,
  ⟨0x301050, [(65536, 2)], .ro, 0x0, 0xFFFFFFFF, []⟩  /- EGR_SESS_NEXT -/,
  ⟨0x302040, [(65536, 2), (32, 4), (4, 8)], .rw, 0x4000000, 0xFFF7FFFF, [⟨30, 20, 1, 2047, 1⟩]⟩  /- EGR_CSHP -/,
  ⟨0x3020C0, [(65536, 2), (32, 4), (4, 8)], .ro, 0x0, 0xFFFFFFFF, []⟩  /- EGR_CSHP_TOKENS -/,
  ⟨0x303040, [(65536, 2)], .rw, 0x0, 0x3FFFFFFF, []⟩  /- EGR_GCL_ADMIN_BASE_NS -/,
  ⟨0x303044, [(65536, 2)], .rw, 0x0, 0xFFFFFFFF, []⟩  /- EGR_GCL_ADMIN_BASE_SEC_LO -/,
  ⟨0x303048, [(65536, 2)], .rw, 0x0, 0xFFFF, []⟩  /- EGR_GCL_ADMIN_BASE_SEC_HI -/,
  ⟨0x30304C, [(65536, 2)], .rw, 0x0, 0xFF, []⟩  /- EGR_GCL_ADMIN_COUNT -/,
  ⟨0x303050, [(65536, 2)], .w1s, 0x0, 0x1, []⟩  /- EGR_GCL_COMMIT -/,
  ⟨0x303054, [(65536, 2)], .ro, 0x0, 0xF000FFFF, []⟩  /- EGR_GCL_STATUS -/,
  ⟨0x303058, [(65536, 2)], .ro, 0x0, 0xFFFFFFFF, []⟩  /- EGR_GCL_SWITCH_NS -/,
  ⟨0x30305C, [(65536, 2)], .ro, 0x0, 0xFFFFFFFF, []⟩  /- EGR_GCL_SWITCH_SEC_LO -/,
  ⟨0x303060, [(65536, 2)], .ro, 0x0, 0xFFFFFFFF, []⟩  /- EGR_GCL_SWITCH_SEC_HI -/,
  ⟨0x303064, [(65536, 2)], .ro, 0x0, 0x3FFFFFFF, []⟩  /- EGR_GCL_OPER_CYCLE -/,
  ⟨0x303068, [(65536, 2)], .ro, 0x0, 0xFF7F, []⟩  /- EGR_GCL_OPER_ENTRY -/,
  ⟨0x30306C, [(65536, 2)], .rw, 0xA, 0xFFFF, [⟨15, 0, 1, 10000, 1⟩]⟩  /- EGR_SWITCH_LEAD -/]

/-- Rows of 19_egress_policing.md: EGR_GCL_OPER_BASE_NS to ING_SESS_TC. -/
def egrRows1 : List RegDef := [
  ⟨0x303070, [(65536, 2)], .ro, 0x0, 0x3FFFFFFF, []⟩  /- EGR_GCL_OPER_BASE_NS -/,
  ⟨0x303074, [(65536, 2)], .ro, 0x0, 0xFFFFFFFF, []⟩  /- EGR_GCL_OPER_BASE_SEC_LO -/,
  ⟨0x303078, [(65536, 2)], .ro, 0x0, 0xFFFFFFFF, []⟩  /- EGR_GCL_OPER_BASE_SEC_HI -/,
  ⟨0x304040, [(65536, 2), (8, 128)], .rw, 0x0, 0xFF, []⟩  /- EGR_GCL_ADMIN_MASK -/,
  ⟨0x304044, [(65536, 2), (8, 128)], .rw, 0x0, 0x3FFFFFFF, []⟩  /- EGR_GCL_ADMIN_DUR -/,
  ⟨0x305040, [(65536, 2), (8, 128)], .ro, 0x0, 0xFFFFFFFF, []⟩  /- EGR_GCL_OPER_MASK -/,
  ⟨0x305044, [(65536, 2), (8, 128)], .ro, 0x0, 0xFFFFFFFF, []⟩  /- EGR_GCL_OPER_DUR -/,
  ⟨0x306040, [(65536, 2), (64, 4), (8, 8)], .ro, 0x0, 0xFFFFFFFF, []⟩  /- EGR_TX_BYTES_LO -/,
  ⟨0x306044, [(65536, 2), (64, 4), (8, 8)], .ro, 0x0, 0xFFFFFFFF, []⟩  /- EGR_TX_BYTES_HI -/,
  ⟨0x307040, [(65536, 2), (32, 4), (4, 8)], .rc, 0x0, 0xFFFFFFFF, []⟩  /- EGR_GUARD_WAITS -/,
  ⟨0x3070C0, [(65536, 2), (4, 4)], .rc, 0x0, 0xFFFFFFFF, []⟩  /- EGR_OVERRUNS -/,
  ⟨0x3070D0, [(65536, 2), (4, 4)], .ro, 0x0, 0xFF, []⟩  /- EGR_PFC_PAUSED -/,
  ⟨0x320040, [], .rwl, 0x1, 0x1, []⟩  /- ING_CTRL -/,
  ⟨0x320044, [], .rw, 0xA, 0xFFFF, [⟨15, 0, 1, 65535, 1⟩]⟩  /- ING_RED_MIN -/,
  ⟨0x320048, [], .rw, 0x14, 0xFFFF, [⟨15, 0, 1, 65535, 1⟩]⟩  /- ING_YELLOW_AGE -/,
  ⟨0x321040, [], .rw, 0x0, 0x3F, []⟩  /- ING_PROF_SEL -/,
  ⟨0x321044, [], .rw, 0x61A8, 0x7FFFF, []⟩  /- ING_PROF_CIR -/,
  ⟨0x321048, [], .rw, 0x40000, 0xFFFFFF, []⟩  /- ING_PROF_CBS -/,
  ⟨0x32104C, [], .rw, 0xC350, 0x7FFFF, []⟩  /- ING_PROF_PIR -/,
  ⟨0x321050, [], .rw, 0x80000, 0xFFFFFF, []⟩  /- ING_PROF_PBS -/,
  ⟨0x321054, [], .wo, 0x0, 0x80000003, [⟨1, 0, 1, 2, 1⟩]⟩  /- ING_PROF_CMD -/,
  ⟨0x321058, [], .ro, 0x0, 0x800000FF, []⟩  /- ING_PROF_STATUS -/,
  ⟨0x322040, [], .rw, 0x0, 0xFFF, []⟩  /- ING_SESS_SEL -/,
  ⟨0x322044, [], .rw, 0x0, 0xC000003F, []⟩  /- ING_SESS_CFG -/,
  ⟨0x322048, [], .ro, 0x0, 0xFFFFFFFF, []⟩  /- ING_SESS_TC -/]

/-- Rows of 19_egress_policing.md: ING_SESS_TP to ING_CNT. -/
def egrRows2 : List RegDef := [
  ⟨0x32204C, [], .ro, 0x0, 0xFFFFFFFF, []⟩  /- ING_SESS_TP -/,
  ⟨0x322050, [], .rc, 0x0, 0xFFFFFFFF, []⟩  /- ING_SESS_RED -/,
  ⟨0x323040, [(8, 5), (4, 2)], .ro, 0x0, 0xFFFFFFFF, []⟩  /- ING_CNT -/]

/-- Rows of 20_power_states.md: PWR_REQ to PWR_CNT. -/
def pwrRows0 : List RegDef := [
  ⟨0x020040, [], .rw, 0x0, 0x7, [⟨2, 0, 0, 4, 1⟩]⟩  /- PWR_REQ -/,
  ⟨0x020044, [], .ro, 0x0, 0xE7070007, []⟩  /- PWR_STATE -/,
  ⟨0x020048, [], .ro, 0x0, 0x800000FF, []⟩  /- PWR_RESULT -/,
  ⟨0x02004C, [], .rw, 0x0, 0x80000000, []⟩  /- PWR_AUTO -/,
  ⟨0x020050, [], .rw, 0xA, 0xFFFFFFFF, [⟨31, 0, 1, 86400, 1⟩]⟩  /- PWR_IDLE_DROWSY -/,
  ⟨0x020054, [], .rw, 0x3C, 0xFFFFFFFF, [⟨31, 0, 1, 86400, 1⟩]⟩  /- PWR_IDLE_DORMANT -/,
  ⟨0x020058, [], .rw, 0x0, 0x702, [⟨10, 8, 0, 2, 1⟩]⟩  /- PWR_WAKE_CFG -/,
  ⟨0x02005C, [], .rw, 0x0, 0xFFFFFFFF, []⟩  /- PWR_ALARM_SEC_LO -/,
  ⟨0x020060, [], .rw, 0x0, 0xFFFF, []⟩  /- PWR_ALARM_SEC_HI -/,
  ⟨0x020064, [], .rw, 0x64, 0xFFFF, [⟨15, 0, 1, 10000, 1⟩]⟩  /- PWR_ENTRY_LIMIT -/,
  ⟨0x020068, [], .ro, 0x0, 0xF, []⟩  /- PWR_WAKE_SRC -/,
  ⟨0x02006C, [], .ro, 0x0, 0xFFFFFFFF, []⟩  /- PWR_EXIT_TIME -/,
  ⟨0x020070, [], .rw, 0x40, 0xFFFF, []⟩  /- PWR_CLK_IDLE -/,
  ⟨0x021040, [(4, 37)], .rw, 0x0, 0xFFFFFFFF, []⟩  /- PWR_VOTE -/,
  ⟨0x021100, [(4, 37)], .ro, 0x0, 0xF80000FF, []⟩  /- PWR_DOM_STATE -/,
  ⟨0x022040, [(4, 37)], .rw, 0x0, 0xFFFFF, [⟨19, 0, 0, 1000000, 1⟩]⟩  /- PWR_HYST -/,
  ⟨0x023040, [(4, 8)], .rw, 0x0, 0xFFFFFFFF, []⟩  /- PWR_STAND_VOTE -/,
  ⟨0x023080, [(8, 10), (4, 2)], .ro, 0x0, 0xFFFFFFFF, []⟩  /- PWR_CNT -/]

/-- Rows of 21_fleet_operations.md: MGT_PEER_CFG to MGT_PEER_STATUS. -/
def fleetRows0 : List RegDef := [
  ⟨0x007040, [(32, 8)], .rw, 0x0, 0xFFFF0FFF, []⟩  /- MGT_PEER_CFG -/,
  ⟨0x007044, [(32, 8), (4, 4)], .rw, 0x0, 0xFFFFFFFF, []⟩  /- MGT_PEER_IP -/,
  ⟨0x007054, [(32, 8)], .rw, 0x0, 0xFFFF, []⟩  /- MGT_PEER_PORT -/,
  ⟨0x007058, [(32, 8)], .ro, 0x0, 0xFFF3001F, []⟩  /- MGT_PEER_STATUS -/,
  ⟨0x00705C, [(32, 8)], .ro, 0x0, 0x0, []⟩  /- reserved word of a peer entry -/]

/-- Rows of 22_electrical.md: GLB_TEMP to GLB_TEMP_MAX. -/
def thermalRows0 : List RegDef := [
  ⟨0x001040, [], .ro, 0x0, 0x8000FFFF, []⟩  /- GLB_TEMP -/,
  ⟨0x001044, [], .ro, 0x0, 0x80000F33, []⟩  /- GLB_THROTTLE_STATUS -/,
  ⟨0x001048, [(4, 10)], .ro, 0x0, 0x8000FFFF, []⟩  /- GLB_TEMP_SENSOR -/,
  ⟨0x001070, [], .rc, 0x0, 0xFFFFFFFF, []⟩  /- GLB_TEMP_MAX -/]

/-- The rows of the blocks in whose part of the address space an address lies (R133), outside the common page header. -/
def rowsAt (a : Nat) : List RegDef :=
  if a < 0x010000 then bootRows0 ++ regsRows0 ++ fleetRows0 ++ thermalRows0
  else if a < 0x020000 then regsRows0 ++ rasRows0
  else if a < 0x100000 then intakeRows0 ++ intakeRows1 ++ pwrRows0
  else if a < 0x200000 then portsRows0 ++ portsRows1 ++ portsRows2 ++ portsRows3
  else if a < 0x300000 then kctRows0 ++ kctRows1 ++ cohRows0
  else if a < 0x400000 then egrRows0 ++ egrRows1 ++ egrRows2
  else if a < 0x500000 then pipeRows0 ++ pipeRows1
  else if a < 0x600000 then cohRows0
  else if a < 0x700000 then tierRows0 ++ tierRows1
  else if a < 0x800000 then cmpRows0
  else if a < 0x900000 then cryRows0
  else if a < 0xA00000 then mregRows0
  else if a < 0xC00000 then drcRows0 ++ bringupRows0 ++ rasRows0 ++ rasRows1
  else sramRows0

end Sys2Proof.Machine
end

