-- ==== Sys2Proof/Machine/Tab.lean ====
section
/-! DEFINITION. Sparse tables: a table lists, in strictly rising order of key, the entries that differ from what an
unlisted key reads as (`d`), so that equal tables are equal data. Registers, memory bytes, contexts, grants and the
other large arrays of the device are held in this one form. -/

namespace Sys2Proof.Machine

/-- A sparse table over `α`. -/
abbrev Tab (α : Type) := List (Nat × α)

/-- What the table `t` holds at key `a`, where an unlisted key reads as `d` of it. -/
def tabGet {α : Type} (d : Nat → α) (t : Tab α) (a : Nat) : α :=
  match t with
  | [] => d a
  | (k, v) :: r => if a = k then v else tabGet d r a

/-- The table without key `a`. -/
def tabDel {α : Type} (t : Tab α) (a : Nat) : Tab α := t.filter fun e => e.1 != a

/-- `v` at key `a` put before the first key above `a`, in a table that does not list `a`. -/
def tabIns {α : Type} (a : Nat) (v : α) (t : Tab α) : Tab α :=
  match t with
  | [] => [(a, v)]
  | (k, w) :: r => if a < k then (a, v) :: (k, w) :: r else (k, w) :: tabIns a v r

/-- The table `t` with key `a` holding `v`; writing what an unlisted key reads as removes the entry. -/
def tabSet {α : Type} [DecidableEq α] (d : Nat → α) (t : Tab α) (a : Nat) (v : α) : Tab α :=
  if v = d a then tabDel t a else tabIns a v (tabDel t a)

/-- Every key of `t` is above `b`, keys rise strictly, and no entry equals what its key reads as unlisted. -/
def tabWfFrom {α : Type} [DecidableEq α] (d : Nat → α) (b : Option Nat) (t : Tab α) : Bool :=
  match t with
  | [] => true
  | (k, v) :: r =>
    (match b with | none => true | some x => decide (x < k)) && decide (v ≠ d k) && tabWfFrom d (some k) r

/-- The canonical form of a table. -/
def tabWf {α : Type} [DecidableEq α] (d : Nat → α) (t : Tab α) : Bool := tabWfFrom d none t

/-- Replace every entry of the table by `f` of its key and value (and drop those that come out as unlisted). -/
def tabMap {α : Type} [DecidableEq α] (d : Nat → α) (f : Nat → α → α) (t : Tab α) : Tab α :=
  match t with
  | [] => []
  | (k, v) :: r => if f k v = d k then tabDel (tabMap d f r) k else (k, f k v) :: tabMap d f r

end Sys2Proof.Machine
end

