-- ==== Sys2Proof/Machine/State.lean ====
section
/-! DEFINITION. The state of the device as plain data, chapter by chapter: what the register maps do not hold in a
register of their own. Registers live in one keyed store (`State.regs`); a register that only shows a piece of this
state is computed when it is read. -/

namespace Sys2Proof.Machine

open Sys2Proof

/-- Why a step can stop. The block has no exception entry: every outcome that the spec gives a command is a next
state, and no command of the table ends in a fault. -/
inductive Fault where
  /-- Raised by nothing: safe. Kept so that the type names a reason for a stop that the spec would call a halt. -/
  | halted
  deriving DecidableEq, Repr

/-- Why a command is refused. -/
inductive Refusal where
  /-- The model gives the command no meaning yet: safe, since nothing is proved of it. -/
  | notModelled (mnemonic : String)
  deriving DecidableEq, Repr

/-! ### Package, link, clocks (02) -/

/-- A PLL (R42, R43): off, locking at its first or second enable, locked, or failed. -/
inductive PllState where
  | off | locking (again : Bool) | locked | failed
  deriving DecidableEq, Repr

/-- The logic die's package-level state: power, straps, PLLs, TAP, link and wires. -/
structure Logic where
  /-- Released from power-on reset (R100). -/
  on : Bool := false
  /-- Held in reset by SYS_RST_N (R103). -/
  sysRst : Bool := false
  bootSel : Nat := 0
  shelfId : Nat := 0
  plls : Tab PllState := []
  /-- TRST_N is low, as its pull-down holds it until something drives it (R46). -/
  trst : Bool := true
  /-- The TAP instruction loaded; none in Test-Logic-Reset (R46). -/
  tapInstr : Option TapInstr := none
  /-- The TAP instruction that acts on the pins (R47). -/
  tapActive : TapInstr := .idcode
  /-- THERMTRIP_N asserted (R34). -/
  thermTrip : Bool := false
  /-- The intake link has carried a valid frame since it was last down (R23 to R25). -/
  linkUp : Bool := false
  /-- A frame that failed its CRC awaits its resend, per direction (R23). -/
  resendLogic : Bool := false
  resendIntake : Bool := false
  /-- The logic die has lost the link (R24). -/
  linkLost : Bool := false
  /-- The fault wire to the intake die (R26). -/
  faultWire : Bool := false
  /-- The intake straps have reached GLB_STRAP over the link. -/
  strapsSeen : Bool := false
  deriving DecidableEq, Repr

/-! ### Intake (03) -/

/-- INT_STATUS.PHASE (R98). -/
inductive Phase where
  | qualify | seqWait | softStart | pgDelay | running | retryCool | retryDelay | latchedOff | lockout | off | tripHold
  deriving DecidableEq, Repr

/-- A phase that only its own exits end: latch-off (R80), the lockout (R82), Off (R97) and the hold of a thermal trip (R35). -/
def Phase.latched : Phase → Bool
  | .latchedOff | .lockout | .off | .tripHold => true
  | _ => false

/-- The retry timer runs (R79). -/
def Phase.retrying : Phase → Bool
  | .retryCool | .retryDelay => true
  | _ => false

/-- What asserted FEED_WARN_N, with the cause codes of R129. -/
inductive WarnCause where
  | none | early | trip | removal
  deriving DecidableEq, Repr

/-- How many evaluation ticks in a row each condition has held (R56 to R62, R70, R78, R82, R83, R87, R91). -/
structure IntakeCounts where
  qualA : Nat := 0
  qualB : Nat := 0
  swA : Nat := 0
  swB : Nat := 0
  ovA : Nat := 0
  ovB : Nat := 0
  warn : Nat := 0
  recov : Nat := 0
  rst : Nat := 0
  voutRst : Nat := 0
  /-- Feed A, feed B, current and FET_TEMP of path A, then those of path B (R57). -/
  plaus : List Nat := List.replicate 8 0
  /-- Feed A, feed B, VOUT, current and FET_TEMP (R58). -/
  disagree : List Nat := List.replicate 5 0
  hot : Nat := 0
  short : Nat := 0
  openFet : Nat := 0
  pg : Nat := 0
  ftimer : Nat := 0
  gateFull : Nat := 0
  gateOff : Nat := 0
  /-- SEQ_IN asserted, and not (R94). -/
  seqHigh : Nat := 0
  seqLow : Nat := 0
  /-- The running portion of the retry timer (R79). -/
  retry : Nat := 0
  /-- Ticks since VOUT first fell below 10 % of the feed after the gate command (R82). -/
  belowTen : Option Nat := none
  deriving DecidableEq, Repr

/-- A management write that goes over the intake link (R54): its register and value, and whether the intake die has acted on it,
so that only its acknowledgement is awaited. -/
structure LinkWrite where
  addr : Nat
  value : Word
  done : Bool := false
  deriving DecidableEq, Repr

/-- The intake die (R48 to R99). -/
structure Intake where
  vstby : Bool := false
  /-- Evaluation ticks (microseconds) since VSTBY rose. -/
  ticks : Nat := 0
  strapped : Bool := false
  seqFirst : Bool := false
  feedMode : Nat := 0
  /-- The configuration in force, keyed by register address (R51, R52). -/
  cfg : Tab Word := []
  /-- The 32 profile fuse words (R49, R50). -/
  profile : Tab Word := []
  /-- The profile words that have been programmed, whatever their value. -/
  burned : BitVec 32 := 0
  profileErr : Bool := false
  profilePairs : Nat := 0
  burning : Option (Nat × Word) := none
  /-- The tick at which the unlock window closes (R50). -/
  unlockUntil : Nat := 0
  /-- The link write that awaits its acknowledgement (R54). -/
  linkWrite : Option LinkWrite := none
  /-- Events held while the logic die is unpowered, oldest first: microseconds and code (R55). -/
  hist : List (Nat × BitVec 16) := []
  validA : Bool := false
  validB : Bool := false
  feed : Option Feed := none
  /-- A switch has been decided to this feed (R61 to R65). -/
  switchTo : Option Feed := none
  /-- The break of a switch is running (R63). -/
  breaking : Bool := false
  isoA : Bool := false
  isoB : Bool := false
  enhancing : Bool := false
  passFet : Bool := false
  /-- The last 8 samples of each path, newest first (R56). -/
  pathA : List Reading := []
  pathB : List Reading := []
  /-- FET_TEMP of each path in 0.1 degrees (R56). -/
  tFetA : Int := 0
  tFetB : Int := 0
  cnt : IntakeCounts := {}
  inLimit : Bool := false
  /-- The current-limit setpoint in mA (R67). -/
  iLimit : Nat := 0
  /-- The curve accumulator in 10^-12 (R75) and the I²t accumulator in 10^-12 A²s (R76). -/
  curveAcc : Nat := 0
  i2tAcc : Nat := 0
  phase : Phase := .qualify
  /-- A trip without AUTO_RETRY keeps the gate off until a reinsertion or a clear. -/
  held : Bool := false
  pgOut : Bool := false
  feedWarn : Bool := false
  warnCause : WarnCause := .none
  faults : Word := 0
  faultCount : Nat := 0
  /-- The levels of PRESENT_N[0] and PRESENT_N[1]; low is present. -/
  pin0 : Bool := false
  pin1 : Bool := false
  inserted : Bool := false
  needSeq : Bool := false
  seqIn : Bool := false
  seqTimedOut : Bool := false
  seqOut : Bool := false
  offPending : Bool := false
  braceSent : Bool := false
  /-- Faults of its own that assert FAULT_N without a bit of INT_FAULT: R25, R34 and R101. -/
  linkLost : Bool := false
  thermTrip : Bool := false
  vrmFault : Bool := false
  /-- Energy drawn, in 10^-12 J. -/
  energy : Nat := 0
  deriving DecidableEq, Repr

/-! ### Start-up (04) -/

/-- MGT_BOOT_STATUS.STAGE (R105, R131). -/
inductive BootStage where
  | reset | start | imageRead | imageVerify | apply | march | discover | train | portsUp | ready
  | halted | testHold | limited | warmQuiesce
  deriving DecidableEq, Repr

/-- A flash window operation (R110): 0 read, 1 program, 2 erase. -/
structure FlashOp where
  op : Nat
  addr : Nat
  deriving DecidableEq, Repr

/-- What brace entry records for the last-gasp record (R129). -/
structure BraceNote where
  cause : Nat := 0
  status : Word := 0
  faults : Word := 0
  feedA : Word := 0
  feedB : Word := 0
  vout : Word := 0
  cur : Word := 0
  inFlight : Nat := 0
  deriving DecidableEq, Repr

/-- The boot sequencer, the boot store and the reset machinery (R100 to R131). -/
structure Boot where
  stage : BootStage := .reset
  slotB : Bool := false
  warm : Bool := false
  degraded : Bool := false
  /-- The other slot has already been tried and rejected. -/
  triedOther : Bool := false
  errCode : Nat := 0
  errStage : Nat := 0
  errSlot : Nat := 0
  errDetail : Nat := 0
  imgVer : Word := 0
  limitedOk : Bool := false
  /-- A stage has failed for good: the sequencer halts or enters Limited (R117, R121). -/
  failed : Bool := false
  /-- Discovery has run and the population holds; power good of its PMICs is awaited (R561, R564). -/
  discovered : Bool := false
  /-- Population or settings differ across the warm reset (R125), and CONTINUE has asked for a retrain. -/
  mismatch : Bool := false
  retrain : Bool := false
  march : Nat := 0
  /-- Next section, next record and byte offset of the section of the apply stage (R115). -/
  section_ : Nat := 0
  record : Nat := 0
  offset : Nat := 0
  polling : Bool := false
  /-- The training table and the DRAM channel registers of the image whose training is saved (R125). -/
  savedTraining : Option (List (List Byte)) := none
  savedDrc : Tab Word := []
  /-- The stage that Limited resumes at (R122). -/
  failedStage : BootStage := .reset
  resetCause : Word := 0
  /-- The cause that the next release from power-on reset records (R104). -/
  nextCause : Word := 1
  /-- `now` when power-on reset released, and the MGT_BOOT_TIME of Ready in microseconds (R106). -/
  porAt : Nat := 0
  bootTime : Nat := 0
  lgNext : Nat := 0
  lgReady : Bool := false
  lgSeq : Word := 0
  lgWriting : Bool := false
  /-- Brace is on (R88); its end waits for the last-gasp write (R91). -/
  brace : Bool := false
  braceEnd : Bool := false
  note : BraceNote := {}
  /-- The ports are enabled: stage 8 has been reached, or Limited (R105, R121). -/
  portsOn : Bool := false
  /-- Warm reset: draining (R124 steps 1 and 2). -/
  draining : Bool := false
  autoWarm : Bool := false
  /-- Warm-reset descriptor sweep: next region and page (R126). -/
  sweeping : Bool := false
  sweepRegion : Nat := 0
  sweepPage : Nat := 0
  /-- The boot store's lowest 16 MiB, erased bytes reading 0xFF (R108). -/
  flash : Tab Byte := []
  flashOp : Option FlashOp := none
  flashErr : Bool := false
  keyHash0 : BitVec 384 := 0
  keyHash1 : BitVec 384 := 0
  revoked0 : Bool := false
  revoked1 : Bool := false
  rollback : Nat := 0
  serial : Word := 0
  deriving DecidableEq, Repr

/-! ### Registers, events, operations (05) -/

/-- One entry of the event log (R156). -/
structure LogEntry where
  code : BitVec 16
  inst : Nat
  sev : Nat
  forced : Bool
  hist : Bool
  tbSet : Bool
  seq : Word
  time : DWord
  detail : DWord
  detail2 : Word
  deriving DecidableEq, Repr

/-- The event log and its delivery (R156 to R160). -/
structure EventLog where
  /-- The entries held, oldest first, at most 1,024 (R157). -/
  ring : List LogEntry := []
  wseq : Word := 0
  /-- Per subscription, the sequence number of the next entry due to it (R158). -/
  due : Tab Word := []
  deriving DecidableEq, Repr

/-- The states of an operation slot (R165). -/
inductive OpState where
  | idle | queued | running | suspending | suspended | cancelling | done | cancelled | failed
  deriving DecidableEq, Repr

/-- One operation slot (R165): its registers, who is notified, its place in the queue and what its engine keeps. -/
structure OpSlot where
  code : Nat := 0
  arg0 : Word := 0
  arg1 : Word := 0
  arg2 : Word := 0
  arg3 : Word := 0
  state : OpState := .idle
  rejected : Bool := false
  progress : Nat := 0
  total : Nat := 0
  result : Nat := 0
  detail : Nat := 0
  ownerValid : Bool := false
  ownerClient : Nat := 0
  ownerEpoch : Nat := 0
  /-- The session and message ID of a Start with NOTIFY (R173). -/
  notify : Option (Nat × BitVec 24) := none
  /-- The order in which it first left Idle or a terminal state (R163). -/
  order : Nat := 0
  /-- The next page, bank or line of the operation's engine, and what it has counted as bad. -/
  cursor : Nat := 0
  bad : Nat := 0
  /-- Pages whose data was uncorrectable. -/
  ue : Nat := 0
  /-- The operation has been Running. -/
  begun : Bool := false
  /-- The new run of a growing RESIZE_REGION (R752). -/
  run : Option Nat := none
  /-- EvacData outstanding: page, message ID, and whether the page has been resent as FORMAT 0; and pages to be sent again
  (R757, R759). -/
  sent : List (Nat × BitVec 24 × Bool) := []
  again : List (Nat × Bool) := []
  deriving DecidableEq, Repr

/-- A management message being executed or waiting (R147): who sent it, whether it writes, and its records. -/
structure MgmtJob where
  client : Nat
  epoch : Nat
  msgId : BitVec 24
  write : Bool
  stopOnError : Bool
  /-- Address and value of each record not yet executed (a read's value is its count). -/
  todo : List (Nat × Nat)
  /-- Status and values of each record executed. -/
  answers : List (Nat × List Word)
  failed : Bool
  /-- The latest record is a write that the intake die has not answered (R54). -/
  waitLink : Bool := false
  deriving DecidableEq, Repr

/-- The management plane (R132 to R173). -/
structure Mgmt where
  jobs : List MgmtJob := []
  /-- The order number of the next Start (R163). -/
  nextOrder : Nat := 0
  /-- The status of the latest register write outside a message (R135). -/
  lastStatus : Nat := 0
  /-- High words latched by a read of a pair's low word, keyed by the high word's address (R136). -/
  latches : Tab (Option Word) := []
  /-- Registers in parity error (R143, R144). -/
  parityBad : List Nat := []
  slots : Tab OpSlot := []
  deriving DecidableEq, Repr

/-! ### Ethernet ports and the time base (06) -/

/-- A gateway entry (R193). -/
structure Gateway where
  resolved : Bool := false
  mac : BitVec 48 := 0
  /-- A request has been sent and not answered. -/
  asked : Bool := false
  failures : Nat := 0
  deriving DecidableEq, Repr

/-- A MACsec SA (R202 to R205): for transmit the next PN, for receive the highest PN accepted. -/
structure MsSa where
  valid : Bool := false
  key : BitVec 256 := 0
  ssci : Word := 0
  salt : BitVec 96 := 0
  pn : Nat := 0
  deriving DecidableEq, Repr

/-- One MAC. -/
structure Mac where
  linkUp : Bool := false
  gw4 : Gateway := {}
  gw6 : Gateway := {}
  /-- Classes paused by received PFC (R189). -/
  paused : BitVec 8 := 0
  /-- Classes for which XOFF has been sent and not yet XON (R190). -/
  xoff : BitVec 8 := 0
  /-- The echo replies of the current second, and the second (R195). -/
  echoes : Nat := 0
  echoSec : Nat := 0
  pnExhausted : Bool := false
  deriving DecidableEq, Repr

/-- An accepted frame waiting for its handling: KCT frames lie in the receive buffer (R183, R190). -/
structure RxEntry where
  mac : Nat
  cls : Nat
  frame : EthFrame
  /-- The time base when it was received, in nanoseconds. -/
  at_ : Nat := 0
  deriving DecidableEq, Repr

/-- The time base of R777 and the PTP and PPS state beside it (R206 to R212). -/
structure TimeBase where
  sec : Nat := 0
  ns : Nat := 0
  /-- Fraction of a nanosecond in 10^-9. -/
  frac : Nat := 0
  /-- Rate adjustment in ppb. -/
  adj : Int := 0
  synced : Bool := false
  tbSet : Bool := false
  /-- Consecutive offsets within LOCK_NS. -/
  good : Nat := 0
  parent : Option Announce := none
  parentMac : Nat := 0
  /-- The latest two-step Sync waiting for its Follow_Up: sequence and receive time. -/
  syncWait : Option (Nat × Int) := none
  /-- Origin to receive difference of the latest Sync, and the sent Delay_Req: sequence and time. -/
  t21 : Int := 0
  delayReq : Option (Nat × Int) := none
  delaySeq : Nat := 0
  logInterval : Int := 0
  offset : Int := 0
  delay : Int := 0
  ppsOut : Bool := false
  ppsLocked : Bool := false
  ppsInSec : Nat := 0
  ppsInNs : Nat := 0
  deriving DecidableEq, Repr

/-- The two ports (R175 to R219). -/
structure Ports where
  macs : Tab Mac := []
  /-- SA `16 * mac + s`, s 0 to 3 transmit and 4 to 7 receive (R203). -/
  sas : Tab MsSa := []
  /-- Accepted frames in arrival order. -/
  rx : List RxEntry := []
  /-- A wake frame has matched in this Dormant period (R216). -/
  wakeSeen : Bool := false
  deriving DecidableEq, Repr

/-! ### KCT transport (07, 08) -/

/-- A session key slot of a client context (R263). -/
structure KctKey where
  valid : Bool := false
  key : BitVec 256 := 0
  salt : Word := 0
  used : BitVec 16 := 0
  /-- Segments counted under R284: the device's own and the other side's. -/
  sent : Nat := 0
  received : Nat := 0
  deriving DecidableEq, Repr

/-- A received sequenced segment held until its message is delivered (R287, R289): extended sequence, header and
plaintext. -/
structure RxSeg where
  ext : Nat
  hdr : BaseHeader
  plain : List Byte
  /-- Delivered or taken on arrival: kept only until every earlier sequence has come. -/
  done : Bool := false
  deriving DecidableEq, Repr

/-- Where a segment of no open session goes: the MAC it leaves on, and the addresses and UDP port. -/
structure Dest where
  mac : Nat
  da : BitVec 48
  ip : BitVec 128
  v6 : Bool
  port : Nat
  deriving DecidableEq, Repr

/-- A segment the device has built: extended sequence (or control count), header and plaintext; `box` is none until
a GCM engine has encrypted and verified it (R222, R515). -/
structure TxSeg where
  client : Nat
  epoch : BitVec 4
  ext : Nat
  sequenced : Bool
  hdr : BaseHeader
  plain : List Byte
  box : Option Sealed
  /-- Traffic class of the session's channel (R684). -/
  cls : Nat
  /-- The sequenced segment is a retransmission of an earlier one (R280). -/
  retx : Bool
  /-- Its own destination, where it is not its session's. -/
  dest : Option Dest
  /-- The device sends it as the responder: D of R277. -/
  resp : Bool := true
  deriving DecidableEq, Repr

/-- A sequenced segment not yet acknowledged (R280, R294): the segment as first sent, its first retransmission once
built, how often it was retransmitted and when it was last sent. -/
structure Replay where
  seg : TxSeg
  again : Option TxSeg := none
  count : Nat := 0
  lastSent : Nat := 0
  sentAt : Nat := 0
  sent : Bool := false
  sacked : Bool := false
  /-- Its frame came up for sending and had no destination (R194). -/
  held : Bool := false
  deriving DecidableEq, Repr

/-- KCT_CTX_STATE.state (R308). -/
inductive SessState where
  | none | opened | closing | dead
  deriving DecidableEq, Repr

/-- The session of a client context (R263 to R304). -/
structure Session where
  state : SessState := .none
  epoch : BitVec 4 := 0
  version : Nat := 3
  features : Word := 0
  daltik : Byte := 0
  mtu : Nat := 0
  window : Nat := 512
  ip : BitVec 128 := 0
  v6 : Bool := false
  port : Nat := 0
  primary : Nat := 0
  current : Nat := 0
  /-- Source MAC address of the latest verified frame on each MAC (R194). -/
  peerMac : Tab (Option (BitVec 48)) := []
  txPhase : Bool := false
  rekeyDue : Bool := false
  firstRx : Word := 0
  txNext : Nat := 0
  txFirst : Nat := 0
  /-- The lowest extended sequence the other side has not acknowledged cumulatively. -/
  acked : Nat := 0
  helloAcked : Bool := false
  replay : List Replay := []
  rxNext : Nat := 0
  rxHeld : List RxSeg := []
  /-- Next control count to send, and the next one accepted (R278). -/
  ctrlTx : Nat := 0
  ctrlRx : Nat := 0
  nextMsgId : BitVec 24 := 0
  /-- Sequenced segments received and not yet acknowledged by the device (R290). -/
  unacked : Nat := 0
  ackNow : Bool := false
  ecnEcho : Bool := false
  /-- Retransmission timer in µs (R294). -/
  rto : Nat := 64
  /-- Send rate in units of 100 Mb/s × 256, latest RTT in 0.1 µs, and the lowest of a 10 s period with the period's number
  (R298, R299). -/
  rate : Nat := 0
  rtt : Nat := 0
  rttMin : Nat := 0
  rttMinAt : Nat := 0
  lowered : Bool := false
  lowerAt : Nat := 0
  waited : Bool := false
  closeSent : Bool := false
  closeGot : Bool := false
  closeReason : Nat := 0
  /-- A peer session that this device opened as its initiator (R754). -/
  initiator : Bool := false
  /-- Its client ID at the peer, and its Hello not yet answered. -/
  remote : Nat := 0
  opening : Bool := false
  /-- Per channel, the message whose further segments are discarded (R260). -/
  discard : Tab (Option (BitVec 24)) := []
  deriving DecidableEq, Repr

/-- A Hello that has passed its checks and waits for the old session's end (R271), with the source MAC addresses of the frames
that have brought it (R194). -/
structure WaitingHello where
  hdr : BaseHeader
  plain : List Byte
  mac : Nat
  peers : Tab (Option (BitVec 48))
  version : Nat
  /-- It carried a CE mark (R301). -/
  ce : Bool := false
  deriving DecidableEq, Repr

/-- A client context (R263) with the coherence counts of R362. -/
structure Ctx where
  enable : Bool := false
  manager : Bool := false
  peer : Bool := false
  key0 : KctKey := {}
  key1 : KctKey := {}
  sess : Session := {}
  waiting : Option WaitingHello := none
  /-- F_SEQ counters of the two key phases, in steps of 128 (R247). -/
  fseq0 : Nat := 0
  fseq1 : Nat := 0
  /-- Descriptors that list the client, and those it owns (R362). -/
  held : Nat := 0
  owned : Nat := 0
  /-- The client ID is Sweeping (R397). -/
  sweeping : Bool := false
  deriving DecidableEq, Repr

/-- A message delivered by transport and not yet taken by its block (R289). -/
structure InMsg where
  client : Nat
  epoch : BitVec 4
  type : Nat
  msgId : BitVec 24
  credit : BitVec 16
  status : Nat
  body : List Byte
  /-- A request already marked yellow waits at stage 3 (R704). -/
  yellow : Bool
  deriving DecidableEq, Repr

/-- The transport (R220 to R308). -/
structure Kct where
  ctx : Tab Ctx := []
  /-- Messages delivered in order and not yet taken (R289). -/
  delivered : List InMsg := []
  /-- Segments built, waiting for a GCM engine (R515), and those held for lack of egress room (R685). -/
  gcm : List TxSeg := []
  stage11 : List TxSeg := []
  /-- Client IDs whose holder sweeps run or wait, in order (R397). -/
  sweepQ : List Nat := []
  deriving DecidableEq, Repr

/-- The IP header of a sent datagram: addresses (an IPv4 one in the low 32 bits), DSCP, ECN codepoint, TTL or hop limit, and
DF (R187, R188). -/
structure IpTx where
  v6 : Bool
  src : BitVec 128
  dst : BitVec 128
  dscp : Nat := 0
  ecn : Nat := 0
  ttl : Nat := 64
  df : Bool := true
  deriving DecidableEq, Repr

/-- What stands before the UDP payload of a sent frame (R187, R194, R220, R221); the UDP checksum is computed or sent as 0. -/
structure TxHeaders where
  da : BitVec 48
  sa : BitVec 48
  ip : IpTx
  udpSrc : Nat
  udpDst : Nat
  sum : Bool
  deriving DecidableEq, Repr

/-- What a MAC advertises under Clause 73 (R180). -/
inductive Ability where
  | cr4x200 | cr2x100
  deriving DecidableEq, Repr

/-- What the device has sent or driven, as an observer sees it. -/
inductive Emit where
  /-- A KCT segment sent on a MAC. -/
  | seg (mac : Nat) (hdr : TxHeaders) (box : Sealed)
  | arpReply (mac : Nat) (da : BitVec 48) (ip : BitVec 32)
  | arpRequest (mac : Nat) (target : BitVec 32)
  | neighAdv (mac : Nat) (da : BitVec 48) (target : BitVec 128) (ip : IpTx)
  | neighSol (mac : Nat) (target : BitVec 128) (ip : IpTx)
  | echoReply (mac : Nat) (da : BitVec 48) (data : List Byte) (ip : IpTx)
  | pfc (mac : Nat) (cls : Nat) (quanta : Nat)
  /-- A Delay_Req with the device's clock identity, under an IP header where the transport has one (R206). -/
  | delayReq (mac : Nat) (seqId : Nat) (identity : DWord) (ip : Option IpTx)
  /-- The ability that a MAC advertises as it begins to negotiate (R180, R181). -/
  | advertise (mac : Nat) (ability : Ability)
  /-- A frame with an 802.1Q tag of this PCP and VID (R186), and one that MACsec protects (R202, R204). -/
  | tagged (pcp vid : Nat) (e : Emit)
  | secured (tag : SecTag) (e : Emit)
  | linkFrame (dir : LinkDir) (keepalive : Bool)
  /-- A read of the boot store: command, address bytes, dummy cycles, data lines, SCK in MHz, address and length (R109). -/
  | spiRead (cmd addrBytes dummy lanes sck addr len : Nat)
  /-- What the TAP shifts out after an instruction that selects a 32-bit data register. -/
  | tapData (word : Word)
  /-- A command on a channel's bus, its rank selected in encoded quad chip-select mode or by one output per rank (R529). -/
  | dramCmd (chan sub : Nat) (quad : Bool) (cmd : Nat) (rank bank row col : Nat)
  /-- A transfer to a target of a DIMM sideband bus, in open-drain mode or as I3C SDR (R560), and the SETAASA broadcast. -/
  | sideband (bus : Nat) (i3c : Bool) (addr : Nat)
  | setaasa (bus : Nat)
  deriving DecidableEq, Repr

/-! ### Power (20) -/

/-- The states of a domain (R716); Hysteresis is an Up domain that is no longer wanted, and is computed. -/
inductive DomState where
  | off | poweringUp | up | poweringDown | retention | failed
  deriving DecidableEq, Repr

/-- A power domain D0 to D28, S0 to S7 (R713). -/
structure Dom where
  state : DomState := .off
  /-- The wake has been tried a second time (R744). -/
  again : Bool := false
  retries : Nat := 0
  /-- A stalled access waits for the domain (R718). -/
  implicit : Bool := false
  clockGated : Bool := false
  deriving DecidableEq, Repr

/-- The power manager (R713 to R747). States are numbered as PWR_REQ numbers them. -/
structure Pwr where
  doms : Tab Dom := []
  /-- The state whose set holds the STATE votes, and the state the device moves to, if any. -/
  current : Nat := 0
  auto : Nat := 0
  entering : Option Nat := none
  /-- Abort point reached: 0 none, 1 to 4, 5 past the point of no return. -/
  ap : Nat := 0
  /-- The next wave of an exit (R740). -/
  exiting : Option Nat := none
  /-- A SCRUB wake holds the effective state at Drowsy (R727). -/
  scrubUp : Bool := false
  /-- A wake event waits for the end of the entry (R733). -/
  wakeAfter : Bool := false
  /-- Off has been requested: sessions are closing (R739). -/
  offWait : Bool := false
  /-- `now` at the wake event that began the exit. -/
  wakeAt : Nat := 0
  /-- PWR_ALARM has fired since it was last written or enabled. -/
  alarmDone : Bool := false
  /-- The next sequence of the event log when its group last went to Retention: a later entry asks for the group (R746). -/
  logSeen : Nat := 0
  /-- Time spent in Dormant and in Drowsy, in ns (PWR_CNT 8 and 9). -/
  dormantNs : Nat := 0
  drowsyNs : Nat := 0
  deriving DecidableEq, Repr

/-! ### Temperature (22) -/

/-- A record of the throttle table: THRESH, HYST, CORE and DRAM (R767). -/
structure ThrottleRec where
  thresh : Nat
  hyst : Nat
  core : Nat
  dram : Nat
  deriving DecidableEq, Repr

/-- The sensors and the throttle table of an image; none for the built-in one (R765 to R772). -/
structure Thermal where
  table : Option (List ThrottleRec) := none
  /-- Sensors marked invalid. -/
  invalid : BitVec 10 := 0
  /-- The junction is outside -40 to 150 °C. -/
  outside : Bool := false
  /-- The core PLL relocks after a clock change (R771). -/
  relock : Bool := false
  deriving DecidableEq, Repr

/-! ### Egress and policing (19) -/

/-- What the schedulers keep of a session, and its policer (R684 to R707). -/
structure EgrSess where
  cls : Word := 0x0007_6533
  shape : Word := 0x0090_0040
  /-- Unsent segments in order. -/
  queue : List TxSeg := []
  /-- Next eligible time in 1/16 ns of `State.now` (R692). -/
  e : Int := 0
  deficit : Tab Nat := []
  ing : Word := 0
  /-- Policer tokens in 1/8000 byte, and the time in ns up to which they have been filled (R702). -/
  tc : Nat := 0
  tp : Nat := 0
  ingAt : Nat := 0
  red : Nat := 0
  deriving DecidableEq, Repr

/-- A class shaper: tokens in 1/8000 byte and the time in ns up to which they have been filled (R693). -/
structure ClsShaper where
  tokens : Int := 0
  at_ : Nat := 0
  deriving DecidableEq, Repr

/-- A deficit round robin ring: the clients in order, and whether the head has had its quantum (R688). -/
structure Ring where
  order : List Nat := []
  credited : Bool := false
  deriving DecidableEq, Repr

/-- The gate lists of a port (R695 to R700). Times are nanoseconds of the time base. -/
structure Gates where
  oper : List (Nat × Nat) := []
  base : Nat := 0
  pending : Option Nat := none
  pendingList : List (Nat × Nat) := []
  /-- The current entry and its mask. -/
  entry : Nat := 0
  mask : Nat := 255
  deriving DecidableEq, Repr

/-- A policer profile (R708). -/
structure PolProfile where
  cir : Nat := 25000
  cbs : Nat := 262144
  pir : Nat := 50000
  pbs : Nat := 524288
  deriving DecidableEq, Repr

/-- Egress and ingress blocks. -/
structure Egress where
  sess : Tab EgrSess := []
  /-- Rings, class shapers and guard waits by `8 * mac + class`. -/
  rings : Tab Ring := []
  shapers : Tab ClsShaper := []
  /-- The class waits for its next window (R698). -/
  guards : Tab Bool := []
  /-- The second of the time base in which event 0x3004 was last raised for a MAC. -/
  overrunAt : Tab (Option Nat) := []
  gates : Tab Gates := []
  profiles : Tab PolProfile := []
  /-- The queue memory of a port is full (R685). -/
  full : Tab Bool := []
  /-- The time in ns at which the frame that a MAC sends has ended (R687). -/
  busyTill : Tab Nat := []
  deriving DecidableEq, Repr

/-! ### Encryption (13) -/

/-- An at-rest key slot (R502). -/
structure KeySlot where
  loaded : Bool := false
  k1 : BitVec 256 := 0
  k2 : BitVec 256 := 0
  kcv : Nat := 0
  deriving DecidableEq, Repr

/-- A rekey record (R517). -/
structure RekeyRec where
  valid : Bool := false
  region : Nat := 0
  old : Nat := 0
  new : Nat := 0
  mark : Nat := 0
  deriving DecidableEq, Repr

/-- When an engine or lane has failed in the last second (R479, R485, R514). -/
structure EngineFails where
  times : List Nat := []
  deriving DecidableEq, Repr

/-- The crypto block and its fuse bank (R497 to R524). -/
structure Crypto where
  /-- F of R497, burned once. -/
  fuseF : BitVec 256 := 0
  provisioned : Bool := false
  /-- The provisioning value has been taken and the burn runs (R498). -/
  burning : Bool := false
  valid : Bool := false
  pufErr : Bool := false
  slots : Tab KeySlot := []
  records : Tab RekeyRec := []
  /-- Failures of the engines: XTS k at k, GCM k at 12 + k. -/
  fails : Tab EngineFails := []
  deriving DecidableEq, Repr

/-! ### Page descriptors, regions and grants (09) -/

/-- A page descriptor (R331): every field as its raw number. -/
structure Desc where
  format : Nat := 0
  dict : Nat := 0
  pinned : Bool := false
  stale : Bool := false
  poison : Bool := false
  raw : Bool := false
  offCount : Nat := 0
  priCount : Nat := 0
  tier : Nat := 0
  priSlot : Nat := 0
  compLen : Nat := 0
  offHead : Nat := 0
  fValid : Bool := false
  fIndex : Nat := 0
  overflow : Bool := false
  ptrCount : Nat := 0
  ptr0 : Nat := 0
  ptr1 : Nat := 0
  ptr2 : Nat := 0
  ptr3 : Nat := 0
  dir : Nat := 0
  epoch : Nat := 0
  warmth : Nat := 0
  group : Nat := 0
  deriving DecidableEq, Repr

/-- A region table entry (R309). -/
structure Region where
  valid : Bool := false
  enable : Bool := false
  state : Nat := 0
  descBase : Nat := 0
  pageCount : Nat := 0
  pinned : Bool := false
  patternOk : Bool := false
  homeAtomic : Bool := false
  coherent : Bool := false
  shareValid : Bool := false
  shareGroup : Nat := 0
  writeFormat : Nat := 0
  dictClass : Nat := 0
  policy : Nat := 0
  keySlot : Nat := 0
  initMark : Nat := 0
  pagesStored : Nat := 0
  slotsHeld : Nat := 0
  cachedPages : Nat := 0
  deriving DecidableEq, Repr

/-- A grant table entry (R318). -/
structure Grant where
  valid : Bool := false
  chained : Bool := false
  manager : Bool := false
  caching : Bool := false
  atomic : Bool := false
  write : Bool := false
  read : Bool := false
  region : Nat := 0
  client : Nat := 0
  next : Nat := 0
  first : Nat := 0
  last : Nat := 0
  deriving DecidableEq, Repr

/-- A descriptor cache entry (R351, R352): the descriptor, whether it has changed since its fetch, when it was last
used, and the flight that keeps its lock across commands, if one does (R325). -/
structure DcEntry where
  desc : Desc
  dirty : Bool := false
  used : Nat := 0
  lock : Option Nat := none
  deriving DecidableEq, Repr

/-- A service agent's place among those that wait for a descriptor's lock: the agent, the page's cache key, and the request ID
that the next request to arrive had (R9). -/
structure LockPlace where
  who : Nat
  key : Nat
  since : Nat
  deriving DecidableEq, Repr

/-- The translate stage (R309 to R355). -/
structure Pipe where
  regions : Tab Region := []
  grants : Tab Grant := []
  /-- The descriptor cache, keyed by region × 2^34 + page. -/
  cache : Tab (Option DcEntry) := []
  useClock : Nat := 0
  flushing : Bool := false
  rgnBusy : Bool := false
  rgnCode : Nat := 0
  /-- The region command that holds BUSY: 4 Disable, 6 Destroy; its region; and the requests that hold a Disable. -/
  rgnCmd : Nat := 0
  rgnSel : Nat := 0
  rgnHold : List Nat := []
  gntCode : Nat := 0
  gntIndex : Nat := 0
  dscBusy : Bool := false
  /-- The descriptor command that holds BUSY (R355). -/
  dscCmd : Nat := 0
  dscCode : Nat := 0
  /-- Service agents that wait for a lock, in arrival order (R9). -/
  places : List LockPlace := []
  deriving DecidableEq, Repr

/-! ### The home and the requests in the pipeline (01, 10) -/

/-- Where a request's tracker comes from (R364). -/
inductive Trk where
  | none | shared | reserved
  deriving DecidableEq, Repr

/-- Where a request is. -/
inductive Stage where
  /-- Its descriptor is being fetched (R352). -/
  | fetch
  /-- Every way of its descriptor's set is pinned (R352). -/
  | way
  /-- Another holder keeps the lock (R9). -/
  | lock
  /-- It holds the lock while the home's domain wakes. -/
  | home
  /-- It waits for a tracker (R365). -/
  | tracker
  /-- It waits in the page queue (R367). -/
  | pageQ
  | snoops
  /-- A pointer is being recalled before the requester is added (R373). -/
  | recall
  /-- An eviction that has joined another tracker (R386). -/
  | joined (flight : Nat)
  /-- The tier manager's or the memory path's domain wakes. -/
  | tier
  /-- A stand wakes (R446). -/
  | stand
  | read
  | decode
  | compress
  | check
  | write
  | commit
  /-- A page of a bulk request that has ended (R346). -/
  | bulkWait
  /-- Its response has been sent and is not acknowledged (R363). -/
  | ackWait
  deriving DecidableEq, Repr

/-- A snoop of a tracker: its kind (0 SnpInv, 1 SnpShare, 2 SnpFwd), its message ID and its result: 0 I, 1 S, 2 S and
forwarded, 3 I and forwarded. -/
structure Snoop where
  client : Nat
  kind : Nat
  msgId : BitVec 24
  sentAt : Nat
  wbWait : Bool := false
  result : Option Nat := none
  deriving DecidableEq, Repr

/-- What a tracker does with its page's data, in order. `none` bytes are not written. -/
inductive PageOp where
  | put (off : Nat) (bytes : List (Option Byte))
  | get (off len : Nat)
  | atom (off op size : Nat) (args : List Byte)
  /-- Answer a joined eviction, whose data has been written (R386). -/
  | tell (flight : Nat)
  deriving DecidableEq, Repr

/-- An XTS unit to encrypt: its plaintext and tweak form (R508, R509). -/
structure XUnit where
  plain : List Byte
  slotForm : Bool
  ordinal : Nat
  deriving DecidableEq, Repr

/-- Where the data of a write goes: into the page's own lines, into a new group of 16 slots (raw or Canopy), or into a
new extent of `p0` primary slots of which `p` are kept, `o` offshoots and a stream of `len` bytes (R475). -/
inductive Target where
  | inPlace
  | group (raw : Bool)
  | extent (p0 p o len format dict lane : Nat)
  deriving DecidableEq, Repr

/-- A line write: line address, bytes (`none` where not enabled) and the plaintext tag of a page line (R603). -/
structure LineWr where
  la : Nat
  bytes : List (Option Byte)
  tag : Option Byte
  deriving DecidableEq, Repr

/-- A request in the pipeline, from its translation to its response's acknowledgement. -/
structure Flight where
  id : Nat
  client : Nat
  epoch : BitVec 4
  type : Nat
  msgId : BitVec 24
  region : Nat
  page : Nat
  off : Nat := 0
  len : Nat := 0
  body : List Byte := []
  credited : Bool := false
  /-- The bulk request that this page belongs to, and its index in it. -/
  bulk : Option (Nat × Nat) := none
  trk : Trk := .none
  stage : Stage := .fetch
  since : Nat := 0
  snoops : List Snoop := []
  todo : List PageOp := []
  /-- The page held POISON-free data of a dead owner when it was read (R370). -/
  lost : Bool := false
  /-- STATE of the DataGrant, 0 where the response is a Completion. -/
  grant : Nat := 0
  /-- No data goes with the response (Upgrade, a forwarded read). -/
  bare : Bool := false
  data : List Byte := []
  /-- Line addresses being read, with the ordinal of each unit's first line in order, and what has come back. -/
  want : List Nat := []
  /-- The descriptor when the read began, whose location it reads. -/
  loc : Desc := {}
  /-- The slots of a stream read so far, in order. -/
  chain : List Nat := []
  got : List (Nat × List Byte) := []
  /-- How the lines read so far have failed, if one has: LOST, poisoned or uncorrectable. -/
  failed : Option Nat := none
  plain : List Byte := []
  /-- The compression lane that holds the page (R471). -/
  lane : Option Nat := none
  units : List XUnit := []
  cipher : List (XUnit × List Byte) := []
  target : Target := .inPlace
  slots : List Nat := []
  writes : List LineWr := []
  newDesc : Option Desc := none
  /-- An eviction that was served beside the page's active tracker (R386). -/
  side : Bool := false
  /-- The client's next sequence after the response was sent (R363). -/
  ackAt : Nat := 0
  /-- Answered already, with its tracker lost (R653): no response of its own follows. -/
  mute : Bool := false
  /-- Its place in its page's queue (R367): what `nextId` was when it took it. -/
  queuedAt : Nat := 0
  /-- Channels that hold it for its master's budget, and since when (R672). -/
  held : List (Nat × Nat) := []
  /-- The boundary at which its CRC-32C will fail, 0 for none (R14 to R16). -/
  crcAt : Nat := 0
  /-- The descriptor as it was when the request took its page, until the request has written memory (R15). -/
  before : Option Desc := none
  /-- Policing has marked it yellow, and it has not yet waited YELLOW_AGE (R706). -/
  yellow : Bool := false
  deriving DecidableEq, Repr

/-- A bulk request (R345): what has become of each page, with its data. -/
structure Bulk where
  id : Nat
  client : Nat
  epoch : BitVec 4
  msgId : BitVec 24
  write : Bool
  region : Nat
  page : Nat
  results : List (Option (Nat × List Byte))
  deriving DecidableEq, Repr

/-- An entry of the retry list (R389). -/
structure RetryEntry where
  client : Nat
  epoch : BitVec 4
  msgId : BitVec 24
  since : Nat
  deriving DecidableEq, Repr

/-- A credit tag that is current (R390, R391). -/
structure Credit where
  client : Nat
  epoch : BitVec 4
  msgId : BitVec 24
  tag : Nat
  at_ : Nat
  deriving DecidableEq, Repr

/-- The holder sweep that runs (R397). -/
structure Sweep where
  client : Nat
  epoch : BitVec 4
  wide : Bool := false
  /-- Next grant index of the narrow phase or next region of the wide phase, and next page. -/
  index : Nat := 0
  page : Nat := 0
  inside : Bool := false
  stale : Nat := 0
  passed : Nat := 0
  ended : Bool := false
  deriving DecidableEq, Repr

/-- The coherence home (R356 to R402). -/
structure Coh where
  /-- Requests in the pipeline, in the order in which they were taken. -/
  flights : List Flight := []
  bulks : List Bulk := []
  nextId : Nat := 0
  retries : List RetryEntry := []
  credits : List Credit := []
  groups : Tab (List Nat) := []
  sgCode : Nat := 0
  sgMember : Bool := false
  sweep : Option Sweep := none
  deriving DecidableEq, Repr

/-! ### Tiers (11) -/

/-- The power state of a stand (R587, TIER_STAND_STATUS): 0 Awake, 1 Drowsy, 2 Retention, 3 Unpowered. -/
abbrev StandPower := Nat

/-- A stand (R403 to R406, R448, R587). -/
structure Stand where
  present : Bool := false
  plots : Nat := 0
  power : StandPower := 3
  draining : Bool := false
  used : Nat := 0
  freePlots : Nat := 0
  canopy : Nat := 0
  /-- The cursor of R417, in stretches. -/
  cursor : Nat := 0
  /-- Votes that keep the stand Awake: an access of R446, TIER's vote of R448, the scrubber's and an operation's. -/
  implicit : Bool := false
  tierVote : Bool := false
  scrubVote : Bool := false
  opVote : Bool := false
  /-- `now` at the stand's last use (R448). -/
  lastUse : Nat := 0
  /-- Self-refresh entry under way, with the channels that have issued SRE (R588). -/
  entering : Bool := false
  sreDone : List Nat := []
  /-- Self-refresh exit under way (R592). -/
  exiting : Bool := false
  deriving DecidableEq, Repr

/-- What a move is for. -/
inductive MoveKind where
  | demoteU | batch | promoteC | promoteU | thin | drain | retire | migrate
  deriving DecidableEq, Repr

/-- A move (R433): the descriptor at its start, whose tier is the source tier, and the copy it has made. -/
structure Move where
  region : Nat
  page : Nat
  kind : MoveKind
  src : Desc
  /-- Stored lines of the source in unit order: bytes and tag. -/
  copy : List (List Byte × Byte) := []
  copied : Bool := false
  /-- Where the copy has been written, and the descriptor that the commit installs. -/
  slots : List Nat := []
  newDesc : Option Desc := none
  toStand : Nat := 0
  /-- The operation slot that the move serves. -/
  op : Option Nat := none
  /-- The move has ended and waits for the page's lock to restore its descriptor; true where it is to be marked POISON. -/
  ending : Option Bool := none
  deriving DecidableEq, Repr

/-- A demotion batch buffer (R439 to R442). -/
structure Batch where
  moves : List (Nat × Nat) := []
  slots : Nat := 0
  openedAt : Nat := 0
  closed : Bool := false
  writing : Bool := false
  noRoom : Bool := false
  stand : Nat := 0
  /-- Slots written so far. -/
  written : Nat := 0
  deriving DecidableEq, Repr

/-- An entry of the promotion queue (R444, R445); `hint` names a Floor page that waits for its stand. -/
structure Promo where
  region : Nat
  page : Nat
  hint : Bool
  at_ : Nat
  deriving DecidableEq, Repr

/-- An entry of the Hint queue (R349): the next page and how many are left. -/
structure HintEntry where
  region : Nat
  page : Nat
  left : Nat
  cold : Bool
  deriving DecidableEq, Repr

/-- Slots released by a change, until the reads translated before it have passed memory (R329). -/
structure Release where
  slots : List Nat
  wait : List Nat
  /-- The class of the stream that the slots hold, which counts until they are released (R491). -/
  cls : Option Nat := none
  deriving DecidableEq, Repr

/-- An entry of the retired list (R624): a slot group, or a bank as stand, channel and bank number. -/
inductive RetireEntry where
  | group (slot : Nat)
  | bank (stand chan bank : Nat)
  deriving DecidableEq, Repr

/-- The tier manager (R403 to R455). -/
structure Tier where
  channels : Nat := 0
  stands : Tab Stand := []
  /-- Boot stage 8 has set up the clearing (R415, R421). -/
  ready : Bool := false
  pressure : Bool := false
  /-- The bitmap of each plot, keyed by the plot's first slot ÷ 256 (R412); a stretch not in `inited` is free. -/
  bitmaps : Tab (BitVec 256) := []
  inited : Tab Bool := []
  /-- Stretches whose summary failed its CRC and is not rebuilt (R415). -/
  rebuild : List Nat := []
  saved : Bool := false
  /-- The summary is being reloaded after a wake from Dormant (R743). -/
  reloading : Bool := false
  /-- Open plots: 0 Canopy, 1 + k compression lane k, 17 the batch, 18 + k the mover's plot in stand k, 26 promotions to
  Understory. -/
  opened : Tab (Option Nat) := []
  /-- Offshoot reserves by the same numbers. -/
  reserve : Tab (List Nat) := []
  releases : List Release := []
  epoch : Nat := 0
  policy : Tab Word := []
  moves : List Move := []
  /-- Pages that the scan has found due for demotion, in order (R437). -/
  picked : List (Nat × Nat) := []
  stopped : Bool := false
  hints : List HintEntry := []
  promos : List Promo := []
  /-- The capture buffer (R443): pages whose moves have not started. -/
  captures : List Move := []
  batch0 : Batch := {}
  batch1 : Batch := {}
  noFloor : Bool := false
  scanRegion : Nat := 0
  scanPage : Nat := 0
  scanStart : Nat := 0
  thinning : Bool := false
  thinStand : Nat := 0
  thinFreed : Nat := 0
  retired : List RetireEntry := []
  /-- Slots in use because they are retired (R625). -/
  marked : List Nat := []
  /-- Domain failure or brace has stopped demotion to Understory for want of lanes (R482). -/
  noLane : Bool := false
  deriving DecidableEq, Repr

/-! ### Compression (12) -/

/-- A class (R486 to R491). -/
structure CmpClass where
  loaded : Bool := false
  codes : Option (List Byte) := none
  dict : Option (List Byte) := none
  crc : Word := 0
  pages : Nat := 0
  deriving DecidableEq, Repr

/-- The compression block (R456 to R496). -/
structure Cmp where
  classes : Tab CmpClass := []
  mean : Tab Nat := []
  stage : Tab Byte := []
  clsCode : Nat := 0
  /-- The class whose Unload waits for its lanes (R490). -/
  unloading : Option Nat := none
  /-- Failures of the current second: compression lane k at k, demand lane k at 16 + k (R479, R485). -/
  fails : Tab EngineFails := []
  deriving DecidableEq, Repr

/-! ### DRAM (14, 15, 16) -/

/-- A queue entry's access (R532, R550). -/
inductive EntryKind where
  | rd | wr | rmw
  deriving DecidableEq, Repr

/-- What a line of DRAM carries beside its bytes: its plaintext tag, or none for the location tag of its place; and
which of its words are the poison pattern (R599, R602 to R604). -/
structure LineMark where
  tag : Option Byte := none
  poison : BitVec 8 := 0
  deriving DecidableEq, Repr

/-- One line access (R532). A read-modify-write has issued its read once `half` holds. -/
structure Entry where
  la : Nat
  access : EntryKind
  cls : Nat
  master : Nat
  bytes : List (Option Byte) := []
  tag : Option Byte := none
  src : Option Nat := none
  arrived : Nat := 0
  aged : Bool := false
  half : Bool := false
  /-- A read that a queued write has answered (R535). -/
  fwd : Bool := false
  /-- The mark of the line when its read was issued; `bytes` then holds what was read. -/
  mark : LineMark := {}
  /-- The bits that were in error when the line first read uncorrectable: the entry is its one retry (R552). -/
  err1 : Option (BitVec 640) := none
  deriving DecidableEq, Repr

/-- The lines of one request that fall in a channel, at its input port (R532, R672). -/
structure PortReq where
  master : Nat
  cls : Nat
  src : Option Nat
  entries : List Entry
  held : Bool := false
  heldAt : Nat := 0
  deriving DecidableEq, Repr

/-- A bank of a rank (R540, R546 to R549). -/
structure Bank where
  row : Option Nat := none
  hits : Nat := 0
  lastCol : Nat := 0
  /-- The row has been sampled, or an RFM is owed (R547, R548). -/
  selected : Bool := false
  due : Bool := false
  raa : Nat := 0
  deriving DecidableEq, Repr

/-- A rank of a channel (R541 to R545, R582 to R587). -/
structure Rank where
  owed : Nat := 0
  /-- The refresh that is due at once (R543). -/
  force : Bool := false
  powerDown : Bool := false
  selfRefresh : Bool := false
  /-- The refresh rate is doubled (R582): so it is until a sensor has been read (R583). -/
  hot : Bool := true
  calAt : Nat := 0
  /-- The shift of the write DQ delays that recalibration has made, in steps of 1/64 UI (R580). -/
  dqShift : Int := 0
  /-- The frequency point whose mode register, RCD and PHY settings the rank holds (R567, R568). -/
  point : Nat := 0
  /-- When the rank's corrected words of the current window were read (R608). -/
  ceTimes : List Nat := []
  deriving DecidableEq, Repr

/-- A combining table entry (R609). -/
structure Cet where
  rank : Nat
  slot : Nat
  line : Nat
  word : Nat
  pos1 : Option Nat := none
  pos2 : Option Nat := none
  count : Nat := 0
  first : Nat := 0
  latest : Nat := 0
  sticky : Bool := false
  ue : Bool := false
  deriving DecidableEq, Repr

/-- A subchannel (R532 to R549). -/
structure SubChan where
  queue : List Entry := []
  /-- Reads issued and not returned. -/
  ret : List Entry := []
  drain : Bool := false
  lfsr : BitVec 32 := 0
  banks : Tab Bank := []
  deriving DecidableEq, Repr

/-- DRC_STATE.state (R557). -/
inductive ChanState where
  | off | training | ready | recover | failed
  deriving DecidableEq, Repr

/-- A DIMM as discovery finds it (R525, R557). -/
structure Dimm where
  present : Bool := false
  /-- 1, 2 or 4 ranks. -/
  ranks : Nat := 0
  x8 : Bool := false
  /-- 0 16 Gb, 1 32 Gb, 2 64 Gb. -/
  density : Nat := 0
  rfm : Bool := false
  drfm : Bool := false
  rate : Nat := 0
  /-- Of a kind that R525 supports, and its speed bin (R527). -/
  kindOk : Bool := false
  bin : Nat := 0
  deriving DecidableEq, Repr

/-- A DRAM channel. -/
structure Chan where
  state : ChanState := .off
  dimm0 : Dimm := {}
  dimm1 : Dimm := {}
  subA : SubChan := {}
  subB : SubChan := {}
  port : List PortReq := []
  ranks : Tab Rank := []
  cet : Tab (Option Cet) := []
  /-- Corrected words of bank b of bank group g of rank r, at 32 r + 4 g + b (R608). -/
  ceBank : Tab Nat := []
  /-- The slots whose DIMMs recover from a parity alert, in the order of their alerts (R553). -/
  alert : List Nat := []
  /-- Lines whose RD or WR was sent within PAR_WINDOW of the alert and reissued. -/
  reissued : List Entry := []
  /-- RD and WR commands sent lately: DIMM slot, time and access, newest first (R553). -/
  recent : List (Nat × Nat × Entry) := []
  /-- Slot positions whose DCK is stopped (R588, R593). -/
  dckOff : List Nat := []
  /-- `now` when the training pass began, and the settings that sweeps have found, by 8 × point + phase (R571, R578). -/
  trainAt : Nat := 0
  settings : Tab (List Nat) := []
  /-- Training waits between phases for a change of the frequency point (R574). -/
  trainHeld : Bool := false
  /-- The sequencer has retrained the channel once (R119). -/
  trainAgain : Bool := false
  /-- The masters' lines in the current regulation window (R667). -/
  counts : Tab Nat := []
  /-- The masters last passed at the crossbar in the two round robins of R669. -/
  turnMid : Nat := 0
  turnLow : Nat := 0
  excluded : Bool := false
  deriving DecidableEq, Repr

/-- DRAM and its channels. -/
structure Dram where
  /-- Bytes, keyed by slot × 256 + offset; an unlisted byte is 0. -/
  bytes : List Host.Cell := []
  marks : Tab LineMark := []
  chans : Tab Chan := []
  /-- SETAASA has been broadcast: the sideband buses use I3C SDR transfers (R560). -/
  i3c : Bool := false
  /-- The training sequence table of the image, as records of 16 bytes; none for the built-in one (R575, R576). -/
  training : Option (List (List Byte)) := none
  deriving DecidableEq, Repr

/-! ### Patrol scrub (16) -/

/-- A stand's scrub pass (R616 to R623). -/
structure Scrub where
  /-- Lines of the pass done, per channel. -/
  cursor : Tab Nat := []
  /-- `now` when the pass began. -/
  startAt : Nat := 0
  corrected : Nat := 0
  bad : Nat := 0
  /-- What the last pass found, how many minutes it took, and how many passes there have been. -/
  lastCorrected : Nat := 0
  lastBad : Nat := 0
  lastMinutes : Nat := 0
  passes : Nat := 0
  burst : Bool := false
  /-- 1: the pass has run past its target end; 2: the pass before it did (R623). -/
  late : Nat := 0
  deriving DecidableEq, Repr

/-! ### On-chip memory (17) -/

/-- What SRM keeps of a bank (R639 to R643, R655). -/
structure SramBank where
  owner : Nat := 0
  index : Nat := 0
  lock : Bool := false
  notest : Bool := false
  busy : Bool := false
  failed : Bool := false
  /-- The bank holds what a block with a layout of its own has left there (R642): a word not yet written since is open. -/
  foreign : Bool := false
  deriving DecidableEq, Repr

/-- A word of a bank: its data, or poison (R628). -/
structure SramWord where
  data : DWord := 0
  poison : Bool := false
  /-- Written since a block with a layout of its own left the bank. -/
  fixed : Bool := false
  deriving DecidableEq, Repr

/-- A remap entry: source bank and region, target bank and region (R660). -/
structure Remap where
  bank : Nat
  region : Nat
  toBank : Nat
  toRegion : Nat
  deriving DecidableEq, Repr

/-- The SRAM die (R637 to R664). -/
structure Sram where
  /-- Banks that differ from the allocation of R639. -/
  banks : Tab (Option SramBank) := []
  /-- Words that no block's structure holds, by 2^17 × bank + word. -/
  words : Tab SramWord := []
  remaps : List Remap := []
  /-- A window access that waits for the end of its bank's clearing (R642). -/
  winWait : Option SramOp := none
  /-- Groups that took over an owner of a retained group (R662). -/
  extra : BitVec 8 := 0
  /-- The background test's next bank and region, and `now` when its cycle began (R657). -/
  bistBank : Nat := 0
  bistRegion : Nat := 0
  bistAt : Nat := 0
  deriving DecidableEq, Repr

/-! ### Regulation (18) -/

/-- The memory regulator (R665 to R683). -/
structure Mreg where
  window : Nat := 8
  factor : Nat := 2
  budgets : Tab Nat := []
  /-- A committed table that the next window boundary applies: WINDOW, CHAN_FACTOR and the budgets (R676). -/
  next : Option (Nat × Nat × List Nat) := none
  /-- A commit has not yet been checked for admission (R678). -/
  provisional : Bool := false
  /-- D_ADMIT in MB/s, S in 1/65,536, and the values that the next window applies. -/
  dAdmit : Nat := 0
  scale : Nat := 65536
  nextScale : Nat := 65536
  counts : Tab Nat := []
  /-- Stage 7 has ended and the admission check has run (R678). -/
  checked : Bool := false
  err : Bool := false
  lastG : Nat := 0
  deriving DecidableEq, Repr

/-! ### The whole state -/

/-- The device. -/
structure State where
  /-- Commands waiting, first in first out. -/
  pending : List Instr := []
  /-- The model's clock in nanoseconds, advanced by a step on an empty queue. -/
  now : Nat := 0
  /-- How many free values have been drawn. -/
  fresh : Nat := 0
  /-- What the device has emitted, newest first. -/
  out : List Emit := []
  /-- Every register that is stored as a register, keyed by address; unlisted ones read as their reset value. -/
  regs : Tab Word := []
  logic : Logic := {}
  intake : Intake := {}
  boot : Boot := {}
  log : EventLog := {}
  mgmt : Mgmt := {}
  ports : Ports := {}
  time : TimeBase := {}
  kct : Kct := {}
  pwr : Pwr := {}
  thermal : Thermal := {}
  egr : Egress := {}
  cry : Crypto := {}
  pipe : Pipe := {}
  coh : Coh := {}
  tier : Tier := {}
  cmp : Cmp := {}
  dram : Dram := {}
  mreg : Mreg := {}
  /-- Scrub passes by stand. -/
  scrubs : Tab Scrub := []
  sram : Sram := {}
  deriving DecidableEq, Repr

/-- The machine right after a VSTBY cycle: nothing powered, every register at its reset value, no command waiting. -/
def State.reset : State := {}

end Sys2Proof.Machine
end

