-- ==== Sys2Proof/Machine/Ops.lean ====
section
/-! DEFINITION. The named operations over the register space: where a register lies, its reset value, reading and
writing it, and the counters. -/

namespace Sys2Proof.Machine

open Sys2Proof

/-- A block of R133. -/
structure Block where
  code : Nat
  base : Nat
  pages : Nat
  insts : Nat
  stride : Nat
  deriving DecidableEq, Repr

/-- The blocks of R133, with the stride of the replicated ones. -/
def blocks : List Block := [
  ⟨0x01, 0x000000, 2, 1, 0x10000⟩, ⟨0x02, 0x004000, 6, 1, 0x10000⟩, ⟨0x03, 0x010000, 8, 1, 0x10000⟩,
  ⟨0x04, 0x020000, 4, 1, 0x10000⟩, ⟨0x05, 0x028000, 5, 1, 0x10000⟩, ⟨0x10, 0x100000, 14, 2, 0x10000⟩,
  ⟨0x20, 0x200000, 18, 1, 0x10000⟩, ⟨0x30, 0x300000, 10, 2, 0x10000⟩, ⟨0x32, 0x320000, 4, 1, 0x10000⟩,
  ⟨0x40, 0x400000, 10, 1, 0x10000⟩, ⟨0x50, 0x500000, 12, 1, 0x10000⟩, ⟨0x60, 0x600000, 12, 1, 0x10000⟩,
  ⟨0x70, 0x700000, 10, 1, 0x10000⟩, ⟨0x80, 0x800000, 8, 1, 0x10000⟩, ⟨0x90, 0x900000, 6, 1, 0x10000⟩,
  ⟨0xA0, 0xA00000, 5, 16, 0x10000⟩, ⟨0xC0, 0xC00000, 10, 1, 0x10000⟩]

/-- The block, instance and page of an address (R132, R133). -/
def pageOf (a : Nat) : Option (Block × Nat × Nat) :=
  blocks.findSome? fun b =>
    if a < b.base then none
    else
      let i := (a - b.base) / b.stride
      let p := ((a - b.base) % b.stride) / 0x1000
      if i < b.insts ∧ p < b.pages then some (b, i, p) else none

/-- The address of a page's first register. -/
def pageBase (a : Nat) : Nat := a - a % 0x1000

/-- The address of page 0 of the block instance that holds an address. -/
def blockBase (a : Nat) : Nat :=
  match pageOf a with
  | some (b, i, _) => b.base + i * b.stride
  | none => pageBase a

/-- An offset into a register array: `r` is an index below `n` times `st`, largest stride first, and nothing more. -/
def inDims : List (Nat × Nat) → Nat → Bool
  | [], r => r == 0
  | (st, n) :: ds, r => decide (r / st < n) && inDims ds (r % st)

/-- The register map row of an address outside the common header. -/
def regDef (a : Nat) : Option RegDef :=
  (rowsAt a).find? fun d => decide (d.base ≤ a) && inDims d.dims (a - d.base)

/-- Blocks whose ENABLE resets to 1 (R138): GLB, MGT, RAS, PWR, INT. -/
def enabledAtReset (code : Nat) : Bool := decide (code ≤ 0x05)

/-- The reset value of a register of the common page header (R138). -/
def hdrReset (b : Block) (i p off : Nat) : Word :=
  if off = 0x000 then BitVec.ofNat 32 (b.code <<< 24 + i <<< 16 + p <<< 8)
  else if off = 0x004 then 0x0001_0000
  else if off = 0x00C then (if p = 0 ∧ enabledAtReset b.code = true then 1 else 0)
  else if off = 0x010 then 0x4000_0000
  else if off = 0x018 then 0xFFFF_FFFF
  else 0

/-- The reset values of INT_BRK_PT (the curve table of 03_intake.md). -/
def curveReset : List Nat :=
  [0x069F4240, 0x06E927C0, 0x07361A80, 0x0783D090, 0x07D249F0, 0x082186A0, 0x08C0C350, 0x096061A8,
   0x0A002EE0, 0x0AA01770, 0x0B400BB8, 0x0BE005DC, 0x0C800320, 0x0D200190, 0x0DC000C8, 0x0E100064]

/-- The reset values of MREG_BUDGET (R682). -/
def budgetReset : List Nat := [11250, 11250, 1250, 1250, 5000, 2500, 2500, 250, 500, 1250, 0, 625]

/-- The reset values of a class's words in TIER_POL (R429). -/
def policyReset : List Nat := [0x10000400, 0x20000100, 0x02580000, 0x5]

/-- The reset value of register `a` of an array whose registers do not all reset alike: INT_BRK_PT, TIER_POL, MREG_BUDGET,
PWR_HYST (R747) and CMP_CLASS_STATE of class 0. -/
def arrayReset (a : Nat) : Option Nat :=
  if 0x02A080 ≤ a ∧ a < 0x02A0C0 then some (curveReset.getD ((a - 0x02A080) / 4) 0)
  else if 0x602040 ≤ a ∧ a < 0x602140 then some (policyReset.getD ((a - 0x602040) / 4 % 4) 0)
  else if 0x901080 ≤ a ∧ a < 0x9010B0 then some (budgetReset.getD ((a - 0x901080) / 4) 0)
  else if 0x022040 ≤ a ∧ a < 0x0220D4 then
    some (if a = 0x022040 then 0 else if (a - 0x022040) / 4 ≤ 12 then 100 else 1000)
  else if a = 0x702040 then some 0x80000000
  else none

/-- The bits of a register outside the header that a write reaches. -/
def writeMask (a : Nat) : Word := match regDef a with | some d => BitVec.ofNat 32 d.mask | none => 0

/-- What a register holds at reset; unimplemented addresses read as 0. -/
def resetOf (a : Nat) : Word :=
  if a % 0x1000 < 0x40 then
    match pageOf a with
    | some (b, i, p) => hdrReset b i p (a % 0x1000)
    | none => 0
  else
    match regDef a with
    | some d => BitVec.ofNat 32 (match arrayReset a with | some v => v | none => d.reset)
    | none => 0

/-- The register stored at address `a`. -/
def State.reg (s : State) (a : Nat) : Word := tabGet resetOf s.regs a

/-- The state with `v` in the register at `a`. -/
def State.setReg (s : State) (a : Nat) (v : Word) : State := { s with regs := tabSet resetOf s.regs a v }

/-- The field [hi:lo] of the register at `a`. -/
def State.fld (s : State) (a hi lo : Nat) : Nat := bits (s.reg a).toNat hi lo

/-- One bit of the register at `a`. -/
def State.flag (s : State) (a i : Nat) : Bool := bit (s.reg a).toNat i

/-- The state with the field [hi:lo] of the register at `a` set to `v`. -/
def State.setFld (s : State) (a hi lo v : Nat) : State := s.setReg a (putBits (s.reg a) hi lo v)

/-- Count one in a 32-bit counter, which stays at all ones (as ERR_COUNT does, R138). -/
def State.count (s : State) (a : Nat) : State :=
  if s.reg a = 0xFFFF_FFFF then s else s.setReg a (s.reg a + 1)

/-- Add `n` to the 64-bit wrapping counter whose low word is at `a`. -/
def State.count64 (s : State) (a n : Nat) : State :=
  let v := (s.reg a).toNat + 2 ^ 32 * (s.reg (a + 4)).toNat + n
  (s.setReg a (BitVec.ofNat 32 v)).setReg (a + 4) (BitVec.ofNat 32 (v >>> 32))

/-- ENABLE of the block instance whose page 0 is at `base` (R138). -/
def State.enabled (s : State) (base : Nat) : Bool := s.flag (base + 0x00C) 0

/-- LOCK of the page that holds an address (R142). -/
def State.pageLocked (s : State) (a : Nat) : Bool := s.flag (pageBase a + 0x00C) 2

/-- A free value: the next of `Config.freeValue`, below `n`. -/
def State.draw (s : State) (n : Nat) : Nat × State :=
  (Config.freeValue s.fresh % n, { s with fresh := s.fresh + 1 })

/-- Record something the device emits. -/
def State.emit (s : State) (e : Emit) : State := { s with out := e :: s.out }

/-- The state with another intake die. -/
def State.setIntake (s : State) (i : Intake) : State := { s with intake := i }

/-- The time base as nanoseconds (R156). -/
def TimeBase.nanos (t : TimeBase) : Nat := t.sec * 1000000000 + t.ns

/-- The logic die runs: released from power-on reset and not held by SYS_RST_N. -/
def State.live (s : State) : Bool := s.logic.on && !s.logic.sysRst

/-- The outcome of a command that acts only while `ok` holds and otherwise leaves the device as it is. -/
def guarded (ok : Bool) (s t : State) : Host.Outcome State Fault Refusal := .next (if ok then t else s)

end Sys2Proof.Machine
end

