-- ==== Sys2Proof/Machine/Flags.lean ====
section
/-! DEFINITION. Events and the fault line: raising an event (R151 to R157), the fault wire and FAULT_N (R26, R155), and
the status codes of R251 and R171. -/

namespace Sys2Proof.Machine

open Sys2Proof

/-! ### Status codes (R251) -/

abbrev stOK : Nat := 0x00
abbrev stPartial : Nat := 0x01
abbrev stRetry : Nat := 0x02
abbrev stAccessDenied : Nat := 0x10
abbrev stOutOfRange : Nat := 0x11
abbrev stPoisoned : Nat := 0x12
abbrev stUncorrectable : Nat := 0x13
abbrev stUnmapped : Nat := 0x14
abbrev stNoSpace : Nat := 0x15
abbrev stDomainFailed : Nat := 0x16
abbrev stBusy : Nat := 0x17
abbrev stVersionUnsupported : Nat := 0x18
abbrev stAuthFail : Nat := 0x19
abbrev stStale : Nat := 0x1A
abbrev stOwnerLost : Nat := 0x1B
abbrev stInternalFault : Nat := 0x1F

/-! ### Operation result codes (R171) -/

abbrev rcNone : Nat := 0x00
abbrev rcSuccess : Nat := 0x01
abbrev rcCancelled : Nat := 0x02
abbrev rcBadCode : Nat := 0x10
abbrev rcBadArgument : Nat := 0x11
abbrev rcNotPermitted : Nat := 0x12
abbrev rcNoSpace : Nat := 0x13
abbrev rcDomainFailed : Nat := 0x14
abbrev rcUncorrectable : Nat := 0x15
abbrev rcPeerUnreachable : Nat := 0x16
abbrev rcResetAborted : Nat := 0x17
abbrev rcInternalFault : Nat := 0x1F

/-! ### Register writes (R135) -/

/-- A command register's write is accepted, or refused with a status. -/
def State.wrote (s : State) (status : Nat := stOK) : State := { s with mgmt := { s.mgmt with lastStatus := status } }

/-! ### Events -/

/-- The severity of an event code (R152); an undefined event is Info. -/
def severity (code : Nat) : Nat :=
  match eventTable.find? (fun e => e.1 == code) with
  | some e => e.2
  | none => 0

/-- The page that holds the status bit of an event of an instance (R151). -/
def evtPage (code inst : Nat) : Nat :=
  match blocks.find? (fun b => b.code == code / 256) with
  | some b => b.base + inst * b.stride + (code % 256 - 1) / 32 * 0x1000
  | none => 0

/-- The bit of an event in its EVT_STATUS register (R151). -/
def evtBit (code : Nat) : Nat := (code % 256 - 1) % 32

/-- Whether an event of an instance has its status bit set. -/
def State.evtSet (s : State) (code inst : Nat) : Bool := s.flag (evtPage code inst + 0x014) (evtBit code)

/-- Every Fatal event of every block instance. -/
def fatalEvents : List (Nat × Nat) :=
  (eventTable.filter (fun e => e.2 == 3)).flatMap fun e =>
    match blocks.find? (fun b => b.code == e.1 / 256) with
    | some b => (List.range b.insts).map (fun i => (e.1, i))
    | none => []

/-- Some Fatal status bit is set (R155). -/
def State.anyFatal (s : State) : Bool := fatalEvents.any (fun e => s.evtSet e.1 e.2)

/-- Enter an occurrence in the log (R156, R157): the ring keeps the latest 1,024. -/
def State.logEvent (s : State) (code inst : Nat) (forced hist : Bool) (time : Nat) (d1 : Nat) (d2 : Nat) : State :=
  let e : LogEntry :=
    { code := BitVec.ofNat 16 code, inst := inst, sev := severity code, forced := forced, hist := hist,
      tbSet := s.time.tbSet && !hist, seq := s.log.wseq, time := BitVec.ofNat 64 time,
      detail := BitVec.ofNat 64 d1, detail2 := BitVec.ofNat 32 d2 }
  let r := s.log.ring ++ [e]
  { s with log := { s.log with ring := r.drop (r.length - 1024), wseq := s.log.wseq + 1 } }

/-- EVT_ENABLE of an event: a Fatal event's reads 1 (R154). -/
def State.evtEnabled (s : State) (code inst : Nat) : Bool :=
  severity code == 3 || s.flag (evtPage code inst + 0x018) (evtBit code)

/-- Set an event's status bit, and EVT_FIRST where no bit of the page was set (R138, R151). -/
def State.setEvt (s : State) (code inst : Nat) : State :=
  let st := evtPage code inst + 0x014
  let s1 := if s.reg st = 0 then s.setReg (evtPage code inst + 0x020) (BitVec.ofNat 32 (0x8000_0000 + code % 256)) else s
  s1.setReg st (s.reg st ||| BitVec.ofNat 32 (2 ^ evtBit code))

/-- A Fatal status bit asserts the fault wire (R26, R155) and, under AUTO_WARM, calls for a warm reset (R123). -/
def State.fatalSet (s : State) : State :=
  { s with
    logic := { s.logic with faultWire := true }
    boot := { s.boot with autoWarm := s.boot.autoWarm || s.flag Reg.MGT_RESET_CFG 31 } }

/-- One occurrence of an event with its details (R153 to R155). -/
def State.occur (s : State) (code inst : Nat) (forced hist : Bool) (time d1 d2 : Nat) : State :=
  if s.evtSet code inst then s.count Reg.RAS_EVT_REPEAT
  else
    let s1 := s.setEvt code inst
    let s2 := if s.evtEnabled code inst then s1.logEvent code inst forced hist time d1 d2 else s1
    if severity code = 3 then s2.fatalSet else s2

/-- Raise an event of an instance with its details, at the time of the time base. -/
def State.raiseAt (s : State) (code inst d1 d2 : Nat) : State :=
  s.occur code inst false false s.time.nanos d1 d2

/-- Raise an event of an unreplicated block. -/
def State.raise (s : State) (code : Nat) (d1 : Nat := 0) (d2 : Nat := 0) : State := s.raiseAt code 0 d1 d2

/-- The bits of INT_FAULT whose latch asserts FAULT_N (R57, R58, R80, R82, R83, R37). -/
def intakeFaultMask : Word := 0x0000_0EC2

/-- FAULT_N is asserted: by a fault the intake die has latched, or by the fault wire while the logic die runs (R26). -/
def State.faultN (s : State) : Bool :=
  decide (s.intake.faults &&& intakeFaultMask ≠ 0) || s.intake.linkLost || s.intake.thermTrip || s.intake.vrmFault
    || (s.logic.on && s.logic.faultWire)

/-- An intake event: into the log over the link, or held while the logic die cannot take it (R55). -/
def State.intakeEvent (s : State) (code : Nat) : State :=
  if s.live && s.logic.linkUp then s.raise code
  else
    let h := s.intake.hist ++ [(s.intake.ticks, BitVec.ofNat 16 code)]
    { s with intake := { s.intake with hist := h.drop (h.length - 16) } }

end Sys2Proof.Machine
end

