-- ==== Sys2Proof/Machine/Banks.lean ====
section
/-! DEFINITION. The banks of the SRAM die and their owners (R637 to R641), a write that a bank answers
LOST (R646, R649), and the words of a log entry (R156). -/

namespace Sys2Proof.Machine

open Sys2Proof

/-! ### Banks (R637, R639) -/

/-- The uses of R639: first bank, banks, owner code and first INDEX. -/
def sramUses : List (Nat × Nat × Nat × Nat) := [
  (0, 8, 0x0E, 0), (8, 16, 0x0F, 0), (24, 8, 0x0D, 0), (256, 4, 0x06, 0), (260, 2, 0x08, 0), (262, 2, 0x09, 0),
  (264, 32, 0x01, 0), (296, 32, 0x01, 32), (328, 16, 0x02, 0), (344, 4, 0x03, 0), (348, 4, 0x04, 0), (352, 8, 0x05, 0),
  (360, 4, 0x07, 0), (64, 32, 0x0A, 0), (96, 8, 0x0B, 0), (104, 8, 0x0C, 0), (112, 8, 0x10, 0)]

/-- Owner codes without a block. -/
abbrev ownNone : Nat := 0x00
abbrev ownMgt : Nat := 0x11
abbrev ownSpare : Nat := 0xFE

/-- The allocation at reset (R639). -/
def bankReset (b : Nat) : SramBank :=
  match sramUses.find? fun u => decide (u.1 ≤ b ∧ b < u.1 + u.2.1) with
  | some u => { owner := u.2.2.1, index := u.2.2.2 + (b - u.1) }
  | none => { owner := ownSpare }

/-- The bank is a large one. -/
def bankLarge (b : Nat) : Bool := decide (256 ≤ b)

/-- Words and regions of a bank. -/
def bankWords (b : Nat) : Nat := if bankLarge b then 131072 else 8192
def bankRegions (b : Nat) : Nat := bankWords b / 512

/-- The bank group (R639). -/
def bankGroup (b : Nat) : Nat :=
  if b < 64 then 0 else if b < 160 then 6 else if b < 256 then 7 else if b < 264 then 1 else if b < 296 then 2
  else if b < 328 then 3 else if b < 352 then 4 else 5

/-- A use's count of banks over all its rows, and the kind of bank it takes; none for a code that is no use. -/
def useCount (owner : Nat) : Nat := ((sramUses.filter (·.2.2.1 == owner)).map (·.2.1)).sum
def useLarge (owner : Nat) : Option Bool := (sramUses.find? (·.2.2.1 == owner)).map fun u => bankLarge u.1

/-- A bank. -/
def State.bankAt (s : State) (b : Nat) : SramBank := (tabGet (fun _ => none) s.sram.banks b).getD (bankReset b)

/-- The state with a bank replaced. -/
def State.setBank (s : State) (b : Nat) (v : SramBank) : State :=
  { s with sram := { s.sram with
    banks := tabSet (fun _ => none) s.sram.banks b (if v = bankReset b then none else some v) } }

/-- Every bank number. -/
abbrev allBanks : List Nat := List.range 368

/-- The bank that holds an INDEX of a use. -/
def State.useBank (s : State) (owner index : Nat) : Nat :=
  (allBanks.find? fun b => !(s.bankAt b).failed && (s.bankAt b).owner == owner && (s.bankAt b).index == index).getD 0

/-- A write of port B is LOST: it counts, with event 0xC002 where LOST_EVT asks for it (R649). -/
def State.lostWrite (s : State) (b w : Nat) : State :=
  let t := s.count64 (Reg.SRM_CNT 2) 1
  if t.flag Reg.SRM_CTRL 2 then t.raise 0xC002 (b * 2 ^ 20 + w) else t

/-- The eight words of a log entry (R156). -/
def LogEntry.words (e : LogEntry) : List Nat :=
  [e.code.toNat * 65536 + e.inst * 256 + e.sev * 64 + bitNat e.forced * 32 + bitNat e.hist * 16 + bitNat e.tbSet * 8,
   e.seq.toNat, e.time.toNat % 2 ^ 32, e.time.toNat >>> 32, e.detail.toNat % 2 ^ 32, e.detail.toNat >>> 32,
   e.detail2.toNat, 0]

end Sys2Proof.Machine
end

