-- ==== Sys2Proof/Machine/Daltik.lean ====
section
/-! DEFINITION. The Daltik format: its codes, the decoder of R468, and what a class code table must satisfy
(R456 to R469, R486, R487). -/

namespace Sys2Proof.Machine

open Sys2Proof

/-! ### Codes (R463 to R467) -/

/-- Extra bits and base of a length symbol 257 to 287 (R463). -/
def lenCode (t : Nat) : Nat × Nat :=
  if t ≤ 268 then (0, t - 253)
  else if t = 285 then (9, 1036)
  else if t = 286 then (10, 1548)
  else if t = 287 then (11, 2572)
  else
    let k := (t - 269) / 2
    (k + 1, 12 + 4 * 2 ^ k + (if (t - 269) % 2 = 0 then 0 else 2 ^ (k + 1)))

/-- Extra bits and base of an offset class 0 to 25 (R464). -/
def offCode (c : Nat) : Nat × Nat :=
  if c < 4 then (0, c + 1)
  else
    let k := (c - 2) / 2
    (k, 2 ^ (k + 1) + (if c % 2 = 0 then 0 else 2 ^ k) + 1)

/-- The built-in literal/length code lengths (R467). -/
def builtinLit : List Nat :=
  3 :: List.replicate 31 8 ++ List.replicate 223 9 ++ [7, 9] ++ List.replicate 12 6 ++ List.replicate 12 7
    ++ List.replicate 7 8

/-- The built-in offset code lengths (R467). -/
def builtinOff : List Nat := [3, 4, 5, 4, 5, 4] ++ List.replicate 20 5

/-- The symbols of each code length from `b`, with the first word of that length (R466). -/
def codeRows (lens : List Nat) : (n b code prev : Nat) → List (Nat × List Nat)
  | 0, _, _, _ => []
  | n + 1, b, code, prev =>
    let first := (code + prev) * 2
    let syms := (List.range lens.length).filter fun i => lens.getD i 0 == b
    (first, syms) :: codeRows lens n (b + 1) first syms.length

/-- The canonical code of the lengths: for 1 to 15, the first word and the symbols in order (R466). -/
def canonical (lens : List Nat) : List (Nat × List Nat) := codeRows lens 15 1 0 0

/-! ### Reading a stream (R456, R457) -/

/-- A stream being read: its bits as one number and how many there are. -/
structure Stream where
  bits : Nat
  size : Nat

/-- A number of `k` bits at bit `n`, least significant first, with the position after it. -/
def Stream.number (x : Stream) (n k : Nat) : Option (Nat × Nat) :=
  if n + k ≤ x.size then some ((x.bits >>> n) % 2 ^ k, n + k) else none

/-- A symbol of a code at bit `n`: `c` holds the bits read so far. -/
def Stream.symbolFrom (x : Stream) : List (Nat × List Nat) → (c n : Nat) → Option (Nat × Nat)
  | [], _, _ => none
  | (first, syms) :: rest, c, n =>
    if x.size ≤ n then none
    else
      let c' := 2 * c + bitNat (Nat.testBit x.bits n)
      if first ≤ c' ∧ c' - first < syms.length then some (syms.getD (c' - first) 0, n + 1)
      else x.symbolFrom rest c' (n + 1)

/-- A symbol of a code (R468). -/
def Stream.symbol (x : Stream) (code : List (Nat × List Nat)) (n : Nat) : Option (Nat × Nat) := x.symbolFrom code 0 n

/-- Copy `len` bytes from `d` back onto a reversed output that ends in the dictionary, one byte at a time (R465). -/
def copyBack (d : Nat) : Nat → List Byte → List Byte
  | 0, h => h
  | n + 1, h => copyBack d n (h.getD (d - 1) 0 :: h)

/-- The tokens of a stream (R460, R468): the reversed output with the dictionary under it, and the position after the
end-of-page code word. The first argument bounds the tokens; `base` is the dictionary's length. -/
def Stream.tokens (x : Stream) (lit off : List (Nat × List Nat)) (lz : Bool) (base : Nat) :
    (fuel n : Nat) → List Byte → Option (List Byte × Nat)
  | 0, _, _ => none
  | f + 1, n, h =>
    match x.symbol lit n with
    | none => none
    | some (t, n1) =>
      if t < 256 then
        (if h.length = base + 4096 then none else x.tokens lit off lz base f n1 (BitVec.ofNat 8 t :: h))
      else if t = 256 then some (h, n1)
      else if !lz then none
      else
        match x.number n1 (lenCode t).1 with
        | none => none
        | some (e, n2) =>
          let len := (lenCode t).2 + e
          match x.symbol off n2 with
          | none => none
          | some (c, n3) =>
            match x.number n3 (offCode c).1 with
            | none => none
            | some (e', n4) =>
              let d := (offCode c).2 + e'
              if 4096 < len ∨ base + 4096 < h.length + len ∨ h.length < d then none
              else x.tokens lit off lz base f n4 (copyBack d len h)

/-! ### Classes (R459, R486) -/

/-- Code lengths from their 157 bytes (R486). -/
def nibbles (l : List Byte) : List Nat :=
  (List.range 314).map fun i => let b := (l.getD (i / 2) 0).toNat; if i % 2 = 0 then b % 16 else b / 16

/-- The codes and dictionary that a header's fields select (R459): none for an invalid combination. -/
def selectCodes (classes : Nat → CmpClass) (version cls mode : Nat) : Option (List Nat × List Nat × Bool × List Byte) :=
  let k := classes cls
  let dict := match k.dict with | some d => d | none => []
  if version = 1 then
    (if cls = 0 ∧ mode ≤ 1 then some (builtinLit, builtinOff, mode == 1, []) else none)
  else if version = 2 then
    if cls ≠ 0 ∧ !k.loaded then none
    else if mode = 0 then some (builtinLit, builtinOff, false, [])
    else if mode = 1 then some (builtinLit, builtinOff, true, if cls = 0 then [] else dict)
    else if mode = 2 ∧ cls ≠ 0 then
      match k.codes with
      | some c => some ((nibbles c).take 288, (nibbles c).drop 288, true, dict)
      | none => none
    else none
  else none

/-- Version, class and mode of a stream's header (R458). -/
def headerOf (l : List Byte) : Nat × Nat × Nat :=
  let h := leNat (l.take 4)
  (bits h 31 28, bits h 27 24, bits h 23 22)

/-- The decoder of R468 over the bytes of a stream, already cut to COMP_LENGTH: the page, or none. -/
def daltikDecode (classes : Nat → CmpClass) (format dict : Nat) (l : List Byte) : Option (List Byte) :=
  let x : Stream := { bits := leNat l, size := 8 * l.length }
  match x.number 0 32 with
  | none => none
  | some (h, n0) =>
    if h % 2 ^ 22 ≠ 0 ∨ bits h 31 28 ≠ format ∨ bits h 27 24 ≠ dict then none
    else
      match selectCodes classes (bits h 31 28) (bits h 27 24) (bits h 23 22) with
      | none => none
      | some (lit, off, lz, d) =>
        match x.tokens (canonical lit) (canonical off) lz d.length x.size n0 d.reverse with
        | none => none
        | some (out, n) =>
          let pad := (8 - n % 8) % 8
          match x.number n pad with
          | none => none
          | some (z, n1) =>
            match x.number n1 32 with
            | none => none
            | some (crc, n2) =>
              let page := (out.take (out.length - d.length)).reverse
              if page.length ≠ 4096 ∨ z ≠ 0 ∨ n2 ≠ x.size ∨ crc ≠ (crc32c page).toNat then none else some page

/-! ### Code tables (R487) -/

/-- Σ 2^(15 − len) over the lengths that are not 0. -/
def kraft (lens : List Nat) : Nat := (lens.map fun b => if b = 0 then 0 else 2 ^ (15 - b)).sum

/-- A class code table is valid (R487). -/
def codeTableOk (l : List Byte) : Bool :=
  let n := nibbles l
  let lit := n.take 288
  let off := n.drop 288
  ((lit.take 257).all fun b => b != 0) && kraft lit == 2 ^ 15
    && (if off.all (· == 0) then (lit.drop 257).all (· == 0) else kraft off == 2 ^ 15)

/-! ### Zero and Pattern pages (R339, R340, R343) -/

/-- All bytes are zero. -/
def isZeroPage (l : List Byte) : Bool := l.all (· == 0)

/-- The 512 words of a page are equal. -/
def isPatternPage (l : List Byte) : Bool :=
  l.drop 8 == l.take (l.length - 8)

end Sys2Proof.Machine
end

