-- ==== Sys2Proof/Machine/Cipher.lean ====
section
/-! DEFINITION. The ciphers of 13_crypto.md over one block of AES-256: XTS with ciphertext stealing (R508, R509), the
AES key wrap of RFC 3394 (R500, R501), the key check value (R502 and the key slots) and the forwarding key (R246). -/

namespace Sys2Proof.Machine

open Sys2Proof

/-- A 16-byte block, first byte most significant. -/
def toBlock (l : List Byte) : BitVec 128 := BitVec.ofNat 128 (beNat l)

/-- The bytes of a block. -/
def ofBlock (b : BitVec 128) : List Byte := beBytes 16 b.toNat

/-- AES-256 encryption of 16 bytes. -/
def aesEnc (k : BitVec 256) (l : List Byte) : List Byte := ofBlock (Config.aes k (toBlock l))

/-- AES-256 decryption of 16 bytes. -/
def aesDec (k : BitVec 256) (l : List Byte) : List Byte := ofBlock ((Config.aes k).symm (toBlock l))

/-- Bytewise exclusive or. -/
def xorBytes (a b : List Byte) : List Byte := List.zipWith (· ^^^ ·) a b

/-- The tweak of the next block: multiplication by the primitive element of IEEE 1619. -/
def xtsNext (t : List Byte) : List Byte :=
  let n := leNat t
  leBytes 16 ((n * 2 % 2 ^ 128) ^^^ (if 2 ^ 127 ≤ n then 0x87 else 0))

/-- One block under a tweak. -/
def xtsBlock (f : List Byte → List Byte) (t l : List Byte) : List Byte := xorBytes (f (xorBytes l t)) t

/-- XTS encryption from tweak `t`; the first argument bounds the blocks. -/
def xtsEncFrom (k1 : BitVec 256) : Nat → List Byte → List Byte → List Byte
  | 0, _, l => l
  | n + 1, t, l =>
    if l.length ≤ 16 then xtsBlock (aesEnc k1) t l
    else if l.length < 32 then
      let cc := xtsBlock (aesEnc k1) t (l.take 16)
      let p := l.drop 16
      xtsBlock (aesEnc k1) (xtsNext t) (p ++ cc.drop p.length) ++ cc.take p.length
    else xtsBlock (aesEnc k1) t (l.take 16) ++ xtsEncFrom k1 n (xtsNext t) (l.drop 16)

/-- XTS decryption from tweak `t`. -/
def xtsDecFrom (k1 : BitVec 256) : Nat → List Byte → List Byte → List Byte
  | 0, _, l => l
  | n + 1, t, l =>
    if l.length ≤ 16 then xtsBlock (aesDec k1) t l
    else if l.length < 32 then
      let pp := xtsBlock (aesDec k1) (xtsNext t) (l.take 16)
      let c := l.drop 16
      xtsBlock (aesDec k1) t (c ++ pp.drop c.length) ++ pp.take c.length
    else xtsBlock (aesDec k1) t (l.take 16) ++ xtsDecFrom k1 n (xtsNext t) (l.drop 16)

/-- The tweak value of a unit (R509): FORM is true for a slot unit. -/
def xtsTweak (region page : Nat) (slotForm : Bool) (ordinal : Nat) : Nat :=
  region % 2 ^ 16 * 2 ^ 64 + page % 2 ^ 34 * 2 ^ 16 + bitNat slotForm * 2 ^ 8 + ordinal % 2 ^ 8

/-- Encrypt a unit under a key pair (R508). -/
def xtsEnc (k1 k2 : BitVec 256) (tweak : Nat) (l : List Byte) : List Byte :=
  xtsEncFrom k1 (l.length / 16 + 1) (aesEnc k2 (leBytes 16 tweak)) l

/-- Decrypt a unit under a key pair (R508). -/
def xtsDec (k1 k2 : BitVec 256) (tweak : Nat) (l : List Byte) : List Byte :=
  xtsDecFrom k1 (l.length / 16 + 1) (aesEnc k2 (leBytes 16 tweak)) l

/-- One pass of RFC 3394 unwrapping: A, and the 64-bit registers from the last to the first, step `t` counting down. -/
def unwrapPass (k : BitVec 256) : Nat → DWord → List DWord → DWord × List DWord
  | _, a, [] => (a, [])
  | t, a, r :: rs =>
    let b := ((Config.aes k).symm (((a ^^^ BitVec.ofNat 64 t) ++ r : BitVec 128))).toNat
    let (a', rs') := unwrapPass k (t - 1) (BitVec.ofNat 64 (b >>> 64)) rs
    (a', BitVec.ofNat 64 b :: rs')

/-- The six passes of RFC 3394 unwrapping, registers last first. -/
def unwrapPasses (k : BitVec 256) (n : Nat) : Nat → DWord → List DWord → DWord × List DWord
  | 0, a, rs => (a, rs)
  | j + 1, a, rs =>
    let (a', rs') := unwrapPass k (n * j + n) a rs
    unwrapPasses k n j a' rs'

/-- The 64-bit words of a byte string, most significant byte first. -/
def words64 : Nat → List Byte → List DWord
  | 0, _ => []
  | n + 1, l => BitVec.ofNat 64 (beNat (l.take 8)) :: words64 n (l.drop 8)

/-- RFC 3394 unwrapping with the default initial value: the plaintext, or none where the check fails (R500, R501). -/
def keyUnwrap (k : BitVec 256) (c : List Byte) : Option (List Byte) :=
  let n := c.length / 8 - 1
  match words64 (n + 1) c with
  | [] => none
  | a :: rs =>
    let (a', rs') := unwrapPasses k n 6 a rs.reverse
    if a' = 0xA6A6A6A6A6A6A6A6 then some (rs'.reverse.flatMap fun w => beBytes 8 w.toNat) else none

/-- The key check value of K1: three bytes of the encryption of sixteen zero bytes (Key slots). -/
def keyCheck (k1 : BitVec 256) : Nat := beNat ((aesEnc k1 (List.replicate 16 0)).take 3)

/-- The forwarding key of a session key (R246). -/
def forwardKey (k : BitVec 256) : BitVec 256 :=
  let b (x : Byte) : List Byte := [0x4B, 0x43, 0x54, 0x46, 0x57, 0x44] ++ List.replicate 9 0 ++ [x]
  BitVec.ofNat 256 (beNat (aesEnc k (b 1) ++ aesEnc k (b 2)))

/-- A 256-bit key from 32 bytes. -/
def keyOf (l : List Byte) : BitVec 256 := BitVec.ofNat 256 (beNat l)

end Sys2Proof.Machine
end

