-- ==== Sys2Proof/Machine/Frames.lean ====
section
/-! DEFINITION. Frames as bytes (R3, R186 to R188, R220, R221, R224): the KCT base header, and what stands before it in a
frame. `none` marks a byte that the fields do not give. -/

namespace Sys2Proof.Machine

open Sys2Proof

/-- The 24 bytes of a KCT base header (R224), multi-byte fields most significant byte first (R3). -/
def headerBytes (h : BaseHeader) : List Byte :=
  beBytes 1 (h.version.toNat * 16 + bitNat h.ar * 8 + bitNat h.rt * 4) ++ [h.type]
    ++ beBytes 2 (h.client.toNat * 16 + h.epoch.toNat) ++ beBytes 4 h.seq.toNat ++ beBytes 4 h.cumAck.toNat
    ++ beBytes 2 h.sack.toNat
    ++ beBytes 1 (h.channel.toNat * 64 + bitNat h.keyPhase * 32 + bitNat h.ecnEcho * 16)
    ++ beBytes 1 (h.segIndex.toNat * 2 + bitNat h.last) ++ beBytes 4 (h.msgId.toNat * 256 + h.status.toNat)
    ++ beBytes 2 h.payloadLen.toNat ++ beBytes 2 h.credit.toNat

/-- The base header that 24 bytes spell; reserved bits are ignored (R224, R226). -/
def baseHeaderOf (l : List Byte) : BaseHeader :=
  let b (i : Nat) : Nat := beAt l i 1
  { version := BitVec.ofNat 4 (bits (b 0) 7 4), ar := bit (b 0) 3, rt := bit (b 0) 2, type := BitVec.ofNat 8 (b 1)
    client := BitVec.ofNat 12 (bits (beAt l 2 2) 15 4), epoch := BitVec.ofNat 4 (bits (beAt l 2 2) 3 0)
    seq := BitVec.ofNat 32 (beAt l 4 4), cumAck := BitVec.ofNat 32 (beAt l 8 4), sack := BitVec.ofNat 16 (beAt l 12 2)
    channel := BitVec.ofNat 2 (bits (b 14) 7 6), keyPhase := bit (b 14) 5, ecnEcho := bit (b 14) 4
    segIndex := BitVec.ofNat 7 (bits (b 15) 7 1), last := bit (b 15) 0
    msgId := BitVec.ofNat 24 (bits (beAt l 16 4) 31 8), status := BitVec.ofNat 8 (bits (beAt l 16 4) 7 0)
    payloadLen := BitVec.ofNat 16 (beAt l 20 2), credit := BitVec.ofNat 16 (beAt l 22 2) }

/-- Bytes that are all given. -/
def given (l : List Byte) : List (Option Byte) := l.map some

/-- A byte that is given where its value is. -/
def maybe (v : Option Nat) : List (Option Byte) := [v.map (BitVec.ofNat 8)]

/-- The bytes of an IP header whose datagram is `len` bytes long (R187, R220): `tos` holds DSCP and ECN, `frag` the flags and
fragment offset of an IPv4 header. -/
def ipBytes (v6 : Bool) (ihl : Nat) (tos : Option Nat) (len next : Nat) (frag ttl : Option Nat) (src dst : BitVec 128) :
    List (Option Byte) :=
  if v6 then
    maybe (tos.map fun t => 0x60 + t / 16) ++ [none, none, none] ++ given (beBytes 2 (len - 40) ++ beBytes 1 next) ++ maybe ttl
      ++ given (beBytes 16 src.toNat ++ beBytes 16 dst.toNat)
  else
    given (beBytes 1 (0x40 + ihl)) ++ maybe tos ++ given (beBytes 2 len) ++ [none, none] ++ maybe (frag.map (· / 256))
      ++ maybe frag ++ maybe ttl ++ given (beBytes 1 next) ++ [none, none]
      ++ given (beBytes 4 src.toNat ++ beBytes 4 dst.toNat)

/-- The parts 1 to 5 of a sent KCT frame in order (R220): Ethernet, 802.1Q tag, IP, UDP and KCT base header. -/
def sentBytes (tag : Option (Nat × Nat)) (h : TxHeaders) (box : Sealed) : List (Option Byte) :=
  let udp := 48 + box.plain.length
  let ip := ipBytes h.ip.v6 5 (some (4 * h.ip.dscp + h.ip.ecn)) ((if h.ip.v6 then 40 else 20) + udp) 17
    (some (if h.ip.df then 0x4000 else 0)) (some h.ip.ttl) h.ip.src h.ip.dst
  let q := match tag with | some (pcp, vid) => given (beBytes 2 0x8100 ++ beBytes 2 (pcp * 2 ^ 13 + vid)) | none => []
  given (beBytes 6 h.da.toNat ++ beBytes 6 h.sa.toNat) ++ q ++ given (beBytes 2 (if h.ip.v6 then 0x86DD else 0x0800)) ++ ip
    ++ given (beBytes 2 h.udpSrc ++ beBytes 2 h.udpDst ++ beBytes 2 udp)
    ++ (if h.sum then [none, none] else [some 0, some 0]) ++ given (headerBytes box.aad)

/-- The leading bytes of a received frame as its fields give them; after a SecTAG the frame is protected. -/
def fieldBytes (f : EthFrame) : List (Option Byte) :=
  let macs := given (beBytes 6 f.da.toNat ++ beBytes 6 f.sa.toNat)
  if f.secTag.isSome then macs ++ given (beBytes 2 0x88E5)
  else
    let tags := f.tags.flatMap fun t => given (beBytes 2 t.1) ++ [none, some (BitVec.ofNat 8 t.2)]
    let ip := match f.ip with
      | some h =>
        ipBytes h.v6 h.ihl (if h.ce then some (4 * h.dscp + 3) else none) h.totalLen h.next none none h.src h.dst
          ++ (if h.next = 17 then given (beBytes 2 f.udpSrc ++ beBytes 2 f.udpDst ++ beBytes 2 f.udpLen) ++ [none, none]
            ++ (match f.body with | .kct hdr _ => given (headerBytes hdr) | _ => []) else [])
      | none => []
    macs ++ tags ++ given (beBytes 2 f.etherType) ++ ip

/-- The first 128 bytes of a received frame (R215): those that its fields give, and the operand's for the rest; a shorter frame
is filled with zeros. -/
def frameBytes (f : EthFrame) : List Byte :=
  let l := fieldBytes f
  (List.range 128).map fun i => match l.getD i none with | some b => b | none => f.first.getD i 0

end Sys2Proof.Machine
end

