-- ==== Sys2Proof/Machine/Resets.lean ====
section
/-! DEFINITION. What the resets of the logic die leave (04, What each reset keeps): power-on reset and SYS_RST_N. The
warm reset stands with the boot sequencer. -/

namespace Sys2Proof.Machine

open Sys2Proof

/-- MGT_RESET_CAUSE bits (R131). -/
abbrev causeVstby : Word := 0x01
abbrev causePgOut : Word := 0x02
abbrev causeVrm : Word := 0x04
abbrev causeSysRst : Word := 0x08
abbrev causeWarm : Word := 0x10
abbrev causeAutoWarm : Word := 0x20

/-- What of the boot machinery no reset loses: the boot store and the fuses (R108, R113). A program or erase under way is
dropped and leaves the boot store's bytes as they were: the manual does not say what SYS_RST_N makes of it when R32 takes the
pins (DESIGN CHOICE, log 177). -/
def Boot.kept (b : Boot) : Boot :=
  { flash := b.flash, keyHash0 := b.keyHash0, keyHash1 := b.keyHash1, revoked0 := b.revoked0, revoked1 := b.revoked1,
    rollback := b.rollback, serial := b.serial }

/-- What of the crypto block no reset loses: its fuse bank (R498). -/
def Crypto.kept (c : Crypto) : Crypto := { fuseF := c.fuseF, provisioned := c.provisioned }

/-- The logic and SRAM dies in power-on reset, `cause` to be recorded at release (R104): the intake die, the boot
store and the fuses stay, everything else is as at reset, and the INT mirror shows the intake die's
configuration (R53). TRST_N is a ball and stays; the TAP goes to Test-Logic-Reset with the rest, which the manual does not say
(DESIGN CHOICE, log 178). -/
def State.powerOn (s : State) (cause : Word) : State :=
  { State.reset with
    pending := s.pending
    now := s.now
    fresh := s.fresh
    out := s.out
    regs := s.intake.cfg
    logic := { trst := s.logic.trst }
    intake := { s.intake with linkWrite := none }
    boot := { s.boot.kept with nextCause := cause }
    cry := s.cry.kept }

/-- PG_OUT deasserts, and with it SEQ_OUT in the same tick (R72, R96); the logic die returns to power-on reset. -/
def State.dropPg (s : State) (cause : Word) : State :=
  if s.intake.pgOut then
    (s.powerOn cause).setIntake { s.intake with pgOut := false, seqOut := false, linkWrite := none, braceSent := false }
  else s

end Sys2Proof.Machine
end

