-- ==== Sys2Proof/Machine/PowerBase.lean ====
section
/-! DEFINITION. What every block asks of the power manager (20_power_states.md): whether its domain is Up, the stall of an
access to a gated one, the named states and their sets, and wake events. -/

namespace Sys2Proof.Machine

open Sys2Proof

/-- A domain. -/
def State.dom (s : State) (d : Nat) : Dom := tabGet (fun _ => {}) s.pwr.doms d

/-- The state with a domain replaced. -/
def State.setDom (s : State) (d : Nat) (v : Dom) : State :=
  { s with pwr := { s.pwr with doms := tabSet (fun _ => {}) s.pwr.doms d v } }

/-- The logic die runs and a domain is Up; D0 always is (R714). -/
def State.up (s : State) (d : Nat) : Bool := s.live && (d == 0 || (s.dom d).state == .up)

/-- A domain is Failed (R745). -/
def State.domFailed (s : State) (d : Nat) : Bool := (s.dom d).state == .failed

/-- An access that needs a domain that is not Up sets IMPLICIT and stalls (R718). -/
def State.stall (s : State) (d : Nat) : State :=
  if s.live && !s.up d && !s.domFailed d then s.setDom d { s.dom d with implicit := true } else s

/-- The core island stands still while its PLL relocks: its stages, in D3 to D12, take nothing (R771). -/
def State.coreStalled (s : State) (d : Nat) : Bool := s.thermal.relock && decide (3 ≤ d ∧ d ≤ 12)

/-- The outcome of a command whose access needs a domain: it stalls where the domain is not Up, waits where its island's clock
changes (R771), and otherwise acts while `ok` holds. -/
def needing (d : Nat) (ok : Bool) (s t : State) : Host.Outcome State Fault Refusal :=
  if s.up d then guarded (ok && !s.coreStalled d) s t else .next (s.stall d)

/-- The outcome of a register command: an access to a Failed domain reports DomainFailed (R139, R745), and one to a gated
domain stalls. -/
def commanding (d : Nat) (ok : Bool) (s t : State) : Host.Outcome State Fault Refusal :=
  if s.domFailed d then .next (s.wrote stDomainFailed) else needing d ok s t

/-- The same for a register command whose effect needs a second domain. -/
def commanding2 (d e : Nat) (ok : Bool) (s t : State) : Host.Outcome State Fault Refusal :=
  if s.domFailed d || s.domFailed e then .next (s.wrote stDomainFailed)
  else if s.up d then needing e ok s t
  else .next (s.stall d)

/-- The domain of a port's island (R713). -/
def portDom (p : Nat) : Nat := 1 + p

/-- The port island kept in Dormant (R214). -/
def State.keptPort (s : State) : Nat :=
  if !s.flag (Reg.PRT_WAKE_CFG 0) 0 && s.flag (Reg.PRT_WAKE_CFG 1) 0 then 1 else 0

/-- The effective state (R725, R727): the deeper of the requested one and the auto depth, Drowsy under a SCRUB wake. -/
def State.effective (s : State) : Nat :=
  let e := max (s.fld Reg.PWR_REQ 2 0) s.pwr.auto
  if s.pwr.scrubUp && e == 3 then 2 else e

/-- The ports sleep: the device is in Dormant and stays there (R216, R217). -/
def State.portAsleep (s : State) : Bool := s.effective == 3 && s.pwr.current == 3

/-- A FRAME wake can occur: the effective state is Dormant, or a Dormant entry is short of its point of no return (R726). -/
def State.frameWakes (s : State) : Bool := s.effective == 3 || (s.pwr.entering == some 3 && decide (s.pwr.ap < 5))

/-- Whether the set of a named state holds a domain (R722). -/
def State.inSet (s : State) (st d : Nat) : Bool :=
  if d = 0 then true
  else if st ≤ 1 then decide (d ≤ 36)
  else if st = 2 then decide (d ≤ 36) && d != 10
  else if st = 3 then d == portDom s.keptPort
  else false

/-- The STATE vote of a domain (R715): past the point of no return of an entry, the set of the state being entered holds
(R730, R733). -/
def State.stateVote (s : State) (d : Nat) : Bool :=
  match s.pwr.entering with
  | some t => if s.pwr.ap = 5 then s.inSet t d else s.inSet s.pwr.current d || s.inSet s.effective d
  | none => s.inSet s.pwr.current d || s.inSet s.effective d

/-- Record an entry's end or its abandoning in PWR_RESULT. -/
def State.pwrResult (s : State) (code : Nat) : State := s.setReg Reg.PWR_RESULT (BitVec.ofNat 32 (0x8000_0000 + code))

/-- The clocks that AP4 of an entry to `t` has stopped run again. -/
def State.clocksOn (s : State) (t : Nat) : State :=
  ((List.range 28).map (· + 1)).foldl (fun u d => if s.inSet t d then u else u.setDom d { u.dom d with clockGated := false }) s

/-- Abandon an entry that has not passed its point of no return, with a result and event 0x0402 (R731, R735 to R737). The device
stays in the state that it held, until its effective state changes again (DEDUCED, log 213). -/
def State.abandonEntry (s : State) (result : Nat) : State :=
  if s.pwr.entering.isSome && decide (s.pwr.ap < 5) then
    let s0 := if s.pwr.ap = 4 then s.clocksOn (s.pwr.entering.getD 0) else s
    let s1 := ({ s0 with pwr := { s0.pwr with entering := none, ap := 0 } }).pwrResult result
    (s1.raise 0x0402 (s.pwr.ap * 256 + result)).count64 (Reg.PWR_CNT 2) 1
  else s

/-- An exit to a shallower state starts (R740): STATE is set on the target's set; from Dormant in three waves. One in progress goes
on, to the state that is then the effective one. -/
def State.startExit (s : State) (src : Nat) : State :=
  if s.pwr.current ≤ s.effective || s.pwr.exiting.isSome then s
  else
    let s1 := if s.pwr.current = 3 then (s.raise 0x0404 src).setReg Reg.PWR_WAKE_SRC (BitVec.ofNat 32 src) else s
    { s1 with pwr := { s1.pwr with exiting := some (if s.pwr.current = 3 then 1 else 4), wakeAt := s.now } }

/-- The device moves to its effective state after a wake event: an entry is abandoned short of its point of no return
and ends before the exit past it (R731, R733). -/
def State.toEffective (s : State) (src : Nat) : State :=
  match s.pwr.entering with
  | some t =>
    if s.effective < t then
      (if s.pwr.ap < 5 then s.abandonEntry 2 else { s with pwr := { s.pwr with wakeAfter := true } })
    else s
  | none => s.startExit src

/-- A wake event (R726, R727): it clears the auto depth, and FRAME (1) and ALARM (2) set PWR_REQ to WAKE_TO where it
names Dormant. Sources: 1 FRAME, 2 ALARM, 3 SCRUB, 4 manager, 5 REQUEST. -/
def State.wakeEvent (s : State) (src : Nat) : State :=
  let s1 := { s with pwr := { s.pwr with auto := 0, scrubUp := s.pwr.scrubUp || src == 3 } }
  let s2 :=
    if (src == 1 || src == 2) && s.fld Reg.PWR_REQ 2 0 == 3 then s1.setFld Reg.PWR_REQ 2 0 (s.fld Reg.PWR_WAKE_CFG 10 8)
    else s1
  let s3 :=
    if src = 1 then s2.count64 (Reg.PWR_CNT 3) 1
    else if src = 2 then s2.count64 (Reg.PWR_CNT 4) 1
    else if src = 3 then s2.count64 (Reg.PWR_CNT 5) 1
    else s2
  (s3.setReg Reg.PWR_WAKE_SRC (BitVec.ofNat 32 src)).toEffective src

end Sys2Proof.Machine
end

