-- ==== Sys2Proof/Machine/PortBase.lean ====
section
/-! DEFINITION. What the MACs are configured as, the checks of a received frame (R183 to R187), the receive buffer with
its PFC (R190), MACsec packet numbers (R204, R205) and what a MAC sends. -/

namespace Sys2Proof.Machine

open Sys2Proof

/-- The port of a MAC, and the MAC within it. -/
abbrev macPort (m : Nat) : Nat := m / 4
abbrev macIdx (m : Nat) : Nat := m % 4

/-- A MAC. -/
def State.mac (s : State) (m : Nat) : Mac := tabGet (fun _ => {}) s.ports.macs m

/-- The state with a MAC replaced. -/
def State.setMac (s : State) (m : Nat) (v : Mac) : State :=
  { s with ports := { s.ports with macs := tabSet (fun _ => {}) s.ports.macs m v } }

/-- A MACsec SA: `16 * mac + s`. -/
def State.sa (s : State) (m i : Nat) : MsSa := tabGet (fun _ => {}) s.ports.sas (16 * m + i)

/-- The state with a MACsec SA replaced. -/
def State.setSa (s : State) (m i : Nat) (v : MsSa) : State :=
  { s with ports := { s.ports with sas := tabSet (fun _ => {}) s.ports.sas (16 * m + i) v } }

/-- MODE of a MAC's port (R175). -/
def State.portMode (s : State) (p : Nat) : Nat := s.fld (Reg.PRT_PORT_CTRL p) 2 0

/-- The attachment units of R175. -/
inductive Attachment where
  | gaui400x8 | gaui400x4 | gaui200x4 | gaui200x2 | gaui100x2 | gaui100x1
  deriving DecidableEq, Repr

/-- A port mode (R175): its MACs and their rate in Gb/s, the attachment unit, the lanes of each MAC and their rate in Mb/s. -/
structure PortMode where
  macs : Nat
  rate : Nat
  unit : Attachment
  lanes : Nat
  laneRate : Nat
  deriving DecidableEq, Repr

/-- The port modes of R175; none for the reserved codes. -/
def portModeOf (mode : Nat) : Option PortMode :=
  ([⟨1, 400, .gaui400x8, 8, 53125⟩, ⟨1, 400, .gaui400x4, 4, 106250⟩, ⟨2, 200, .gaui200x4, 4, 53125⟩,
    ⟨2, 200, .gaui200x2, 2, 106250⟩, ⟨4, 100, .gaui100x2, 2, 53125⟩, ⟨4, 100, .gaui100x1, 1, 106250⟩] : List PortMode)[mode]?

/-- The mode of a MAC's port, where it is not a reserved code. -/
def State.modeOf (s : State) (p : Nat) : Option PortMode := portModeOf (s.portMode p)

/-- The MAC is one that its port's mode provides (R175, R176). -/
def State.macProvided (s : State) (m : Nat) : Bool :=
  decide (m < 8) && (match s.modeOf (macPort m) with | some x => decide (macIdx m < x.macs) | none => false)

/-- The lanes of a MAC (R175); a lane is always the pair of its own number (R177). -/
def State.macLanes (s : State) (m : Nat) : List Nat :=
  match s.modeOf (macPort m) with
  | some x => if macIdx m < x.macs then (List.range x.lanes).map (macIdx m * x.lanes + ·) else []
  | none => []

/-- A lane that no MAC of its port uses is powered down (R175). -/
def State.laneDown (s : State) (p l : Nat) : Bool :=
  match s.modeOf p with | some x => decide (x.macs * x.lanes ≤ l) | none => true

/-- The MAC to which a lane of a port belongs. -/
def State.laneMac (s : State) (p l : Nat) : Nat :=
  match s.modeOf p with | some x => 4 * p + l / x.lanes | none => 4 * p

/-- What a MAC advertises under Clause 73: only modes 2 and 4 negotiate (R180). -/
def State.ability (s : State) (m : Nat) : Option Ability :=
  if s.portMode (macPort m) = 2 then some .cr4x200 else if s.portMode (macPort m) = 4 then some .cr2x100 else none

/-- AN_EN of a MAC, which reads 0 where its port's mode does not negotiate (R180). -/
def State.anOn (s : State) (m : Nat) : Bool :=
  s.flag (Reg.PRT_AN_CFG (macPort m) (macIdx m)) 0 && (s.ability m).isSome

/-- The MAC is provided and the ports are enabled (R105, R175). -/
def State.macOn (s : State) (m : Nat) : Bool := s.macProvided m && s.boot.portsOn

/-- The rate of a MAC in Gb/s (R175). -/
def State.macRate (s : State) (m : Nat) : Nat := match s.modeOf (macPort m) with | some x => x.rate | none => 100

/-- The MAC is provided, its island is Up and its link is up. -/
def State.macUp (s : State) (m : Nat) : Bool :=
  s.macOn m && s.up (portDom (macPort m)) && (s.mac m).linkUp

/-- MTU of a MAC (R185). -/
def State.mtu (s : State) (m : Nat) : Nat := s.fld (Reg.PRT_MAC_CFG (macPort m) (macIdx m)) 13 0

/-- A 48-bit address held in a register pair. -/
def State.addr48 (s : State) (lo hi : Nat) : BitVec 48 :=
  BitVec.ofNat 48 (s.fld hi 15 0 * 2 ^ 32 + (s.reg lo).toNat)

/-- The MAC's own address. -/
def State.macAddr (s : State) (m : Nat) : BitVec 48 :=
  s.addr48 (Reg.PRT_MAC_ADDR_LO (macPort m) (macIdx m)) (Reg.PRT_MAC_ADDR_HI (macPort m) (macIdx m))

/-- The MAC's IPv4 address; zero is absent (R191). -/
def State.ipv4 (s : State) (m : Nat) : BitVec 32 := s.reg (Reg.PRT_IPV4 (macPort m) (macIdx m))

/-- A 128-bit address held in four registers, the first most significant. -/
def State.addr128 (s : State) (a : Nat) : BitVec 128 :=
  s.reg a ++ s.reg (a + 4) ++ s.reg (a + 8) ++ s.reg (a + 12)

/-- The MAC's IPv6 addresses that are present, link-local then global (R191). -/
def State.ipv6s (s : State) (m : Nat) : List (BitVec 128) :=
  [s.addr128 (Reg.PRT_IPV6_LL (macPort m) (macIdx m) 0), s.addr128 (Reg.PRT_IPV6_GL (macPort m) (macIdx m) 0)].filter
    (fun a => a != 0)

/-- The MAC has an address of an IP version (R191, R197). -/
def State.hasIp (s : State) (m : Nat) (v6 : Bool) : Bool :=
  if v6 then !(s.ipv6s m).isEmpty else s.ipv4 m != 0

/-- The gateway addresses of a MAC; zero is absent (R193). -/
def State.gwIp4 (s : State) (m : Nat) : BitVec 32 := s.reg (Reg.PRT_GW_IPV4 (macPort m) (macIdx m))
def State.gwIp6 (s : State) (m : Nat) : BitVec 128 := s.addr128 (Reg.PRT_GW_IPV6 (macPort m) (macIdx m) 0)

/-- Counters of PRTn_CNT[m] (R219). -/
abbrev cRxFrames : Nat := 0
abbrev cRxBytes : Nat := 1
abbrev cRxFcs : Nat := 2
abbrev cRxOversize : Nat := 3
abbrev cRxMacsec : Nat := 4
abbrev cRxDa : Nat := 5
abbrev cRxVlan : Nat := 6
abbrev cRxType : Nat := 7
abbrev cRxIp : Nat := 8
abbrev cRxProto : Nat := 9
abbrev cRxBuf : Nat := 10
abbrev cRxPauseIgnored : Nat := 11
abbrev cRxPfc : Nat := 12
abbrev cTxPfc : Nat := 13
abbrev cTxFrames : Nat := 14
abbrev cTxBytes : Nat := 15
abbrev cEchoDrop : Nat := 16
abbrev cTxHeld : Nat := 17

/-- Add `n` to a counter of a MAC. -/
def State.macCount (s : State) (m c n : Nat) : State := s.count64 (Reg.PRT_CNT (macPort m) (macIdx m) c) n

/-- MACsec is enabled on a MAC (R202). -/
def State.msOn (s : State) (m : Nat) : Bool := s.flag (Reg.PRT_MS_CTRL (macPort m) (macIdx m)) 0

/-- TX_AN of a MAC (R205). -/
def State.txAn (s : State) (m : Nat) : Nat := s.fld (Reg.PRT_MS_CTRL (macPort m) (macIdx m)) 5 4

/-! ### Checks of a received frame -/

/-- PTP IP multicast groups of IEEE 1588, as addresses and as the MAC addresses they map to. -/
def ptpGroups4 : List (BitVec 32) := [0xE0000181, 0xE000006B]
def ptpGroupMacs : List (BitVec 48) := [0x01005E000181, 0x01005E00006B, 0x333300000181, 0x33330000006B]

/-- The MAC has an IP address (R191). -/
def State.addressed (s : State) (m : Nat) : Bool := s.hasIp m false || s.hasIp m true

/-- The destination MAC address is accepted (R184); an address of all zeros is absent (R191). -/
def State.daOk (s : State) (m : Nat) (f : EthFrame) : Bool :=
  (f.da == s.macAddr m && f.da != 0)
    || (f.da == 0xFFFFFFFFFFFF && f.etherType == 0x0806)
    || (s.ipv6s m).any (fun a => f.da == 0x3333FF000000 + (a.setWidth 24).setWidth 48)
    || f.da == 0x333300000001
    || f.da == 0x011B19000000 || f.da == 0x0180C200000E || ptpGroupMacs.contains f.da
    || (f.da == 0x0180C2000001 && f.etherType == 0x8808)

/-- VLAN tagging agrees with VLAN_MODE (R186). -/
def State.vlanOk (s : State) (m : Nat) (f : EthFrame) : Bool :=
  let cfg := Reg.PRT_MAC_CFG (macPort m) (macIdx m)
  let vid := s.fld cfg 27 16
  match f.tags with
  | [] => s.fld cfg 29 28 != 1
  | [(t, v)] =>
    t != 0x88A8 &&
      (match s.fld cfg 29 28 with
       | 0 => v == 0
       | 1 => v == vid
       | _ => v == 0 || v == vid)
  | _ => false

/-- The EtherType is one the device takes (R183, check 5); a SecTAG met with MACsec off is none of them. -/
def State.typeOk (s : State) (m : Nat) (f : EthFrame) : Bool :=
  (s.msOn m || f.secTag.isNone) && [0x0800, 0x86DD, 0x0806, 0x88F7, 0x8808].contains f.etherType

/-- The frame carries an IP datagram. -/
def frameIsIp (f : EthFrame) : Bool := f.etherType == 0x0800 || f.etherType == 0x86DD

/-- The frame carries UDP to a PTP port. -/
def frameIsPtpUdp (f : EthFrame) : Bool :=
  match f.ip with | some h => h.next == 17 && (f.udpDst == 319 || f.udpDst == 320) | none => false

/-- The frame carries a neighbour solicitation or advertisement. -/
def frameIsNeigh (f : EthFrame) : Bool :=
  match f.body with | .neighSol .. | .neighAdv .. => true | _ => false

/-- The IP destination is one of the MAC's own (R187). The groups whose frames R184 accepts count as its own for what is sent
to them: the solicited-node groups of its addresses and the all-nodes group for neighbour discovery, the PTP groups for PTP. -/
def State.ipDstOk (s : State) (m : Nat) (f : EthFrame) (h : IpHeader) : Bool :=
  if h.v6 then
    (s.ipv6s m).any (fun a => h.dst == a
        || (frameIsNeigh f && (h.dst == 0xFF0200000000000000000001FF000000 + (a.setWidth 24).setWidth 128
          || h.dst == 0xFF020000000000000000000000000001)))
      || (s.hasIp m true && frameIsPtpUdp f
        && (h.dst == 0xFF02000000000000000000000000006B || h.dst == 0xFF0E0000000000000000000000000181))
  else
    s.ipv4 m != 0 && (h.dst == (s.ipv4 m).setWidth 128
      || (frameIsPtpUdp f && ptpGroups4.any (fun g => h.dst == g.setWidth 128)))

/-- The rules of R187. -/
def State.ipOk (s : State) (m : Nat) (f : EthFrame) : Bool :=
  if frameIsIp f then
    match f.ip with
    | none => false
    | some h =>
      (h.v6 == (f.etherType == 0x86DD)) && s.ipDstOk m f h &&
        (if h.v6 then h.next == 17 || h.next == 58 else h.ihl == 5 && h.hdrSumOk && !h.fragmented)
  else true

/-- The datagram is longer than MTU (R185). -/
def State.ipOversize (s : State) (m : Nat) (f : EthFrame) : Bool :=
  match f.ip with
  | some h => frameIsIp f && decide (s.mtu m < h.totalLen)
  | none => false

/-- The KCT port of a MAC's port (R221). -/
def State.kctPort (s : State) (m : Nat) : Nat := s.fld (Reg.PRT_KCT_UDP_PORT (macPort m)) 15 0

/-- The payload is one the device takes (R183, check 7). -/
def State.protoOk (s : State) (m : Nat) (f : EthFrame) : Bool :=
  if frameIsIp f then
    match f.ip with
    | none => false
    | some h =>
      if h.next = 17 then f.udpDst == s.kctPort m || f.udpDst == 319 || f.udpDst == 320
      else
        match f.body with
        | .echo _ => (h.next == 1 && !h.v6) || (h.next == 58 && h.v6)
        | .neighSol .. | .neighAdv .. => h.next == 58 && h.v6
        | _ => false
  else true

/-- The UDP checksum is correct; an IPv4 checksum of 0 is accepted (R183, check 8). -/
def frameUdpOk (f : EthFrame) : Bool :=
  match f.ip with
  | some h => !frameIsIp f || h.next != 17 || f.udpSum == .good || (f.udpSum == .zero && !h.v6)
  | none => true

/-- XPN of a MAC (R202). -/
def State.msXpn (s : State) (m : Nat) : Bool := s.flag (Reg.PRT_MS_CTRL (macPort m) (macIdx m)) 1

/-- The SCI of a MAC address: IEEE 802.1AE puts port identifier 1 after it (PRESUMED, log 198). -/
def sciOf (a : BitVec 48) : BitVec 64 := a ++ (1 : BitVec 16)

/-- The nonce of a MACsec frame (R202, IEEE 802.1AE-2018): SCI and PN, or under XPN the SSCI and the 64-bit PN with the salt
added bit by bit (PRESUMED, log 198). -/
def msNonce (xpn : Bool) (sa : MsSa) (sci : BitVec 64) (pn : Nat) : BitVec 96 :=
  if xpn then (sa.ssci ++ BitVec.ofNat 64 pn) ^^^ sa.salt else sci ++ BitVec.ofNat 32 pn

/-- The ICV of a frame verifies under an SA (R202, R204): the SCI is the tag's, or without one the source address's. -/
def State.icvOk (s : State) (m : Nat) (f : EthFrame) (t : SecTag) (sa : MsSa) : Bool :=
  t.key == sa.key && t.nonce == msNonce (s.msXpn m) sa (t.sci.getD (sciOf f.sa)) t.pn

/-- MACsec verification of a frame (R204): the state after it, and whether the frame passes. -/
def State.macsecRx (s : State) (m : Nat) (f : EthFrame) : State × Bool :=
  if !s.msOn m then (s, true)
  else
    match f.secTag with
    | none => (s, false)
    | some t =>
      let sa := s.sa m (4 + t.an % 4)
      if !sa.valid then (s, false)
      else if !s.icvOk m f t sa then (s.count (Reg.PRT_MS_ICV_FAIL (macPort m) (macIdx m)), false)
      else if t.pn + (s.reg (Reg.PRT_MS_REPLAY (macPort m) (macIdx m))).toNat < sa.pn then
        (s.count (Reg.PRT_MS_REPLAY_DROP (macPort m) (macIdx m)), false)
      else (s.setSa m (4 + t.an % 4) { sa with pn := max sa.pn t.pn }, true)

/-- The first of the checks 3 to `7` of R183 that fails, as its counter. -/
def State.rxCheckHeaders (s : State) (m : Nat) (f : EthFrame) : Option Nat :=
  if !s.daOk m f then some cRxDa
  else if !s.vlanOk m f then some cRxVlan
  else if !s.typeOk m f then some cRxType
  else if s.ipOversize m f then some cRxOversize
  else if !s.ipOk m f then some cRxIp
  else if !s.protoOk m f then some cRxProto
  else none

/-- The checks of R183 in order: the state after them, and whether the frame passes all. A failed check counts. -/
def State.rxChecks (s : State) (m : Nat) (f : EthFrame) : State × Bool :=
  if !f.fcsOk then (s.macCount m cRxFcs 1, false)
  else if s.mtu m + 66 < f.length then (s.macCount m cRxOversize 1, false)
  else
    let (s1, ok) := s.macsecRx m f
    if !ok then (s1.macCount m cRxMacsec 1, false)
    else
      match s1.rxCheckHeaders m f with
      | some c => (s1.macCount m c 1, false)
      | none =>
        if !frameUdpOk f then (s1.macCount m cRxIp 1, false)
        else ((s1.macCount m cRxFrames 1).macCount m cRxBytes f.length, true)

/-! ### Receive buffer and PFC -/

/-- A frame body that lies in the receive buffer. -/
def bodyIsKct : FrameBody → Bool
  | .kct .. => true
  | _ => false

/-- The bytes of a port's receive buffer held by KCT frames (R183, R190). -/
def State.rxBytes (s : State) (p : Nat) : Nat :=
  ((s.ports.rx.filter fun e => bodyIsKct e.frame.body && macPort e.mac == p).map fun e => e.frame.length).sum

/-- The bytes held by a class on a MAC (R190). -/
def State.rxClassBytes (s : State) (m c : Nat) : Nat :=
  ((s.ports.rx.filter fun e => bodyIsKct e.frame.body && e.mac == m && e.cls == c).map fun e => e.frame.length).sum

/-- The receive buffer of a port: 2 MiB. -/
abbrev rxBufSize : Nat := 2097152

/-- Traffic class of a received KCT datagram (R188). -/
def State.dscpClass (s : State) (m dscp : Nat) : Nat :=
  s.fld (Reg.PRT_DSCP_MAP (macPort m) (macIdx m) (dscp % 64 / 8)) (4 * (dscp % 8) + 2) (4 * (dscp % 8))

/-- Send PFC for a class (R190). -/
def State.sendPfc (s : State) (m c q : Nat) : State :=
  (s.macCount m cTxPfc 1).emit (.pfc m c q)

/-- PFC_EN of a class of a MAC. -/
def State.pfcOn (s : State) (m c : Nat) : Bool := s.flag (Reg.PRT_PFC_CFG (macPort m) (macIdx m)) c

/-- Set one bit of a class mask. -/
def setMask (w : BitVec 8) (c : Nat) (b : Bool) : BitVec 8 :=
  if b then w ||| BitVec.ofNat 8 (2 ^ c) else w &&& ~~~ BitVec.ofNat 8 (2 ^ c)

/-- PFC for a class whose buffer space has crossed XOFF or XON (R190). -/
def State.pfcCross (s : State) (m c : Nat) : State :=
  let used := s.rxClassBytes m c
  let thr := Reg.PRT_PFC_THRESH (macPort m) (macIdx m) c
  let mac := s.mac m
  if !s.pfcOn m c then s
  else if !mac.xoff.getLsbD c && decide (s.fld thr 31 16 * 1024 < used) then
    (s.sendPfc m c 0xFFFF).setMac m { mac with xoff := setMask mac.xoff c true }
  else if mac.xoff.getLsbD c && decide (used < s.fld thr 15 0 * 1024) then
    (s.sendPfc m c 0).setMac m { mac with xoff := setMask mac.xoff c false }
  else s

/-- A KCT frame enters the receive buffer, or is dropped for want of room: counted in WAKE_DROP while transport is not
ready after a wake (R216), otherwise in RX_BUF_DROP with event 0x100B (R190). -/
def State.rxStore (s : State) (m : Nat) (f : EthFrame) : State :=
  let c := match f.ip with | some h => s.dscpClass m h.dscp | none => 0
  if rxBufSize < s.rxBytes (macPort m) + f.length then
    if s.ports.wakeSeen && !s.up 5 then s.count (Reg.PRT_WAKE_DROP (macPort m))
    else (s.macCount m cRxBuf 1).raiseAt 0x100B (macPort m) m 0
  else
    let s1 := { s with ports := { s.ports with rx := s.ports.rx ++ [({ mac := m, cls := c, frame := f, at_ := s.time.nanos } : RxEntry)] } }
    s1.pfcCross m c

/-- Queue an accepted frame that lies outside the receive buffer. -/
def State.rxQueue (s : State) (m : Nat) (f : EthFrame) : State :=
  { s with ports := { s.ports with rx := s.ports.rx ++ [({ mac := m, cls := 0, frame := f, at_ := s.time.nanos } : RxEntry)] } }

/-- Take the first queued frame on a MAC that satisfies `p`, with the PFC that its leaving calls for. -/
def State.takeRx (s : State) (m : Nat) (p : FrameBody → Bool) : Option (RxEntry × State) :=
  match takeFirst (fun e => e.mac == m && p e.frame.body) s.ports.rx with
  | none => none
  | some (e, r) =>
    let s1 := { s with ports := { s.ports with rx := r } }
    some (e, if bodyIsKct e.frame.body then s1.pfcCross m e.cls else s1)

/-- Take the first KCT frame of a port's receive buffer, where it came on MAC `m` (R216). -/
def State.takeKct (s : State) (m : Nat) : Option (RxEntry × State) :=
  match s.ports.rx.find? fun e => macPort e.mac == macPort m && bodyIsKct e.frame.body with
  | some e => if e.mac = m then s.takeRx m bodyIsKct else none
  | none => none

/-! ### Sending -/

/-- The PN limit of a MAC (R205). -/
def State.pnLimit (s : State) (m : Nat) : Nat :=
  if s.msXpn m then 2 ^ 64 - 1 else 2 ^ 32 - 1

/-- PN_THRESH of a MAC (R205). -/
def State.pnThresh (s : State) (m : Nat) : Nat :=
  (s.reg (Reg.PRT_MS_PN_THRESH_LO (macPort m) (macIdx m))).toNat
    + 2 ^ 32 * (s.reg (Reg.PRT_MS_PN_THRESH_HI (macPort m) (macIdx m))).toNat

/-- A MAC can send a frame: its link is up and, with MACsec, its SA is installed and not exhausted (R205). -/
def State.txOk (s : State) (m : Nat) : Bool :=
  s.macUp m && (!s.msOn m || ((s.sa m (s.txAn m)).valid && !(s.mac m).pnExhausted))

/-- MACsec overhead M of a MAC (R204, R698): SecTAG and ICV, and the SCI where TX_SCI is 1. -/
def State.msOverhead (s : State) (m : Nat) : Nat :=
  if !s.msOn m then 0 else if s.flag (Reg.PRT_MS_CTRL (macPort m) (macIdx m)) 2 then 32 else 24

/-- The SecTAG of the next frame that a MAC sends (R204, R205). -/
def State.txSecTag (s : State) (m : Nat) : SecTag :=
  let sa := s.sa m (s.txAn m)
  let sci := sciOf (s.macAddr m)
  { an := s.txAn m, pn := sa.pn, sci := if s.flag (Reg.PRT_MS_CTRL (macPort m) (macIdx m)) 2 then some sci else none
    key := sa.key, nonce := msNonce (s.msXpn m) sa sci sa.pn }

/-- A frame of class `pcp` as it leaves a MAC: with the VLAN tag of R186, and protected where MACsec is on (R202). -/
def State.onWire (s : State) (m pcp : Nat) (e : Emit) : Emit :=
  let cfg := Reg.PRT_MAC_CFG (macPort m) (macIdx m)
  let e1 := if s.fld cfg 29 28 = 0 then e else .tagged pcp (s.fld cfg 27 16) e
  if s.msOn m then .secured (s.txSecTag m) e1 else e1

/-- The wire time in ns, rounded up, of `bytes` at a MAC's rate (R698). -/
def State.wireNs (s : State) (m bytes : Nat) : Nat :=
  let k := match s.macRate m with | 400 => 1 | 200 => 2 | _ => 4
  (bytes * k + 49) / 50

/-- The time in ns at which a MAC can start its next frame (R687). -/
def State.freeAt (s : State) (m : Nat) : Nat := tabGet (fun _ => 0) s.egr.busyTill m

/-- A MAC sends a frame of `len` bytes, MACsec's part apart, for its wire time (R698). -/
def State.onAir (s : State) (m len : Nat) : State :=
  { s with egr := { s.egr with
    busyTill := tabSet (fun _ => 0) s.egr.busyTill m (max (s.freeAt m) s.now + s.wireNs m (len + 20 + s.msOverhead m)) } }

/-- One frame of `len` bytes, MACsec's part apart, leaves a MAC: counters, and the transmit PN with its events (R205). -/
def State.txFrame (s : State) (m len : Nat) : State :=
  let s1 := (((s.onAir m len).macCount m cTxFrames 1).macCount m cTxBytes (len + s.msOverhead m))
  if !s1.msOn m then s1
  else
    let an := s1.txAn m
    let pn := (s1.sa m an).pn + 1
    let s2 := s1.setSa m an { s1.sa m an with pn := pn }
    let s3 := if pn = s2.pnThresh m then s2.raiseAt 0x1006 (macPort m) (macIdx m) 0 else s2
    if s3.pnLimit m ≤ pn then
      (s3.setMac m { s3.mac m with pnExhausted := true }).raiseAt 0x1007 (macPort m) (macIdx m) 0
    else s3

/-- Bytes of an 802.1Q tag that a MAC sends (R186). -/
def State.tagLen (s : State) (m : Nat) : Nat :=
  if s.fld (Reg.PRT_MAC_CFG (macPort m) (macIdx m)) 29 28 = 0 then 0 else 4

/-- Send a frame of the port's own (ARP, neighbour discovery, echo, PTP) where the MAC can send. -/
def State.sendOwn (s : State) (m len : Nat) (e : Emit) : State :=
  if s.txOk m then (s.txFrame m (max 64 (len + s.tagLen m))).emit (s.onWire m Config.ownClass.val e) else s

/-- The address that a MAC sends from to an IP destination (R194): of its two IPv6 addresses the one of the destination's scope,
or the only one (DESIGN CHOICE, log 197). -/
def State.srcIp (s : State) (m : Nat) (v6 : Bool) (dst : BitVec 128) : BitVec 128 :=
  if v6 then
    let ll := s.addr128 (Reg.PRT_IPV6_LL (macPort m) (macIdx m) 0)
    let gl := s.addr128 (Reg.PRT_IPV6_GL (macPort m) (macIdx m) 0)
    let near := dst >>> 118 == 0x3FA || dst >>> 112 == 0xFF02
    if (near && ll != 0) || gl == 0 then ll else gl
  else (s.ipv4 m).setWidth 128

/-- The IP header of a datagram of the port's own (R187). -/
def State.ownIp (s : State) (m : Nat) (v6 : Bool) (dst : BitVec 128) : IpTx :=
  { v6 := v6, src := s.srcIp m v6 dst, dst := dst }

/-- Send one gateway request (R193). -/
def State.askGateway (s : State) (m : Nat) (v6 : Bool) : State :=
  let mac := s.mac m
  if v6 then
    if s.gwIp6 m = 0 then s
    else (s.setMac m { mac with gw6 := { mac.gw6 with asked := true } }).sendOwn m 90 (.neighSol m (s.gwIp6 m)
      (s.ownIp m true (0xFF0200000000000000000001FF000000 + ((s.gwIp6 m).setWidth 24).setWidth 128)))
  else
    if s.gwIp4 m = 0 then s
    else (s.setMac m { mac with gw4 := { mac.gw4 with asked := true } }).sendOwn m 46 (.arpRequest m (s.gwIp4 m))

/-- A gateway's MAC address has been learnt (R193). -/
def State.learnGw4 (s : State) (m : Nat) (ip : BitVec 32) (a : BitVec 48) : State :=
  if s.gwIp4 m != 0 && s.gwIp4 m == ip then s.setMac m { s.mac m with gw4 := { resolved := true, mac := a } } else s

/-- The same for the IPv6 gateway. -/
def State.learnGw6 (s : State) (m : Nat) (ip : BitVec 128) (a : BitVec 48) : State :=
  if s.gwIp6 m != 0 && s.gwIp6 m == ip then s.setMac m { s.mac m with gw6 := { resolved := true, mac := a } } else s

end Sys2Proof.Machine
end

