-- ==== Sys2Proof/Machine/KctBase.lean ====
section
/-! DEFINITION. Kenmas transport, what every block uses of it: client contexts, building and sending messages, the
egress queue, the GCM engines' step, acknowledgement, and verification and parsing of received segments
(07_transport_messages.md, 08_transport_sessions.md, R684 to R692). -/

namespace Sys2Proof.Machine

open Sys2Proof

/-! ### Message types (R230) -/

abbrev tHello : Nat := 0x01
abbrev tHelloAck : Nat := 0x02
abbrev tClose : Nat := 0x03
abbrev tKeepalive : Nat := 0x04
abbrev tAck : Nat := 0x05
abbrev tNak : Nat := 0x06
abbrev tReadShared : Nat := 0x10
abbrev tReadOwn : Nat := 0x11
abbrev tUpgrade : Nat := 0x12
abbrev tReadCurrent : Nat := 0x13
abbrev tWriteThrough : Nat := 0x14
abbrev tWriteBackDirty : Nat := 0x15
abbrev tEvictClean : Nat := 0x16
abbrev tAtomic : Nat := 0x17
abbrev tReadBulk : Nat := 0x18
abbrev tWriteBulk : Nat := 0x19
/-- No message: the device's own recall of a page whose directory word is lost (R653). -/
abbrev tPurge : Nat := 0x100
abbrev tHint : Nat := 0x1A
abbrev tDataGrant : Nat := 0x20
abbrev tCompletion : Nat := 0x21
abbrev tRetry : Nat := 0x22
abbrev tCreditGrant : Nat := 0x23
abbrev tErrorResp : Nat := 0x24
abbrev tSnpInv : Nat := 0x30
abbrev tSnpShare : Nat := 0x31
abbrev tSnpFwd : Nat := 0x32
abbrev tSnpResp : Nat := 0x33
abbrev tMgmtRead : Nat := 0x40
abbrev tMgmtWrite : Nat := 0x41
abbrev tMgmtResp : Nat := 0x42
abbrev tEvent : Nat := 0x43
abbrev tOpCommand : Nat := 0x44
abbrev tOpStatus : Nat := 0x45
abbrev tEvacData : Nat := 0x50
abbrev tEvacAck : Nat := 0x51

/-- The channel of a type; none for a reserved type and for FwdData, which no session carries (R230). -/
def typeChannel (t : Nat) : Option Nat :=
  if 0x01 ≤ t ∧ t ≤ 0x06 then some 0
  else if 0x10 ≤ t ∧ t ≤ 0x1A then some 0
  else if 0x20 ≤ t ∧ t ≤ 0x24 then some 1
  else if 0x30 ≤ t ∧ t ≤ 0x33 then some 2
  else if 0x40 ≤ t ∧ t ≤ 0x45 then some 3
  else if t = 0x50 then some 0
  else if t = 0x51 then some 1
  else none

/-- Types that only the device sends (R230). -/
def deviceOnly (t : Nat) : Bool :=
  [tHelloAck, tDataGrant, tCompletion, tRetry, tCreditGrant, tErrorResp, tSnpInv, tSnpShare, tSnpFwd, tMgmtResp,
   tEvent, tOpStatus].contains t

/-- Ack, Keepalive and Nak, which take no sequence (R278). -/
def isControl (t : Nat) : Bool := t == tKeepalive || t == tAck || t == tNak

/-- Request-channel messages from a client: types 0x10 to 0x1A, and EvacData. -/
def isRequest (t : Nat) : Bool := decide (0x10 ≤ t ∧ t ≤ 0x1A) || t == tEvacData

/-! ### Contexts -/

/-- A client context. -/
def State.ctx (s : State) (c : Nat) : Ctx := tabGet (fun _ => {}) s.kct.ctx c

/-- The state with a client context replaced. -/
def State.setCtx (s : State) (c : Nat) (v : Ctx) : State :=
  { s with kct := { s.kct with ctx := tabSet (fun _ => {}) s.kct.ctx c v } }

/-- The session of a client ID. -/
def State.sess (s : State) (c : Nat) : Session := (s.ctx c).sess

/-- The state with a session replaced. -/
def State.setSess (s : State) (c : Nat) (v : Session) : State := s.setCtx c { s.ctx c with sess := v }

/-- The session is open or closing. -/
def Session.live (x : Session) : Bool := x.state == .opened || x.state == .closing

/-- The session is open, closing, or opened from here and not yet answered. -/
def Session.bound (x : Session) : Bool := x.live || x.opening

/-- A key slot of a context by phase. -/
def Ctx.key (x : Ctx) (phase : Bool) : KctKey := if phase then x.key1 else x.key0

/-- The context with a key slot replaced. -/
def Ctx.setKey (x : Ctx) (phase : Bool) (k : KctKey) : Ctx := if phase then { x with key1 := k } else { x with key0 := k }

/-- What the schedulers keep of a client. -/
def State.esess (s : State) (c : Nat) : EgrSess := tabGet (fun _ => {}) s.egr.sess c

/-- The state with a client's egress part replaced. -/
def State.setEsess (s : State) (c : Nat) (v : EgrSess) : State :=
  { s with egr := { s.egr with sess := tabSet (fun _ => {}) s.egr.sess c v } }

/-- RTO_BASE and RTO_MAX in µs (R294). -/
def State.rtoBase (s : State) : Nat := s.fld Reg.KCT_RTO 15 0
def State.rtoMax (s : State) : Nat := s.fld Reg.KCT_RTO 31 16

/-! ### Nonces and sealing (R222, R277) -/

/-- The nonce of a session segment: salt, direction, epoch, U, extended sequence or control count, RT (R277). -/
def segNonce (salt : Word) (fromResponder : Bool) (epoch : BitVec 4) (u : Bool) (ext : Nat) (rt : Bool) : BitVec 96 :=
  salt ++ BitVec.ofBool fromResponder ++ epoch ++ BitVec.ofBool u ++ BitVec.ofNat 57 ext ++ BitVec.ofBool rt

/-- The segment as a GCM engine seals it: under its key phase, with its direction bit (R277). -/
def State.sealSeg (s : State) (g : TxSeg) : Sealed :=
  let k := (s.ctx g.client).key g.hdr.keyPhase
  { key := k.key
    nonce := segNonce k.salt g.resp g.epoch (isControl g.hdr.type.toNat) g.ext g.hdr.rt
    aad := g.hdr
    plain := g.plain }

/-- The context that a received segment belongs to: that of the outbound session which the peer knows by this client ID
and whose key sealed it (R754), else the client ID's own. -/
def State.ctxOf (s : State) (hdr : BaseHeader) (box : Sealed) : Nat :=
  match s.kct.ctx.find? fun e =>
      e.2.sess.initiator && e.2.sess.bound && e.2.sess.remote == hdr.client.toNat && e.2.sess.epoch == hdr.epoch
        && (e.2.key hdr.keyPhase).valid && (e.2.key hdr.keyPhase).key == box.key with
  | some e => e.1
  | none => hdr.client.toNat

/-- What a received segment must be sealed as to verify (R222, R277): `ext` is its extended sequence or count, and
`fromResponder` the direction it comes in. -/
def State.verifies (s : State) (c : Nat) (fromResponder : Bool) (hdr : BaseHeader) (box : Sealed) (ext : Nat) : Bool :=
  let k := (s.ctx c).key hdr.keyPhase
  k.valid && box.key == k.key && box.aad == hdr && box.plain.length == hdr.payloadLen.toNat
    && box.nonce == segNonce k.salt fromResponder hdr.epoch (isControl hdr.type.toNat) ext hdr.rt

/-- The extended form of a 32-bit sequence nearest to the one expected (R279). -/
def extend (expected : Nat) (seq : Nat) : Nat :=
  let base := expected / 2 ^ 32 * 2 ^ 32
  let near (x : Nat) : Nat := if x ≤ expected then expected - x else x - expected
  let lo := base - 2 ^ 32 + seq
  let mid := base + seq
  let hi := base + 2 ^ 32 + seq
  if 2 ^ 32 ≤ base ∧ near lo < near mid ∧ near lo < near hi then lo
  else if near hi < near mid then hi
  else mid

/-! ### Egress queue (R684 to R690) -/

/-- The traffic class of a segment by its type (R684). -/
def State.classOf (s : State) (c t : Nat) : Nat :=
  let w := (s.esess c).cls.toNat
  if isControl t then bits w 18 16
  else match typeChannel t with
    | some 3 => bits w 14 12
    | some 2 => bits w 10 8
    | some 1 => bits w 6 4
    | _ => bits w 2 0

/-- The MAC a segment leaves on. -/
def State.segMac (s : State) (g : TxSeg) : Nat :=
  match g.dest with
  | some d => d.mac
  | none => (s.sess g.client).current

/-- The session sends over IPv6. -/
def State.segV6 (s : State) (g : TxSeg) : Bool :=
  match g.dest with
  | some d => d.v6
  | none => (s.sess g.client).v6

/-- Frame length L of a segment, from destination address to FCS (R220, R688). -/
def State.frameLen (s : State) (g : TxSeg) : Nat :=
  (if s.segV6 g then 106 else 86) + s.tagLen (s.segMac g) + g.plain.length

/-- Unsent bytes of a client (R685). -/
def State.unsent (s : State) (c : Nat) : Nat := ((s.esess c).queue.map s.frameLen).sum

/-- Bytes queued on a port (R685). -/
def State.qmemLevel (s : State) (p : Nat) : Nat :=
  (s.egr.sess.map fun e => ((e.2.queue.filter fun g => macPort (s.segMac g) == p).map s.frameLen).sum).sum

/-- R of a session in 100 Mb/s over 256 (R298), R_INIT where it has none. -/
def State.rateOf (s : State) (c : Nat) : Nat :=
  if (s.sess c).rate = 0 then max 1 (s.fld Reg.KCT_CC_RATE 31 16 * 256) else (s.sess c).rate

/-- The time that `bytes` take at rate R, in 1/16 ns. -/
def rateTime (bytes r : Nat) : Nat := 327680 * bytes / max r 1

/-- E of an idle session raised to now − 8 × BURST ÷ R (R689). -/
def State.fullE (s : State) (c : Nat) : Int :=
  16 * (s.now : Int) - rateTime (bits (s.esess c).shape.toNat 15 0 * 1024) (s.rateOf c)

/-- The ring of a class of a MAC (R688). -/
def State.ring (s : State) (m cls : Nat) : Ring := tabGet (fun _ => {}) s.egr.rings (8 * m + cls)

/-- The state with a ring replaced. -/
def State.setRing (s : State) (m cls : Nat) (r : Ring) : State :=
  { s with egr := { s.egr with rings := tabSet (fun _ => {}) s.egr.rings (8 * m + cls) r } }

/-- The shapers are applied on a MAC's port. -/
def State.shapeOn (s : State) (m : Nat) : Bool := s.flag (Reg.EGR_CTRL (macPort m)) 0

/-- The head segment of a client in a class of a MAC. -/
def State.headSeg (s : State) (c m cls : Nat) : Option TxSeg :=
  (s.esess c).queue.find? fun g => g.cls == cls && s.segMac g == m

/-- A segment may be sent as far as its session goes: within the window (R286, R686) and not before E (R689). -/
def State.segEligible (s : State) (m : Nat) (g : TxSeg) : Bool :=
  let x := s.sess g.client
  (!g.sequenced || g.dest.isSome || decide (g.ext + 1 ≤ x.acked + x.window))
    && (isControl g.hdr.type.toNat || !s.shapeOn m || decide ((s.esess g.client).e ≤ 16 * (s.now : Int)))

/-- A client joins the tail of a ring where it holds an eligible segment there and is not in it (R688). -/
def State.joinRing (s : State) (c m cls : Nat) : State :=
  let r := s.ring m cls
  match s.headSeg c m cls with
  | some g => if s.segEligible m g && !r.order.contains c then s.setRing m cls { r with order := r.order ++ [c] } else s
  | none => s

/-- A client joins every ring it belongs in. -/
def State.joinRings (s : State) (c : Nat) : State :=
  (s.esess c).queue.foldl (fun t g => t.joinRing c (s.segMac g) g.cls) s

/-- A client leaves every ring: its session has moved to another MAC, with its deficits (R709). -/
def State.leaveRings (s : State) (c : Nat) : State :=
  let drop (r : Ring) : Ring := { order := r.order.erase c, credited := r.credited && r.order.head? != some c }
  { s with egr := { s.egr with rings := tabMap (fun _ => {}) (fun _ r => drop r) s.egr.rings } }

/-- Put a segment at the end of its client's egress queue (R689); while E lies ahead it waits on the rate (R298). -/
def State.enqueue (s : State) (g : TxSeg) : State :=
  let x := s.esess g.client
  let e := if x.queue.isEmpty then max x.e (s.fullE g.client) else x.e
  let s1 := s.setEsess g.client { x with queue := x.queue ++ [g], e := e }
  let s2 := if !isControl g.hdr.type.toNat && decide (16 * (s.now : Int) < e) then
    s1.setSess g.client { s1.sess g.client with waited := true } else s1
  s2.joinRing g.client (s.segMac g) g.cls

/-- Stage 11 may place a segment in the egress queue (R685). -/
def State.roomFor (s : State) (g : TxSeg) : Bool :=
  let p := macPort (s.segMac g)
  decide (s.unsent g.client < s.fld (Reg.EGR_SESS_QMAX p) 23 0)
    && decide (s.qmemLevel p + s.frameLen g ≤ Config.queueMemory)

/-- A verified sequenced segment enters the replay buffer; a first retransmission joins its segment there (R222, R280). -/
def State.toReplay (s : State) (g : TxSeg) : State :=
  let x := s.sess g.client
  if !g.sequenced || g.dest.isSome then s
  else if g.retx then
    s.setSess g.client { x with
      replay := updFirst (fun r => r.seg.ext == g.ext) (fun r => { r with again := some g }) x.replay }
  else s.setSess g.client { x with replay := x.replay ++ [{ seg := g }] }

/-- Stage 11 (R685): the segment enters the egress queue, or waits in its session's hold; a message is counted once. -/
def State.place (s : State) (g : TxSeg) : State :=
  let p := macPort (s.segMac g)
  if s.roomFor g && !s.kct.stage11.any (fun h => h.client == g.client) then (s.toReplay g).enqueue g
  else
    let s0 := { s with kct := { s.kct with stage11 := s.kct.stage11 ++ [g] } }
    let again := s.kct.stage11.any fun h => h.client == g.client && h.hdr.msgId == g.hdr.msgId && h.hdr.type == g.hdr.type && h.retx == g.retx
    let s1 := if again then s0 else s0.count (Reg.EGR_HOLDS p)
    if s.qmemLevel p + s.frameLen g ≤ Config.queueMemory then s1
    else if tabGet (fun _ => false) s.egr.full p then s1
    else
      let s2 := { s1 with egr := { s1.egr with full := tabSet (fun _ => false) s1.egr.full p true } }
      s2.raiseAt 0x3006 p 0 0

/-! ### Building and sending -/

/-- CUM_ACK and SACK of what a session has received (R224); a Hello carries 0 (R273). -/
def Session.cumAck (x : Session) : Word := if x.opening then 0 else BitVec.ofNat 32 (x.rxNext + 2 ^ 32 - 1)
def Session.sackBits (x : Session) : BitVec 16 :=
  BitVec.ofNat 16 (((List.range 16).filter fun i => x.rxHeld.any fun g => g.ext == x.rxNext + i).map (2 ^ ·)).sum

/-- The header of a new segment of a session. -/
def Session.header (x : Session) (c t ch : Nat) (seq : Nat) (msgId : BitVec 24) (status idx : Nat) (last ar : Bool)
    (len : Nat) : BaseHeader :=
  { version := BitVec.ofNat 4 x.version, ar := ar, rt := false, type := BitVec.ofNat 8 t
    client := BitVec.ofNat 12 (if x.initiator then x.remote else c)
    epoch := x.epoch, seq := BitVec.ofNat 32 seq, cumAck := x.cumAck, sack := x.sackBits, channel := BitVec.ofNat 2 ch,
    keyPhase := x.txPhase, ecnEcho := x.ecnEcho, segIndex := BitVec.ofNat 7 idx, last := last, msgId := msgId,
    status := BitVec.ofNat 8 status, payloadLen := BitVec.ofNat 16 len, credit := 0 }

/-- Build one segment of a session and hand it to the GCM engines (R222, R278, R290). -/
def State.sendSeg (s : State) (c t ch : Nat) (msgId : BitVec 24) (status idx : Nat) (last ar : Bool)
    (plain : List Byte) (dest : Option Dest := none) : State :=
  let x := s.sess c
  let ctl := isControl t
  let ext := if ctl then x.ctrlTx else x.txNext
  let g : TxSeg :=
    { client := c, epoch := x.epoch, ext := ext, sequenced := !ctl,
      hdr := x.header c t ch ext msgId status idx last ar plain.length,
      plain := plain, box := none, cls := s.classOf c t, retx := false, dest := dest, resp := !x.initiator }
  let x1 := { x with
    ctrlTx := if ctl then x.ctrlTx + 1 else x.ctrlTx
    txNext := if ctl then x.txNext else x.txNext + 1
    unacked := if t = tKeepalive ∨ t = tNak then x.unacked else 0
    ecnEcho := false }
  let s1 := s.setSess c x1
  { s1 with kct := { s1.kct with gcm := s1.kct.gcm ++ [g] } }

/-- The most message bytes that a segment of a session can carry (R223, R275). -/
def State.segLimit (s : State) (c : Nat) : Nat :=
  let x := s.sess c
  min x.mtu (s.mtu x.current) - (if x.v6 then 88 else 68)

/-- Send the segments of a message from index `idx` (R257, R258). -/
def State.sendSegs (s : State) (c t ch : Nat) (msgId : BitVec 24) (status : Nat) (limit : Nat) :
    Nat → Nat → List Byte → State
  | 0, _, _ => s
  | n + 1, idx, l =>
    if l.length ≤ limit then s.sendSeg c t ch msgId status idx true false l
    else
      let k := limit / 64 * 64
      (s.sendSeg c t ch msgId status idx false false (l.take k)).sendSegs c t ch msgId status limit n (idx + 1) (l.drop k)

/-- A message that may not follow the device's own Close (R302): a request, and what goes on the snoop and the management
channel, a MgmtResp and an OpStatus among them (DEDUCED, log 202). -/
def closeBars (t : Nat) : Bool := isRequest t || typeChannel t == some 2 || typeChannel t == some 3

/-- Send a message on a session; nothing where the session has ended, or where its Close bars the message (R302). -/
def State.sendMsg (s : State) (c t : Nat) (msgId : BitVec 24) (status : Nat) (body : List Byte) : State :=
  if (s.sess c).live && !((s.sess c).closeSent && closeBars t) then
    s.sendSegs c t ((typeChannel t).getD 0) msgId status (s.segLimit c) 128 0 body
  else s

/-- Send a message on the session that was named when its request arrived: nothing where that session is gone. -/
def State.reply (s : State) (c : Nat) (epoch : BitVec 4) (t : Nat) (msgId : BitVec 24) (status : Nat)
    (body : List Byte) : State :=
  if (s.sess c).epoch = epoch then s.sendMsg c t msgId status body else s

/-- The next message ID of a session (R227). -/
def State.drawMsgId (s : State) (c : Nat) : BitVec 24 × State :=
  let x := s.sess c
  (x.nextMsgId, s.setSess c { x with nextMsgId := x.nextMsgId + 1 })

/-- Send an Ack at once (R290). -/
def State.sendAck (s : State) (c : Nat) : State :=
  if (s.sess c).live then s.sendSeg c tAck 0 0 0 0 true false [] else s

/-- A Completion without data (R241). -/
def State.complete (s : State) (c : Nat) (epoch : BitVec 4) (msgId : BitVec 24) (status info : Nat) : State :=
  s.reply c epoch tCompletion msgId status (beBytes 4 info)

/-- The status that goes with an ErrorResp reason (R243). -/
def reasonStatus (reason : Nat) : Nat := if reason = 1 then stVersionUnsupported else stOutOfRange

/-- An ErrorResp (R243). -/
def State.errorResp (s : State) (c : Nat) (epoch : BitVec 4) (msgId : BitVec 24) (t reason detail : Nat) : State :=
  s.reply c epoch tErrorResp msgId (reasonStatus reason)
    ([BitVec.ofNat 8 t, BitVec.ofNat 8 reason] ++ beBytes 2 detail)

/-! ### Close -/

/-- Send Close on a session and mark it closing (R302, R304). -/
def State.sendClose (s : State) (c reason : Nat) : State :=
  let x := s.sess c
  if x.live && !x.closeSent then
    let (id, s1) := s.drawMsgId c
    let s2 := s1.sendMsg c tClose id 0 ([BitVec.ofNat 8 reason] ++ List.replicate 3 0)
    s2.setSess c { s2.sess c with state := .closing, closeSent := true, closeReason := reason }
  else s

/-! ### Retransmission (R280, R292 to R294) -/

/-- Retransmit a segment: its first retransmission is built once, and every later one resends it unchanged (R280). -/
def State.retransmit (s : State) (c ext : Nat) : State :=
  let x := s.sess c
  match x.replay.find? (fun r => r.seg.ext == ext) with
  | none => s
  | some r =>
    let s0 := s.count Reg.KCT_TX_RETX
    let mark (again : Option TxSeg) (t : State) : State :=
      let y := t.sess c
      t.setSess c { y with
        replay := updFirst (fun q => q.seg.ext == ext)
          (fun q => { q with again := again, count := q.count + 1, lastSent := s.now }) y.replay }
    match r.again with
    | none =>
      let g := { r.seg with
        hdr := { r.seg.hdr with rt := true, cumAck := x.cumAck, sack := x.sackBits, ecnEcho := x.ecnEcho }
        box := none, retx := true }
      let s1 := mark (some g) s0
      { s1 with kct := { s1.kct with gcm := s1.kct.gcm ++ [g] } }
    | some g =>
      if g.box.isNone then mark (some g) s0
      else if (s.esess c).queue.contains g then mark (some g) s0
      else (mark (some g) s0).enqueue g

/-- A segment may be retransmitted at once: not within RTO_BASE of its last retransmission (R292, R293). -/
def State.retxAllowed (s : State) (r : Replay) : Bool :=
  r.again.isNone || decide (r.lastSent + s.rtoBase * 1000 ≤ s.now)

/-! ### Rate (R298, R299) -/

/-- Lower a session's rate by MD, at most once per RTT and not below R_MIN. -/
def State.lowerRate (s : State) (c : Nat) : State :=
  let x := s.sess c
  if x.lowered && decide (s.now < x.lowerAt + x.rtt * 100) then s
  else
    let r := max (x.rate * (256 - s.fld Reg.KCT_CC_CFG 31 24) / 256) (s.fld Reg.KCT_CC_RATE 15 0 * 256)
    (s.setSess c { x with rate := r, lowered := true, lowerAt := s.now }).count Reg.KCT_CC_DECREASE

/-- The 10 s period of R299 that holds now, on the device's clock (DESIGN CHOICE, log 200). -/
def State.rttPeriod (s : State) : Nat := s.now / 10000000000

/-- RTT_MIN of a session: the lowest sample of the present period, or the latest sample (R299). -/
def State.rttMin (s : State) (c : Nat) : Nat :=
  let x := s.sess c
  if x.rttMinAt = s.rttPeriod ∧ x.rttMin ≠ 0 then x.rttMin else x.rtt

/-- Take an RTT sample in 0.1 µs. -/
def State.rttSample (s : State) (c sample : Nat) : State :=
  let x := s.sess c
  let fresh := x.rttMinAt != s.rttPeriod || x.rttMin == 0
  let m := if fresh then sample else min x.rttMin sample
  let s1 := s.setSess c { x with rtt := sample, rttMin := m, rttMinAt := s.rttPeriod }
  if m + s.fld Reg.KCT_CC_CFG 23 16 * 10 < sample then s1.lowerRate c else s1

/-! ### Acknowledgement (R281, R293, R294) -/

/-- Segments newly covered by an acknowledgement: those not retransmitted give an RTT sample each (R299). -/
def newlyCovered (cum : Nat) (sack : BitVec 16) (r : Replay) : Bool :=
  r.sent && !r.sacked && (decide (r.seg.ext ≤ cum) || (decide (cum < r.seg.ext ∧ r.seg.ext ≤ cum + 16)
    && sack.getLsbD (r.seg.ext - cum - 1)))

/-- Retransmit at once every segment with three later sequences SACKed (R293). -/
def State.sackRetransmit (s : State) (c : Nat) : State :=
  let x := s.sess c
  x.replay.foldl (fun t r =>
    let later := (x.replay.filter fun q => q.sacked && decide (r.seg.ext < q.seg.ext)).length
    if r.sent && !r.sacked && decide (3 ≤ later) && s.retxAllowed r then t.retransmit c r.seg.ext else t) s

/-- Use the CUM_ACK and SACK of a verified segment where they advance the record (R281). -/
def State.takeAck (s : State) (c : Nat) (cumAck : Word) (sack : BitVec 16) : State :=
  let x := s.sess c
  let cum := extend x.txNext cumAck.toNat
  if x.txNext ≤ cum then s
  else
    let samples := x.replay.filter fun r => newlyCovered cum sack r && r.again.isNone
    let adv := decide (x.acked < cum + 1)
    let left := (x.replay.filter fun r => decide (cum < r.seg.ext)).map fun r =>
      { r with sacked := r.sacked || newlyCovered cum sack r }
    let left1 := if adv then (match left with | [] => [] | r :: rest => { r with count := 0 } :: rest) else left
    let s1 := s.setSess c { x with
      acked := if adv then cum + 1 else x.acked
      helloAcked := x.helloAcked || decide (x.txFirst ≤ cum)
      rto := if adv then s.rtoBase else x.rto
      replay := left1 }
    let s2 := samples.foldl (fun t r => t.rttSample c ((s.now - r.sentAt) / 100)) s1
    (s2.sackRetransmit c).joinRings c

/-! ### Key use (R282, R284) -/

/-- Count one segment under a key phase, sent by the device or received; at the limit event 0x2007 (R284). -/
def State.countKey (s : State) (c : Nat) (phase own : Bool) : State :=
  let x := s.ctx c
  let k := x.key phase
  let k1 := if own then { k with sent := k.sent + 1 } else { k with received := k.received + 1 }
  let s1 := s.setCtx c (x.setKey phase k1)
  if (if own then k1.sent else k1.received) = 2 ^ s.fld Reg.KCT_KEY_LIMIT 5 0 then
    (s1.setSess c { s1.sess c with rekeyDue := true }).raise 0x2007 c 0
  else s1

/-- Move the transmit phase (R282). -/
def State.movePhase (s : State) (c : Nat) (phase : Bool) : State :=
  (s.setSess c { s.sess c with txPhase := phase, rekeyDue := false }).raise 0x2006 c 0

/-! ### Received segments -/

/-- What becomes of a received KCT frame before its type is looked at: dropped and counted under a register (R223, R225,
R287), or a verified segment with its extended sequence or count. -/
inductive SegCheck where
  | drop (reg : Nat)
  | good (ext : Nat)
  deriving DecidableEq, Repr

/-- Verification of a received frame that is no Hello, for context `c` (R223, R225, R287). -/
def State.checkSeg (s : State) (c : Nat) (f : EthFrame) (hdr : BaseHeader) (box : Sealed) : SegCheck :=
  let x := s.sess c
  let mine := x.bound && x.epoch == hdr.epoch && (!x.initiator || x.remote == hdr.client.toNat)
  if f.udpLen ≠ 48 + hdr.payloadLen.toNat then .drop Reg.KCT_RX_MALFORMED
  else if hdr.version ≠ 2 ∧ hdr.version ≠ 3 then .drop Reg.KCT_RX_BADVER
  else if mine && !x.opening && hdr.version.toNat != x.version then .drop Reg.KCT_RX_BADVER
  else
    let ctl := isControl hdr.type.toNat
    let ext := if mine && !x.opening then extend (if ctl then x.ctrlRx else x.rxNext) hdr.seq.toNat else hdr.seq.toNat
    if !s.verifies c (mine && x.initiator) hdr box ext then .drop Reg.KCT_RX_AUTHFAIL
    else if !mine then .drop Reg.KCT_RX_NOSESSION
    else .good ext

/-- What every verified segment of session `c` does: CUM_ACK and SACK, ECN, the MAC address it came from, its key phase
and the key's use (R194, R281, R282, R284, R298, R301). `fresh` is false for a duplicate or refused segment. -/
def State.verified (s : State) (c m : Nat) (f : EthFrame) (hdr : BaseHeader) (fresh : Bool) : State :=
  let ce := match f.ip with | some h => h.ce | none => false
  let x := s.sess c
  let s1 := s.setSess c { x with peerMac := tabSet (fun _ => none) x.peerMac m (some f.sa), ecnEcho := x.ecnEcho || ce }
  let s2 := if fresh then s1.countKey c hdr.keyPhase false else s1
  let s3 := if !isControl hdr.type.toNat && !hdr.rt && hdr.keyPhase != x.txPhase then s2.movePhase c hdr.keyPhase else s2
  let s4 := s3.takeAck c hdr.cumAck hdr.sack
  if hdr.ecnEcho && !hdr.rt then s4.lowerRate c else s4

/-! ### Parsing a message (R230 to R262, R274) -/

/-- A feature bit of a session. -/
def Session.feature (x : Session) (i : Nat) : Bool := bit x.features.toNat i

/-- The features of R248. -/
abbrev fForward : Nat := 0
abbrev fBulk : Nat := 1
abbrev fAtomic16 : Nat := 2
abbrev fCaching : Nat := 3
abbrev fEvac : Nat := 4

/-- The message needs a feature that its session does not have (R274). -/
def lacksFeature (x : Session) (t : Nat) (body : List Byte) : Bool :=
  if [tReadShared, tReadOwn, tUpgrade, tWriteBackDirty, tEvictClean].contains t then !x.feature fCaching
  else if t = tReadBulk ∨ t = tWriteBulk then !x.feature fBulk
  else if t = tAtomic then beAt body 9 1 == 16 && !x.feature fAtomic16
  else if t = tEvacData ∨ t = tEvacAck then !x.feature fEvac
  else false

/-- The length a message header implies; none where the header alone does not say (R243, R255, R260). -/
def impliedLen (t : Nat) (body : List Byte) : Option Nat :=
  if t = tWriteThrough ∨ t = tWriteBackDirty then
    let n := beAt body 8 2
    some (12 + n + (if bit (beAt body 10 1) 0 then n / 8 else 0))
  else if t = tAtomic then
    let op := beAt body 8 1
    let size := beAt body 9 1
    if op ≤ 2 ∧ (size = 8 ∨ size = 16) then some (12 + size * (if op = 2 then 2 else 1)) else none
  else if t = tWriteBulk then some (12 + beAt body 8 1 * 4096)
  else if isRequest t ∧ t ≠ tEvacData then some 12
  else if t = tSnpResp then
    let f := beAt body 9 1
    some (12 + (if bit f 0 then 4096 + (if bit f 1 then 512 else 0) else 0))
  else if t = tMgmtRead ∨ t = tMgmtWrite then some (4 + 8 * beAt body 2 2)
  else if t = tOpCommand then some 20
  else if t = tEvacData then
    let fmt := beAt body 2 1
    if fmt = 0 then some (16 + 4096)
    else if fmt ≤ 2 then some (16 + beAt body 12 2)
    else if fmt = 3 then some 16
    else if fmt = 4 then some 24
    else none
  else if t = tEvacAck then some 12
  else if t = tClose then some 4
  else none

/-- The header length of a type (R230). -/
def headerLen (t : Nat) : Nat :=
  if t = tMgmtRead ∨ t = tMgmtWrite ∨ t = tClose then 4
  else if t = tOpCommand then 20
  else if t = tEvacData then 16
  else 12

/-- The largest size of a message type (R261); R146 lets a management message carry 256 records. -/
def maxLen (t : Nat) : Nat :=
  if t = tWriteThrough ∨ t = tWriteBackDirty ∨ t = tSnpResp then 12 + 4608
  else if t = tWriteBulk then 12 + 65536
  else if t = tMgmtRead ∨ t = tMgmtWrite then 4 + 8 * 256
  else if t = tEvacData then 16 + 65535
  else 12 + 65536

/-- A field of a message holds a reserved code (R243, reason 0x05): KIND, RESULT or FORMAT, with its byte offset. -/
def reservedField (t : Nat) (credit : BitVec 16) (body : List Byte) : Option Nat :=
  if isRequest t ∧ 2 ≤ bits credit.toNat 15 14 then some 0
  else if t = tSnpResp ∧ 2 < beAt body 8 1 then some 8
  else if t = tEvacData ∧ 4 < beAt body 2 1 then some 2
  else none

/-- Why a message is answered ErrorResp, with the offset of the field at fault (R230, R243, R274). -/
def parseError (x : Session) (ch t : Nat) (multi : Bool) (credit : BitVec 16) (body : List Byte) : Option (Nat × Nat) :=
  match typeChannel t with
  | none => some (1, 0)
  | some k =>
    if x.version = 2 ∧ t = tSnpFwd then some (1, 0)
    else if ch ≠ k then some (2, 0)
    else if deviceOnly t then some (7, 0)
    else if lacksFeature x t body then some (1, 0)
    else if maxLen t < body.length then some (6, 0)
    else if body.length < headerLen t then some (if multi then 4 else 3, 0)
    else
      match impliedLen t body with
      | some n =>
        if n ≠ body.length then some (if multi then 4 else 3, 0)
        else (reservedField t credit body).map fun o => (5, o)
      | none => (reservedField t credit body).map fun o => (5, o)

end Sys2Proof.Machine
end

