-- ==== Sys2Proof/Machine/KeyBase.lean ====
section
/-! DEFINITION. Keys under the device wrap key: unwrapping (R500, R501) and the key slots that other blocks look up. -/

namespace Sys2Proof.Machine

open Sys2Proof

/-- The device wrap key, F XOR M (R497). -/
def State.dwk (s : State) : BitVec 256 := s.cry.fuseF ^^^ Config.pufValue

/-- Counters of CRY_CNT (R524). -/
def State.cryCount (s : State) (k n : Nat) : State := s.count64 (Reg.CRY_CNT k) n

/-- Unwrap a key (R501): the plaintext, or none with UNWRAP_FAIL counted and event 0x8004. -/
def State.unwrap (s : State) (c : List Byte) : State × Option (List Byte) :=
  match (if s.cry.valid then keyUnwrap s.dwk c else none) with
  | some p => (s.cryCount 7 1, some p)
  | none => ((s.cryCount 8 1).raise 0x8004, none)

/-- `n` staged words, most significant byte first (R500). -/
def State.stageBytes (s : State) (a n : Nat) : List Byte :=
  (List.range n).flatMap fun i => beBytes 4 (s.reg (a + 4 * i)).toNat

/-- An at-rest key slot. -/
def State.keySlot (s : State) (k : Nat) : KeySlot := tabGet (fun _ => {}) s.cry.slots k

/-- The state with an at-rest key slot replaced. -/
def State.setKeySlot (s : State) (k : Nat) (v : KeySlot) : State :=
  { s with cry := { s.cry with slots := tabSet (fun _ => {}) s.cry.slots k v } }

/-- A rekey record. -/
def State.rekey (s : State) (r : Nat) : RekeyRec := tabGet (fun _ => {}) s.cry.records r

/-- The rekey record of a region, with its index. -/
def State.rekeyOf (s : State) (region : Nat) : Option (Nat × RekeyRec) :=
  s.cry.records.find? fun e => e.2.valid && e.2.region == region

end Sys2Proof.Machine
end

