-- ==== Sys2Proof/Machine/Ecc.lean ====
section
/-! DEFINITION. The word code (R596 to R599), the placement of a line's words (R600) and the tags (R602 to R604). -/

namespace Sys2Proof.Machine

open Sys2Proof

/-! ### GF(2^7) (R597) -/

/-- Multiplication by α in GF(2^7), where α^7 = α^3 + 1. -/
def gfTwice (x : Nat) : Nat := if x < 64 then 2 * x else (2 * x) ^^^ 0x89

/-- Product in GF(2^7); the first argument counts the bits of the multiplier left. -/
def gfMul : Nat → Nat → Nat → Nat
  | 0, _, _ => 0
  | n + 1, x, y => (if y % 2 = 1 then x else 0) ^^^ gfMul n (gfTwice x) (y / 2)

/-- The exponents below `n` (from `j`) whose power of α, `a` at `j`, satisfies `p`. -/
def gfFind (p : Nat → Bool) : (n j a : Nat) → List Nat
  | 0, _, _ => []
  | n + 1, j, a => if p a then j :: gfFind p n (j + 1) (gfTwice a) else gfFind p n (j + 1) (gfTwice a)

/-! ### Encoding (R597, R599) -/

/-- One bit into the BCH division register of 14 bits. -/
def bchStep (r : Nat) (b : Bool) : Nat :=
  let s := (2 * r) % 0x4000
  if (Nat.testBit r 13) != b then s ^^^ 0x0377 else s

/-- CHECK of the 65-bit message TAG, DATA, most significant bit first. -/
def bchCheck (m : Nat) : Nat := (List.range 65).foldl (fun r i => bchStep r (Nat.testBit m (64 - i))) 0

/-- Even parity of the low `n` bits. -/
def parity (w : Nat) : Nat → Bool
  | 0 => false
  | n + 1 => Nat.testBit w n != parity w n

/-- The codeword of a data word and its tag bit (R596, R597). -/
def encodeWord (data : Nat) (tag : Bool) : Nat :=
  let m := data % 2 ^ 64 + bitNat tag * 2 ^ 64
  let w := m * 2 ^ 14 + bchCheck m
  w + bitNat (parity w 79) * 2 ^ 79

/-- The poison pattern (R599). -/
abbrev poisonWord : Nat := 0x3FFF

/-! ### Decoding (R598) -/

/-- What a decoder says of a word, with the codeword bits it inverts. -/
inductive WordStatus where
  | clean
  | corrected (bits : List Nat)
  | bad
  | poisoned
  deriving DecidableEq, Repr

/-- s1, s3 and p of the `n` low bits from bit `j`, with α^j and α^(3j). -/
def syndromes (w : Nat) : (n j a b : Nat) → Nat × Nat × Bool
  | 0, _, _, _ => (0, 0, false)
  | n + 1, j, a, b =>
    let (s1, s3, p) := syndromes w n (j + 1) (gfTwice a) (gfTwice (gfTwice (gfTwice b)))
    if Nat.testBit w j then (if j ≤ 78 then (s1 ^^^ a, s3 ^^^ b, !p) else (s1, s3, !p)) else (s1, s3, p)

/-- The syndrome of a word. -/
def syndrome (w : Nat) : Nat × Nat × Bool := syndromes w 80 0 1 1

/-- The syndrome is that of poison with bit `j` inverted, for some `j` from `j` on (`n` bits left). -/
def nearPoison (s : Nat × Nat × Bool) (q : Nat × Nat × Bool) : (n j a b : Nat) → Bool
  | 0, _, _, _ => false
  | n + 1, j, a, b =>
    (s == (if j ≤ 78 then (q.1 ^^^ a, q.2.1 ^^^ b, !q.2.2) else (q.1, q.2.1, !q.2.2)))
      || nearPoison s q n (j + 1) (gfTwice a) (gfTwice (gfTwice (gfTwice b)))

/-- Classify a word (R598). -/
def wordStatus (w : Nat) : WordStatus :=
  let q := syndrome poisonWord
  let s := syndrome w
  let s1 := s.1
  let s3 := s.2.1
  let p := s.2.2
  if s == q || nearPoison s q 80 0 1 1 then .poisoned
  else if s1 = 0 ∧ s3 = 0 then (if p then .corrected [79] else .clean)
  else if s1 = 0 then .bad
  else
    let cube := gfMul 7 s1 (gfMul 7 s1 s1)
    if s3 = cube then
      match gfFind (fun a => a == s1) 127 0 1 with
      | j :: _ => if 78 < j then .bad else .corrected (if p then [j] else [j, 79])
      | [] => .bad
    else if p then .bad
    else
      match gfFind (fun a => gfMul 7 s1 (gfMul 7 a (a ^^^ s1)) == (s3 ^^^ cube)) 127 0 1 with
      | [j1, j2] => if j1 ≤ 78 ∧ j2 ≤ 78 then .corrected [j1, j2] else .bad
      | _ => .bad

/-- The word with its errored bits inverted. -/
def fixWord (w : Nat) (st : WordStatus) : Nat :=
  match st with
  | .corrected l => l.foldl (fun v j => v ^^^ 2 ^ j) w
  | _ => w

/-- DATA and TAG of a codeword (R596). -/
def wordData (w : Nat) : Nat := bits w 77 14
def wordTag (w : Nat) : Bool := Nat.testBit w 78

/-! ### On the subchannel's lanes (R600, R601) -/

/-- The codeword bit of word k that a lane carries in beat 2k (`second` false) or 2k + 1: lanes 0 to 31 are DQ, 32 to 39 CB. -/
def laneBit (second : Bool) (lane : Nat) : Nat :=
  if lane < 32 then (if second then 46 else 14) + lane
  else if second then (if lane = 39 then 79 else if lane = 38 then 78 else 8 + (lane - 32))
  else lane - 32

/-- A beat of a line's BL16 burst, bit `lane` of it on that lane. -/
def burstBeat (ws : List Nat) (beat : Nat) : Nat :=
  ((List.range 40).map fun l => bitNat (Nat.testBit (ws.getD (beat / 2) 0) (laneBit (beat % 2 == 1) l)) * 2 ^ l).sum

/-- The words that the 16 beats of a burst carry. -/
def burstWords (beats : List Nat) : List Nat :=
  (List.range 8).map fun k => ((List.range 40).map fun l =>
    bitNat (Nat.testBit (beats.getD (2 * k) 0) l) * 2 ^ laneBit false l
      + bitNat (Nat.testBit (beats.getD (2 * k + 1) 0) l) * 2 ^ laneBit true l).sum

/-! ### Tags (R602 to R604) -/

/-- One byte through the CRC-8 of R602. -/
def crc8Byte (c : Byte) (b : Byte) : Byte :=
  (List.range 8).foldl (fun x _ => if x.msb then (x <<< 1) ^^^ 0x07#8 else x <<< 1) (c ^^^ b)

/-- The CRC-8 of a byte string (R602). -/
def crc8Bytes (l : List Byte) : Byte := l.foldl crc8Byte 0

/-- The five bytes that follow a line's own in its location tag (R604). -/
def placeBytes (rank slot line : Nat) : List Byte := BitVec.ofNat 8 (rank * 4 + line) :: beBytes 4 slot

end Sys2Proof.Machine
end

