-- ==== Sys2Proof/Machine/DramBase.lean ====
section
/-! DEFINITION. DRAM as memory: slots and where they lie (R403 to R406, R531), a line as stored, and reading and writing a
line with its code, tags, poison and error records (R552, R596 to R615, R626). -/

namespace Sys2Proof.Machine

open Sys2Proof

/-! ### Channels, stands and slots -/

/-- A DRAM channel. -/
def State.chan (s : State) (n : Nat) : Chan := tabGet (fun _ => {}) s.dram.chans n

/-- The state with a channel replaced. -/
def State.setChan (s : State) (n : Nat) (v : Chan) : State :=
  { s with dram := { s.dram with chans := tabSet (fun _ => {}) s.dram.chans n v } }

/-- A subchannel: 0 A, 1 B. -/
def State.sub (s : State) (n b : Nat) : SubChan := if b = 0 then (s.chan n).subA else (s.chan n).subB

/-- The state with a subchannel replaced. -/
def State.setSub (s : State) (n b : Nat) (v : SubChan) : State :=
  s.setChan n (if b = 0 then { s.chan n with subA := v } else { s.chan n with subB := v })

/-- A rank of a channel, numbered as its stand. -/
def State.rank (s : State) (n r : Nat) : Rank := tabGet (fun _ => {}) (s.chan n).ranks r

/-- The state with a rank replaced. -/
def State.setRank (s : State) (n r : Nat) (v : Rank) : State :=
  s.setChan n { s.chan n with ranks := tabSet (fun _ => {}) (s.chan n).ranks r v }

/-- A stand. -/
def State.stand (s : State) (k : Nat) : Stand := tabGet (fun _ => {}) s.tier.stands k

/-- The state with a stand replaced. -/
def State.setStand (s : State) (k : Nat) (v : Stand) : State :=
  { s with tier := { s.tier with stands := tabSet (fun _ => {}) s.tier.stands k v } }

/-- The stand of a slot index and the slot's offset in it (R403). -/
def slotStand (x : Nat) : Nat := x / 2 ^ 33
def slotOff (x : Nat) : Nat := x % 2 ^ 33

/-- A slot exists (R403). -/
def State.slotExists (s : State) (x : Nat) : Bool :=
  decide (x < 2 ^ 36 ∧ slotOff x < 256 * (s.stand (slotStand x)).plots)

/-- The physical channel of a slot (R405, R528). -/
def State.slotChan (s : State) (x : Nat) : Nat :=
  let o := slotOff x
  if s.tier.channels = 8 then 2 * ((o % 8) ^^^ ((o / 16) % 8)) else (o % 16) ^^^ ((o / 16) % 16)

/-- The channel-local slot number (R405). -/
def State.slotLocal (s : State) (x : Nat) : Nat := slotOff x / (if s.tier.channels = 8 then 8 else 16)

/-- The populated channels: all sixteen, or the even ones (R527). -/
def State.chanList (s : State) : List Nat :=
  if s.tier.channels = 8 then (List.range 8).map (2 * ·) else if s.tier.channels = 16 then List.range 16 else []

/-- The power domain of a channel (R713). -/
def chanDom (n : Nat) : Nat := 13 + n

/-- The DIMM that holds a stand in a channel (R404). -/
def Chan.dimm (c : Chan) (q : Nat) : Dimm := if q = 0 then c.dimm0 else c.dimm1

/-- C of R531. -/
def Dimm.slotBits (d : Dimm) : Nat := if d.x8 then 4 else 5

/-- RB of R531. -/
def Dimm.rowBits (d : Dimm) : Nat := 16 + d.density

/-- The RCD runs in encoded quad chip-select mode (R529). -/
def Dimm.quadSelect (d : Dimm) : Bool := d.ranks == 4

/-- Where a channel-local slot number lies (R531). -/
structure Place where
  sub : Nat
  col : Nat
  bg : Nat
  bank : Nat
  row : Nat
  deriving DecidableEq, Repr

/-- The map of R531 for line `l` of channel-local slot `n`. -/
def placeOf (c rb n l : Nat) : Place :=
  let row := (n >>> (c + 6)) % 2 ^ rb
  { sub := n % 2
    col := 16 * (4 * (n / 2 % 2 ^ c) + l)
    bg := ((n >>> (c + 1)) % 8) ^^^ (row % 8)
    bank := ((n >>> (c + 4)) % 4) ^^^ (row / 8 % 4)
    row := row }

/-- The place of a line address in its channel. -/
def State.linePlace (s : State) (la : Nat) : Place :=
  let x := la / 4
  let d := (s.chan (s.slotChan x)).dimm (slotStand x / 4)
  placeOf d.slotBits d.rowBits (s.slotLocal x) (la % 4)

/-! ### A line as stored -/

/-- The 64 bytes of a line. -/
def State.lineBytes (s : State) (la : Nat) : List Byte :=
  (List.range 64).map fun i => tabGet (fun _ => 0) s.dram.bytes (64 * la + i)

/-- What the line carries beside its bytes. -/
def State.lineMark (s : State) (la : Nat) : LineMark := tabGet (fun _ => {}) s.dram.marks la

/-- The line stored as `l` under the mark `m`. -/
def State.setLine (s : State) (la : Nat) (l : List Byte) (m : LineMark) : State :=
  { s with dram := { s.dram with
    bytes := (List.range 64).foldl (fun t i => tabSet (fun _ => 0) t (64 * la + i) (l.getD i 0)) s.dram.bytes
    marks := tabSet (fun _ => {}) s.dram.marks la m } }

/-- The location tag of a line with these bytes (R604). -/
def State.placeTag (s : State) (la : Nat) (l : List Byte) : Byte :=
  crc8Bytes (l ++ placeBytes (slotStand (la / 4)) (s.slotLocal (la / 4)) (la % 4))

/-- The eight codewords of a line (R596, R600, R602). -/
def State.lineWords (s : State) (la : Nat) (l : List Byte) (m : LineMark) : List Nat :=
  let tag := match m.tag with | some t => t | none => s.placeTag la l
  (List.range 8).map fun k =>
    if m.poison.getLsbD k then poisonWord
    else encodeWord (leNat ((l.drop (8 * k)).take 8)) (tag.getLsbD k)

/-! ### Error records (R608, R609, R626) -/

/-- A line lies in a retired slot group or bank (R624). -/
def State.lineRetired (s : State) (la : Nat) : Bool :=
  let x := la / 4
  let p := s.linePlace la
  s.tier.retired.any fun e => match e with
    | .group g => x / 16 == g / 16
    | .bank k c b => slotStand x == k && s.slotChan x == c && p.bg * 4 + p.bank == b

/-- The combining table entry of a word. -/
def State.cetOf (s : State) (n rank slot line word : Nat) : Option (Nat × Cet) :=
  (s.chan n).cet.findSome? fun e =>
    match e.2 with
    | some c => if c.rank = rank ∧ c.slot = slot ∧ c.line = line ∧ c.word = word then some (e.1, c) else none
    | none => none

/-- The entry that a new occurrence takes: a free one, or the one with the lowest count, oldest first, that is neither
STICKY nor UE (R609). -/
def State.cetVictim (s : State) (n : Nat) : Option Nat :=
  let t := (s.chan n).cet
  match (List.range 64).find? fun i => (tabGet (fun _ => none) t i).isNone with
  | some i => some i
  | none =>
    let age (c : Cet) : Nat := (s.tier.epoch + 65536 - c.latest) % 65536
    let better (a b : Nat × Cet) : Bool :=
      decide (a.2.count < b.2.count) || (a.2.count == b.2.count && decide (age b.2 < age a.2))
    (t.foldl (fun acc e => match e.2 with
      | some c =>
        if c.sticky || c.ue then acc
        else match acc with
          | none => some (e.1, c)
          | some a => if better (e.1, c) a then some (e.1, c) else acc
      | none => acc) (none : Option (Nat × Cet))).map (·.1)

/-- Enter a corrected (`ue` false) or uncorrectable word in the combining table (R609). -/
def State.cetEnter (s : State) (n rank slot line word : Nat) (errs : List Nat) (ue : Bool) : State :=
  let put (i : Nat) (c : Cet) : State :=
    let c1 := { c with
      pos1 := if c.ue || ue then none else errs[0]?
      pos2 := if c.ue || ue then none else errs[1]?
      count := min 65535 (c.count + 1), latest := s.tier.epoch, ue := c.ue || ue }
    s.setChan n { s.chan n with cet := tabSet (fun _ => none) (s.chan n).cet i (some c1) }
  match s.cetOf n rank slot line word with
  | some (i, c) => put i c
  | none =>
    match s.cetVictim n with
    | some i => put i { rank := rank, slot := slot, line := line, word := word, first := s.tier.epoch }
    | none => (s.count (Reg.DRC_CET_OVERFLOW n)).raiseAt 0xA014 n 0 0

/-- Count a corrected word of a rank, with its threshold (R608). -/
def State.countCorrected (s : State) (n rank b : Nat) : State :=
  let s1 := s.count (Reg.DRC_CE_RANK n rank)
  let c := s1.chan n
  let s2 := s1.setChan n { c with
    ceBank := tabSet (fun _ => 0) c.ceBank (32 * rank + b) (min 255 (tabGet (fun _ => 0) c.ceBank (32 * rank + b) + 1)) }
  let r := s2.rank n rank
  let window := s2.fld (Reg.DRC_CE_THRESH n) 31 16 * 60000000000
  let times := (r.ceTimes.filter fun t => decide (s2.now < t + window)) ++ [s2.now]
  let s3 := s2.setRank n rank { r with ceTimes := times }
  if s3.fld (Reg.DRC_CE_THRESH n) 15 0 < times.length then s3.raiseAt 0xA010 n rank 0 else s3

/-- The details of an event about a word. -/
def wordDetail (rank slot line word : Nat) : Nat := rank * 2 ^ 40 + slot * 2 ^ 8 + line * 2 ^ 4 + word

/-- The details of an event about a page. -/
def pageDetail (region page : Nat) : Nat := region * 2 ^ 48 + page

/-! ### Reading a line -/

/-- The status of a line with POISONED set apart (R552, R612). -/
inductive LineStatus where
  | clean | corrected | uncorrectable | poisoned | lost
  deriving DecidableEq, Repr

/-- What a read of a line returns. -/
structure LineRead where
  status : LineStatus
  bytes : List Byte
  tag : Byte
  deriving DecidableEq, Repr

/-- The words of one read attempt with their statuses; where every word can be read and the line carries the location
tag and it does not agree, every word is uncorrectable (R606). -/
def State.attempt (s : State) (la : Nat) (m : LineMark) (ws : List Nat) (err : BitVec 640) : List (Nat × WordStatus) :=
  let rd := (List.range 8).map fun k =>
    let w := ws.getD k 0 ^^^ (err.toNat >>> (80 * k)) % 2 ^ 80
    let st := wordStatus w
    (fixWord w st, st)
  let readable := rd.all fun r => match r.2 with | .clean => true | .corrected _ => true | _ => false
  let bytes := rd.flatMap fun r => leBytes 8 (wordData r.1)
  let tag := BitVec.ofNat 8 ((List.range 8).map fun k => bitNat (wordTag (rd.getD k (0, .clean)).1) * 2 ^ k).sum
  if readable && m.tag.isNone && tag != s.placeTag la bytes then rd.map fun r => (r.1, .bad) else rd

/-- One word's record after both attempts: what is returned, whether it was corrected, and whether it stays bad. -/
def State.recordWord (s : State) (n rank slot line b : Nat) (retired : Bool) (k : Nat)
    (first again : Nat × WordStatus) : State × Nat × LineStatus :=
  let ce (t : State) (errs : List Nat) : State :=
    if retired then t.count (Reg.DRC_RETIRED_HITS n)
    else (t.countCorrected n rank b).cetEnter n rank slot line k errs false
  match first.2 with
  | .clean => (s, first.1, .clean)
  | .corrected l => (ce s l, first.1, .corrected)
  | .poisoned => (s.count (Reg.DRC_POISON_READS n), 0, .poisoned)
  | .bad =>
    match again.2 with
    | .clean =>
      let t := s.count (Reg.DRC_UE_RETRY_OK n)
      (if retired then t.count (Reg.DRC_RETIRED_HITS n)
       else (t.raiseAt 0xA013 n (wordDetail rank slot line k) 0).cetEnter n rank slot line k [] false,
       again.1, .clean)
    | .corrected l =>
      let t := s.count (Reg.DRC_UE_RETRY_OK n)
      (ce (if retired then t else t.raiseAt 0xA013 n (wordDetail rank slot line k) 0) l, again.1, .corrected)
    | _ =>
      let t := s.count (Reg.DRC_UE_COUNT n)
      (if retired then t.count (Reg.DRC_RETIRED_HITS n)
       else (t.cetEnter n rank slot line k [] true).raiseAt 0xA012 n (wordDetail rank slot line k) 0,
       0, .uncorrectable)

/-- The worst status of a line's words: uncorrectable before poisoned before corrected. -/
def worst (l : List LineStatus) : LineStatus :=
  if l.contains .uncorrectable then .uncorrectable
  else if l.contains .poisoned then .poisoned
  else if l.contains .corrected then .corrected
  else .clean

/-- Read a line whose stored bytes and mark were `l` and `m` when its read was issued (R552, R605 to R612): the words
that stay uncorrectable are written back as poison where the line has not changed since. -/
def State.readStored (s : State) (la : Nat) (l : List Byte) (m : LineMark) (e : ReadErrs) : State × LineRead :=
  let x := la / 4
  let n := s.slotChan x
  let slot := s.slotLocal x
  let rank := slotStand x
  let p := s.linePlace la
  let ws := s.lineWords la l m
  let first := s.attempt la m ws e.first
  let again := s.attempt la m ws e.again
  let retired := s.lineRetired la
  let (s1, ds, sts) := (List.range 8).foldl (fun (acc : State × List Nat × List LineStatus) k =>
    let (t, d, st) := acc.1.recordWord n rank slot (la % 4) (4 * p.bg + p.bank) retired k
      (first.getD k (0, .clean)) (again.getD k (0, .clean))
    (t, acc.2.1 ++ [d], acc.2.2 ++ [st])) (s, [], [])
  let bytes := ds.flatMap fun w => leBytes 8 (wordData w)
  let tag := BitVec.ofNat 8 ((List.range 8).map fun k => bitNat (wordTag (ds.getD k 0)) * 2 ^ k).sum
  let bad := BitVec.ofNat 8 ((List.range 8).map fun k => bitNat (sts.getD k .clean == .uncorrectable) * 2 ^ k).sum
  let s2 :=
    if bad ≠ 0 ∧ s1.lineBytes la = l ∧ s1.lineMark la = m then
      s1.setLine la ((List.range 64).map fun i => if bad.getLsbD (i / 8) then 0 else l.getD i 0)
        { m with poison := m.poison ||| bad }
    else s1
  (s2, { status := worst sts, bytes := bytes, tag := tag })

/-- The line as a read that reaches the channel now sees it: the stored line under the writes queued for it (R535). -/
def State.lineNow (s : State) (la : Nat) : List Byte × LineMark :=
  let q := (s.sub (s.slotChan (la / 4)) (s.linePlace la).sub).queue
  q.foldl (fun acc e =>
    if e.la == la && e.access != .rd then
      let merged := (List.range 64).map fun i => match e.bytes.getD i none with | some b => b | none => acc.1.getD i 0
      let whole := (List.range 8).foldl (fun (p : BitVec 8) k =>
        if (List.range 8).all fun i => (e.bytes.getD (8 * k + i) none).isSome then p &&& ~~~ BitVec.ofNat 8 (2 ^ k) else p)
        acc.2.poison
      (merged, { tag := if e.access == .wr then e.tag else acc.2.tag, poison := whole })
    else acc) (s.lineBytes la, s.lineMark la)

/-- A channel that cannot answer: Failed (R555), or not there. -/
def State.chanLost (s : State) (n : Nat) : Bool := (s.chan n).state == .failed

/-- Charge `k` lines to a master, at the crossbar and in a channel (R667, R670). -/
def State.chargeMem (s : State) (m n k : Nat) : State :=
  let c := s.chan n
  let s1 := s.setChan n { c with counts := tabSet (fun _ => 0) c.counts m (tabGet (fun _ => 0) c.counts m + k) }
  let s2 := { s1 with mreg := { s1.mreg with
    counts := tabSet (fun _ => 0) s1.mreg.counts m (tabGet (fun _ => 0) s1.mreg.counts m + k) } }
  s2.count64 (Reg.MREG_BYTES_LO m) (64 * k)

/-- A read by a background master, which takes effect at once (R552): a line with writes queued for it is taken from
them (R535). -/
def State.readDirect (s : State) (m la : Nat) (e : ReadErrs) : State × LineRead :=
  let n := s.slotChan (la / 4)
  let s1 := (s.chargeMem m n 1).count64 (Reg.DRC_CNT n 0) 1
  if s.chanLost n then (s1, { status := .lost, bytes := List.replicate 64 0, tag := 0 })
  else
    let (l, mark) := s.lineNow la
    s1.readStored la l mark e

/-! ### Writing a line -/

/-- Write a line as a channel does (R550, R613, R614): a word whose bytes are all enabled takes them; one that is
poisoned and only partly enabled stays poison, and the merge is refused. -/
def State.writeStored (s : State) (la : Nat) (bs : List (Option Byte)) (tag : Option Byte) : State × Bool :=
  let n := s.slotChan (la / 4)
  let l := s.lineBytes la
  let m := s.lineMark la
  let enabled (k : Nat) : Nat := ((List.range 8).filter fun i => (bs.getD (8 * k + i) none).isSome).length
  let refused := (List.range 8).filter fun k => m.poison.getLsbD k && decide (0 < enabled k ∧ enabled k < 8)
  let poison := BitVec.ofNat 8 ((List.range 8).map fun k =>
    bitNat (m.poison.getLsbD k && decide (enabled k < 8)) * 2 ^ k).sum
  let merged := (List.range 64).map fun i =>
    if poison.getLsbD (i / 8) then 0 else match bs.getD i none with | some b => b | none => l.getD i 0
  let whole := (List.range 64).all fun i => (bs.getD i none).isSome
  let s1 := s.setLine la merged { tag := if whole then tag else m.tag, poison := poison }
  let s2 := refused.foldl (fun t k =>
    let t1 := t.count (Reg.DRC_MERGE_REFUSED n)
    (t1.cetEnter n (slotStand (la / 4)) (t1.slotLocal (la / 4)) (la % 4) k [] true).raiseAt 0xA015 n
      (wordDetail (slotStand (la / 4)) (t1.slotLocal (la / 4)) (la % 4) k) 0) s1
  (s2, !refused.isEmpty)

/-- Take the writes queued for a line into the line, in the order of their arrival (R535). -/
def State.settle (s : State) (la : Nat) : State :=
  let n := s.slotChan (la / 4)
  let b := (s.linePlace la).sub
  let x := s.sub n b
  let mine (e : Entry) : Bool := e.la == la && e.access != .rd
  if x.queue.any mine then
    let (l, m) := s.lineNow la
    (s.setLine la l m).setSub n b { x with queue := x.queue.filter fun e => !mine e }
  else s

/-- A write of the device's own that takes effect at once, after the writes queued for its line; one that does not enable every
byte is a read-modify-write (R550). -/
def State.writeDirect (s : State) (m la : Nat) (bs : List (Option Byte)) (tag : Option Byte := none) : State :=
  let n := s.slotChan (la / 4)
  let s0 := (s.chargeMem m n 1).count64 (Reg.DRC_CNT n 1) 1
  let s1 := if bs.all Option.isSome then s0 else (s0.count64 (Reg.DRC_CNT n 0) 1).count64 (Reg.DRC_CNT n 12) 1
  if s.chanLost n then s1 else ((s1.settle la).writeStored la bs tag).1

/-- A queue without the accesses that write lines of `lo` to `hi - 1`. -/
def SubChan.without (x : SubChan) (lo hi : Nat) : SubChan :=
  { x with queue := x.queue.filter fun e => !(e.access != .rd && decide (lo ≤ e.la ∧ e.la < hi)) }

/-- Bytes `lo` to `hi - 1`, whole words, written as zeros under a master: `k` lines of them (R613). -/
def State.clearRange (s : State) (m lo hi : Nat) : State :=
  let slots := (List.range ((hi + 255) / 256 - lo / 256)).map (lo / 256 + ·)
  let s1 := s.chanList.foldl (fun t n =>
    let k := 4 * (slots.filter fun x => s.slotChan x == n).length
    ((t.chargeMem m n k).count64 (Reg.DRC_CNT n 1) k).setChan n
      (let c := (t.chargeMem m n k).chan n
       { c with subA := c.subA.without ((lo + 63) / 64) (hi / 64), subB := c.subB.without ((lo + 63) / 64) (hi / 64) })) s
  { s1 with dram := { s1.dram with
    bytes := s1.dram.bytes.filter fun c => !(decide (lo ≤ c.1 ∧ c.1 < hi))
    marks := tabMap (fun _ => {}) (fun la w =>
      { tag := if lo ≤ 64 * la ∧ 64 * la + 64 ≤ hi then none else w.tag
        poison := BitVec.ofNat 8 ((List.range 8).map fun k =>
          bitNat (w.poison.getLsbD k && !decide (lo ≤ 64 * la + 8 * k ∧ 64 * la + 8 * k < hi)) * 2 ^ k).sum }) s1.dram.marks } }

end Sys2Proof.Machine
end

