-- ==== Sys2Proof/Machine/TierBase.lean ====
section
/-! DEFINITION. The clearing (R412 to R421): roles, bitmaps, opening plots, taking and returning slots, pressure. A plot
is named by its first slot ÷ 256 and a stretch by its first plot ÷ 64. What R414 keeps in a summary byte beside INIT is
computed from the bitmaps. -/

namespace Sys2Proof.Machine

open Sys2Proof

/-- ROLE of a stand: 0 Unused, 1 Awake, 2 Floor. -/
def State.role (s : State) (k : Nat) : Nat := s.fld (Reg.TIER_STAND_CFG k) 1 0

/-- Counters of TIER_CNT (R455). -/
def State.tierCount (s : State) (k n : Nat) : State := s.count64 (Reg.TIER_CNT k) n

/-- The bitmap of a plot (R412). -/
def State.bitmap (s : State) (p : Nat) : BitVec 256 := tabGet (fun _ => 0) s.tier.bitmaps p

/-- A plot of the stand space exists. -/
def State.plotExists (s : State) (p : Nat) : Bool := decide (p % 2 ^ 25 < (s.stand (p / 2 ^ 25)).plots)

/-- Slots of a plot in use. -/
def popCount (b : BitVec 256) : Nat := ((List.range 256).filter fun j => b.getLsbD j).length

/-- An aligned group of 16 slots wholly free. -/
def freeGroup (b : BitVec 256) : Option Nat :=
  (List.range 16).find? fun g => (b.toNat >>> (16 * g)) % 65536 == 0

/-- The first run of `n` free slots (R417: first-fit). -/
def freeRun (b : BitVec 256) (n : Nat) : Option Nat :=
  (List.range (257 - n)).find? fun j => (b.toNat >>> j) % 2 ^ n == 0

/-- Pressure is judged (R421), and the end of a run of thinning (R449). -/
def State.judgePressure (s : State) : State :=
  let awake := (List.range 8).filter fun k => (s.stand k).present && s.role k == 1
  let s := if s.tier.thinning && decide (2 * s.fld Reg.TIER_THIN_CFG 31 8 ≤ (awake.map fun k => (s.stand k).freePlots).sum) then
    { s with tier := { s.tier with thinning := false } } else s
  if !s.tier.ready || awake.isEmpty then { s with tier := { s.tier with pressure := false } }
  else
    let free := (awake.map fun k => (s.stand k).freePlots).sum
    let low := s.fld Reg.TIER_AWAKE_LOW 23 0
    if s.tier.pressure then
      (if 5 * low < 4 * free then { s with tier := { s.tier with pressure := false } } else s)
    else if free < low then ({ s with tier := { s.tier with pressure := true } }).raise 0x6001
    else s

/-- The state with a plot's bitmap replaced and its stand's counts kept (R454). -/
def State.setBitmap (s : State) (p : Nat) (b : BitVec 256) : State :=
  let k := p / 2 ^ 25
  let old := s.bitmap p
  let st := s.stand k
  let s1 := { s with tier := { s.tier with bitmaps := tabSet (fun _ => 0) s.tier.bitmaps p b } }
  s1.setStand k { st with
    used := st.used + popCount b - popCount old
    freePlots := st.freePlots + bitNat (b == 0) - bitNat (old == 0) }

/-- Mark `n` slots from `x` in use, writing the stretch's bitmaps first where INIT is 0 (R414). -/
def State.takeSlots (s : State) (x n : Nat) : State :=
  let p := x / 256
  let m : BitVec 256 := BitVec.ofNat 256 ((2 ^ n - 1) <<< (x % 256))
  let s1 := { s with tier := { s.tier with inited := tabSet (fun _ => false) s.tier.inited (p / 64) true } }
  (s1.setBitmap p (s1.bitmap p ||| m)).judgePressure

/-- A slot lies in a retired slot group or bank (R624). -/
def State.slotRetired (s : State) (x : Nat) : Bool := s.lineRetired (4 * x)

/-- TIER_STAND_RETIRED (R625). -/
def State.standRetired (s : State) (k : Nat) : Nat := (s.tier.marked.filter fun x => slotStand x == k).length

/-- A retired slot that stays in use (R625). -/
def State.keepMarked (s : State) (x : Nat) : State :=
  if s.tier.marked.contains x then s else { s with tier := { s.tier with marked := x :: s.tier.marked } }

/-- The plots of the bitmap area: the first, and how many (R412). -/
def State.bitmapArea (s : State) : Nat × Nat :=
  (s.fld Reg.TIER_BITMAP_CFG 2 0 * 2 ^ 25,
   (((List.range 8).map fun k => if (s.stand k).present then (s.stand k).plots else 0).sum + 2047) / 2048 + 64)

/-- Return slots to the clearing (R420); those that are retired stay in use (R625). -/
def State.freeSlots (s : State) (l : List Nat) : State :=
  (l.foldl (fun t x =>
    if t.slotRetired x then t.keepMarked x
    else t.setBitmap (x / 256) (t.bitmap (x / 256) &&& ~~~ BitVec.ofNat 256 (2 ^ (x % 256)))) s).judgePressure

/-- The slots free in a stand (R417). -/
def State.freeOf (s : State) (k : Nat) : Nat := 256 * (s.stand k).plots - (s.stand k).used

/-- The stand of a role with the most free slots, the lowest of equals, not DRAINING (R416, R417, R441). -/
def State.bestStand (s : State) (ok : Nat → Bool) : Option Nat :=
  (List.range 8).foldl (fun acc k =>
    if (s.stand k).present && !(s.stand k).draining && ok k then
      (match acc with
       | none => some k
       | some j => if s.freeOf j < s.freeOf k then some k else some j)
    else acc) none

/-- A plot can be opened: for Canopy (`n` 0), an aligned group of 16 free slots; otherwise 32 free slots, and a run of the
length sought, since a plot without one is closed again (R417). -/
def plotFits (n : Nat) (b : BitVec 256) : Bool :=
  if n = 0 then (freeGroup b).isSome else decide (32 ≤ 256 - popCount b) && (freeRun b n).isSome

/-- The plots of a stretch of a stand. -/
def State.stretchPlots (s : State) (k st : Nat) : List Nat :=
  ((List.range 64).map fun i => k * 2 ^ 25 + st * 64 + i).filter s.plotExists

/-- The fields of the summary byte of a stretch with these plots: FREE_PLOT, GROUP16, FREE_UNITS (R414). -/
def State.summaryOf (s : State) (l : List Nat) : Bool × Bool × Nat :=
  (l.any fun p => s.bitmap p == 0, l.any fun p => (freeGroup (s.bitmap p)).isSome,
   min 31 ((l.map fun p => 256 - popCount (s.bitmap p)).sum / 512))

/-- The first fitting plot of a stretch of a stand whose summary shows room (R417). -/
def State.plotIn (s : State) (len k st : Nat) : Option Nat :=
  let l := s.stretchPlots k st
  let (plot, group, units) := s.summaryOf l
  if s.tier.rebuild.contains (k * 2 ^ 19 + st) then none
  else if (if len = 0 then group else decide (2 ≤ units) || plot) then l.find? fun p => plotFits len (s.bitmap p)
  else none

/-- Step through a stand's stretches from `st`, wrapping; the first argument bounds the steps (R417). -/
def State.plotFrom (s : State) (len k n : Nat) : Nat → Nat → Option Nat
  | 0, _ => none
  | f + 1, st =>
    match s.plotIn len k st with
    | some p => some p
    | none => s.plotFrom len k n f ((st + 1) % n)

/-- The plot that an opener holds open. -/
def State.openPlot (s : State) (o : Nat) : Option Nat := tabGet (fun _ => none) s.tier.opened o

/-- The state with an opener's plot. -/
def State.setOpen (s : State) (o : Nat) (p : Option Nat) : State :=
  { s with tier := { s.tier with opened := tabSet (fun _ => none) s.tier.opened o p } }

/-- A plot is held open by another opener. -/
def State.openElsewhere (s : State) (o p : Nat) : Bool := s.tier.opened.any fun e => e.1 != o && e.2 == some p

/-- Open a plot in a stand for an opener (R417), moving the stand's cursor to its stretch. -/
def State.openIn (s : State) (o k len : Nat) : State × Bool :=
  let st := s.stand k
  let n := (st.plots + 63) / 64
  match s.plotFrom len k n n (if n ≤ st.cursor then 0 else st.cursor) with
  | some p => ((s.setStand k { st with cursor := p % 2 ^ 25 / 64 }).setOpen o (some p), true)
  | none => (s, false)

/-- The wholly free plots of the Awake stands. -/
def State.awakeFree (s : State) : Nat :=
  (((List.range 8).filter fun k => (s.stand k).present && s.role k == 1).map fun k => (s.stand k).freePlots).sum

/-- How an opener finds a plot for runs of a length: in the stand named, or in one of its choice. -/
abbrev Opener := Nat → Option Nat → State → State × Bool

/-- Open a plot of the write path in the Awake stand with the most free slots, or in the one named (R417, R418). -/
def openWrite (o : Nat) : Opener := fun len k s =>
  if s.awakeFree ≤ s.fld Reg.TIER_RESERVE 23 0 then (s, false)
  else match k with
    | some k => s.openIn o k len
    | none =>
      match s.bestStand (fun k => s.role k == 1) with
      | some k => s.openIn o k len
      | none => (s, false)

/-- Open a plot of a stand, which no reserve of plots holds back (R418). -/
def openAt (o k : Nat) : Opener := fun len _ s => s.openIn o k len

/-- A group of 16 slots from an opener's plot, which is replaced once where it has none left (R416, R417). -/
def State.takeGroup (s : State) (o : Nat) (open_ : Opener) : State × Option Nat :=
  let from_ (t : State) : Option Nat :=
    (t.openPlot o).bind fun p => (freeGroup (t.bitmap p)).map fun g => 256 * p + 16 * g
  match from_ s with
  | some x => (s.takeSlots x 16, some x)
  | none =>
    let (t, ok) := open_ 0 none (s.setOpen o none)
    if ok then (match from_ t with | some x => (t.takeSlots x 16, some x) | none => (t, none)) else (t, none)

/-- A run of `n` slots from an opener's plot, in the stand named if one is (R416, R417). -/
def State.takeRun (s : State) (o n : Nat) (k : Option Nat) (open_ : Opener) : State × Option Nat :=
  let from_ (t : State) : Option Nat :=
    (t.openPlot o).bind fun p =>
      if k.isSome && k != some (p / 2 ^ 25) then none else (freeRun (t.bitmap p) n).map fun j => 256 * p + j
  match from_ s with
  | some x => (s.takeSlots x n, some x)
  | none =>
    let (t, ok) := open_ n k (s.setOpen o none)
    if ok then (match from_ t with | some x => (t.takeSlots x n, some x) | none => (t, none)) else (t, none)

/-- The reserve of single slots of an opener (R416). -/
def State.reserveOf (s : State) (o : Nat) : List Nat := tabGet (fun _ => []) s.tier.reserve o

/-- The state with an opener's reserve. -/
def State.setReserve (s : State) (o : Nat) (l : List Nat) : State :=
  { s with tier := { s.tier with reserve := tabSet (fun _ => []) s.tier.reserve o l } }

/-- Take single slots of stand `k` from an opener's reserve, which is refilled 16 at a time from its open plot (R416). -/
def State.takeSingles (s : State) (o k : Nat) (open_ : Opener) : Nat → State × Option (List Nat)
  | 0 => (s, some [])
  | n + 1 =>
    match s.takeSingles o k open_ n with
    | (t, none) => (t, none)
    | (t, some l) =>
      match (t.reserveOf o).filter fun x => slotStand x == k with
      | x :: _ => (t.setReserve o ((t.reserveOf o).erase x), some (l ++ [x]))
      | [] =>
        match (t.freeSlots (t.reserveOf o)).takeRun o 16 (some k) open_ with
        | (v, some x) => (v.setReserve o ((List.range 15).map (x + 1 + ·)), some (l ++ [x]))
        | (v, none) => (v.setReserve o [], none)

/-- An extent of `p0` primary slots of which `p` are kept, and `o` offshoots of the same stand (R408, R409, R475): the
slots in order, or none with everything returned (R419). -/
def State.takeExtent (s : State) (opener p0 p o : Nat) (open_ : Opener) : State × Option (List Nat) :=
  match s.takeRun opener p0 none open_ with
  | (t, none) => (t, none)
  | (t, some x) =>
    let t1 := t.freeSlots ((List.range (p0 - p)).map fun i => x + p + i)
    let pri := (List.range p).map (x + ·)
    match t1.takeSingles opener (slotStand x) open_ o with
    | (u, some l) => (u, some (pri ++ l))
    | (u, none) => (u.freeSlots pri, none)

/-- The slots of 16 from a first one. -/
def groupSlots (x : Nat) : List Nat := (List.range 16).map (x + ·)

/-! ### Descriptor arrays (R312, R416) -/

/-- Plots of a descriptor array of `n` pages (R312). -/
def descPlots (n : Nat) : Nat := (n + 2047) / 2048

/-- The first run of `want` wholly free plots among the next plots from `p`, `have_` of which are found before it. -/
def State.plotRun (s : State) (want : Nat) : (left p have_ : Nat) → Option Nat
  | 0, _, _ => none
  | n + 1, p, h =>
    let h1 := if s.bitmap p = 0 && !s.tier.rebuild.contains (p / 2 ^ 25 * 2 ^ 19 + p % 2 ^ 25 / 64) then h + 1 else 0
    if h1 = want then some (p + 1 - want) else s.plotRun want n (p + 1) h1

/-- The run of plots that a descriptor array takes: the lowest in the lowest stand of PIPE_DESC_STANDS (R312). -/
def State.arrayRun (s : State) (want : Nat) : Option Nat :=
  (List.range 8).findSome? fun k =>
    if s.flag Reg.PIPE_DESC_STANDS k && (s.stand k).present && !(s.stand k).draining then
      s.plotRun want (s.stand k).plots (k * 2 ^ 25) 0
    else none

/-- Take `n` whole plots from plot `p`. -/
def State.takePlots (s : State) (p n : Nat) : State := (List.range n).foldl (fun t i => t.takeSlots (256 * (p + i)) 256) s

/-- Return `n` whole plots from plot `p`. -/
def State.freePlots (s : State) (p n : Nat) : State :=
  ((List.range n).foldl (fun t i => t.setBitmap (p + i) 0) s).judgePressure

/-- NoSpace (R419). -/
def State.noSpace (s : State) : State := (s.raise 0x6002).tierCount 12 1

/-- The policy words of a class in force (R429, R430). -/
def State.policyWord (s : State) (c w : Nat) : Word :=
  tabGet (fun i => if i % 4 = 0 then 0x1000_0400 else if i % 4 = 1 then 0x2000_0100 else if i % 4 = 2 then 0x0258_0000 else 5)
    s.tier.policy (4 * c + w)

end Sys2Proof.Machine
end

