-- ==== Sys2Proof/Machine/PipeBase.lean ====
section
/-! DEFINITION. Regions, grants and page descriptors as every block uses them (09_addressing.md): layouts, look-ups, the
descriptor cache, and the one operation that changes a descriptor and keeps every count that depends on it. -/

namespace Sys2Proof.Machine

open Sys2Proof

/-! ### Layouts (R309, R318, R331) -/

/-- The four words of a descriptor (R331). -/
def Desc.words (d : Desc) : List Nat :=
  [d.format % 8 * 2 ^ 57 + d.dict % 16 * 2 ^ 53 + bitNat d.pinned * 2 ^ 52 + bitNat d.stale * 2 ^ 51
     + bitNat d.poison * 2 ^ 50 + bitNat d.raw * 2 ^ 49 + d.offCount % 16 * 2 ^ 45 + d.priCount % 32 * 2 ^ 40
     + d.tier % 16 * 2 ^ 36 + d.priSlot % 2 ^ 36,
   d.compLen % 2 ^ 13 * 2 ^ 36 + d.offHead % 2 ^ 36,
   bitNat d.fValid * 2 ^ 58 + d.fIndex % 4 * 2 ^ 56 + bitNat d.overflow * 2 ^ 55 + d.ptrCount % 8 * 2 ^ 52
     + d.ptr3 % 4096 * 2 ^ 40 + d.ptr2 % 4096 * 2 ^ 28 + d.ptr1 % 4096 * 2 ^ 16 + d.ptr0 % 4096 * 2 ^ 4 + d.dir % 16,
   d.epoch % 2 ^ 16 * 2 ^ 32 + d.warmth % 2 ^ 16 * 2 ^ 16 + d.group % 2 ^ 16]

/-- The descriptor that four words spell (R331); reserved bits are dropped. -/
def descOf (w0 w1 w2 w3 : Nat) : Desc :=
  { format := bits w0 59 57, dict := bits w0 56 53, pinned := bit w0 52, stale := bit w0 51, poison := bit w0 50
    raw := bit w0 49, offCount := bits w0 48 45, priCount := bits w0 44 40, tier := bits w0 39 36
    priSlot := bits w0 35 0, compLen := bits w1 48 36, offHead := bits w1 35 0
    fValid := bit w2 58, fIndex := bits w2 57 56, overflow := bit w2 55, ptrCount := bits w2 54 52
    ptr3 := bits w2 51 40, ptr2 := bits w2 39 28, ptr1 := bits w2 27 16, ptr0 := bits w2 15 4, dir := bits w2 3 0
    epoch := bits w3 47 32, warmth := bits w3 31 16, group := bits w3 15 0 }

/-- The 32 bytes of a descriptor (R4, R331). -/
def Desc.bytes (d : Desc) : List Byte := d.words.flatMap (leBytes 8)

/-- The descriptor that 32 bytes hold. -/
def descOfBytes (l : List Byte) : Desc :=
  let w (k : Nat) : Nat := leNat ((l.drop (8 * k)).take 8)
  descOf (w 0) (w 1) (w 2) (w 3)

/-- The eight words of a region table entry (R309). -/
def Region.words (r : Region) : List Nat :=
  [bitNat r.valid * 2 ^ 63 + bitNat r.enable * 2 ^ 62 + r.state % 4 * 2 ^ 60 + r.descBase % 2 ^ 36,
   r.pageCount % 2 ^ 35,
   bitNat r.pinned * 2 ^ 46 + bitNat r.patternOk * 2 ^ 45 + bitNat r.homeAtomic * 2 ^ 44 + bitNat r.coherent * 2 ^ 43
     + bitNat r.shareValid * 2 ^ 42 + r.shareGroup % 1024 * 2 ^ 32 + r.writeFormat % 8 * 2 ^ 24
     + r.dictClass % 16 * 2 ^ 20 + r.policy % 16 * 2 ^ 16 + r.keySlot % 4096,
   r.initMark % 2 ^ 35, r.pagesStored % 2 ^ 35, r.slotsHeld % 2 ^ 36, r.cachedPages % 2 ^ 35, 0]

/-- The fields of words 0 to 2 of a region table entry (R309). -/
def regionOf (w0 w1 w2 : Nat) : Region :=
  { valid := bit w0 63, enable := bit w0 62, state := bits w0 61 60, descBase := bits w0 35 0
    pageCount := bits w1 34 0
    pinned := bit w2 46, patternOk := bit w2 45, homeAtomic := bit w2 44, coherent := bit w2 43
    shareValid := bit w2 42, shareGroup := bits w2 41 32, writeFormat := bits w2 26 24, dictClass := bits w2 23 20
    policy := bits w2 19 16, keySlot := bits w2 11 0 }

/-- The four words of a grant (R318). -/
def Grant.words (g : Grant) : List Nat :=
  [bitNat g.valid * 2 ^ 63 + bitNat g.chained * 2 ^ 62 + bitNat g.manager * 2 ^ 36 + bitNat g.caching * 2 ^ 35
     + bitNat g.atomic * 2 ^ 34 + bitNat g.write * 2 ^ 33 + bitNat g.read * 2 ^ 32 + g.region % 2 ^ 16 * 2 ^ 16
     + g.client % 2 ^ 12,
   g.next % 2 ^ 16, g.first % 2 ^ 34, g.last % 2 ^ 34]

/-- The grant that four words spell (R318). -/
def grantOfWords (w0 w1 w2 w3 : Nat) : Grant :=
  { valid := bit w0 63, chained := bit w0 62, manager := bit w0 36, caching := bit w0 35, atomic := bit w0 34, write := bit w0 33
    read := bit w0 32, region := bits w0 31 16, client := bits w0 11 0, next := bits w1 15 0, first := bits w2 33 0
    last := bits w3 33 0 }

/-! ### Regions and grants (R309 to R322) -/

/-- A region table entry. -/
def State.region (s : State) (r : Nat) : Region := tabGet (fun _ => {}) s.pipe.regions r

/-- The state with a region table entry replaced. -/
def State.setRegion (s : State) (r : Nat) (v : Region) : State :=
  { s with pipe := { s.pipe with regions := tabSet (fun _ => {}) s.pipe.regions r v } }

/-- A grant table entry. -/
def State.grantAt (s : State) (i : Nat) : Grant := tabGet (fun _ => {}) s.pipe.grants i

/-- The state with a grant table entry replaced. -/
def State.setGrantAt (s : State) (i : Nat) (g : Grant) : State :=
  { s with pipe := { s.pipe with grants := tabSet (fun _ => {}) s.pipe.grants i g } }

/-- The bucket of a client and region (R319). -/
def grantBucket (client region : Nat) : Nat :=
  (crc32c (beBytes 2 (client % 4096) ++ beBytes 2 region)).toNat % 65536

/-- Walk a grant chain: at most `n` more entries from `i` (R319). -/
def State.grantWalk (s : State) (client region : Nat) : Nat → Nat → Option (Nat × Grant)
  | 0, _ => none
  | n + 1, i =>
    let e := s.grantAt i
    if e.valid && e.client == client && e.region == region then some (i, e)
    else if !e.chained then none
    else s.grantWalk client region n e.next

/-- The grant of a client for a region, with its index (R319). -/
def State.grantOf (s : State) (client region : Nat) : Option (Nat × Grant) :=
  s.grantWalk client region 16 (grantBucket client region)

/-! ### Pipelines and their counters (R11, R355) -/

/-- The pipeline of a page: 0 A, 1 B (R11). -/
def pipeOf (region page : Nat) : Nat := bitNat (Config.pipeHash region page)

/-- The power domain of a page's pipeline (R713). -/
def pipeDom (region page : Nat) : Nat := 3 + pipeOf region page

/-- Counters of PIPE_CNT (R355). -/
def State.pipeCount (s : State) (region page k : Nat) : State := s.count64 (Reg.PIPE_CNT (pipeOf region page) k) 1

/-- Counters of COH_CNT (R401). -/
def State.cohCount (s : State) (k n : Nat) : State := s.count64 (Reg.COH_CNT k) n

/-- Counters of CMP_CNT (R496). -/
def State.cmpCount (s : State) (k n : Nat) : State := s.count64 (Reg.CMP_CNT k) n

/-! ### Where descriptors lie and the cache (R332, R351 to R354) -/

/-- The slot and the line address of a descriptor, and its byte offset in the line (R332). -/
def descLine (base i : Nat) : Nat × Nat := ((base + i / 8) * 4 + i % 8 / 2, 32 * (i % 2))

/-- The cache key of a page. -/
def pageKey (region page : Nat) : Nat := region * 2 ^ 34 + page

/-- The set of a page (R351). -/
def dcSet (region page : Nat) : Nat := (crc32c (beBytes 2 region ++ beBytes 5 page)).toNat % 2 ^ 17

/-- The cache entry of a page. -/
def State.dcEntry (s : State) (region page : Nat) : Option DcEntry :=
  tabGet (fun _ => none) s.pipe.cache (pageKey region page)

/-- The state with a cache entry replaced. -/
def State.setDc (s : State) (region page : Nat) (e : Option DcEntry) : State :=
  { s with pipe := { s.pipe with cache := tabSet (fun _ => none) s.pipe.cache (pageKey region page) e } }

/-- A request has come to stage 5 with its tracker (R363); the tracker of one that has spent a credit is its own before that
(R392). -/
def Flight.opened (f : Flight) : Bool :=
  f.trk != .none && f.stage != .fetch && f.stage != .way && f.stage != .lock && f.stage != .home

/-- A page has an open tracker (R8, R363). -/
def State.tracked (s : State) (region page : Nat) : Bool :=
  s.coh.flights.any fun f => f.region == region && f.page == page && f.opened

/-- A request's fetch of a page's descriptor is under way, which holds the lock (R325). -/
def State.fetching (s : State) (region page : Nat) : Bool :=
  s.coh.flights.any fun f => f.region == region && f.page == page && f.stage == .fetch

/-- A request keeps a page's descriptor lock (R7, R325). -/
def State.lockTaken (s : State) (region page : Nat) : Bool :=
  s.fetching region page || (match s.dcEntry region page with | some e => e.lock.isSome | none => false)

/-- The first service agent that waits for a page's lock, and has it as soon as no request keeps it (R9). -/
def State.firstPlace (s : State) (region page : Nat) : Option LockPlace :=
  s.pipe.places.find? (·.key == pageKey region page)

/-- A page's descriptor lock is held. -/
def State.lockHeld (s : State) (region page : Nat) : Bool := s.lockTaken region page || (s.firstPlace region page).isSome

/-- A page's cache entry is pinned: its lock is held or its page has an open tracker (R8). -/
def State.dcPinned (s : State) (region page : Nat) : Bool := s.tracked region page || s.lockHeld region page

/-- Ways of a page's set that fetches of other pages are about to take: their locks are held (R8). -/
def State.dcClaimed (s : State) (region page : Nat) : Nat :=
  (((s.coh.flights.filter fun f => f.stage == .fetch && dcSet f.region f.page == dcSet region page
    && pageKey f.region f.page != pageKey region page).map fun f => pageKey f.region f.page).dedup).length

/-- The entries of a set. -/
def State.dcWays (s : State) (set_ : Nat) : List (Nat × DcEntry) :=
  s.pipe.cache.filterMap fun e =>
    match e.2 with
    | some d => if dcSet (e.1 / 2 ^ 34) (e.1 % 2 ^ 34) = set_ then some (e.1, d) else none
    | none => none

/-- Write a descriptor to its place in DRAM under a master (R332): as whole words, whatever was there (R613). -/
def State.storeDesc (s : State) (m region page : Nat) (d : Desc) : State :=
  let (la, off) := descLine (s.region region).descBase page
  s.writeDirect m la (List.replicate off none ++ d.bytes.map some ++ List.replicate (32 - off) none)

/-- Write back a changed cache entry under master 2 (R352). -/
def State.writeBack (s : State) (key : Nat) (e : DcEntry) : State :=
  if e.dirty then
    let s1 := s.storeDesc 2 (key / 2 ^ 34) (key % 2 ^ 34) e.desc
    (s1.setDc (key / 2 ^ 34) (key % 2 ^ 34) (some { e with dirty := false })).count64 Reg.PIPE_DC_WB_LO 1
  else s

/-- Make room in a page's set (R352): none where every way is pinned; otherwise the least recently used unpinned way is
written back and reused. -/
def State.dcRoom (s : State) (region page : Nat) : Option State :=
  let ways := s.dcWays (dcSet region page)
  if ways.length + s.dcClaimed region page < 16 then some s
  else
    let free := ways.filter fun w => !s.dcPinned (w.1 / 2 ^ 34) (w.1 % 2 ^ 34)
    match free with
    | [] => none
    | w :: r =>
      let v := r.foldl (fun a b => if b.2.used < a.2.used then b else a) w
      some ((s.writeBack v.1 v.2).setDc (v.1 / 2 ^ 34) (v.1 % 2 ^ 34) none)

/-- Mark a cache entry as used now (R352). -/
def State.touch (s : State) (region page : Nat) : State :=
  match s.dcEntry region page with
  | some e =>
    { s.setDc region page (some { e with used := s.pipe.useClock + 1 }) with
      pipe := { (s.setDc region page (some { e with used := s.pipe.useClock + 1 })).pipe with
        useClock := s.pipe.useClock + 1 } }
  | none => s

/-- Read a descriptor from DRAM under a master: none where it is uncorrectable, with whether it reads poisoned or lost
(R354, R552). -/
def State.fetchDesc (s : State) (m region page : Nat) (e : ReadErrs) : State × Except LineStatus Desc :=
  let (la, off) := descLine (s.region region).descBase page
  let (s1, r) := s.readDirect m la e
  match r.status with
  | .clean | .corrected => (s1, .ok (descOfBytes ((r.bytes.drop off).take 32)))
  | st => (s1, .error st)

/-- Install a fetched descriptor in a set that has room. -/
def State.install (s : State) (region page : Nat) (d : Desc) : State :=
  (s.setDc region page (some { desc := d })).touch region page

/-- The descriptor of a page through the cache for a service agent whose turn at its lock it is; `none` where every way is
pinned. An uncorrectable fetch is an error (R352, R354). -/
def State.descOf? (s : State) (region page : Nat) (m : Nat) (e : ReadErrs) : Option (State × Except LineStatus Desc) :=
  match s.dcEntry region page with
  | some x => some ((s.touch region page).count64 Reg.PIPE_DC_HIT_LO 1, .ok x.desc)
  | none =>
    match s.dcRoom region page with
    | none => none
    | some t =>
      let (u, r) := (t.count64 Reg.PIPE_DC_MISS_LO 1).fetchDesc m region page e
      match r with
      | .ok d => some (u.install region page d, .ok d)
      | .error st => some (u.raise 0x4003 (pageDetail region page), .error st)

/-! ### Descriptors -/

/-- The clients that a descriptor's pointers name (R358 table, R362). -/
def Desc.named (d : Desc) : List Nat :=
  if d.dir = 1 ∨ d.dir = 2 then ([d.ptr0, d.ptr1, d.ptr2, d.ptr3]).take d.ptrCount
  else if d.dir = 3 ∧ d.fValid then [d.ptr0]
  else []

/-- The owner of an Owned page. -/
def Desc.owner (d : Desc) : Option Nat := if d.dir = 2 then some d.ptr0 else none

/-- Slots that a stored page occupies (R454). -/
def Desc.slotsHeld (d : Desc) : Nat :=
  if d.tier = 3 ∨ (4 ≤ d.tier ∧ d.tier ≤ 6 ∧ d.raw) then 16
  else if 4 ≤ d.tier ∧ d.tier ≤ 6 then d.priCount + d.offCount
  else 0

/-- The page holds slots: Canopy, Understory, Floor or Transit. -/
def Desc.stored (d : Desc) : Bool := decide (3 ≤ d.tier ∧ d.tier ≤ 6)

/-- Add `n` to a client's HELD and `o` to its OWNED (R362). -/
def State.addHeld (s : State) (c : Nat) (n o : Int) : State :=
  let x := s.ctx c
  s.setCtx c { x with held := ((x.held : Int) + n).toNat, owned := ((x.owned : Int) + o).toNat }

/-- A class's count of stored streams (R491). -/
def State.addClassPages (s : State) (c : Nat) (n : Int) : State :=
  let k := tabGet (fun _ => {}) s.cmp.classes c
  { s with cmp := { s.cmp with classes := tabSet (fun _ => {}) s.cmp.classes c { k with pages := ((k.pages : Int) + n).toNat } } }

/-- Keep every count that a descriptor's change from `a` to `b` changes (R309 words 4 to 6, R362, R454, R491). -/
def State.account (s : State) (region : Nat) (a b : Desc) : State :=
  let r := s.region region
  let s1 := s.setRegion region { r with
    pagesStored := r.pagesStored + bitNat b.stored - bitNat a.stored
    slotsHeld := r.slotsHeld + b.slotsHeld - a.slotsHeld
    cachedPages := r.cachedPages + bitNat (b.dir != 0) - bitNat (a.dir != 0) }
  let s2 := a.named.foldl (fun t c => t.addHeld c (-1) (if a.owner = some c then -1 else 0)) s1
  let s3 := b.named.foldl (fun t c => t.addHeld c 1 (if b.owner = some c then 1 else 0)) s2
  let s4 := if a.format ≠ 0 then s3.addClassPages a.dict (-1) else s3
  let s5 := if b.format ≠ 0 then s4.addClassPages b.dict 1 else s4
  let canopy (t : State) (d : Desc) (n : Int) : State :=
    if d.tier = 3 then
      let k := slotStand d.priSlot
      t.setStand k { t.stand k with canopy := ((t.stand k).canopy + n).toNat }
    else t
  canopy (canopy s5 a (-1)) b 1

/-- Replace a page's descriptor in its cache entry, in one write (R326), with every count that depends on it. -/
def State.putDesc (s : State) (region page : Nat) (d : Desc) : State :=
  match s.dcEntry region page with
  | none => s
  | some e =>
    if e.desc = d then s
    else ((s.setDc region page (some { e with desc := d, dirty := true })).account region e.desc d)

/-- The descriptor that the cache holds for a page, all zeros where it holds none. -/
def State.descNow (s : State) (region page : Nat) : Desc :=
  match s.dcEntry region page with
  | some e => e.desc
  | none => {}

/-- The fields that a descriptor keeps when its page's location changes, with SHARE_GROUP and PINNED taken from the
region where it leaves Unallocated (R333, R334). -/
def Desc.leaving (d : Desc) (r : Region) : Desc :=
  if d.tier = 0 then
    { d with group := if r.shareValid then r.shareGroup else 0xFFFF, pinned := r.pinned }
  else d

/-- The descriptor with no location (Unallocated, Zero: R333). -/
def Desc.bare (d : Desc) (tier : Nat) : Desc :=
  { d with tier := tier, priSlot := 0, priCount := 0, offCount := 0, offHead := 0, compLen := 0, raw := false, format := 0, dict := 0 }

/-- A Zero page. -/
def Desc.zero (d : Desc) : Desc := d.bare 1

/-- A Pattern page of pattern `p` (R343). -/
def Desc.pattern (d : Desc) (p : Nat) : Desc :=
  { d.bare 2 with priSlot := p % 2 ^ 36, offHead := p / 2 ^ 36 % 2 ^ 28 }

/-- The pattern of a Pattern page (R343). -/
def Desc.patternOf (d : Desc) : Nat := d.priSlot + d.offHead % 2 ^ 28 * 2 ^ 36

/-- A page in a group of 16 slots: Canopy, or raw in a compressed tier (R333, R481). -/
def Desc.inGroup (d : Desc) (tier : Nat) (raw : Bool) (slot : Nat) : Desc :=
  { d.bare tier with priSlot := slot, priCount := 16, raw := raw }

/-- A page as a stream in an extent (R333). -/
def Desc.inExtent (d : Desc) (tier : Nat) (slots : List Nat) (p len format dict : Nat) : Desc :=
  { d.bare tier with
    priSlot := slots.getD 0 0, priCount := p, offCount := slots.length - p
    offHead := if slots.length = p then 0 else slots.getD p 0
    compLen := len, format := format, dict := dict }

/-- The directory emptied: Uncached (R361). -/
def Desc.uncached (d : Desc) : Desc :=
  { d with dir := 0, fValid := false, fIndex := 0, overflow := false, ptrCount := 0, ptr0 := 0, ptr1 := 0, ptr2 := 0, ptr3 := 0 }

/-- The directory with these pointers and F holder, Uncached where none is left. -/
def Desc.withPtrs (d : Desc) (l : List Nat) (f : Option Nat) : Desc :=
  if l.isEmpty then d.uncached
  else
    let i := f.bind fun c => l.findIdx? (· == c)
    { d with
      dir := 1, ptrCount := l.length, fValid := i.isSome, fIndex := i.getD 0
      ptr0 := l.getD 0 0, ptr1 := l.getD 1 0, ptr2 := l.getD 2 0, ptr3 := l.getD 3 0 }

/-- Owned by a client. -/
def Desc.ownedBy (d : Desc) (c : Nat) : Desc :=
  { d with dir := 2, ptrCount := 1, ptr0 := c, ptr1 := 0, ptr2 := 0, ptr3 := 0, fValid := false, fIndex := 0 }

/-- The F holder of a Shared or Broadcast page. -/
def Desc.fHolder (d : Desc) : Option Nat :=
  if d.fValid ∧ (d.dir = 1 ∨ d.dir = 3) then ([d.ptr0, d.ptr1, d.ptr2, d.ptr3])[d.fIndex]? else none

/-- The directory without a client's pointer (R369, R398): in Broadcast the F holder's pointer goes with F_VALID, as PTR_COUNT
counts it (DEDUCED, log 209). -/
def Desc.dropPtr (d : Desc) (c : Nat) : Desc :=
  if d.dir = 1 then
    d.withPtrs (d.named.filter (· != c)) (if d.fHolder = some c then none else d.fHolder)
  else if d.dir = 2 then (if d.ptr0 = c then d.uncached else d)
  else if d.dir = 3 then
    (if d.fValid ∧ d.ptr0 = c then { d with ptr0 := 0, fValid := false, fIndex := 0, ptrCount := 0 } else d)
  else d

/-- The two descriptors name one location (R336). -/
def Desc.sameLoc (a b : Desc) : Bool :=
  a.format == b.format && a.dict == b.dict && a.raw == b.raw && a.offCount == b.offCount && a.priCount == b.priCount
    && a.priSlot == b.priSlot && a.compLen == b.compLen && a.offHead == b.offHead

/-! ### Plausibility (R330) -/

/-- A slot names something that a request can read: it exists, and its stand is neither absent nor Unpowered. -/
def State.slotUsable (s : State) (x : Nat) : Bool :=
  s.slotExists x && (s.stand (slotStand x)).present && (s.stand (slotStand x)).power != 3

/-- A descriptor is implausible (R330). -/
def State.implausible (s : State) (d : Desc) : Bool :=
  let stream := !d.raw && (d.tier == 4 || d.tier == 5
    || (d.tier == 6 && !(d.format == 0 && d.priCount == 16 && d.compLen == 0)))
  decide (7 ≤ d.tier)
    || (d.tier == 3 && (d.priCount != 16 || d.compLen != 0 || d.raw))
    || (stream && decide (d.priCount * 256 + d.offCount * 248 < d.compLen))
    || (stream && d.format != 1 && d.format != 2)
    || decide (4 ≤ d.dir) || decide (4 < d.ptrCount)
    || (d.stored && (!s.slotUsable d.priSlot || (decide (0 < d.offCount) && !s.slotUsable d.offHead)))

/-! ### Dead holders (R126, R397 to R399) -/

/-- Apply dead-session handling for one client to a page's descriptor; the second result counts a page marked STALE
(R398). -/
def State.deadHolder (s : State) (region page c : Nat) : State × Nat :=
  let d := s.descNow region page
  if d.dir = 2 ∧ d.ptr0 = c then
    (((s.putDesc region page { d.uncached with stale := true }).raise 0x5003 (pageDetail region page)).cohCount 12 1, 1)
  else if d.named.contains c then (s.putDesc region page (d.dropPtr c), 0)
  else (s, 0)

/-- A page lies ahead of the warm-reset sweep (R127). -/
def State.aheadOfSweep (s : State) (region page : Nat) : Bool :=
  s.boot.sweeping && decide (pageKey s.boot.sweepRegion s.boot.sweepPage ≤ pageKey region page)

/-- What the translate stage does to any descriptor that it locks: R398 for every client ID that is Sweeping (R399), and
for every holder where the warm-reset sweep has not passed (R127). -/
def State.lockHandling (s : State) (region page : Nat) : State :=
  let d := s.descNow region page
  let dead := d.named.filter fun c => (s.ctx c).sweeping || s.aheadOfSweep region page
  let s1 := dead.foldl (fun t c => (t.deadHolder region page c).1) s
  if s.aheadOfSweep region page && (s1.descNow region page).dir != 0 then
    s1.putDesc region page (s1.descNow region page).uncached
  else s1

/-! ### Keys (R505, R517) -/

/-- The key slot that a page's data is encrypted under (R517). -/
def State.pageSlot (s : State) (region page : Nat) : Nat :=
  match s.rekeyOf region with
  | some (_, r) => if page < r.mark then r.new else r.old
  | none => (s.region region).keySlot

/-- The key pair of a page, or none where its slot is empty (R505). -/
def State.pageKeys (s : State) (region page : Nat) : Option (BitVec 256 × BitVec 256) :=
  let k := s.keySlot (s.pageSlot region page)
  if k.loaded then some (k.k1, k.k2) else none

/-- A request met an empty key slot (R505). -/
def State.emptySlot (s : State) (region : Nat) : State := (s.raise 0x8007 region).cryCount 9 1

/-! ### The queue at a descriptor's lock (R9, R325) -/

/-- The service agents that wait for locks: hint processing, the holder sweep, the warm-reset sweep, the manager's descriptor
commands and the mover; operation slot `i` is `agentOp i`. -/
abbrev agentHint : Nat := 0
abbrev agentSweep : Nat := 1
abbrev agentWarm : Nat := 2
abbrev agentWindow : Nat := 3
abbrev agentMover : Nat := 4
abbrev agentOp (i : Nat) : Nat := 8 + i

/-- It is not yet an agent's turn at a page's lock. -/
def State.lockWait (s : State) (who region page : Nat) : Bool :=
  s.lockTaken region page || (match s.firstPlace region page with | some p => p.who != who | none => false)

/-- An agent takes a place behind those that already wait, unless it has one. -/
def State.takePlace (s : State) (who region page : Nat) : State :=
  if s.pipe.places.any fun p => p.who == who && p.key == pageKey region page then s
  else { s with pipe := { s.pipe with
    places := s.pipe.places ++ [{ who := who, key := pageKey region page, since := s.coh.nextId }] } }

/-- An agent's place at a page's lock is given up. -/
def State.dropPlace (s : State) (who region page : Nat) : State :=
  { s with pipe := { s.pipe with
    places := s.pipe.places.filter fun p => !(p.who == who && p.key == pageKey region page) } }

/-- A service agent waits for a page's lock since before a request arrived. -/
def State.placeBefore (s : State) (region page id : Nat) : Bool :=
  match s.firstPlace region page with
  | some p => decide (p.since ≤ id)
  | none => false

/-! ### Releases (R329) -/

/-- A request has been translated and has not passed its memory stage. -/
def Flight.beforeMemory (f : Flight) : Bool :=
  match f.stage with
  | .home | .tracker | .pageQ | .snoops | .recall | .tier | .stand | .read | .compress | .check | .write => true
  | .fetch | .way | .lock | .joined _ | .decode | .commit | .bulkWait | .ackWait => false

/-- Release the slots of a page's old location, which was that of descriptor `d`, once the requests translated before the change
have passed memory; a stream counts in its class until then (R491). -/
def State.release (s : State) (region page : Nat) (d : Desc) (slots : List Nat) : State :=
  if slots.isEmpty then s
  else
    let reading := (s.coh.flights.filter fun f => f.region == region && f.page == page && f.beforeMemory).map (·.id)
    if reading.isEmpty then s.freeSlots slots
    else
      let cls := if d.format = 0 then none else some d.dict
      let s1 := match cls with | some c => s.addClassPages c 1 | none => s
      { s1 with tier := { s1.tier with releases := s1.tier.releases ++ [{ slots := slots, wait := reading, cls := cls }] } }

/-- Slots that have waited go back to the clearing. -/
def State.released (s : State) (r : Release) : State :=
  let s1 := s.freeSlots r.slots
  match r.cls with | some c => s1.addClassPages c (-1) | none => s1

/-- A flight has passed its memory stage: what waited only for it is returned to the clearing. -/
def State.passed (s : State) (fid : Nat) : State :=
  let rs := s.tier.releases.map fun r => { r with wait := r.wait.filter (· != fid) }
  (rs.filter fun r => r.wait.isEmpty).foldl State.released
    { s with tier := { s.tier with releases := rs.filter fun r => !r.wait.isEmpty } }

end Sys2Proof.Machine
end

