-- ==== Sys2Proof/Machine/DramQueue.lean ====
section
/-! DEFINITION. The channel input ports and queues (R532 to R536, R665 to R675): the masters' limits, acceptance, and the
order of entries that address one line. -/

namespace Sys2Proof.Machine

open Sys2Proof

/-! ### Limits (R667, R668, R682) -/

/-- The reset budgets of R682. -/
def resetBudget (m : Nat) : Nat :=
  ([11250, 11250, 1250, 1250, 5000, 2500, 2500, 250, 500, 1250, 0, 625] : List Nat).getD m 0

/-- BUDGET_m in force. -/
def State.budget (s : State) (m : Nat) : Nat := tabGet resetBudget s.mreg.budgets m

/-- Channels that are populated and not Failed: N of R668. -/
def State.goodChans (s : State) : List Nat := s.chanList.filter fun n => (s.chan n).state != .failed

/-- The crossbar limit of a master (R668). -/
def State.xbarLimit (s : State) (m : Nat) : Nat := s.budget m * s.mreg.scale / 65536

/-- The channel limit of a master (R668). -/
def State.chanLimit (s : State) (m : Nat) : Nat :=
  s.budget m * s.mreg.scale * s.mreg.factor / (65536 * max 1 s.goodChans.length)

/-- A master's lines in a channel in this window. -/
def State.chanCharged (s : State) (n m : Nat) : Nat := tabGet (fun _ => 0) (s.chan n).counts m

/-- The budget test of R672; masters 2 and 3 are never held (R675), nor 10, and none while REG_EN is 0 (R683). -/
def State.withinBudget (s : State) (n m : Nat) : Bool :=
  !s.flag Reg.MREG_CTRL 0 || m == 2 || m == 3 || m == 10 || decide (s.chanCharged n m < s.chanLimit m)

/-- A master whose count has reached its crossbar limit in this window, while REG_EN is 1 (R669, R683). -/
def State.demotedNow (s : State) (m : Nat) : Bool :=
  s.flag Reg.MREG_CTRL 0 && m != 2 && m != 3 && m != 10 && decide (s.xbarLimit m ≤ tabGet (fun _ => 0) s.mreg.counts m)

/-- The order of precedence of a master's requests (R669). -/
def State.precedence (s : State) (m : Nat) : Nat := if m = 2 ∨ m = 3 then 0 else if s.demotedNow m then 2 else 1

/-- A request of master `m` and service class `cls` lets one that waits at a channel's port go first: an earlier one of its own
master (R672), or one that its own budget does not hold, of no lower rank (R669) and no lower class (R532, R534). -/
def State.yields (s : State) (n m cls : Nat) : Bool :=
  (s.chan n).port.any fun r => r.master == m
    || (s.withinBudget n r.master && decide (r.cls ≤ cls ∧ s.precedence r.master ≤ s.precedence m))

/-- The service class of a master's reads (R533). -/
def readClass (m : Nat) : Nat := if m < 4 then 1 else 3

/-- A read of master `m` may enter a channel's queues now (R669, R672). -/
def State.mayPass (s : State) (n m : Nat) : Bool := s.withinBudget n m && !s.yields n m (readClass m)

/-! ### Room (R532, R534) -/

/-- Fields of DRC_QCFG. -/
def State.wrHigh (s : State) (n : Nat) : Nat := s.fld (Reg.DRC_QCFG n) 29 24
def State.wrLow (s : State) (n : Nat) : Nat := s.fld (Reg.DRC_QCFG n) 21 16
def State.bgMax (s : State) (n : Nat) : Nat := s.fld (Reg.DRC_QCFG n) 13 8
def State.hitMax (s : State) (n : Nat) : Nat := s.fld (Reg.DRC_QCFG n) 4 0

/-- An entry whose byte enables are all set. -/
def Entry.whole (e : Entry) : Bool := (List.range 64).all fun i => (e.bytes.getD i none).isSome

/-- The latest queued access to a line. -/
def SubChan.lastOf (x : SubChan) (la : Nat) : Option Entry := x.queue.reverse.find? (·.la == la)

/-- The unissued write that a later access to its line meets (R535): the latest access queued for the line, where that is a write, or
a read-modify-write that is not in progress. -/
def SubChan.openWrite (x : SubChan) (la : Nat) : Option Entry :=
  if x.ret.any fun o => o.la == la && o.access == .rmw then none
  else match x.lastOf la with
    | some o => if o.access != .rd && !o.half then some o else none
    | none => none

/-- An entry takes no place of its own: a read that a queued write answers whole, or a write that merges into one (R535). -/
def SubChan.joins (x : SubChan) (e : Entry) : Bool :=
  match x.openWrite e.la with
  | some o => e.access != .rd || o.access == .wr
  | none => false

/-- Entries that would take a place of their own in subchannel `b`. -/
def State.newIn (s : State) (n b : Nat) (l : List Entry) : Nat :=
  (l.filter fun e => (s.linePlace e.la).sub == b && !(s.sub n b).joins e).length

/-- Every entry of a request finds room in its channel's queues. -/
def State.fits (s : State) (n cls : Nat) (l : List Entry) : Bool :=
  [0, 1].all fun b =>
    let q := (s.sub n b).queue
    let k := s.newIn n b l
    decide (q.length + k ≤ (if cls = 1 then 64 else 56))
      && (cls != 3 || decide ((q.filter fun e => e.cls == 3).length + k ≤ s.bgMax n))

/-! ### Acceptance -/

/-- The bytes of a later write over those of an earlier one (R535). -/
def mergeBytes (old new : List (Option Byte)) : List (Option Byte) :=
  (List.range 64).map fun i => match new.getD i none with | some b => some b | none => old.getD i none

/-- A write's bytes decide how it is executed: whole, or as a read-modify-write (R550). -/
def Entry.asWrite (e : Entry) : Entry := { e with access := if e.whole then .wr else .rmw }

/-- A queued write with a later one merged into it: it keeps its age and takes the higher class (R535). -/
def Entry.merge (w e : Entry) : Entry :=
  Entry.asWrite { w with bytes := mergeBytes w.bytes e.bytes, tag := if e.whole then e.tag else w.tag, cls := min w.cls e.cls }

/-- Put one accepted entry in its queue under the ordering rules of R535. -/
def State.acceptEntry (s : State) (n : Nat) (e : Entry) : State :=
  let b := (s.linePlace e.la).sub
  let x := s.sub n b
  let own : State :=
    s.setSub n b { x with queue := x.queue ++ [{ (if e.access = .rd then e else e.asWrite) with arrived := s.now }] }
  match x.openWrite e.la with
  | some o =>
    if e.access = .rd then
      if o.access = .wr then
        let (l, mark) := s.lineNow e.la
        (s.setSub n b { x with ret := x.ret ++ [{ e with fwd := true, bytes := l.map some, mark := mark, arrived := s.now }] }).count64
          (Reg.DRC_CNT n 13) 1
      else own
    else s.setSub n b { x with queue := (updFirst (· == o) (·.merge e) x.queue.reverse).reverse }
  | none => own

/-- Accept a request's lines in a channel: charged when accepted (R673). -/
def State.acceptAll (s : State) (n m : Nat) (l : List Entry) : State :=
  l.foldl (fun t e => t.acceptEntry n e) (s.chargeMem m n l.length)

/-- A channel takes requests: Ready, with its domain and MREG's Up (R569, R718). -/
def State.chanOpen (s : State) (n : Nat) : Bool := (s.chan n).state == .ready && s.up (chanDom n) && s.up 12

/-- An access to a channel whose domain or MREG's is not Up sets their IMPLICIT (R718). -/
def State.stallChan (s : State) (n : Nat) : State := (s.stall 12).stall (chanDom n)

/-- Answer reads of a Failed channel LOST (R555). -/
def State.loseReads (s : State) (n : Nat) (l : List Entry) : State :=
  l.foldl (fun t e =>
    let b := (t.linePlace e.la).sub
    let x := t.sub n b
    t.setSub n b { x with ret := x.ret ++ [{ e with bytes := [] }] }) s

/-- The first request of each master that waits at a channel's port, is not `blocked` (R672), and is of a class higher than every
request that found no room (R532, R534). -/
def State.portHeads (s : State) (n : Nat) (blocked : List Nat) (lim : Nat) : List PortReq :=
  ((s.chan n).port.foldl (fun l r =>
    if blocked.contains r.master || l.any (·.master == r.master) then l else l ++ [r]) []).filter fun r => decide (r.cls < lim)

/-- The request that a crossbar cycle passes next (R669): by rank, masters 2 and 3 in arrival order, the others in round robin
after the master of their rank that was passed last. -/
def State.nextReq (s : State) (n : Nat) (blocked : List Nat) (lim : Nat) : Option PortReq :=
  let after (r : PortReq) : Nat :=
    let k := s.precedence r.master
    if k = 0 then 0
    else 12 * k + (r.master + 23 - (if k = 1 then (s.chan n).turnMid else (s.chan n).turnLow)) % 12
  match s.portHeads n blocked lim with
  | [] => none
  | r :: l => some (l.foldl (fun a b => if after b < after a then b else a) r)

/-- The state with a request's record at a channel's port replaced, or removed. -/
def State.setPortReq (s : State) (n : Nat) (r : PortReq) (new : Option PortReq) : State :=
  let c := s.chan n
  s.setChan n { c with port := match new with | some x => updFirst (· == r) (fun _ => x) c.port | none => c.port.erase r }

/-- The round robin of a master's rank goes on from it (R669). -/
def State.turned (s : State) (n m : Nat) : State :=
  let c := s.chan n
  match s.precedence m with
  | 0 => s
  | 1 => s.setChan n { c with turnMid := m }
  | _ => s.setChan n { c with turnLow := m }

/-- The longest hold of a master's requests at the ports (R683). -/
def State.holdMax (s : State) (m since : Nat) : State :=
  let us := (s.now - since) / 1000
  if (s.reg (Reg.MREG_HOLD_MAX m)).toNat < us then s.setReg (Reg.MREG_HOLD_MAX m) (BitVec.ofNat 32 us) else s

/-- Pass requests from a channel's port to its queues as R669 orders them; a master whose first request is held for its budget
(R672) does not hold back the others, and one that finds no room holds back those of its class and the lower ones (R532, R534).
DEDUCED: a request is charged at the crossbar and in the channel in one step, when the channel accepts it (log 204). -/
def State.pumpGo (n : Nat) : Nat → List Nat → Nat → State → State
  | 0, _, _, s => s
  | k + 1, blocked, lim, s =>
    match s.nextReq n blocked lim with
    | none => s
    | some r =>
      if !s.withinBudget n r.master then
        let s1 := if r.held then s
          else (s.count64 (Reg.MREG_HELD_LO r.master) 1).setPortReq n r (some { r with held := true, heldAt := s.now })
        s1.pumpGo n k (r.master :: blocked) lim
      else if !s.fits n r.cls r.entries then s.pumpGo n k blocked r.cls
      else
        let s1 := ((s.setPortReq n r none).turned n r.master).acceptAll n r.master r.entries
        (if r.held then s1.holdMax r.master r.heldAt else s1).pumpGo n k blocked lim

/-- Try what waits at a channel's input port: a Failed channel answers it LOST (R555). -/
def State.pump (s : State) (n : Nat) : State :=
  let l := (s.chan n).port
  if (s.chan n).state = .failed then
    (s.setChan n { s.chan n with port := [] }).loseReads n (l.flatMap (·.entries))
  else if s.chanOpen n then s.pumpGo n (l.length + 16) [] 4
  else s

/-- Try every channel's input port. -/
def State.pumpAll (s : State) : State := s.chanList.foldl (fun t n => t.pump n) s

/-- Send a request's reads to their channels (R405, R532). -/
def State.sendReads (s : State) (m cls : Nat) (src : Option Nat) (lines : List Nat) : State :=
  let chans := (lines.map fun la => s.slotChan (la / 4)).dedup
  chans.foldl (fun t n =>
    let es : List Entry := (lines.filter fun la => s.slotChan (la / 4) == n).map fun la =>
      { la := la, access := .rd, cls := cls, master := m, src := src }
    let r : PortReq := { master := m, cls := cls, src := src, entries := es }
    ((t.setChan n { t.chan n with port := (t.chan n).port ++ [r] }).stallChan n).pump n) s

/-- Writes of a background master (class 3) that take their places at once where every channel has room and budget; none
otherwise. -/
def State.postWrites (s : State) (m : Nat) (ws : List LineWr) : Option State :=
  let chans := (ws.map fun w => s.slotChan (w.la / 4)).dedup
  chans.foldl (fun (acc : Option State) n =>
    acc.bind fun t =>
      let es : List Entry := (ws.filter fun w => s.slotChan (w.la / 4) == n).map fun w =>
        { la := w.la, access := .wr, cls := 3, master := m, bytes := w.bytes, tag := w.tag }
      if t.chanOpen n && t.withinBudget n m && !t.yields n m 3 && t.fits n 3 es then some (t.acceptAll n m es) else none) (some s)

end Sys2Proof.Machine
end

