-- ==== Sys2Proof/Machine/Flight.lean ====
section
/-! DEFINITION. Requests in the pipeline and what their trackers do with a page's data (01_architecture.md; R334, R344,
R396, R407 to R411, R419, R422, R423, R446, R481, R482, R505, R508, R519, R779): answering, and carrying out the
operations of a tracker in order until one has to wait. -/

namespace Sys2Proof.Machine

open Sys2Proof

/-! ### Flights -/

/-- A request in the pipeline. -/
def State.flight? (s : State) (id : Nat) : Option Flight := s.coh.flights.find? (·.id == id)

/-- The state with a request's record replaced. -/
def State.putFlight (s : State) (f : Flight) : State :=
  { s with coh := { s.coh with flights := updFirst (·.id == f.id) (fun _ => f) s.coh.flights } }

/-- The state without a request's record. -/
def State.dropFlight (s : State) (id : Nat) : State :=
  { s with coh := { s.coh with flights := s.coh.flights.filter (·.id != id) } }

/-- A new request at the end of the list. -/
def State.addFlight (s : State) (f : Flight) : State :=
  { s with coh := { s.coh with flights := s.coh.flights ++ [f], nextId := max s.coh.nextId (f.id + 1) } }

/-- The master of a request's accesses (R665). -/
def Flight.master (f : Flight) : Nat := pipeOf f.region f.page

/-- WriteBackDirty and EvictClean. -/
def isEviction (t : Nat) : Bool := t == tWriteBackDirty || t == tEvictClean

/-- Requests that change a page's data (R335). -/
def changesData (t : Nat) : Bool := [tWriteThrough, tWriteBackDirty, tWriteBulk, tAtomic].contains t

/-- Requests that read a page's data (R338). -/
def readsData (t : Nat) : Bool := [tReadShared, tReadOwn, tReadCurrent, tReadBulk].contains t

/-- The bytes a write request carries, `none` where its mask disables one (R237). -/
def Flight.writeBytes (f : Flight) : List (Option Byte) :=
  let data := (f.body.drop 12).take f.len
  if bit (beAt f.body 10 1) 0 then
    let mask := f.body.drop (12 + f.len)
    (List.range f.len).map fun i =>
      if (mask.getD (i / 8) 0).getLsbD (i % 8) then some (data.getD i 0) else none
  else data.map some

/-- A whole-page write (R334). -/
def Flight.whole (f : Flight) : Bool :=
  f.len == 4096 &&
    (f.type == tWriteBulk || ((f.type == tWriteThrough || f.type == tWriteBackDirty) && !bit (beAt f.body 10 1) 0)
      || (f.type == tWriteBackDirty && f.writeBytes.all Option.isSome))

/-- The release of a lock that a flight keeps (R326). -/
def State.unlock (s : State) (f : Flight) : State :=
  match s.dcEntry f.region f.page with
  | some e => if e.lock = some f.id then s.setDc f.region f.page (some { e with lock := none }) else s
  | none => s

/-! ### Answering (R240 to R242, R262, R345, R346, R363) -/

/-- The counters of PIPE_CNT for a response's status (R355). -/
def State.countStatus (s : State) (f : Flight) (status : Nat) : State :=
  match ([(stOK, 2), (stPartial, 3), (stUnmapped, 4), (stOutOfRange, 5), (stAccessDenied, 6), (stUncorrectable, 8),
      (stPoisoned, 9), (stNoSpace, 10)] : List (Nat × Nat)).find? (fun e => e.1 == status) with
  | some e => s.pipeCount f.region f.page e.2
  | none => s

/-- Record the outcome of a page of a bulk request (R346). -/
def State.bulkResult (s : State) (b i status : Nat) (data : List Byte) : State :=
  { s with coh := { s.coh with
    bulks := updFirst (·.id == b) (fun x => { x with results := x.results.set i (some (status, data)) }) s.coh.bulks } }

/-- Answer a request: its DataGrant or Completion is sent, or its page of a bulk request is recorded. A tracker stays
open until the response is acknowledged (R363). -/
def State.respond (s : State) (f : Flight) (status info : Nat) (data : List Byte) : State :=
  let s0 := (s.unlock f).passed f.id
  if f.type = tPurge then s0.dropFlight f.id else
  match f.bulk with
  | some (b, i) =>
    let s1 := s0.bulkResult b i status data
    if f.trk = .none then s1.dropFlight f.id else s1.putFlight { f with stage := .bulkWait, todo := [] }
  | none =>
    let s1 := if f.mute then s0 else s0.countStatus f status
    let s2 :=
      if f.mute then s1
      else if f.grant ≠ 0 ∧ (status = stOK ∨ status = stOwnerLost) then
        s1.reply f.client f.epoch tDataGrant f.msgId status ([BitVec.ofNat 8 f.grant, 0, 0, 0] ++ data)
      else s1.reply f.client f.epoch tCompletion f.msgId status (beBytes 4 info ++ data)
    if f.trk = .none then s2.dropFlight f.id
    else s2.putFlight { f with stage := .ackWait, todo := [], ackAt := (s2.sess f.client).txNext }

/-- Answer the evictions that joined a tracker and have not been answered (R386). -/
def State.tellAll (s : State) (status : Nat) (l : List PageOp) : State :=
  l.foldl (fun t op => match op with
    | .tell g => (match t.flight? g with | some x => t.respond x status 0 [] | none => t)
    | _ => t) s

/-- Fail a request with a status: what it has allocated goes back to the clearing (R419). -/
def State.abort (s : State) (f : Flight) (status : Nat) : State :=
  ((s.freeSlots f.slots).respond { f with slots := [], grant := 0 } status 0 []).tellAll status f.todo

/-! ### Integrity (R15, R16, R630) -/

/-- A CRC-32C check has failed at a stage boundary (R15, R630). -/
def State.crcFail (s : State) (boundary : Nat) : State := (s.count Reg.RAS_CRC_FAIL).raise 0x0304 boundary

/-- A descriptor with the directory and warmth of another. -/
def Desc.withDirectory (d b : Desc) : Desc :=
  { d with
    dir := b.dir, fValid := b.fValid, fIndex := b.fIndex, overflow := b.overflow, ptrCount := b.ptrCount
    ptr0 := b.ptr0, ptr1 := b.ptr1, ptr2 := b.ptr2, ptr3 := b.ptr3, warmth := b.warmth, epoch := b.epoch }

/-- The descriptor is left as it was before a request that has not written memory (R15); of the holders that it then named,
those whose session has ended since take the dead-session handling (R398). -/
def State.restoreBefore (s : State) (f : Flight) : State :=
  match f.before with
  | none => s
  | some b =>
    let s1 := s.putDesc f.region f.page ((s.descNow f.region f.page).withDirectory b)
    (b.named.filter fun c => !(s.sess c).live).foldl (fun t c => (t.deadHolder f.region f.page c).1) s1

/-- A request's CRC-32C check fails at a boundary before it has written memory: it is answered InternalFault, and memory and the
descriptor are left as they were (R15, R16). -/
def State.crcAbort (s : State) (f : Flight) (boundary : Nat) : State :=
  ((s.crcFail boundary).restoreBefore f).abort { f with crcAt := 0 } stInternalFault

/-- The outcome of a request's step whose unit lies in a domain: a Failed one ends the request DomainFailed (R745). -/
def serving (d : Nat) (f : Flight) (ok : Bool) (s t : State) : Host.Outcome State Fault Refusal :=
  if s.live && ok && s.domFailed d then .next (s.abort f stDomainFailed) else needing d ok s t

/-- The end of a request all of whose operations are done: its response is composed, where the CRC-32C of one that has written
no memory is checked once more (R16). A WriteBackDirty's page becomes Uncached with it (R369). -/
def State.finish (s : State) (f : Flight) : State :=
  let s1 :=
    if f.type = tWriteBackDirty ∧ !f.side then
      s.putDesc f.region f.page (s.descNow f.region f.page).uncached
    else s
  let status := if f.lost && (!f.data.isEmpty) && f.type != tAtomic then stOwnerLost else stOK
  if f.crcAt = 10 ∧ f.before.isSome then s.crcAbort f 10 else s1.respond f status 0 f.data

/-- Mark a page POISON (R334, R605, R611, R615). -/
def State.poisonPage (s : State) (region page : Nat) : State :=
  let d := s.descNow region page
  if d.stored then s.putDesc region page { d with poison := true } else s

/-- Mark POISON the page that a request has read, where it still lies there (R611). -/
def State.poisonRead (s : State) (f : Flight) : State :=
  if (s.descNow f.region f.page).sameLoc f.loc then s.poisonPage f.region f.page else s

/-! ### Transit (R335, R435) -/

/-- The mover's record of a page's move (R433). -/
def State.moveOf (s : State) (region page : Nat) : Option Move :=
  s.tier.moves.find? fun m => m.region == region && m.page == page

/-- The tier that a Transit page without a record comes from (R435). -/
def State.inferTier (s : State) (d : Desc) : Nat :=
  if s.role (slotStand d.priSlot) = 2 then 5
  else if !d.raw ∧ d.format = 0 ∧ d.priCount = 16 then 3
  else 4

/-- A Transit page that no record names is restored by inference (R435). -/
def State.inferTransit (s : State) (region page : Nat) : State :=
  let d := s.descNow region page
  if d.tier = 6 ∧ (s.moveOf region page).isNone then
    ((s.putDesc region page { d with tier := s.inferTier d }).tierCount 10 1).raise 0x6009
  else s

/-- A Transit page is restored to its source tier for a change of its data (R335). -/
def State.restoreTransit (s : State) (region page : Nat) : State :=
  let d := s.descNow region page
  if d.tier = 6 then
    match s.moveOf region page with
    | some m => (s.putDesc region page { d with tier := m.src.tier }).pipeCount region page 13
    | none => s.inferTransit region page
  else s

/-! ### Stands (R446 to R448) -/

/-- A stand serves accesses: Awake or Drowsy and not leaving that state. -/
def State.standServes (s : State) (k : Nat) : Bool :=
  let x := s.stand k
  x.present && decide (x.power ≤ 1)

/-- A use of a stand: TIER's vote is held for FLOOR_LINGER after it (R448). -/
def State.useStand (s : State) (k : Nat) : State := s.setStand k { s.stand k with tierVote := true, lastUse := s.now }

/-- Raise a stand's implicit vote (R446). -/
def State.wakeStand (s : State) (k : Nat) : State :=
  let x := s.stand k
  if x.implicit then s
  else
    let s1 := (s.setStand k { x with implicit := true }).count (Reg.TIER_STAND_WAKES k)
    if s.role k = 2 then s1.tierCount 13 1 else s1

/-- A domain that a stand needs to wake is Failed (R447). -/
def State.standStuck (s : State) (k : Nat) : Bool :=
  !s.standServes k && (s.domFailed 12 || s.chanList.any fun n => s.domFailed (chanDom n) && (s.chan n).state != .failed)

/-! ### Engines and lanes (R479, R482, R485, R514, R516, R779) -/

/-- Device is Drowsy. -/
def State.drowsy (s : State) : Bool := s.pwr.current == 2

/-- XTS engines that can take a unit (R514, R516). -/
def State.xtsEngines (s : State) : List Nat :=
  (List.range 12).filter fun k => !s.flag Reg.CRY_XTS_OOS k && (!s.drowsy || s.flag Reg.CRY_DROWSY_KEEP k)

/-- Units of requests that wait for an XTS engine to encrypt them, without Atomics or with them. -/
def State.encrypting (s : State) (atomics : Bool) : Nat :=
  ((s.coh.flights.filter fun f => f.stage == .check && (atomics || f.type != tAtomic)).map fun f => f.units.length).sum

/-- The mover, rekey and evacuation take an engine that requests leave free (R511). -/
def State.engineFree (s : State) (engine : Nat) : Bool :=
  s.xtsEngines.contains engine && decide (s.encrypting true < s.xtsEngines.length)

/-- The power domain of a lane (R713). -/
def laneDom (k : Nat) : Nat := if k < 8 then 9 else 10

/-- Compression lanes in service, and demand lanes in service. -/
def State.cLanes (s : State) : List Nat :=
  (List.range 16).filter fun k => !s.flag Reg.CMP_CLANE_OOS k && !s.domFailed (laneDom k)
def State.dLanes (s : State) : List Nat :=
  (List.range 16).filter fun k => !s.flag Reg.CMP_DLANE_OOS k && !s.domFailed (laneDom k)

/-- The compression lanes in service that hold no page, those in powered domains if there are any (R471). -/
def State.idleLanes (s : State) : List Nat :=
  let l := s.cLanes.filter fun k => !s.coh.flights.any fun f => f.stage == .compress && f.lane == some k
  let on := l.filter fun k => s.up (laneDom k)
  if on.isEmpty then l else on

/-- The lane that the next page goes to: the lowest-numbered one (R471). -/
def State.nextLane (s : State) : Option Nat := s.idleLanes.head?

/-- The lane that holds a request's page, where it is still in service. -/
def Flight.laneHeld (f : Flight) (s : State) : Option Nat := f.lane.filter s.cLanes.contains

/-- A page of the write path waits for a lane: it goes before the mover's and an evacuation's (R471). -/
def State.pageWaits (s : State) : Bool := s.coh.flights.any fun f => f.stage == .compress && (f.laneHeld s).isNone

/-- The wake of the lanes' domains: a request waits at stage 6 or 9 while no lane can take it (R471). -/
def State.stallLanes (s : State) (lanes : List Nat) : State :=
  if lanes.any fun k => s.up (laneDom k) then s
  else match lanes with
    | k :: _ => s.stall (laneDom k)
    | [] => s

/-! ### Lines and units of a page (R407 to R410, R508) -/

/-- Line addresses of a group, line `l` of the page (R407). -/
def groupLine (slot l : Nat) : Nat := (slot + l / 4) * 4 + l % 4

/-- The four lines of a slot. -/
def slotLines (x : Nat) : List Nat := (List.range 4).map (4 * x + ·)

/-- The page lies in a group of 16 slots: Canopy, raw, or Transit of either. -/
def Desc.isGroup (d : Desc) : Bool := d.tier == 3 || (d.stored && (d.raw || (d.format == 0 && d.priCount == 16 && d.compLen == 0)))

/-- The lines of a page that a byte range touches. -/
def linesOf (off len : Nat) : List Nat := (List.range 64).filter fun l => off < 64 * l + 64 ∧ 64 * l < off + len

/-- A page without slots: its 4,096 bytes (R334, R343, R344). -/
def Desc.blankPage (d : Desc) : Option (List Byte) :=
  if d.tier ≤ 1 then some (List.replicate 4096 0)
  else if d.tier = 2 then some ((List.replicate 512 (leBytes 8 d.patternOf)).flatten)
  else none

/-- Merge a write into a page. -/
def mergePage (page : List Byte) (off : Nat) (bytes : List (Option Byte)) : List Byte :=
  (List.range page.length).map fun i =>
    if off ≤ i then (match bytes.getD (i - off) none with | some b => b | none => page.getD i 0) else page.getD i 0

/-- The 64 line units of a page (R508). -/
def lineUnits (page : List Byte) : List XUnit :=
  (List.range 64).map fun l => { plain := (page.drop (64 * l)).take 64, slotForm := false, ordinal := l }

/-- The units of a stream: `p` of 256 bytes, then `o` of 248, the last filled with zeros (R474). -/
def streamUnits (st : List Byte) (p o : Nat) : List XUnit :=
  let pad (n : Nat) (l : List Byte) : List Byte := l ++ List.replicate (n - l.length) 0
  ((List.range p).map fun i => ({ plain := pad 256 ((st.drop (256 * i)).take 256), slotForm := true, ordinal := i } : XUnit))
    ++ (List.range o).map fun i =>
      { plain := pad 248 ((st.drop (256 * p + 248 * i)).take 248), slotForm := true, ordinal := p + i }

/-- The link word of an offshoot (R408). -/
def linkWord (next : Option Nat) : List Byte :=
  leBytes 8 (match next with | some x => 2 ^ 36 + x | none => 0)

/-- Link words of an extent's offshoots rewritten for its slots: the bytes of slot `i` of `p` primary slots. -/
def slotBytes (p : Nat) (slots : List Nat) (i : Nat) (body : List Byte) : List Byte :=
  if i < p then body.take 256 else body.take 248 ++ linkWord slots[i + 1]?

/-- The line writes of slots with their bytes, under location tags (R604). -/
def slotWrites (slots : List Nat) (bytes : List (List Byte)) : List LineWr :=
  (List.range slots.length).flatMap fun i =>
    (List.range 4).map fun l =>
      { la := 4 * slots.getD i 0 + l, bytes := (((bytes.getD i []).drop (64 * l)).take 64).map some, tag := none }

/-! ### Reading a page -/

/-- A request starts reading lines (stage 7). -/
def State.startRead (s : State) (f : Flight) (d : Desc) (chain lines : List Nat) : State :=
  let k := slotStand d.priSlot
  let g := { f with stage := .read, loc := d, want := lines, got := [], chain := chain, failed := none }
  ((s.useStand k).putFlight g).sendReads f.master 1 (some f.id) lines

/-- Begin to read what an operation needs of a stored page, or say why it cannot be read: `lines` of a group, or the
extent's primary slots. -/
def State.beginRead (s : State) (f : Flight) (d : Desc) (lines : List Nat) : State :=
  let k := slotStand d.priSlot
  if (s.stand k).power = 3 ∨ !(s.stand k).present then s.abort f stInternalFault
  else if (s.pageKeys f.region f.page).isNone then (s.emptySlot f.region).abort f stAccessDenied
  else if s.xtsEngines.isEmpty then s.abort f stInternalFault
  else if !d.isGroup && s.domFailed 9 && s.domFailed 10 then s.abort f stDomainFailed
  else if !d.isGroup && s.dLanes.isEmpty then (s.raise 0x7009).abort f stInternalFault
  else if !s.standServes k then
    (if s.standStuck k then s.abort f stDomainFailed else (s.putFlight { f with stage := .stand, since := s.now }).wakeStand k)
  else if d.isGroup then s.startRead f d [] (lines.map (groupLine d.priSlot))
  else
    let pri := (List.range d.priCount).map (d.priSlot + ·)
    s.startRead f d pri (pri.flatMap slotLines)

/-! ### Writing a page -/

/-- Send units to encryption (stage 7), which needs the page's key and an engine (R505, R514). -/
def State.beginCheck (s : State) (f : Flight) (units : List XUnit) (t : Target) (d : Option Desc) : State :=
  if (s.pageKeys f.region f.page).isNone then (s.emptySlot f.region).abort f stAccessDenied
  else if s.xtsEngines.isEmpty then s.abort f stInternalFault
  else (s.putFlight { f with stage := .check, units := units, cipher := [], target := t, newDesc := d, want := [], got := [] }).stall 11

/-- The descriptor update of a page that takes no slots: it waits only for its commit. -/
def State.toCommit (s : State) (f : Flight) (d : Desc) : State :=
  s.putFlight { f with stage := .commit, newDesc := some d, target := .group false, units := [], cipher := [], writes := [] }

/-- Store a whole page: Zero, Pattern, in its own Canopy slots, in a new Canopy group, or raw (R339 to R342, R422, R481). -/
def State.storePlain (s : State) (f : Flight) (page : List Byte) (raw : Bool) : State :=
  let d := s.descNow f.region f.page
  let r := s.region f.region
  if isZeroPage page then ((s.cmpCount 5 1).pipeCount f.region f.page 11).toCommit f (d.leaving r).zero
  else if r.patternOk && isPatternPage page then
    ((s.cmpCount 6 1).pipeCount f.region f.page 12).toCommit f ((d.leaving r).pattern (leNat (page.take 8)))
  else if d.tier = 3 then s.beginCheck f (lineUnits page) .inPlace none
  else s.beginCheck f (lineUnits page) (.group raw) none

/-- A page that is not to be compressed: in Canopy already, pinned, or CANOPY_ON_WRITE (R337, R422). -/
def State.staysCanopy (s : State) (f : Flight) : Bool :=
  let d := s.descNow f.region f.page
  let r := s.region f.region
  d.tier == 3 || (d.leaving r).pinned || r.pinned || bit (s.policyWord r.policy 3).toNat 1

/-- Begin a whole-page write (stage 6): it waits for a compression lane's tests and stream (R471), or is stored raw
where no lane is in service (R482). -/
def State.beginWhole (s : State) (f : Flight) (page : List Byte) : State :=
  if s.cLanes.isEmpty then
    let s1 := if s.staysCanopy f then s else s.raise 0x7008
    s1.storePlain f page (!s.staysCanopy f)
  else
    let lane := s.nextLane.filter fun k => s.up (laneDom k)
    ((s.cmpCount 0 1).putFlight { f with stage := .compress, plain := page, lane := lane }).stallLanes s.cLanes

/-- What one operand of an Atomic does to the value in memory (R238). -/
def atomValue (op size : Nat) (args : List Byte) (old : Nat) : Nat :=
  let a := beNat (args.take size)
  if op = 0 then (old + a) % 2 ^ (8 * size)
  else if op = 1 then a
  else if old = a then beNat ((args.drop size).take size) else old

/-- Apply an Atomic to a page: the old value as the response carries it, and the page after it (R231, R238). -/
def applyAtom (page : List Byte) (off op size : Nat) (args : List Byte) : List Byte × List Byte :=
  let old := leNat ((page.drop off).take size)
  (beBytes size old, mergePage page off ((leBytes size (atomValue op size args old)).map some))

/-- The page's whole content is at hand and its operation is a line write or Atomic that moves it to Canopy (R334, R423):
16 slots filled with the content, the write merged. -/
def State.intoCanopy (s : State) (f : Flight) (page : List Byte) : State :=
  match f.todo with
  | .put off bytes :: _ => s.beginCheck f (lineUnits (mergePage page off bytes)) (.group false) none
  | .atom off op size args :: _ =>
    let (old, p) := applyAtom page off op size args
    s.beginCheck { f with data := old } (lineUnits p) (.group false) none
  | _ => s

/-- Lines of a page that a write enables only in part, which it must read first (R615). -/
def partialLines (off : Nat) (bytes : List (Option Byte)) : List Nat :=
  (linesOf off bytes.length).filter fun l =>
    let en := (List.range 64).filter fun i =>
      off ≤ 64 * l + i && (bytes.getD (64 * l + i - off) none).isSome
    decide (0 < en.length ∧ en.length < 64)

/-- Lines of a page of which a write enables any byte. -/
def writtenLines (off : Nat) (bytes : List (Option Byte)) : List Nat :=
  (linesOf off bytes.length).filter fun l =>
    (List.range 64).any fun i => off ≤ 64 * l + i && (bytes.getD (64 * l + i - off) none).isSome

/-- The units of the lines that a write to a Canopy page changes, over the lines it has read. -/
def canopyUnits (off : Nat) (bytes : List (Option Byte)) (slot : Nat) (got : List (Nat × List Byte)) : List XUnit :=
  (writtenLines off bytes).map fun l =>
    let old : List Byte := match got.find? (fun g => g.1 == groupLine slot l) with
      | some g => g.2
      | none => List.replicate 64 0
    let new := (List.range 64).map fun i =>
      if off ≤ 64 * l + i then (match bytes.getD (64 * l + i - off) none with | some b => b | none => old.getD i 0)
      else old.getD i 0
    { plain := new, slotForm := false, ordinal := l }

/-! ### Running a tracker's operations -/

/-- A put covers every byte of the page. -/
def wholePut (off : Nat) (bytes : List (Option Byte)) : Bool :=
  off == 0 && bytes.length == 4096 && bytes.all Option.isSome

/-- Run a request's operations in order until one has to wait; the second argument bounds them. -/
def State.runOps (s : State) (id : Nat) : Nat → State
  | 0 => s
  | n + 1 =>
    match s.flight? id with
    | none => s
    | some f =>
      match f.todo with
      | [] => s.finish f
      | .tell g :: r =>
        let s1 := s.putFlight { f with todo := r }
        (match s1.flight? g with | some x => s1.respond x stOK 0 [] | none => s1).runOps id n
      | op :: r =>
        if s.domFailed 8 then s.abort f stDomainFailed
        else if !s.up 8 then (s.putFlight { f with stage := .tier }).stall 8
        else
          let s := if op matches .get .. then s else s.restoreTransit f.region f.page
          let d := s.descNow f.region f.page
          match op with
          | .get off len =>
            (match d.blankPage with
             | some page => (s.putFlight { f with todo := r, data := (page.drop off).take len, lost := d.stale }).runOps id n
             | none => s.beginRead { f with lost := d.stale } d (linesOf off len))
          | .put off bytes =>
            if wholePut off bytes then s.beginWhole f (bytes.map fun b => b.getD 0)
            else if d.poison then s.abort f stPoisoned
            else if (writtenLines off bytes).isEmpty then (s.putFlight { f with todo := r }).runOps id n
            else match d.blankPage with
              | some page => s.intoCanopy f page
              | none =>
                if d.tier = 3 then
                  let part := partialLines off bytes
                  (if part.isEmpty then s.beginCheck f (canopyUnits off bytes d.priSlot []) .inPlace none
                   else s.beginRead f d part)
                else s.beginRead f d (List.range 64)
          | .atom off _ size _ =>
            if d.poison then s.abort f stPoisoned
            else match d.blankPage with
              | some page => s.intoCanopy f page
              | none => s.beginRead f d (if d.tier = 3 then linesOf off size else List.range 64)
          | .tell _ => s

/-- Run a request's operations. -/
def State.go (s : State) (f : Flight) : State := (s.putFlight f).runOps f.id (f.todo.length + 1)

/-- The operation at the front is done: go on with the next. -/
def State.opDone (s : State) (f : Flight) : State := s.go { f with todo := f.todo.tail }

/-! ### Allocation and the memory write (stages 8 and 9) -/

/-- The line writes of encrypted line units, with their plaintext tags (R603). -/
def lineWrites (slot : Nat) (l : List (XUnit × List Byte)) : List LineWr :=
  l.map fun u => { la := groupLine slot u.1.ordinal, bytes := u.2.map some, tag := some (crc8Bytes u.1.plain) }

/-- Take the slots a write needs and hand its lines to the channels (R416, R419, R475, R743). -/
def State.allocate (s : State) (f : Flight) : State :=
  let d := s.descNow f.region f.page
  let r := s.region f.region
  match f.target with
  | .inPlace => s.putFlight { f with stage := .write, writes := lineWrites d.priSlot f.cipher, newDesc := none }
  | .group raw =>
    if s.tier.reloading then s
    else match s.takeGroup 0 (openWrite 0) with
      | (t, some x) =>
        t.putFlight { f with
          stage := .write, slots := groupSlots x, writes := lineWrites x f.cipher
          newDesc := some ((d.leaving r).inGroup (if raw then 4 else 3) raw x) }
      | (t, none) => t.noSpace.abort f stNoSpace
  | .extent p0 p o len format dict lane =>
    if s.tier.reloading then s
    else match s.takeExtent (1 + lane) p0 p o (openWrite (1 + lane)) with
      | (t, some sl) =>
        let bodies := (List.range sl.length).map fun i => slotBytes p sl i ((f.cipher.map (·.2)).getD i [])
        t.putFlight { f with
          stage := .write, slots := sl, writes := slotWrites sl bodies
          newDesc := some ((d.leaving r).inExtent 4 sl p len format dict) }
      | (t, none) => t.noSpace.abort f stNoSpace

/-- The location fields of one descriptor with everything else of another. -/
def Desc.relocate (cur new : Desc) : Desc :=
  { cur with
    format := new.format, dict := new.dict, raw := new.raw, offCount := new.offCount, priCount := new.priCount
    tier := new.tier, priSlot := new.priSlot, compLen := new.compLen, offHead := new.offHead
    pinned := new.pinned, group := new.group }

/-- The slots of a page that lies in a group, or of an extent whose chain has been read. -/
def Desc.knownSlots (d : Desc) (chain : List Nat) : List Nat :=
  if !d.stored then []
  else if d.isGroup then groupSlots d.priSlot
  else chain

/-! ### Chains (R408, R411) -/

/-- The link word of an offshoot as DRAM now holds it. -/
def State.linkOf (s : State) (x : Nat) : Nat := leNat ((s.lineNow (4 * x + 3)).1.drop 56)

/-- Follow `n` offshoots from `x` in stand `k`: their slots, as far as the chain is whole (R411). -/
def State.followChain (s : State) (k : Nat) : Nat → Nat → List Nat
  | 0, _ => []
  | n + 1, x =>
    if !s.slotExists x || slotStand x != k then []
    else
      let w := s.linkOf x
      if n = 0 then [x]
      else if bit w 36 then x :: s.followChain k n (bits w 35 0) else [x]

/-- Every slot that a descriptor's page occupies. -/
def State.slotsOf (s : State) (d : Desc) : List Nat :=
  if !d.stored then []
  else if d.isGroup then groupSlots d.priSlot
  else (List.range d.priCount).map (d.priSlot + ·) ++ s.followChain (slotStand d.priSlot) d.offCount d.offHead

end Sys2Proof.Machine
end

