-- ==== Sys2Proof/Machine/Data.lean ====
section
/-! DEFINITION. The data path of a request (01_architecture.md, 11 to 13, 16): reads that return, tags, chains,
decompression, compression with inline verify, encryption with its check, the channel's acceptance and the commit. -/

namespace Sys2Proof.Machine

open Sys2Proof

/-! ### Failures of lanes and engines (R479, R485, R514) -/

/-- The failure times of the last second with now added. -/
def State.failTimes (s : State) (x : EngineFails) : List Nat :=
  (x.times.filter fun t => decide (s.now < t + 1000000000)) ++ [s.now]

/-- Count a failure of a compression lane (`k`) or demand lane (`16 + k`) (R479, R485). -/
def State.laneFail (s : State) (i : Nat) : State :=
  let l := s.failTimes (tabGet (fun _ => {}) s.cmp.fails i)
  let s1 := { s with cmp := { s.cmp with fails := tabSet (fun _ => {}) s.cmp.fails i { times := l } } }
  let reg := if i < 16 then Reg.CMP_CLANE_OOS else Reg.CMP_DLANE_OOS
  if s1.flag Reg.CMP_CTRL 0 ∧ s1.fld Reg.CMP_VERIFY_LIMIT 7 0 < l.length ∧ !s1.flag reg (i % 16) then
    (s1.setReg reg (s1.reg reg ||| BitVec.ofNat 32 (2 ^ (i % 16)))).raise 0x7002 i
  else s1

/-- Count a failure of an XTS engine (`k`) or GCM engine (`12 + k`) (R514). -/
def State.engineFail (s : State) (i : Nat) : State :=
  let l := s.failTimes (tabGet (fun _ => {}) s.cry.fails i)
  let s1 := { s with cry := { s.cry with fails := tabSet (fun _ => {}) s.cry.fails i { times := l } } }
  let reg := if i < 12 then Reg.CRY_XTS_OOS else Reg.CRY_GCM_OOS
  if s1.flag Reg.CRY_CTRL 0 ∧ s1.fld Reg.CRY_CHECK_LIMIT 7 0 < l.length ∧ !s1.flag reg (i % 12) then
    (s1.setReg reg (s1.reg reg ||| BitVec.ofNat 32 (2 ^ (i % 12)))).raise 0x8003 i
  else s1

/-! ### Decompression (R468, R484, R485) -/

/-- The classes as the decoder reads them. -/
def State.classOf? (s : State) (c : Nat) : CmpClass := tabGet (fun _ => {}) s.cmp.classes c

/-- Decode a stream by the version and class of a descriptor (R468). -/
def State.decode (s : State) (format dict : Nat) (l : List Byte) : Option (List Byte) :=
  daltikDecode s.classOf? format dict l

/-- A stream of a page decoded for a request: a range of it is the answer, or the page goes to Canopy with its write. -/
def State.decoded (s : State) (f : Flight) (page : List Byte) : State :=
  match f.todo with
  | .get off len :: _ => s.opDone { f with data := (page.drop off).take len, plain := [] }
  | _ => s.intoCanopy { f with plain := [] } page

/-- A read of the requester's page: it goes before promotions in the demand lanes (R484). -/
def Flight.reads (f : Flight) : Bool := match f.todo with | .get .. :: _ => true | _ => false

/-- A yellow request lets the green ones that wait at its stage's input go first (R706), where they are not themselves of the kind
that waits for its own (R471, R511). -/
def State.letsGreen (s : State) (f : Flight) : Bool :=
  f.yellow && s.coh.flights.any fun g => !g.yellow && g.stage == f.stage
    && (match f.stage with
        | .compress => (g.laneHeld s).isNone
        | .decode => g.reads || !f.reads
        | .check => g.type != tAtomic || f.type == tAtomic
        | _ => true)

/-- Pages of requests that the demand lanes hold or that wait for them, the reads alone or all. -/
def State.decoding (s : State) (reads : Bool) : Nat :=
  (s.coh.flights.filter fun f => f.stage == .decode && (!reads || f.reads)).length

/-- DECOMPRESS_DONE: a demand lane finishes a page and checks its trailer; a stream that fails is read and decoded a second
time (R484, R485). `fault`: the first decode goes wrong in its lane; `again`: the second does too. -/
def execDecompressDone (flight lane : Nat) (fault again crc : Bool) (s : State) : Host.Outcome State Fault Refusal :=
  match s.flight? flight with
  | none => .next s
  | some f =>
    let page := s.decode f.loc.format f.loc.dict f.plain
    let s1 := s.cmpCount 10 1
    let t :=
      if crc then s1.crcAbort f 9
      else
        match (if fault then none else page) with
        | some p => s1.decoded f p
        | none =>
          match (if again then none else page) with
          | some p => ((((s1.laneFail (16 + lane)).cmpCount 11 1).raise 0x7004 lane)).decoded f p
          | none =>
            (((s1.cmpCount 12 1).poisonRead f).raise 0x7003 (pageDetail f.region f.page)).abort f
              stUncorrectable
    let turn := (f.reads || decide (s.decoding true < s.dLanes.length)) && !s.letsGreen f
    if lane < 16 then needing (laneDom lane) (f.stage == .decode && s.dLanes.contains lane && turn) s t else .next s

/-! ### Reads that return (R411, R443, R552, R605, R607 to R615) -/

/-- How bad the lines of a request read so far are: 1 LOST, 2 poisoned, 3 uncorrectable, 4 a tag that fails twice. -/
def worseRead (a : Option Nat) (b : Nat) : Option Nat :=
  match a with
  | none => some b
  | some x => some (max x b)

/-- Copy a page's slots as they are stored, line by line (R410). -/
def State.copyLines (s : State) (slots : List Nat) : List (List Byte × Byte) :=
  (slots.flatMap slotLines).map fun la =>
    let (l, m) := s.lineNow la
    (l, match m.tag with | some t => t | none => 0)

/-- A read Floor page is captured for promotion where its class or its warmth asks for it and the buffer has room
(R427, R443, R781). -/
def State.floorCapture (s : State) (f : Flight) (d : Desc) : State :=
  let r := s.region f.region
  let wanted := bit (s.policyWord r.policy 3).toNat 2 || decide (bits (s.policyWord r.policy 1).toNat 31 16 ≤ d.warmth)
  let held := (s.tier.captures.map fun m => m.copy.length * 64).sum
  let already := s.tier.captures.any fun m => m.region == f.region && m.page == f.page
  if d.tier != 5 || !(s.descNow f.region f.page).sameLoc d || !wanted || !s.flag Reg.TIER_CTRL 3 || d.poison || already then s
  else
    let copy := s.copyLines (s.slotsOf d)
    if 2 * 1024 * 1024 < held + copy.length * 64 then s.tierCount 8 1
    else
      ({ s with tier := { s.tier with captures := s.tier.captures ++
        ([{ region := f.region, page := f.page, kind := .promoteU, src := d, copy := copy, copied := true }] : List Move) } }).tierCount
        7 1

/-- The bytes of a group's lines that a range covers. -/
def gotRange (slot off len : Nat) (got : List (Nat × List Byte)) : List Byte :=
  let lines := linesOf off len
  let all := lines.flatMap fun l =>
    match got.find? (fun g => g.1 == groupLine slot l) with | some g => g.2 | none => List.replicate 64 0
  (all.drop (off % 64)).take len

/-- The lines of a page have been read and one has failed (R354, R555, R611, R612, R615). -/
def State.readFailed (s : State) (f : Flight) (d : Desc) (why : Nat) : State :=
  let write : Bool := match f.todo with | .get .. :: _ => false | _ => true
  if why = 1 then s.abort f (if write then stInternalFault else stUncorrectable)
  else
    let s1 := s.poisonRead f
    if why = 2 then s1.abort f stPoisoned
    else if why = 3 ∧ write ∧ d.tier = 3 then s1.abort f stPoisoned
    else s1.abort f stUncorrectable

/-- A broken offshoot chain (R411). -/
def State.brokenChain (s : State) (f : Flight) : State :=
  (s.raise 0x6006 (pageDetail f.region f.page)).abort f stInternalFault

/-- The bytes of a slot among the lines read. -/
def gotSlot (got : List (Nat × List Byte)) (x : Nat) : List Byte :=
  (slotLines x).flatMap fun la => match got.find? (fun g => g.1 == la) with | some g => g.2 | none => List.replicate 64 0

/-- The stored units of a stream decrypted and cut to its length (R408, R468, R508). -/
def decryptStream (k1 k2 : BitVec 256) (region page p len : Nat) (slots : List (List Byte)) : List Byte :=
  ((List.range slots.length).flatMap fun i =>
    let body := slots.getD i []
    xtsDec k1 k2 (xtsTweak region page true i) (if i < p then body else body.take 248)).take len

/-- Every line that a request asked for has returned. -/
def State.readDone (s : State) (f : Flight) : State :=
  let d := f.loc
  match f.failed with
  | some w => s.readFailed f d w
  | none =>
    if d.isGroup then
      let s1 := s.floorCapture f d
      match f.todo with
      | .get off len :: _ => s1.opDone { f with data := gotRange d.priSlot off len f.got, got := [] }
      | .put off bytes :: _ =>
        if d.tier = 3 then s1.beginCheck f (canopyUnits off bytes d.priSlot f.got) .inPlace none
        else s1.intoCanopy f (gotRange d.priSlot 0 4096 f.got)
      | .atom off op size args :: _ =>
        if d.tier = 3 then
          let line := off / 64
          let (old, new) := applyAtom (gotRange d.priSlot (64 * line) 64 f.got) (off % 64) op size args
          s1.beginCheck { f with data := old } [{ plain := new, slotForm := false, ordinal := line }] .inPlace none
        else s1.intoCanopy f (gotRange d.priSlot 0 4096 f.got)
      | _ => s1
    else
      let n := f.chain.length
      let last := f.chain.getLastD 0
      let link := leNat ((gotSlot f.got last).drop 248)
      if n < d.priCount + d.offCount then
        let x := if n = d.priCount then d.offHead else bits link 35 0
        let ok := (n == d.priCount || bit link 36) && s.slotExists x && slotStand x == slotStand d.priSlot
        if ok then
          (s.putFlight { f with want := slotLines x, chain := f.chain ++ [x] }).sendReads f.master 1 (some f.id) (slotLines x)
        else s.brokenChain f
      else if 0 < d.offCount ∧ bit link 36 then s.brokenChain f
      else
        match s.pageKeys f.region f.page with
        | none => (s.emptySlot f.region).abort f stAccessDenied
        | some (k1, k2) =>
          let st := decryptStream k1 k2 f.region f.page d.priCount d.compLen (f.chain.map (gotSlot f.got))
          let s1 := ((s.floorCapture f d).passed f.id).cryCount 1 n
          (s1.putFlight { f with stage := .decode, plain := st, got := [] }).stallLanes s.dLanes

/-- One line has come back to a request; a line in line format is decrypted and its tag checked, with one more read
where it fails (R603, R605). -/
def State.lineBack (s : State) (f : Flight) (e : Entry) (errs : ReadErrs) : State :=
  let d := f.loc
  let keep (t : State) (line : List Byte) (bad : Option Nat) : State :=
    let g := { f with want := f.want.erase e.la, got := f.got ++ [(e.la, line)], failed := bad }
    if g.want.isEmpty then (t.putFlight g).readDone g else t.putFlight g
  if e.bytes.isEmpty then keep s [] (worseRead f.failed 1)
  else
    let stored := e.bytes.map fun b => b.getD 0
    let (s1, r) :=
      if e.fwd then
        (s, { status := if e.mark.poison = 0 then .clean else .poisoned, bytes := stored
              tag := match e.mark.tag with | some t => t | none => s.placeTag e.la stored : LineRead })
      else s.readStored e.la stored e.mark errs
    match r.status with
    | .lost => keep s1 [] (worseRead f.failed 1)
    | .poisoned => keep s1 [] (worseRead f.failed 2)
    | .uncorrectable => keep s1 [] (worseRead f.failed 3)
    | _ =>
      if !d.isGroup then keep s1 r.bytes f.failed
      else
        match s1.pageKeys f.region f.page with
        | none => (s1.emptySlot f.region).abort f stAccessDenied
        | some (k1, k2) =>
          let plain (l : List Byte) : List Byte :=
            xtsDec k1 k2 (xtsTweak f.region f.page false (e.la - 4 * d.priSlot)) l
          let s2 := s1.cryCount 1 1
          if crc8Bytes (plain r.bytes) = r.tag ∧ !errs.engineFault then keep s2 (plain r.bytes) f.failed
          else
            let (s3, r2) := s2.readStored e.la stored e.mark { errs with first := errs.tagRead, again := errs.tagRead }
            if (r2.status = .clean ∨ r2.status = .corrected) ∧ crc8Bytes (plain r2.bytes) = r2.tag then
              keep ((s3.count Reg.RAS_TAG_RETRY_OK).raise 0x0309) (plain r2.bytes) f.failed
            else
              keep ((s3.count Reg.RAS_TAG_FAIL).raise 0x030A (pageDetail f.region f.page)) [] (worseRead f.failed 4)

/-- The first read of a line has a word that cannot be corrected: the channel reads the line once more (R552). -/
def State.mustRetry (s : State) (e : Entry) (err : BitVec 640) : Bool :=
  let stored := e.bytes.map fun b => b.getD 0
  let (l, m) := if e.access = .rmw then (s.lineBytes e.la, s.lineMark e.la) else (stored, e.mark)
  !e.bytes.isEmpty && !e.fwd && e.err1.isNone && (s.attempt e.la m (s.lineWords e.la l m) err).any (·.2 == .bad)

/-- A line that has come back from a channel is no longer one that a parity alert had sent again (R554). -/
def State.returned (s : State) (n : Nat) (e : Entry) : State :=
  let c := s.chan n
  if c.reissued.isEmpty then s
  else s.setChan n { c with reissued := c.reissued.filter fun o => !(o.la == e.la && o.access == e.access) }

/-- MEMORY_READ_RETURN: a channel returns the oldest line that it has read, with its status; a line that first reads
uncorrectable goes back to the queue for its one retry (R552). `crc` is a CRC-32C failure at the boundary that the data then
passes (R15). The read of a read-modify-write goes back to its queue. -/
def execMemoryReadReturn (chan sub : Nat) (errs : ReadErrs) (crc : Bool) (s : State) :
    Host.Outcome State Fault Refusal :=
  let x := s.sub chan sub
  match x.ret with
  | [] => .next s
  | e :: rest =>
    let s1 := (s.setSub chan sub { x with ret := rest }).returned chan e
    let errs2 : ReadErrs := match e.err1 with | some b => { errs with first := b, again := errs.first } | none => errs
    if s.mustRetry e errs.first then
      let again : Entry := { e with err1 := some errs.first, cls := if e.access = .rd then 1 else e.cls }
      guarded s.live s (s1.setSub chan sub { x with ret := rest, queue := again :: x.queue })
    else if e.access = .rmw then
      let (s2, _) := s1.readStored e.la (s.lineBytes e.la) (s.lineMark e.la) errs2
      let y := s2.sub chan sub
      guarded s.live s (s2.setSub chan sub { y with queue := { e with half := true } :: y.queue })
    else
      match e.src.bind s1.flight? with
      | none => guarded s.live s s1
      | some f =>
        let t :=
          if f.stage ≠ .read ∨ !f.want.contains e.la then s1
          else if crc then s1.crcAbort f 7
          else if s1.domFailed 11 then s1.abort f stDomainFailed
          else s1.lineBack f e errs2
        if s.domFailed 11 then guarded s.live s t else needing 11 true s t

/-! ### Compression (R470 to R483) -/

/-- The version and class that a lane writes for a region (R472). -/
def State.writeClass (s : State) (region : Nat) : State × Nat × Nat :=
  let r := s.region region
  if r.writeFormat = 1 then (s, 1, 0)
  else if r.dictClass = 0 ∨ (s.classOf? r.dictClass).loaded then (s, 2, r.dictClass)
  else ((s.cmpCount 13 1).raise 0x7006 region, 2, 0)

/-- MEAN_c (R476). -/
def State.mean (s : State) (c : Nat) : Nat := tabGet (fun _ => 1024) s.cmp.mean c

/-- The predicted primary count (R473). -/
def State.predict (s : State) (d : Desc) (c : Nat) : Nat :=
  if d.format ≠ 0 then min 16 (d.priCount + d.offCount) else min 16 ((s.mean c + 255) / 256 + 1)

/-- P and O of a stream of `len` bytes under `p0` (R475). -/
def extentShape (p0 len : Nat) : Nat × Nat := (min p0 ((len + 255) / 256), (len - 256 * p0 + 247) / 248)

/-- MEAN_c after a stream of `n` slots (R476). -/
def nextMean (m n : Nat) : Nat := ((m : Int) + Int.tdiv ((256 * n : Nat) - (m : Int)) 64).toNat

/-- The state with MEAN_c moved by a stored stream of `n` slots. -/
def State.learnMean (s : State) (c n : Nat) : State :=
  { s with cmp := { s.cmp with mean := tabSet (fun _ => 1024) s.cmp.mean c (nextMean (s.mean c) n) } }

/-- Inline verify: the stream that a lane has produced decodes to its input (R477). -/
def State.verifyOk (s : State) (version cls : Nat) (stream page : List Byte) : Bool :=
  s.decode version cls stream == some page

/-- A stream has the MODE that a lane writes in it (R472): 2 with the class's code table, 1 without one, 0 in place of 1 where it
contains no match. -/
def State.modeRight (s : State) (v c : Nat) (stream : List Byte) : Bool :=
  let mode := (headerOf stream).2.2
  let literal := (stream.take 2) ++ [(stream.getD 2 0) &&& 0x3F] ++ stream.drop 3
  if v = 2 ∧ (s.classOf? c).codes.isSome then mode == 2
  else if (s.decode v c literal).isSome then mode == 0 else mode == 1

/-- A lane can have produced a stream for a page (R472): one that passes verify has the right MODE. -/
def State.laneWrites (s : State) (v c : Nat) (page stream : List Byte) (fault : Bool) : Bool :=
  fault || !s.verifyOk v c stream page || s.modeRight v c stream

/-- The counts of a stream that a lane has produced (R496). -/
def State.countStream (s : State) (stream : List Byte) (p0 p o : Nat) : State :=
  let s1 := ((s.cmpCount 2 1).cmpCount 1 stream.length).cmpCount 8 o
  let s2 := if 0 < o then s1.cmpCount 7 1 else s1
  let s3 := if p < p0 then s2.cmpCount 9 1 else s2
  if (headerOf stream).2.2 = 2 then s3.cmpCount 14 1 else s3

/-- What a lane makes of a page: none where it is to be stored raw (R478, R480), else the counts done and the shape. -/
def State.laneStream (s : State) (region lane : Nat) (d : Desc) (page stream : List Byte) (fault : Bool) :
    State × Option Target :=
  let (s1, v, c) := s.writeClass region
  if s1.fld Reg.CMP_RAW_THRESHOLD 11 0 < stream.length then (s1.cmpCount 3 1, none)
  else if fault || !s1.verifyOk v c stream page then
    (((s1.cmpCount 4 1).raise 0x7001 (lane * 65536 + region)).laneFail lane, none)
  else
    let p0 := s1.predict d c
    let (p, o) := extentShape p0 stream.length
    (s1.countStream stream p0 p o, some (.extent p0 p o stream.length v c lane))

/-- COMPRESS_DONE: a lane finishes a page of the write path. `stream` is what it has produced, `fault` a verify mismatch of
its own, `crc` a CRC-32C failure at the stage's boundary (R15, R477 to R483). -/
def execCompressDone (flight lane : Nat) (stream : List Byte) (fault crc : Bool) (s : State) :
    Host.Outcome State Fault Refusal :=
  match s.flight? flight with
  | none => .next s
  | some f =>
    let r := s.region f.region
    let d := s.descNow f.region f.page
    let special := isZeroPage f.plain || (r.patternOk && isPatternPage f.plain)
    let t :=
      if crc then s.crcAbort f 6
      else if special || s.staysCanopy f then s.storePlain f f.plain false
      else
        match s.laneStream f.region lane d f.plain stream fault with
        | (s1, none) => s1.storePlain f f.plain true
        | (s1, some (.extent p0 p o len v c l)) =>
          s1.beginCheck f (streamUnits stream p o) (.extent p0 p o len v c l) none
        | (s1, some _) => s1
    let (_, v, c) := s.writeClass f.region
    let mine := match f.laneHeld s with | some l => l == lane | none => s.nextLane == some lane && !s.letsGreen f
    if lane < 16 then needing (laneDom lane) (f.stage == .compress && mine && s.laneWrites v c f.plain stream fault) s t
    else .next s

/-! ### Encryption (R511 to R514) -/

/-- One encryption with its check (R512, R513): whether the unit passed, at the first or second attempt. -/
def State.unitCheck (s : State) (engine : Nat) (ok again : Bool) : State × Bool :=
  let s1 := s.cryCount 0 1
  if ok then (s1, true)
  else
    let s2 := (s1.cryCount 2 1).engineFail engine
    if again then ((s2.cryCount 3 1).raise 0x8001 engine, true) else (s2, false)

/-- XTS_UNIT_CHECK: an engine encrypts the next unit of a request's write and its check lane compares it (R512, R513); an Atomic's
goes after the write path's (R511). Which engines are idle is open here, and `engine` is the lowest of them (DEDUCED, log 210).
`crc` is a CRC-32C failure at the boundary that the units then pass (R15). -/
def execXtsUnitCheck (flight engine : Nat) (ok again crc : Bool) (s : State) : Host.Outcome State Fault Refusal :=
  match s.flight? flight with
  | none => .next s
  | some f =>
    match f.units with
    | [] => .next s
    | u :: rest =>
      let t :=
        match s.pageKeys f.region f.page with
        | none => (s.emptySlot f.region).abort f stAccessDenied
        | some (k1, k2) =>
          let (s1, good) := s.unitCheck engine ok again
          if crc then s1.crcAbort f 8
          else if good then
            let enc := xtsEnc k1 k2 (xtsTweak f.region f.page u.slotForm u.ordinal) u.plain
            let g := { f with units := rest, cipher := f.cipher ++ [(u, enc)] }
            if rest.isEmpty then (s1.putFlight g).allocate g else s1.putFlight g
          else (s1.raise 0x8002 (pageDetail f.region f.page)).abort f stInternalFault
      let turn := (f.type != tAtomic || decide (s.encrypting false < s.xtsEngines.length)) && !s.letsGreen f
      serving 11 f (f.stage == .check && turn && (s.domFailed 11 || s.xtsEngines.contains engine)) s t

/-! ### The memory write and the commit (R13, R532, R672, R780) -/

/-- No line of a request's write has been accepted yet: its data passes the boundary of the memory write with the first. -/
def Flight.unwritten (f : Flight) : Bool :=
  f.writes.length == (f.cipher.map fun u => if u.1.slotForm then 4 else 1).sum

/-- A write is held at a channel's port for its master's budget (R672). -/
def State.holdWrite (s : State) (f : Flight) (chan : Nat) : State :=
  if f.held.any (·.1 == chan) then s
  else (s.count64 (Reg.MREG_HELD_LO f.master) 1).putFlight { f with held := f.held ++ [(chan, s.now)] }

/-- A yellow write lets a green one of its channel go first that the channel would take (R706). -/
def State.letsGreenAt (s : State) (f : Flight) (chan : Nat) : Bool :=
  f.yellow && s.coh.flights.any fun g => !g.yellow && g.stage == .write && s.withinBudget chan g.master
    && g.writes.any fun w => s.slotChan (w.la / 4) == chan && s.standServes (slotStand (w.la / 4))

/-- MEMORY_WRITE_ACCEPT: a channel accepts every line of a write that falls in it, within the master's budget and with room
in its queues, after what R669 and R672 put before it (R532); a Failed channel answers LOST (R552). `crc` is a CRC-32C failure
at the boundary before the memory write (R15). -/
def execMemoryWriteAccept (flight chan : Nat) (crc : Bool) (s : State) : Host.Outcome State Fault Refusal :=
  match s.flight? flight with
  | none => .next s
  | some f =>
    let mine := f.writes.filter fun w => s.slotChan (w.la / 4) == chan
    let rest := f.writes.filter fun w => s.slotChan (w.la / 4) != chan
    let stand := slotStand ((mine.map (·.la)).headD 0 / 4)
    if f.stage ≠ .write ∨ mine.isEmpty ∨ !s.live then .next s
    else if s.chanLost chan then .next (s.abort { f with writes := [] } stInternalFault)
    else if !s.standServes stand then .next (s.wakeStand stand)
    else if !s.chanOpen chan then .next (s.stallChan chan)
    else if crc && f.unwritten then .next (s.crcAbort { f with writes := [] } 9)
    else if !s.withinBudget chan f.master then .next (s.holdWrite f chan)
    else if s.yields chan f.master 2 || s.letsGreenAt f chan then .next s
    else
      let es : List Entry := mine.map fun w =>
        { la := w.la, access := .wr, cls := 2, master := f.master, bytes := w.bytes, tag := w.tag }
      if s.fits chan 2 es then
        let g := { f with
          writes := rest, stage := if rest.isEmpty then .commit else .write, held := f.held.filter (·.1 != chan) }
        let s1 := (((s.turned chan f.master).acceptAll chan f.master es).useStand stand).putFlight g
        .next (match f.held.find? (·.1 == chan) with | some h => s1.holdMax f.master h.2 | none => s1)
      else .next s

/-- Install a write's result in the descriptor (R334, R338, R370): its new location, POISON and STALE; old slots are
released. -/
def State.commit (s : State) (f : Flight) : State :=
  let cur := s.descNow f.region f.page
  let whole := match f.todo with | .put off bytes :: _ => wholePut off bytes | _ => false
  let clear (d : Desc) : Desc := { d with stale := false, poison := d.poison && !whole }
  match f.newDesc with
  | none => s.putDesc f.region f.page (clear cur)
  | some nd =>
    let old := s.slotsOf cur
    let s1 := (s.putDesc f.region f.page (clear (cur.relocate nd))).release f.region f.page cur old
    match f.target with
    | .extent _ p o _ _ c _ => s1.learnMean c (p + o)
    | _ => s1

/-- A write's CRC-32C check fails after the memory write (R780): a write in place stands, and otherwise the descriptor is left
unchanged and the new slots go back. -/
def State.crcAfterWrite (s : State) (f : Flight) : State :=
  if f.newDesc.isSome then s.crcAbort f 10 else (s.crcFail 10).abort f stInternalFault

/-- WRITE_COMMIT: the descriptor update of a write ends and its Completion follows (R13); `crc` is a CRC-32C failure after
the memory write (R780). -/
def execWriteCommit (flight : Nat) (crc : Bool) (s : State) : Host.Outcome State Fault Refusal :=
  match s.flight? flight with
  | none => .next s
  | some f =>
    let t :=
      if crc then s.crcAfterWrite f
      else
        let g := { f with slots := [], newDesc := none, cipher := [], before := none }
        (s.commit f).opDone g
    serving (pipeDom f.region f.page) f (f.stage == .commit) s t

end Sys2Proof.Machine
end

