-- ==== Sys2Proof/Machine/Home.lean ====
section
/-! DEFINITION. The home (10_coherence.md): trackers, the order of transactions on a page, what each request does by
directory state, snoops, forwarding, retry and credits; and the translate stage's last steps (R323 steps 7 and 8, R326 to
R330, R335, R352). -/

namespace Sys2Proof.Machine

open Sys2Proof

/-! ### Share groups (R372 to R375) -/

/-- Members of a share group, in ascending order. -/
def State.members (s : State) (g : Nat) : List Nat := tabGet (fun _ => []) s.coh.groups g

/-- A client is a member of a page's share group. -/
def State.inGroup (s : State) (d : Desc) (c : Nat) : Bool := d.group != 0xFFFF && (s.members d.group).contains c

/-! ### Trackers (R363 to R365, R389 to R391) -/

/-- The next stamp in the order of arrivals. -/
def State.stamp (s : State) : Nat × State :=
  (s.coh.nextId, { s with coh := { s.coh with nextId := s.coh.nextId + 1 } })

/-- Trackers of the shared pool in use or held for a credit. -/
def State.sharedUsed (s : State) : Nat :=
  (s.coh.flights.filter fun f => f.trk == .shared).length + s.coh.credits.length

/-- Trackers that a client's session has open. -/
def State.openTrackers (s : State) (c : Nat) : Nat :=
  (s.coh.flights.filter fun f => f.client == c && f.trk != .none).length

/-- The tracker a request takes (R364). -/
def State.tracker (s : State) (c : Nat) : Trk :=
  if s.sharedUsed < 8192 then .shared else if s.openTrackers c < 2 then .reserved else .none

/-- Requests that are never answered Retry for want of a tracker or way (R352, R365, R392). -/
def Flight.waits (f : Flight) : Bool := isEviction f.type || f.bulk.isSome || f.credited

/-- Answer Retry and enter the retry list (R242, R389). -/
def State.retry (s : State) (f : Flight) (reason : Nat) : State :=
  let s1 := (s.unlock f).reply f.client f.epoch tRetry f.msgId stRetry [BitVec.ofNat 8 reason, 0, 0, 0]
  let s2 := if reason = 1 then s1.cohCount 5 1 else (s1.cohCount 6 1).count Reg.PIPE_DC_ALLPINNED
  let (n, s3) := s2.stamp
  let e : RetryEntry := { client := f.client, epoch := f.epoch, msgId := f.msgId, since := n }
  ({ s3 with coh := { s3.coh with retries := s3.coh.retries ++ [e] } }).dropFlight f.id

/-- A credit tag that no credit of the client holds (R390): which one is open. -/
def State.drawTag (s : State) (c : Nat) : Nat × State :=
  let (n, s1) := s.draw 4096
  let used (t : Nat) : Bool := s1.coh.credits.any fun x => x.client == c && x.tag == t
  (((List.range 4096).map fun i => (n + i) % 4096).find? (fun t => !used t) |>.getD n, s1)

/-- Hold a tracker for the head of the retry list and send its CreditGrant (R390). -/
def State.grantCredit (s : State) : State :=
  match s.coh.retries with
  | [] => s
  | e :: rest =>
    let (tag, s1) := s.drawTag e.client
    let c : Credit := { client := e.client, epoch := e.epoch, msgId := e.msgId, tag := tag, at_ := s.now }
    let s2 := { s1 with coh := { s1.coh with retries := rest, credits := s1.coh.credits ++ [c] } }
    (s2.reply e.client e.epoch tCreditGrant e.msgId stOK (beBytes 2 tag ++ [0, 0])).cohCount 7 1

/-! ### Snoops (R244, R246, R247, R306, R368, R374, R381) -/

/-- Two sessions between which a read is forwarded (R306). -/
def State.forwardable (s : State) (a b : Nat) : Bool :=
  let ok (c : Nat) : Bool := (s.sess c).live && (s.sess c).version == 3 && (s.sess c).feature fForward
  ok a && ok b

/-- The address of a page or of an offset in it (R232). -/
def pageAddr (region page off : Nat) : List Byte := beBytes 8 (region * 2 ^ 48 + page * 4096 + off)

/-- The SnpFwd of a request to the F holder (R244, R246, R247, R381); F_SALT is open. -/
def State.fwdBody (s : State) (f : Flight) : List Byte × State :=
  let x := s.ctx f.client
  let ph := x.sess.txPhase
  let seq := if ph then x.fseq1 else x.fseq0
  let s1 := s.setCtx f.client (if ph then { x with fseq1 := seq + 128 } else { x with fseq0 := seq + 128 })
  let (salt, s2) := s1.draw (2 ^ 32)
  (pageAddr f.region f.page f.off ++ beBytes 2 f.len ++ beBytes 2 (f.client * 16 + f.epoch.toNat)
    ++ beBytes 4 f.msgId.toNat ++ [BitVec.ofNat 8 (bitNat x.sess.v6 * 128 + bitNat ph * 64), 0]
    ++ beBytes 2 x.sess.port ++ beBytes 4 salt ++ beBytes 8 seq ++ beBytes 16 x.sess.ip.toNat
    ++ beBytes 32 (forwardKey (x.key ph).key).toNat, s2)

/-- Send one snoop of a request: 0 SnpInv, 1 SnpShare, 2 SnpFwd. A client without an open session counts as answered I
(R369, R400); one to which the device has sent its Close is sent no snoop (R302), and its WriteBackDirty or the end of its
session answers in its place (DEDUCED, log 205). -/
def State.sendSnoop (s : State) (f : Flight) (c kind : Nat) : State × Snoop :=
  if !(s.sess c).live then (s, { client := c, kind := kind, msgId := 0, sentAt := s.now, result := some 0 })
  else if (s.sess c).closeSent then (s, { client := c, kind := kind, msgId := 0, sentAt := s.now, wbWait := true })
  else
    let (id, s1) := s.drawMsgId c
    let (body, s2) := if kind = 2 then s1.fwdBody f else (pageAddr f.region f.page 0 ++ [0, 0, 0, 0], s1)
    let s3 := s2.sendMsg c (if kind = 0 then tSnpInv else if kind = 1 then tSnpShare else tSnpFwd) id 0 body
    let s4 := s3.cohCount kind 1
    let s5 := if kind = 2 then s4.count Reg.KCT_FWD_SNP else s4
    (s5, { client := c, kind := kind, msgId := id, sentAt := s.now })

/-- Send a list of snoops. -/
def State.sendSnoops (s : State) (f : Flight) (kind : Nat) (l : List Nat) : State × List Snoop :=
  l.foldl (fun acc c => let (t, x) := acc.1.sendSnoop f c kind; (t, acc.2 ++ [x])) (s, [])

/-- The members of a page's share group whose session is open (R374). -/
def State.openMembers (s : State) (d : Desc) : List Nat :=
  if d.group = 0xFFFF then [] else (s.members d.group).filter fun c => (s.sess c).live

/-- Clients with an open session and a CACHING grant that covers a page (R653). -/
def State.cachers (s : State) (region page : Nat) : List Nat :=
  (((s.pipe.grants.filter fun e =>
    e.2.valid && e.2.caching && e.2.region == region && decide (e.2.first ≤ page ∧ page ≤ e.2.last)).map (·.2.client)).dedup).filter
    fun c => (s.sess c).live

/-- The snoops that a request's decision needs, by directory state (R369 to R371). -/
def State.snoopPlan (s : State) (f : Flight) (d : Desc) : Nat × List Nat :=
  let R := f.client
  let others := d.named.filter (· != R)
  let invalidate (self : Bool) : Nat × List Nat :=
    if d.dir = 1 then (0, if self then d.named else others)
    else if d.dir = 2 then (0, if self then d.named else others)
    else if d.dir = 3 then (0, if self then s.openMembers d else (s.openMembers d).filter (· != R))
    else (0, [])
  if f.type = tPurge then (0, s.cachers f.region f.page)
  else if f.type = tReadShared then
    if d.dir = 1 ∧ d.named.contains R then (0, [])
    else if d.dir = 1 ∨ (d.dir = 3 ∧ s.inGroup d R) then
      match d.fHolder with
      | some h => if h ≠ R ∧ s.forwardable R h then (2, [h]) else (0, [])
      | none => (0, [])
    else if d.dir = 2 then (1, others)
    else if d.dir = 3 then (0, s.openMembers d)
    else (0, [])
  else if f.type = tReadOwn then invalidate false
  else if f.type = tUpgrade then
    (if (d.dir = 1 ∧ d.named.contains R) ∨ (d.dir = 3 ∧ s.inGroup d R) then invalidate false else (0, []))
  else if f.type = tReadCurrent ∨ f.type = tReadBulk then (if d.dir = 2 then (1, d.named) else (0, []))
  else if f.type = tWriteThrough ∨ f.type = tWriteBulk ∨ f.type = tAtomic then
    (if d.dir = 2 then (0, d.named) else invalidate true)
  else (0, [])

/-! ### Deciding (R369 to R373, R383, R395) -/

/-- The result of a client's snoop: 0 I, 1 S, 2 S and forwarded, 3 I and forwarded. -/
def Flight.resultOf (f : Flight) (c : Nat) : Option Nat :=
  (f.snoops.find? (·.client == c)).bind (·.result)

/-- Enter Broadcast with this F holder (R372). -/
def State.broadcast (s : State) (f : Flight) (d : Desc) (h : Option Nat) : State :=
  let d1 := { d with
    dir := 3, overflow := true, ptr0 := h.getD 0, ptr1 := 0, ptr2 := 0, ptr3 := 0
    fValid := h.isSome, fIndex := 0, ptrCount := bitNat h.isSome }
  ((s.putDesc f.region f.page d1).raise 0x5006 (pageDetail f.region f.page)).cohCount 10 1

/-- Start the operations of a decided request, which then passes the boundary to stage 6. -/
def State.start (s : State) (f : Flight) (ops : List PageOp) : State :=
  let g := { f with todo := f.todo ++ ops }
  if f.crcAt = 6 then s.crcAbort g 6 else s.go g

/-- The page's own operation of a request that reads it. -/
def Flight.getOp (f : Flight) : List PageOp := if f.bare then [] else [.get f.off f.len]

/-- Add the requester of a ReadShared as a sharer beside `ptrs`, whose F holder is `h`; the requester becomes the F holder
where `toF` holds. A fifth pointer follows R372 and R373. -/
def State.addSharer (s : State) (f : Flight) (ptrs : List Nat) (h : Option Nat) (toF : Bool) : State :=
  let d := s.descNow f.region f.page
  let newF := if toF then some f.client else h
  if ptrs.length < 4 then
    (s.putDesc f.region f.page (d.withPtrs (ptrs ++ [f.client]) newF)).start f f.getOp
  else if s.flag Reg.COH_CTRL 0 && (f.client :: ptrs).all (s.inGroup d) then
    (s.broadcast f d newF).start f f.getOp
  else
    match ptrs.find? (fun c => some c != h) with
    | none => s.start f f.getOp
    | some v =>
      let s1 := (s.putDesc f.region f.page (d.withPtrs ptrs h)).cohCount 11 1
      let (s2, sn) := s1.sendSnoop f v 0
      s2.putFlight { f with stage := .recall, snoops := [sn] }

/-- The pointer recalled under R373 has answered: the requester takes its place. -/
def State.recalled (s : State) (f : Flight) : State :=
  let d := s.descNow f.region f.page
  let ptrs := d.named
  match f.snoops with
  | sn :: _ =>
    let toF := f.grant == 2 || f.bare
    let l := ptrs.map fun c => if c = sn.client then f.client else c
    (s.putDesc f.region f.page (d.withPtrs l (if toF then some f.client else d.fHolder))).start f f.getOp
  | [] => s

/-- Every snoop of a request has been answered: its directory change and its operations (R369, R383). -/
def State.resolve (s : State) (f : Flight) : State :=
  let d := s.descNow f.region f.page
  let R := f.client
  let put (e : Desc) (t : State) : State := t.putDesc f.region f.page e
  let kept (c : Nat) : Bool := match f.resultOf c with | some 0 => false | some 3 => false | _ => true
  if f.type = tReadShared then
    if d.dir = 1 ∧ d.named.contains R then
      s.start { f with grant := if d.fHolder = some R then 2 else 1 } f.getOp
    else if d.dir = 1 then
      match d.fHolder with
      | some h =>
        if f.snoops.isEmpty then
          let s1 := if s.forwardable R h then s else s.count Reg.KCT_FWD_V2_HOME
          s1.addSharer { f with grant := 1 } d.named (some h) false
        else
          let fwd := f.resultOf h == some 2 || f.resultOf h == some 3
          let ptrs := if kept h then d.named else d.named.filter (· != h)
          let s1 := if fwd then (s.cohCount 3 1).count Reg.KCT_FWD_DONE else (s.cohCount 4 1).count Reg.KCT_FWD_FALLBACK
          s1.addSharer { f with grant := if fwd then 0 else 2, bare := fwd } ptrs (if kept h then some h else none) true
      | none => s.addSharer { f with grant := 2 } d.named none true
    else if d.dir = 2 then
      let l := if d.ptr0 ≠ R ∧ kept d.ptr0 then [d.ptr0, R] else [R]
      (put (d.withPtrs l (some R)) s).start { f with grant := 2 } f.getOp
    else if d.dir = 3 ∧ s.inGroup d R then
      match d.fHolder with
      | some h =>
        if h = R then s.start { f with grant := 2 } f.getOp
        else if f.snoops.isEmpty then
          (if s.forwardable R h then s else s.count Reg.KCT_FWD_V2_HOME).start { f with grant := 1 } f.getOp
        else
          let fwd := f.resultOf h == some 2 || f.resultOf h == some 3
          let s1 := if fwd then (s.cohCount 3 1).count Reg.KCT_FWD_DONE else (s.cohCount 4 1).count Reg.KCT_FWD_FALLBACK
          let g := { f with grant := if fwd then 0 else 2, bare := fwd }
          (put { d with ptr0 := R } s1).start g g.getOp
      | none =>
        (put { d with ptr0 := R, fValid := true, fIndex := 0, ptrCount := 1 } s).start { f with grant := 2 } f.getOp
    else (put (d.withPtrs [R] (some R)) s).start { f with grant := 2 } f.getOp
  else if f.type = tReadOwn then (put (d.ownedBy R) s).start { f with grant := 3 } f.getOp
  else if f.type = tUpgrade then
    (if (d.dir = 1 ∧ d.named.contains R) ∨ (d.dir = 3 ∧ s.inGroup d R) then
       (put (d.ownedBy R) s).start { f with grant := 3, bare := true } []
     else (s.cohCount 14 1).respond f stStale 0 [])
  else if f.type = tReadCurrent ∨ f.type = tReadBulk then
    let e :=
      if d.dir = 2 then (if kept d.ptr0 then d.withPtrs [d.ptr0] none else d.uncached) else d
    (put e s).start f f.getOp
  else if f.type = tWriteThrough ∨ f.type = tWriteBulk then
    (put d.uncached s).start f [.put f.off f.writeBytes]
  else if f.type = tAtomic then
    (put d.uncached (s.cohCount 13 1)).start f
      [.atom f.off (beAt f.body 8 1) (beAt f.body 9 1) (f.body.drop 12)]
  else if f.type = tWriteBackDirty then
    (if d.dir = 2 ∧ d.ptr0 = R then s.start f [.put f.off f.writeBytes]
     else (s.raise 0x5007).respond f stStale 0 [])
  else if f.type = tEvictClean then
    (put (d.dropPtr R) s).start f []
  else if f.type = tPurge then (put d.uncached s).start { f with bare := true } []
  else s

/-! ### Taking a page (R367, R386, R426, R427) -/

/-- The increment of an access (R426). -/
def State.warmthInc (s : State) (f : Flight) : Option Nat :=
  let w := (s.policyWord (s.region f.region).policy 0).toNat
  if readsData f.type then some (bits w 15 0)
  else if f.type = tEvictClean ∨ f.type = tPurge then none
  else some (bits w 31 16)

/-- Age and decayed warmth of a page (R425). -/
def State.age (s : State) (d : Desc) : Nat := (s.tier.epoch + 65536 - d.epoch) % 65536
def State.decayed (s : State) (d : Desc) : Nat := if 16 ≤ s.age d then 0 else d.warmth >>> s.age d

/-- Queue a promotion to Canopy, or of a hinted Floor page (R427, R444, R445). -/
def State.queuePromo (s : State) (region page : Nat) (hint : Bool) : State :=
  if s.tier.promos.any fun p => p.region == region && p.page == page then s
  else if 4096 ≤ s.tier.promos.length then s.tierCount 15 1
  else { s with tier := { s.tier with promos := s.tier.promos ++ [{ region := region, page := page, hint := hint, at_ := s.now }] } }

/-- Warm a page for an access (R426) and queue its promotion where it has become warm (R427, R781). -/
def State.warm (s : State) (f : Flight) : State :=
  match s.warmthInc f with
  | none => s
  | some inc =>
    let d := s.descNow f.region f.page
    let w := min 65535 (s.decayed d + inc)
    let s1 := s.putDesc f.region f.page { d with warmth := w, epoch := s.tier.epoch }
    let promote := bits (s.policyWord (s.region f.region).policy 1).toNat 31 16
    if d.tier = 4 ∧ promote ≤ w ∧ !d.poison ∧ s.flag Reg.TIER_CTRL 3 then s1.queuePromo f.region f.page false else s1

/-- The access is answered Poisoned at once (R323 step 8, R338). -/
def Flight.poisonedBy (f : Flight) (d : Desc) : Bool :=
  d.poison && (readsData f.type || (changesData f.type && !f.whole))

/-- A request takes its page: warmth, decision and snoops (R369, R395). -/
def State.activate (s : State) (f : Flight) : State :=
  let s0 := s.lockHandling f.region f.page
  let d := s0.descNow f.region f.page
  if f.poisonedBy d then s0.respond f stPoisoned 0 []
  else
    let s1 := s0.warm f
    let f := { f with before := some d }
    let (kind, l) := s1.snoopPlan f d
    if l.isEmpty then s1.resolve { f with snoops := [] }
    else
      let (s2, sn) := s1.sendSnoops f kind l
      let g := { f with stage := .snoops, snoops := sn }
      if sn.all fun x => x.result.isSome then s2.resolve g else s2.putFlight g

/-- The tracker that is active on a page (R367): the one whose request has taken it, and then that of an eviction which joined
it, until its answer has been acknowledged (R363, R368). -/
def State.activeOn (s : State) (region page id : Nat) : Option Flight :=
  s.coh.flights.find? fun x =>
    x.region == region && x.page == page && x.id != id && x.opened && (!x.side || x.stage == .ackWait) && x.stage != .pageQ &&
      x.stage != .tracker && (match x.stage with | .joined _ => false | _ => true)

/-- Take the data that a snooped client returns as a write before the request's own operation (R369). -/
def State.joinData (s : State) (a : Flight) (ops : List PageOp) (sn : List Snoop) : State :=
  let g := { a with todo := a.todo ++ ops, snoops := sn }
  if a.stage = .recall then (if sn.all fun x => x.result.isSome then s.recalled g else s.putFlight g)
  else if a.stage = .snoops then (if sn.all fun x => x.result.isSome then s.resolve g else s.putFlight g)
  else s.putFlight g

/-- An eviction from a listed client meets an active tracker (R386, R387): as the answer of a snoop already sent, or
applied to the directory with the client struck from the tracker. It warms the page as any access (R426). -/
def State.cross (s : State) (f a : Flight) : State :=
  let s1 := (s.cohCount 9 1).warm f
  let a := { a with before := a.before.map (·.dropPtr f.client) }
  let dirty := f.type == tWriteBackDirty
  let put : List PageOp := if dirty then [.put f.off f.writeBytes, .tell f.id] else []
  let g := { f with stage := .joined a.id, side := true }
  let waiting := (a.stage == .snoops || a.stage == .recall) &&
    a.snoops.any fun x => x.client == f.client && x.result.isNone
  if waiting then
    let sn := updFirst (fun x => x.client == f.client) (fun x => { x with result := some 0, wbWait := false }) a.snoops
    let s2 := if dirty then s1.putFlight g else s1.respond { g with side := true } stOK 0 []
    s2.joinData a put sn
  else
    let d := s1.descNow f.region f.page
    let s2 := s1.putDesc f.region f.page (d.dropPtr f.client)
    if !dirty then (s2.putFlight a).respond { g with side := true } stOK 0 []
    else if a.stage = .ackWait ∨ a.stage = .bulkWait then s2.start { g with todo := [] } [.put f.off f.writeBytes]
    else (s2.putFlight g).putFlight { a with todo := a.todo ++ put }

/-- An earlier request of a request's session for its page still waits for a tracker: it goes first (R12). -/
def State.behindTracker (s : State) (f : Flight) : Bool :=
  s.coh.flights.any fun x => x.region == f.region && x.page == f.page && x.client == f.client && decide (x.id < f.id)
    && x.stage == .tracker

/-- The head of a page's queue: the request that took its place first, of those that may go (R12, R367). -/
def State.queueHead (s : State) (region page : Nat) : Option Flight :=
  match s.coh.flights.filter fun x => x.region == region && x.page == page && x.stage == .pageQ && !s.behindTracker x with
  | [] => none
  | x :: l => some (l.foldl (fun a b => if b.queuedAt < a.queuedAt then b else a) x)

/-- A request takes the next place in its page's queue (R367). -/
def State.enqueuePage (s : State) (f : Flight) : State :=
  let (n, s1) := s.stamp
  s1.putFlight { f with stage := .pageQ, queuedAt := n }

/-- A request that has its tracker joins, queues or takes its page (R12, R367, R386). -/
def State.queuePage (s : State) (f : Flight) : State :=
  let queued := s.coh.flights.any fun x => x.region == f.region && x.page == f.page && x.id != f.id && x.stage == .pageQ
  match s.activeOn f.region f.page f.id with
  | none => if queued || s.behindTracker f then s.enqueuePage f else s.activate f
  | some a =>
    if isEviction f.type && (s.descNow f.region f.page).named.contains f.client then s.cross f a
    else s.enqueuePage f

/-- The home takes a request from the translate stage (stage 5). -/
def State.atHome (s : State) (f : Flight) : State :=
  let s1 := s.unlock f
  if f.credited then s1.queuePage { f with trk := .shared, stage := .pageQ }
  else
    match s1.tracker f.client with
    | .none =>
      if f.waits then (s1.stamp.2).putFlight { f with stage := .tracker, queuedAt := s1.stamp.1 }
      else s1.retry f 1
    | t => s1.queuePage { f with trk := t, stage := .pageQ }

/-! ### Moves that end (R433, R434, R436) -/

/-- The state without the record of a page's move. -/
def State.dropMove (s : State) (region page : Nat) : State :=
  { s with tier := { s.tier with moves := s.tier.moves.filter fun m => !(m.region == region && m.page == page) } }

/-- The state with the record of a page's move replaced. -/
def State.putMove (s : State) (m : Move) : State :=
  { s with tier := { s.tier with
    moves := updFirst (fun x => x.region == m.region && x.page == m.page) (fun _ => m) s.tier.moves } }

/-- The mover restores the descriptor of a move that ends without a commit: a page still in Transit gets its source tier back,
and it is marked POISON where its data is uncorrectable (R434, R436). -/
def State.restoreMoved (s : State) (m : Move) (poison : Bool) : State :=
  let d := s.descNow m.region m.page
  let s1 :=
    if d.tier = 6 then s.putDesc m.region m.page { d with tier := m.src.tier, poison := d.poison || poison }
    else if poison && d.sameLoc m.src then s.putDesc m.region m.page { d with poison := true } else s
  s1.dropMove m.region m.page

/-- The mover, first at a page's free lock and with the descriptor in the cache, restores it where its move has ended; `n`
bounds the arrival of its place (R9). -/
def State.settleMove (s : State) (region page n : Nat) : State :=
  match s.firstPlace region page, s.moveOf region page with
  | some p, some m =>
    match m.ending with
    | some poison =>
      if p.who = agentMover ∧ p.since ≤ n ∧ !s.lockTaken region page ∧ (s.dcEntry region page).isSome then
        (s.restoreMoved m poison).dropPlace agentMover region page
      else s
    | none => s
  | _, _ => s

/-! ### Step 7 and 8 of translation (R323, R330, R335, R352) -/

/-- The descriptor is in the cache and its lock is free: the checks under the lock, then the home, whose domain may have to
wake while the lock is held (R325). -/
def State.locked (s : State) (f : Flight) : State :=
  let s0 := s.lockHandling f.region f.page
  let d := s0.descNow f.region f.page
  if f.crcAt = 5 then s0.crcAbort f 5
  else if s0.implausible d then
    ((s0.raise 0x4007).pipeCount f.region f.page 16).respond f stInternalFault 0 []
  else
    let s1 := if changesData f.type then s0.restoreTransit f.region f.page else s0.inferTransit f.region f.page
    if f.poisonedBy (s1.descNow f.region f.page) then s1.respond f stPoisoned 0 []
    else if s1.up 7 then s1.atHome f
    else if s1.domFailed 7 then s1.respond f stDomainFailed 0 []
    else
      match s1.dcEntry f.region f.page with
      | some e =>
        ((s1.setDc f.region f.page (some { e with lock := some f.id })).putFlight
          { f with stage := .home, since := s.now }).stall 7
      | none => s1

/-- Where an earlier request for the same page waits for its descriptor, a later one waits behind it (R9, R12). -/
def State.aheadOf (s : State) (f : Flight) : Option Stage :=
  (s.coh.flights.find? fun x => x.region == f.region && x.page == f.page && decide (x.id < f.id)
    && (x.stage == .fetch || x.stage == .way || x.stage == .lock)).map (·.stage)

/-- A request whose record is in the list takes its descriptor: under its lock, by a fetch, or after a wait in arrival order
(R9, R12, R352). -/
def State.translate7 (s0 : State) (f : Flight) : State :=
  let s := s0.settleMove f.region f.page f.id
  let full := !f.waits && (s.dcEntry f.region f.page).isNone && (s.dcRoom f.region f.page).isNone
  match s.aheadOf f with
  | some st => if full && st != .fetch then s.retry f 2 else s.putFlight { f with stage := st, since := s.now }
  | none =>
    match s.dcEntry f.region f.page with
    | some e =>
      if e.lock.isSome || s.placeBefore f.region f.page f.id then s.putFlight { f with stage := .lock, since := s.now }
      else (s.touch f.region f.page).locked f
    | none =>
      match s.dcRoom f.region f.page with
      | some t => t.putFlight { f with stage := .fetch, since := s.now }
      | none => if full then s.retry f 2 else s.putFlight { f with stage := .way }

/-- Start a request at step 7: its look-up is a hit or a miss (R355). One that has spent a credit has its tracker (R392). -/
def State.launch (s : State) (f : Flight) : State :=
  let g := { f with id := s.coh.nextId, stage := .lock, trk := if f.credited then .shared else f.trk }
  ((s.addFlight g).count64 (if (s.dcEntry f.region f.page).isSome then Reg.PIPE_DC_HIT_LO else Reg.PIPE_DC_MISS_LO) 1).translate7 g

/-- The longest wait for a lock, in 10 ns (R355). -/
def State.lockWaited (s : State) (f : Flight) : State :=
  let n := (s.now - f.since) / 10
  if (s.reg Reg.PIPE_LOCK_WAIT_MAX).toNat < n then s.setReg Reg.PIPE_LOCK_WAIT_MAX (BitVec.ofNat 32 n) else s

/-- Requests that wait at one point for a page's descriptor go on in arrival order (R9). -/
def State.wakeWaiters (s : State) (region page : Nat) (st : Stage) : State :=
  (s.coh.flights.filter fun x => x.region == region && x.page == page && x.stage == st).foldl (fun t x =>
    match t.flight? x.id with
    | some y => if y.stage = st then (if st = .lock then t.lockWaited y else t).translate7 y else t
    | none => t) s

/-- A page's lock has become free: those that wait for it go on in arrival order, up to the place of a service agent, which its
own command takes up (R9). -/
def State.lockFreed (s : State) (region page : Nat) : State :=
  let s1 := s.wakeWaiters region page .lock
  s1.settleMove region page s1.coh.nextId

/-- An agent leaves a page's lock, or gives up its turn at it. -/
def State.leavePlace (s : State) (who region page : Nat) : State := (s.dropPlace who region page).lockFreed region page

/-- Requests that held a lock while the home's domain woke go on, and those behind them (R325). -/
def State.homeUp (s : State) : State :=
  (s.coh.flights.filter fun x => x.stage == .home).foldl (fun t x =>
    match t.flight? x.id with
    | some y => (t.atHome y).lockFreed y.region y.page
    | none => t) s

/-- Requests stalled for a domain or a stand try again in arrival order (R446, R718). -/
def State.resumeStage (s : State) (st : Stage) (ok : Flight → Bool) : State :=
  (s.coh.flights.filter fun x => x.stage == st && ok x).foldl (fun t x =>
    match t.flight? x.id with
    | some y => if y.stage = st then t.go y else t
    | none => t) s

/-- What waited for a domain goes on when it is Up (R718). -/
def State.resumeDomain (s : State) (d : Nat) : State :=
  if d = 7 then s.homeUp
  else if d = 8 then s.resumeStage .tier (fun _ => true)
  else if d = 12 ∨ (13 ≤ d ∧ d ≤ 28) then s.pumpAll
  else s

end Sys2Proof.Machine
end

