-- ==== Sys2Proof/Machine/OpBase.lean ====
section
/-! DEFINITION. Operation slots as every engine uses them (R161 to R173, R748 to R750): the slots, conflict keys, progress,
and how an operation ends. -/

namespace Sys2Proof.Machine

open Sys2Proof

/-- An operation slot. -/
def State.opSlot (s : State) (i : Nat) : OpSlot := tabGet (fun _ => {}) s.mgmt.slots i

/-- The page count that RESIZE_REGION asks for (21, the table of arguments). -/
def OpSlot.newCount (o : OpSlot) : Nat := o.arg1.toNat + bits o.arg2.toNat 1 0 * 2 ^ 32

/-- The state with an operation slot replaced. -/
def State.setOp (s : State) (i : Nat) (o : OpSlot) : State :=
  { s with mgmt := { s.mgmt with slots := tabSet (fun _ => {}) s.mgmt.slots i o } }

/-- Done, Cancelled and Failed. -/
def OpState.terminal (x : OpState) : Bool := x == .done || x == .cancelled || x == .failed

/-- Neither Idle nor terminal. -/
def OpState.active (x : OpState) : Bool := x != .idle && !x.terminal

/-- Running, Suspending, Suspended and Cancelling hold their keys (R163). -/
def OpState.holds (x : OpState) : Bool := x == .running || x == .suspending || x == .suspended || x == .cancelling

/-- Running, Suspending and Cancelling hold the engine's domain (R164). -/
def OpState.votes (x : OpState) : Bool := x == .running || x == .suspending || x == .cancelling

/-- The code of a state (R165). -/
def OpState.code : OpState → Nat
  | .idle => 0
  | .queued => 1
  | .running => 2
  | .suspending => 3
  | .suspended => 4
  | .cancelling => 5
  | .done => 6
  | .cancelled => 7
  | .failed => 8

/-- Operation codes (R161). -/
abbrev opEvacuate : Nat := 0x01
abbrev opMigrate : Nat := 0x02
abbrev opThin : Nat := 0x03
abbrev opRekey : Nat := 0x04
abbrev opErase : Nat := 0x05
abbrev opMarch : Nat := 0x06
abbrev opScrub : Nat := 0x07
abbrev opRetrain : Nat := 0x08
abbrev opRetire : Nat := 0x09
abbrev opDrain : Nat := 0x0A
abbrev opResize : Nat := 0x0B
abbrev opImport : Nat := 0x0C

/-- What an operation holds against others (R161, R162). -/
inductive OpKey where
  | region (r : Nat)
  | page (r p : Nat)
  | stand (k : Nat)
  | keySlot (n : Nat)
  | sramBank (b : Nat)
  | chan (n : Nat)
  | dramBank (k n b : Nat)
  deriving DecidableEq, Repr

/-- Two keys conflict (R162). -/
def OpKey.conflicts : OpKey → OpKey → Bool
  | .region a, .page b _ => a == b
  | .page a _, .region b => a == b
  | .stand _, .chan _ => true
  | .chan _, .stand _ => true
  | .stand a, .dramBank b _ _ => a == b
  | .dramBank a _ _, .stand b => a == b
  | a, b => a == b

/-- The region that an operation names. -/
def OpSlot.region (o : OpSlot) : Nat := o.arg0.toNat % 65536

/-- The slot group of RETIRE kind 0, and stand, channel and bank of kind 1. -/
def OpSlot.retireSlot (o : OpSlot) : Nat := (o.arg1.toNat + bits o.arg2.toNat 3 0 * 2 ^ 32) / 16 * 16
def OpSlot.retireBank (o : OpSlot) : Nat × Nat × Nat :=
  (bits o.arg1.toNat 2 0, bits o.arg1.toNat 7 4, 4 * bits o.arg1.toNat 10 8 + bits o.arg1.toNat 13 12)

/-- The descriptor of a page as the cache or DRAM now holds it, read without effect. -/
def State.descPeek (s : State) (region page : Nat) : Desc :=
  match s.dcEntry region page with
  | some e => e.desc
  | none =>
    let (la, off) := descLine (s.region region).descBase page
    descOfBytes (((s.lineNow la).1.drop off).take 32)

/-- Regions that are valid and Ready, in ascending order. -/
def State.readyRegions (s : State) : List Nat :=
  (s.pipe.regions.filter fun e => e.2.valid && e.2.state == 0).map (·.1)

/-- The first page from `p` of a region that satisfies a test, among the next `n`. -/
def State.findPage (s : State) (r : Nat) (ok : Desc → Bool) : Nat → Nat → Option Nat
  | 0, _ => none
  | n + 1, p => if ok (s.descPeek r p) then some p else s.findPage r ok n (p + 1)

/-- The first page of any ready region that satisfies a test. -/
def State.findAny (s : State) (ok : Desc → Bool) : Option (Nat × Nat) :=
  s.readyRegions.findSome? fun r => (s.findPage r ok (s.region r).pageCount 0).map fun p => (r, p)

/-- A page holds a slot that satisfies a test. -/
def State.coversSlot (s : State) (ok : Nat → Bool) (d : Desc) : Bool := (s.slotsOf d).any ok

/-- The keys of an operation (R161, R749). -/
def State.opKeys (s : State) (o : OpSlot) : List OpKey :=
  if o.code = opThin ∨ o.code = opDrain then [.stand (bits o.arg0.toNat 2 0)]
  else if o.code = opRekey then
    [.region o.region, .keySlot (s.region o.region).keySlot, .keySlot (bits o.arg1.toNat 11 0)]
  else if o.code = opErase then [.region o.region, .keySlot (s.region o.region).keySlot]
  else if o.code = opMarch then [.sramBank (bits o.arg0.toNat 8 0)]
  else if o.code = opScrub then
    let m := bits o.arg1.toNat 15 0
    (((List.range 8).filter fun k => bit (bits o.arg0.toNat 7 0) k).map OpKey.stand)
      ++ ((s.chanList.filter fun n => m == 0 || bit m n).map OpKey.chan)
  else if o.code = opRetrain then [.chan (bits o.arg0.toNat 3 0)]
  else if o.code = opRetire then
    if bits o.arg0.toNat 1 0 = 2 then [.sramBank (bits o.arg1.toNat 8 0)]
    else if bits o.arg0.toNat 1 0 = 1 then
      let (k, n, b) := o.retireBank
      [.dramBank k n b]
    else
      match s.findAny (s.coversSlot fun x => x / 16 == o.retireSlot / 16) with
      | some (r, p) => [.page r p]
      | none => []
  else [.region o.region]

/-- The engine of an operation: 0 TIER, 1 CRY, 2 SRM, 3 DRC (R161). -/
def opEngine (code : Nat) : Nat :=
  if code = opRekey ∨ code = opErase then 1
  else if code = opMarch then 2
  else if code = opScrub ∨ code = opRetrain then 3
  else 0

/-- Every slot number. -/
abbrev opSlots : List Nat := List.range 32

/-- A slot whose operation is neither Idle nor terminal holds a key. -/
def State.keyHeld (s : State) (k : OpKey) : Bool :=
  opSlots.any fun i => (s.opSlot i).state.active && (s.opKeys (s.opSlot i)).contains k

/-- The domains that an operation's engine holds (R164, R776). -/
def State.opDomains (s : State) (o : OpSlot) : List Nat :=
  match opEngine o.code with
  | 0 => [8]
  | 1 => [11]
  | 2 => [0]
  | _ => (s.opKeys o).filterMap fun k => match k with | .chan n => some (chanDom n) | _ => none

/-- MGT_OP_STATE and MGT_OP_RESULT of a slot. -/
def OpSlot.stateWord (o : OpSlot) : Nat := bitNat o.rejected * 2 ^ 31 + o.state.code
def OpSlot.resultWord (o : OpSlot) : Nat := o.result * 2 ^ 24 + o.detail % 2 ^ 24

/-- The body of an OpStatus (R254). -/
def OpSlot.status (o : OpSlot) (i : Nat) : List Byte :=
  [BitVec.ofNat 8 i, BitVec.ofNat 8 (bitNat o.rejected * 128 + o.state.code), 0, 0]
    ++ beBytes 4 o.progress ++ beBytes 4 o.total ++ beBytes 4 o.resultWord

/-- The OpStatus of a terminal state to the session whose Start asked for it (R173). -/
def State.notifyOp (s : State) (i : Nat) : State :=
  let o := s.opSlot i
  match o.notify with
  | some (c, m) =>
    let s1 := s.setOp i { o with notify := none }
    s1.reply c (BitVec.ofNat 4 o.ownerEpoch) tOpStatus m stOK (o.status i)
  | none => s

/-- Votes that an operation holds on its stand fall with it. -/
def State.opRelease (s : State) (o : OpSlot) : State :=
  if o.code = opThin ∨ o.code = opDrain then
    s.setStand (bits o.arg0.toNat 2 0) { s.stand (bits o.arg0.toNat 2 0) with opVote := false }
  else if o.code = opScrub then
    ((List.range 8).filter fun k => bit (bits o.arg0.toNat 7 0) k).foldl
      (fun t k => t.setStand k { t.stand k with opVote := false }) s
  else s

/-- An operation ends Done with a result (R169). -/
def State.opDone' (s : State) (i result detail : Nat) : State :=
  let o := s.opSlot i
  ((((s.opRelease o).setOp i { o with state := .done, result := result, detail := detail }).raise 0x0209 i).notifyOp i)

/-- An operation ends Failed (R169). A drain that fails clears DRAINING (R451). -/
def State.opFail (s : State) (i result detail : Nat) : State :=
  let o := s.opSlot i
  let s1 :=
    if o.code = opDrain then
      s.setStand (bits o.arg0.toNat 2 0) { s.stand (bits o.arg0.toNat 2 0) with draining := false }
    else s
  ((((s1.opRelease o).setOp i { o with state := .failed, result := result, detail := detail }).raise 0x020A i).notifyOp i)

/-- One unit of an operation's progress. -/
def State.opProgress (s : State) (i n : Nat) : State :=
  s.setOp i { s.opSlot i with progress := (s.opSlot i).progress + n }

/-- An operation does work: it is Running, or Suspending or Cancelling short of its pause. -/
def OpSlot.working (o : OpSlot) (code : Nat) : Bool := o.code == code && o.state == .running

/-- A RESIZE_REGION that has begun and ends before its end: a grow gives its new run back; DEDUCED: a shrink releases the plots of
the array beyond the PAGE_COUNT it has reached (R751, R752, log 214). -/
def State.resizeUndo (s : State) (i : Nat) : State :=
  let o := s.opSlot i
  let r := s.region o.region
  match o.run with
  | some p => (s.setOp i { o with run := none }).freePlots p (descPlots o.newCount)
  | none =>
    if o.newCount < r.pageCount ∧ r.valid then
      s.freePlots (r.descBase / 256 + descPlots r.pageCount) (descPlots (o.newCount + o.total) - descPlots r.pageCount)
    else s

end Sys2Proof.Machine
end

