-- ==== Sys2Proof/Machine/PipeTables.lean ====
section
/-! DEFINITION. The manager's windows of the translate stage (R309 to R322, R353, R355): regions, grants, single
descriptors and the flush of the descriptor cache; and how a service agent takes a descriptor (R325, R352, R354). -/

namespace Sys2Proof.Machine

open Sys2Proof

/-! ### Service agents -/

/-- A service agent works on one descriptor under its lock: `f` on the descriptor, or `bad` where its fetch is
uncorrectable. It waits for its turn at the lock, a way, the stand, the channel or the pipeline's domain (R9, R325, R352,
R354). -/
def State.agent (s : State) (who region page m : Nat) (e : ReadErrs) (f : State → Desc → State)
    (bad : State → LineStatus → State) : State :=
  let slot := (descLine (s.region region).descBase page).1 / 4
  let n := s.slotChan slot
  if !s.up (pipeDom region page) then s.stall (pipeDom region page)
  else if s.lockWait who region page then s.takePlace who region page
  else if (s.dcEntry region page).isNone && !s.standServes (slotStand slot) then s.wakeStand (slotStand slot)
  else if (s.dcEntry region page).isNone && !s.chanOpen n && !s.chanLost n then s.stallChan n
  else
    match s.descOf? region page m e with
    | none => s
    | some (t, .ok d) => (f t d).leavePlace who region page
    | some (t, .error st) => (bad t st).leavePlace who region page

/-! ### Regions (R310 to R317) -/

/-- `n` words of 64 bits into 32-bit registers from an address, the low half first (R310). -/
def State.putWords (s : State) (a : Nat) (l : List Nat) : State :=
  (List.range l.length).foldl (fun t i =>
    (t.setReg (a + 8 * i) (BitVec.ofNat 32 (l.getD i 0))).setReg (a + 8 * i + 4) (BitVec.ofNat 32 (l.getD i 0 >>> 32))) s

/-- The 64-bit word `i` of a window's data registers. -/
def State.dataWord (s : State) (a i : Nat) : Nat := (s.reg (a + 8 * i)).toNat + 2 ^ 32 * (s.reg (a + 8 * i + 4)).toNat

/-- The region that PIPE_RGN_SEL names. -/
def State.rgnSel (s : State) : Nat := s.fld Reg.PIPE_RGN_SEL 15 0

/-- The entry staged in PIPE_RGN_DATA. -/
def State.rgnData (s : State) : Region :=
  regionOf (s.dataWord (Reg.PIPE_RGN_DATA 0) 0) (s.dataWord (Reg.PIPE_RGN_DATA 0) 1) (s.dataWord (Reg.PIPE_RGN_DATA 0) 2)

/-- A region command ends with a code. -/
def State.rgnEnd (s : State) (code : Nat) : State :=
  ({ s with pipe := { s.pipe with rgnBusy := false, rgnCode := code } }).wrote

/-- A region command: refused while BUSY is 1, and otherwise carried out; one whose write of the table is LOST fails with Retry
(R649). -/
def regionCmd (lost : Bool) (s t : State) : Host.Outcome State Fault Refusal :=
  commanding 3 true s (
    if s.pipe.rgnBusy then s.wrote stAccessDenied
    else if lost then
      (s.lostWrite (s.useBank 0x06 (s.rgnSel / 16384)) (8 * (s.rgnSel % 16384))).rgnEnd stRetry
    else t)

/-- The range rules of R311 on the fields that Modify shares with Create. -/
def Region.fieldsOk (r : Region) : Bool :=
  (r.writeFormat == 1 || r.writeFormat == 2) && !(r.writeFormat == 1 && r.dictClass != 0) && !(r.homeAtomic && !r.coherent)

/-- REGION_READ (R311). -/
def execRegionRead (s : State) : Host.Outcome State Fault Refusal :=
  regionCmd false s ((s.putWords (Reg.PIPE_RGN_DATA 0) (s.region s.rgnSel).words).rgnEnd stOK)

/-- REGION_CREATE (R311, R312). -/
def execRegionCreate (lost : Bool) (s : State) : Host.Outcome State Fault Refusal :=
  let r := s.rgnData
  regionCmd lost s (
    if (s.region s.rgnSel).valid then s.rgnEnd stAccessDenied
    else if !(decide (1 ≤ r.pageCount ∧ r.pageCount ≤ 2 ^ 34)) || !r.fieldsOk then s.rgnEnd stOutOfRange
    else
      match s.arrayRun (descPlots r.pageCount) with
      | none => s.rgnEnd stNoSpace
      | some p =>
        ((s.takePlots p (descPlots r.pageCount)).setRegion s.rgnSel
          { r with valid := true, enable := true, state := 1, descBase := 256 * p }).rgnEnd stOK)

/-- Descriptors of a region leave the cache. -/
def State.dropDescs (s : State) (region : Nat) : State :=
  { s with pipe := { s.pipe with cache := s.pipe.cache.filter fun e => e.1 / 2 ^ 34 != region } }

/-- Every populated channel takes requests and a stand serves: what a service agent that works through a stand needs. -/
def State.memoryOpen (s : State) (k : Nat) : Bool := s.standServes k && s.chanList.all fun n => s.chanOpen n || s.chanLost n

/-- REGION_INIT_DONE: the descriptor array is clear and the region becomes Ready (R313). Background work rests during
brace and until the device is Ready. -/
def execRegionInitDone (region : Nat) (s : State) : Host.Outcome State Fault Refusal :=
  let r := s.region region
  let ok := r.valid && r.state == 1 && !s.boot.brace && s.boot.stage == .ready && s.memoryOpen (slotStand r.descBase)
  let s1 := (s.dropDescs region).clearRange 11 (256 * r.descBase + 32 * r.initMark) (256 * r.descBase + 32 * r.pageCount)
  needing 3 ok s ((s1.setRegion region { r with state := 0, initMark := r.pageCount }).raise 0x4001 region)

/-- REGION_MODIFY (R314). -/
def execRegionModify (lost : Bool) (s : State) : Host.Outcome State Fault Refusal :=
  let r := s.region s.rgnSel
  let n := s.rgnData
  let moved := n.shareGroup != r.shareGroup || n.shareValid != r.shareValid || n.coherent != r.coherent
    || n.homeAtomic != r.homeAtomic
  regionCmd lost s (
    if !r.valid then s.rgnEnd stUnmapped
    else if (moved && (r.enable || r.cachedPages != 0)) || !n.fieldsOk then s.rgnEnd stAccessDenied
    else
      (s.setRegion s.rgnSel { r with
        policy := n.policy, dictClass := n.dictClass, writeFormat := n.writeFormat, patternOk := n.patternOk
        pinned := n.pinned, shareGroup := n.shareGroup, shareValid := n.shareValid, coherent := n.coherent
        homeAtomic := n.homeAtomic }).rgnEnd stOK)

/-- Requests of a region that have been translated and not answered (R315). -/
def State.translated (s : State) (region : Nat) : List Nat :=
  s.coh.flights.filterMap fun f =>
    if f.region = region ∧ f.stage ≠ .fetch ∧ f.stage ≠ .way ∧ f.stage ≠ .lock ∧ f.stage ≠ .ackWait then some f.id else none

/-- REGION_DISABLE: ENABLE becomes 0 and BUSY stays for what has been translated (R315). -/
def execRegionDisable (lost : Bool) (s : State) : Host.Outcome State Fault Refusal :=
  let r := s.region s.rgnSel
  let s1 := s.setRegion s.rgnSel { r with enable := false }
  regionCmd lost s (
    if !r.valid then s.rgnEnd stUnmapped
    else
      ({ s1 with pipe := { s1.pipe with
        rgnBusy := true, rgnCmd := 4, rgnSel := s.rgnSel, rgnHold := s.translated s.rgnSel } }).wrote)

/-- REGION_DISABLE_DRAINED: every request translated before Disable has completed (R315). -/
def execRegionDisableDrained (s : State) : Host.Outcome State Fault Refusal :=
  let left := s.pipe.rgnHold.filter fun i => (s.translated s.pipe.rgnSel).contains i
  needing 3 (s.pipe.rgnBusy && s.pipe.rgnCmd == 4 && left.isEmpty) s (s.rgnEnd stOK)

/-- An operation that needs its region disabled ends, and a growing resize returns its new run (R752, R756). -/
def State.enabledUnder (s : State) (region : Nat) : State :=
  opSlots.foldl (fun t i =>
    let o := t.opSlot i
    let source := o.code == opEvacuate && o.region == region
    if o.state.active && (source || ((o.code == opImport || o.code == opResize) && o.region == region)) then
      (if o.code == opResize && o.begun then t.resizeUndo i else t).opFail i rcBadArgument 0
    else t) s

/-- REGION_ENABLE (R311). -/
def execRegionEnable (lost : Bool) (s : State) : Host.Outcome State Fault Refusal :=
  let r := s.region s.rgnSel
  regionCmd lost s (
    if !r.valid then s.rgnEnd stUnmapped
    else if r.state = 2 then s.rgnEnd stAccessDenied
    else ((s.setRegion s.rgnSel { r with enable := true }).enabledUnder s.rgnSel).rgnEnd stOK)

/-- REGION_DESTROY: the region is set Releasing and its grants are removed (R316). -/
def execRegionDestroy (lost : Bool) (s : State) : Host.Outcome State Fault Refusal :=
  let rid := s.rgnSel
  let r := s.region rid
  let s1 := s.setRegion rid { r with state := 2 }
  regionCmd lost s (
    if !r.valid then s.rgnEnd stUnmapped
    else if r.enable || r.cachedPages != 0 || s.keyHeld (.region rid) then s.rgnEnd stAccessDenied
    else
      ({ s1 with pipe := { s1.pipe with
        grants := tabMap (fun _ => {}) (fun _ g => if g.valid && g.region == rid then { g with valid := false } else g) s1.pipe.grants
        rgnBusy := true, rgnCmd := 6, rgnSel := rid } }).wrote)

/-- Release the slots of pages `from_` to `from_ + n - 1` of a region, with the counts that depend on them. -/
def State.releasePages (s : State) (region from_ n : Nat) : State :=
  (List.range n).foldl (fun t i =>
    let d := t.descPeek region (from_ + i)
    if d.tier = 0 then t else (t.account region d {}).freeSlots (t.slotsOf d)) s

/-- REGION_RELEASED: slots and plots are back in the clearing (R316), and the region's rekey record is deleted (R521). -/
def execRegionReleased (s : State) : Host.Outcome State Fault Refusal :=
  let rid := s.pipe.rgnSel
  let r := s.region rid
  let s1 := (s.releasePages rid 0 r.pageCount).dropDescs rid
  let s2 := s1.freePlots (r.descBase / 256) (descPlots r.pageCount)
  let s3 := s2.setRegion rid { s2.region rid with valid := false, pagesStored := 0, slotsHeld := 0, cachedPages := 0 }
  let s4 := { s3 with cry := { s3.cry with
    records := s3.cry.records.filter fun e => !(e.2.valid && e.2.region == rid) } }
  needing 3 (s.pipe.rgnBusy && s.pipe.rgnCmd == 6 && s.memoryOpen (slotStand r.descBase)) s
    ((s4.raise 0x4002 rid).rgnEnd stOK)

/-! ### Grants (R318 to R320) -/

/-- The client and region of PIPE_GNT_KEY. -/
def State.gntKey (s : State) : Nat × Nat := (s.fld Reg.PIPE_GNT_KEY 11 0, s.fld Reg.PIPE_GNT_KEY 31 16)

/-- Rights and page range staged in PIPE_GNT_DATA, put into an entry. -/
def State.gntData (s : State) (g : Grant) : Grant :=
  let w0 := s.dataWord (Reg.PIPE_GNT_DATA 0) 0
  { g with
    manager := bit w0 36, caching := bit w0 35, atomic := bit w0 34, write := bit w0 33, read := bit w0 32
    first := bits (s.dataWord (Reg.PIPE_GNT_DATA 0) 2) 33 0, last := bits (s.dataWord (Reg.PIPE_GNT_DATA 0) 3) 33 0 }

/-- A grant command ends with a code. -/
def State.gntEnd (s : State) (code : Nat) : State := ({ s with pipe := { s.pipe with gntCode := code } }).wrote

/-- A grant command ends with the entry that it used. -/
def State.gntUsed (s : State) (i : Nat) : State := ({ s with pipe := { s.pipe with gntIndex := i } }).gntEnd stOK

/-- The entries of a chain from `i`, at most `n` of them (R319). -/
def State.grantChain (s : State) : Nat → Nat → List Nat
  | 0, _ => []
  | n + 1, i => if (s.grantAt i).chained then i :: s.grantChain n (s.grantAt i).next else [i]

/-- An entry is free: VALID and CHAINED are 0 and no chain names it (R320). -/
def State.grantFree (s : State) (i : Nat) : Bool :=
  !(s.grantAt i).valid && !(s.grantAt i).chained && !(s.pipe.grants.any fun e => e.2.chained && e.2.next == i)

/-- The lowest-numbered free entry. -/
def State.lowestFree (s : State) : Nat → Nat → Option Nat
  | 0, _ => none
  | n + 1, i => if s.grantFree i then some i else s.lowestFree n (i + 1)

/-- GRANT_READ (R320). -/
def execGrantRead (s : State) : Host.Outcome State Fault Refusal :=
  commanding 3 true s (
    match s.grantOf s.gntKey.1 s.gntKey.2 with
    | some (i, g) => (s.putWords (Reg.PIPE_GNT_DATA 0) g.words).gntUsed i
    | none => s.gntEnd stUnmapped)

/-- A grant command: one whose write of the table is LOST fails with Retry (R649). -/
def grantCmd (lost : Bool) (s t : State) : Host.Outcome State Fault Refusal :=
  commanding 3 true s (
    if lost then
      let i := grantBucket s.gntKey.1 s.gntKey.2
      (s.lostWrite (s.useBank 0x08 (i / 32768)) (4 * (i % 32768))).gntEnd stRetry
    else t)

/-- GRANT_ADD (R320). -/
def execGrantAdd (lost : Bool) (s : State) : Host.Outcome State Fault Refusal :=
  let (c, r) := s.gntKey
  let g := s.gntData { valid := true, client := c, region := r }
  let chain := s.grantChain 16 (grantBucket c r)
  grantCmd lost s (
    if (s.grantOf c r).isSome then s.gntEnd stAccessDenied
    else if !(s.region r).valid then s.gntEnd stUnmapped
    else if g.last < g.first then s.gntEnd stOutOfRange
    else
      match chain.find? fun i => !(s.grantAt i).valid with
      | some i =>
        (s.setGrantAt i { g with chained := (s.grantAt i).chained, next := (s.grantAt i).next }).gntUsed i
      | none =>
        match (if chain.length < 16 then s.lowestFree 65536 0 else none) with
        | some i =>
          let e := chain.getLastD 0
          ((s.setGrantAt i g).setGrantAt e { s.grantAt e with chained := true, next := i }).gntUsed i
        | none => (s.raise 0x4005).gntEnd stNoSpace)

/-- GRANT_MODIFY (R320, R321). -/
def execGrantModify (lost : Bool) (s : State) : Host.Outcome State Fault Refusal :=
  grantCmd lost s (
    match s.grantOf s.gntKey.1 s.gntKey.2 with
    | some (i, g) => (s.setGrantAt i (s.gntData g)).gntUsed i
    | none => s.gntEnd stUnmapped)

/-- GRANT_REMOVE (R320, R321). -/
def execGrantRemove (lost : Bool) (s : State) : Host.Outcome State Fault Refusal :=
  grantCmd lost s (
    match s.grantOf s.gntKey.1 s.gntKey.2 with
    | some (i, g) => (s.setGrantAt i { g with valid := false }).gntUsed i
    | none => s.gntEnd stUnmapped)

/-! ### Single descriptors (R355) -/

/-- A descriptor command ends with a code. -/
def State.dscEnd (s : State) (code : Nat) : State :=
  ({ s with pipe := { s.pipe with dscBusy := false, dscCode := code } }).wrote

/-- A descriptor command: refused while another holds BUSY; it answers from the region's checks, or takes the descriptor
under its lock, and keeps BUSY while it waits for one (R352, R354, R355). -/
def descCmd (cmd : Nat) (e : ReadErrs) (f : State → Desc → State) (s : State) : Host.Outcome State Fault Refusal :=
  let rid := s.fld Reg.PIPE_DSC_REGION 15 0
  let page := (s.reg Reg.PIPE_DSC_PAGE_LO).toNat + 2 ^ 32 * s.fld Reg.PIPE_DSC_PAGE_HI 1 0
  let r := s.region rid
  let s1 := ({ s with pipe := { s.pipe with dscBusy := true, dscCmd := cmd } }).wrote
  commanding 3 true s (
    if s.pipe.dscBusy && s.pipe.dscCmd != cmd then s.wrote stAccessDenied
    else if !r.valid || r.state == 2 then s.dscEnd stUnmapped
    else if r.pageCount ≤ page then s.dscEnd stOutOfRange
    else s1.agent agentWindow rid page 3 e (fun t d => (f t d).dscEnd stOK) (fun t _ => t.dscEnd stUncorrectable))

/-- DESC_READ (R355). -/
def execDescRead (errs : ReadErrs) (s : State) : Host.Outcome State Fault Refusal :=
  descCmd 1 errs (fun t d => t.putWords (Reg.PIPE_DSC_DATA 0) d.words) s

/-- Change PINNED of the descriptor that the window names. -/
def State.pinPage (s : State) (d : Desc) (on : Bool) : State :=
  s.putDesc (s.fld Reg.PIPE_DSC_REGION 15 0) ((s.reg Reg.PIPE_DSC_PAGE_LO).toNat + 2 ^ 32 * s.fld Reg.PIPE_DSC_PAGE_HI 1 0)
    { d with pinned := on }

/-- DESC_SET_PIN (R334, R355). -/
def execDescSetPin (errs : ReadErrs) (s : State) : Host.Outcome State Fault Refusal :=
  descCmd 2 errs (fun t d => t.pinPage d true) s

/-- DESC_CLEAR_PIN (R334, R355). -/
def execDescClearPin (errs : ReadErrs) (s : State) : Host.Outcome State Fault Refusal :=
  descCmd 3 errs (fun t d => t.pinPage d false) s

/-! ### The flush (R353) -/

/-- Write back every changed entry. -/
def State.flushCache (s : State) : State := s.pipe.cache.foldl (fun t e => match e.2 with | some d => t.writeBack e.1 d | none => t) s

/-- DC_FLUSH: the manager asks for a flush (R353). -/
def execDcFlush (s : State) : Host.Outcome State Fault Refusal :=
  commanding 3 true s (({ s with pipe := { s.pipe with flushing := true } }).wrote)

/-- DC_FLUSH_DONE: every changed entry is written back and FLUSHING clears (R353). -/
def execDcFlushDone (s : State) : Host.Outcome State Fault Refusal :=
  let stands := (List.range 8).filter fun k => s.pipe.cache.any fun e =>
    match e.2 with
    | some d => d.dirty && slotStand (s.region (e.1 / 2 ^ 34)).descBase == k
    | none => false
  let s1 := s.flushCache
  needing 3 (s.pipe.flushing && stands.all s.memoryOpen) s ({ s1 with pipe := { s1.pipe with flushing := false } })

end Sys2Proof.Machine
end

