-- ==== Sys2Proof/Machine/Coherence.lean ====
section
/-! DEFINITION. Share groups (R375) and holder sweeps (R397 to R399). -/

namespace Sys2Proof.Machine

open Sys2Proof

/-! ### Share groups (R375) -/

/-- A share group command ends with a code; MEMBER shows whether the client is a member. -/
def State.sgEnd (s : State) (code : Nat) : State :=
  let g := s.fld Reg.COH_SG_SEL 9 0
  ({ s with coh := { s.coh with sgCode := code, sgMember := (s.members g).contains (s.fld Reg.COH_SG_CLIENT 11 0) } }).wrote

/-- The state with the members of the selected group. -/
def State.setGroup (s : State) (l : List Nat) : State :=
  { s with coh := { s.coh with groups := tabSet (fun _ => []) s.coh.groups (s.fld Reg.COH_SG_SEL 9 0) l } }

/-- SG_READ. -/
def execSgRead (s : State) : Host.Outcome State Fault Refusal := commanding 7 true s (s.sgEnd stOK)

/-- SG_ADD. -/
def execSgAdd (s : State) : Host.Outcome State Fault Refusal :=
  let c := s.fld Reg.COH_SG_CLIENT 11 0
  let l := s.members (s.fld Reg.COH_SG_SEL 9 0)
  commanding 7 true s (
    if 512 ≤ l.length then s.sgEnd stNoSpace
    else if l.contains c then s.sgEnd stOK
    else (s.setGroup (insertBy id c l)).sgEnd stOK)

/-- SG_REMOVE. -/
def execSgRemove (s : State) : Host.Outcome State Fault Refusal :=
  let c := s.fld Reg.COH_SG_CLIENT 11 0
  let l := s.members (s.fld Reg.COH_SG_SEL 9 0)
  let swept := match s.coh.sweep with | some x => x.client == c | none => false
  commanding 7 true s (
    if (s.sess c).live || swept then s.sgEnd stAccessDenied else (s.setGroup (l.filter (· != c))).sgEnd stOK)

/-- SG_CLEAR. -/
def execSgClear (s : State) : Host.Outcome State Fault Refusal :=
  let l := s.members (s.fld Reg.COH_SG_SEL 9 0)
  commanding 7 true s (
    if l.any fun c => (s.sess c).live then s.sgEnd stAccessDenied else (s.setGroup []).sgEnd stOK)

/-! ### Holder sweeps (R397, R398) -/

/-- A region that the wide phase of a sweep reads: valid, Ready and coherent. -/
def Region.swept (r : Region) : Bool := r.valid && r.state == 0 && r.coherent

/-- The next page of the narrow phase: pages of the client's caching grants, grant by grant. -/
def State.narrowNext (s : State) (x : Sweep) : Option (Nat × Nat × Nat) :=
  s.pipe.grants.findSome? fun e =>
    let g := e.2
    let r := s.region g.region
    let p := if e.1 = x.index then max x.page g.first else g.first
    if g.valid && g.caching && g.client == x.client && r.valid && r.coherent && decide (x.index ≤ e.1) && decide (p ≤ g.last)
        && decide (p < r.pageCount) then some (e.1, g.region, p) else none

/-- The next page of the wide phase: every page of every swept region, in ascending order. -/
def State.wideNext (s : State) (x : Sweep) : Option (Nat × Nat × Nat) :=
  s.pipe.regions.findSome? fun e =>
    let p := if e.1 = x.index then x.page else 0
    if e.2.swept && decide (x.index ≤ e.1) && decide (p < e.2.pageCount) then some (e.1, e.1, p) else none

/-- The next page of a sweep, entering the wide phase where the narrow one is exhausted (R397). -/
def State.sweepNext (s : State) (x : Sweep) : Option (Sweep × Nat × Nat) :=
  let wide (y : Sweep) : Option (Sweep × Nat × Nat) :=
    (s.wideNext y).map fun n => ({ y with index := n.1, page := n.2.2 + 1 }, n.2.1, n.2.2)
  if x.wide then wide x
  else
    match s.narrowNext x with
    | some n => some ({ x with index := n.1, page := n.2.2 + 1 }, n.2.1, n.2.2)
    | none => wide { x with wide := true, index := 0, page := 0 }

/-- The state with the sweep that runs. -/
def State.setSweep (s : State) (x : Option Sweep) : State := { s with coh := { s.coh with sweep := x } }

/-- HOLDER_SWEEP_START: the queue's head is swept next (R397). -/
def execHolderSweepStart (s : State) : Host.Outcome State Fault Refusal :=
  match s.kct.sweepQ with
  | [] => .next s
  | c :: rest =>
    needing 7 s.coh.sweep.isNone s
      (({ s with kct := { s.kct with sweepQ := rest } }).setSweep (some { client := c, epoch := (s.sess c).epoch }))

/-- HOLDER_SWEEP_PAGE: the dead-session handling of one descriptor, or the end of the wide phase (R397, R398). -/
def execHolderSweepPage (errs : ReadErrs) (s : State) : Host.Outcome State Fault Refusal :=
  match s.coh.sweep with
  | none => .next s
  | some x =>
    let t :=
      match s.sweepNext x with
      | none => s.setSweep (some { x with wide := true, ended := true })
      | some (y, region, page) =>
        s.agent agentSweep region page 11 errs
          (fun t _ =>
            let (u, n) := t.deadHolder region page x.client
            u.setSweep (some { y with stale := y.stale + n }))
          (fun t _ => t.setSweep (some { y with passed := y.passed + 1 }))
    needing 7 (!x.ended && (s.ctx x.client).held != 0) s t

/-- HOLDER_SWEEP_END: HELD is 0 or the wide phase is over (R397). -/
def execHolderSweepEnd (s : State) : Host.Outcome State Fault Refusal :=
  match s.coh.sweep with
  | none => .next s
  | some x =>
    let c := s.ctx x.client
    let s1 := (s.setCtx x.client { c with held := 0, owned := 0, sweeping := false }).setSweep none
    needing 7 (x.ended || c.held == 0) s (s1.raise 0x5002 x.stale x.passed)

end Sys2Proof.Machine
end

