-- ==== Sys2Proof/Machine/MoverBase.lean ====
section
/-! DEFINITION. What every relocation of a page uses (R329, R336, R408 to R411, R416 to R420, R433 to R436): reading a
stored page without decrypting it, laying it out afresh, moves and their commit. -/

namespace Sys2Proof.Machine

open Sys2Proof

/-! ### When background work may run (R88, R124, R141, R434, R717) -/

/-- A MGR bit of a domain's votes is set. -/
def State.mgrVote (s : State) (d : Nat) : Bool := s.fld (Reg.PWR_VOTE d) 31 24 != 0

/-- Work that the block in domain `d` with registers at `base` may begin (R141, R717), outside brace and warm reset. -/
def State.mayBegin (s : State) (d base : Nat) : Bool :=
  (s.stateVote d || s.mgrVote d) && s.enabled base && !s.boot.brace && !s.boot.draining && s.boot.stage == .ready

/-- The mover runs (R434). -/
def State.moverOn (s : State) : Bool := s.flag Reg.TIER_CTRL 0 && !s.boot.brace && !s.boot.draining && s.boot.stage == .ready

/-! ### Reading stored lines -/

/-- The lines can be read by a master now: their stand serves, their channels answer and the budget allows them. -/
def State.canRead (s : State) (m : Nat) (las : List Nat) : Bool :=
  las.all fun la =>
    let n := s.slotChan (la / 4)
    s.standServes (slotStand (la / 4)) && (s.chanLost n || (s.chanOpen n && s.mayPass n m))

/-- How bad a line is: 0 readable, 1 LOST, 2 poisoned, 3 uncorrectable. -/
def LineStatus.badness : LineStatus → Nat
  | .clean => 0
  | .corrected => 0
  | .lost => 1
  | .poisoned => 2
  | .uncorrectable => 3

/-- Read lines as they are stored: bytes and tags, and the worst status. -/
def State.readLines (s : State) (m : Nat) (las : List Nat) (errs : List ReadErrs) : State × List (List Byte × Byte) × Nat :=
  (List.range las.length).foldl (fun (acc : State × List (List Byte × Byte) × Nat) i =>
    let (t, r) := acc.1.readDirect m (las.getD i 0) (errs.getD i ReadErrs.none)
    (t, acc.2.1 ++ [(r.bytes, r.tag)], max acc.2.2 r.status.badness)) (s, [], 0)

/-- The lines of every slot of a page. -/
def State.pageLines (s : State) (d : Desc) : List Nat := (s.slotsOf d).flatMap slotLines

/-- The chain of a stream is whole (R411). -/
def State.chainWhole (s : State) (d : Desc) : Bool :=
  d.isGroup || (s.slotsOf d).length == d.priCount + d.offCount

/-! ### Laying a page out afresh -/

/-- What comes of laying a copy out: no slots, no room in the channels' queues yet, or the state with the copy written, its
slots and the descriptor's new location. -/
inductive Laid where
  | noSpace
  | wait
  | done (s : State) (slots : List Nat) (d : Desc)

/-- The line writes of a group with its lines' bytes and tags. -/
def groupWrites (x : Nat) (copy : List (List Byte × Byte)) : List LineWr :=
  (List.range 64).map fun i =>
    let l := copy.getD i (List.replicate 64 0, 0)
    { la := 4 * x + i, bytes := l.1.map some, tag := some l.2 }

/-- The bodies of a stream's slots out of its copied lines. -/
def copyBodies (n : Nat) (copy : List (List Byte × Byte)) : List (List Byte) :=
  (List.range n).map fun i => ((List.range 4).map fun l => (copy.getD (4 * i + l) (List.replicate 64 0, 0)).1).flatten

/-- Write a copy of a page's slots into new slots of the same form from an opener, link words rewritten (R408, R410). -/
def State.lay (s : State) (m : Nat) (d : Desc) (copy : List (List Byte × Byte)) (tier o : Nat) (open_ : Opener) : Laid :=
  if d.isGroup then
    match s.takeGroup o open_ with
    | (_, none) => .noSpace
    | (t, some x) =>
      match t.postWrites m (groupWrites x copy) with
      | none => .wait
      | some u => .done u (groupSlots x) (d.inGroup tier d.raw x)
  else
    match s.takeExtent o d.priCount d.priCount d.offCount open_ with
    | (_, none) => .noSpace
    | (t, some sl) =>
      let bodies := (List.range sl.length).map fun i => slotBytes d.priCount sl i ((copyBodies sl.length copy).getD i [])
      match t.postWrites m (slotWrites sl bodies) with
      | none => .wait
      | some u => .done u sl (d.inExtent tier sl d.priCount d.compLen d.format d.dict)

/-- An opener of the mover in an Awake stand: the one with the most free slots, and no reserve of plots (R417, R418). -/
def openMover (o : Nat) : Opener := fun len k s =>
  match k with
  | some k => s.openIn o k len
  | none =>
    match s.bestStand (fun k => s.role k == 1) with
    | some k => s.openIn o k len
    | none => (s, false)

/-- The plots of some slots marked full for an allocation that has to go elsewhere, and their bitmaps restored after it. -/
def State.hidePlots (s : State) (slots : List Nat) : State :=
  (slots.map (· / 256)).dedup.foldl (fun t p => t.setBitmap p (BitVec.allOnes 256)) s
def State.showPlots (s old : State) (slots : List Nat) : State :=
  (slots.map (· / 256)).dedup.foldl (fun t p => t.setBitmap p (old.bitmap p)) s

/-! ### Moves (R433, R435, R436) -/

/-- A page's descriptor is in the cache, or its stand, channel and set let it be fetched now. -/
def State.descAtHand (s : State) (region page : Nat) : Bool :=
  let slot := (descLine (s.region region).descBase page).1 / 4
  let n := s.slotChan slot
  (s.dcEntry region page).isSome ||
    (s.standServes (slotStand slot) && (s.chanOpen n || s.chanLost n) && (s.dcRoom region page).isSome)

/-- The mover can take a page's descriptor now: it is its turn at the lock, and the descriptor is at hand. -/
def State.descReach (s : State) (region page : Nat) : Bool := !s.lockWait agentMover region page && s.descAtHand region page

/-- Work of the mover on a descriptor that is not pinned, fetching it where the cache does not hold it; nothing where it cannot
be had. -/
def State.amend (s : State) (region page : Nat) (f : State → Desc → State) : State :=
  if !s.descReach region page then s
  else match s.descOf? region page 3 ReadErrs.none with
    | some (t, .ok d) => f t d
    | _ => s

/-- A move ends without a commit (R434, R436): its copy's slots are returned, and its descriptor is restored under the lock, for
which the mover may have to wait. A page whose descriptor cannot be fetched is left to R435. -/
def State.undoMove (s : State) (m : Move) (poison : Bool) : State :=
  let s1 := s.freeSlots m.slots
  let bad := poison || m.ending.getD false
  if s1.lockWait agentMover m.region m.page then
    (s1.putMove { m with slots := [], newDesc := none, ending := some bad }).takePlace agentMover m.region m.page
  else if s1.descAtHand m.region m.page then
    match s1.descOf? m.region m.page 3 ReadErrs.none with
    | some (t, .ok _) => (t.restoreMoved m bad).leavePlace agentMover m.region m.page
    | _ => (s1.dropMove m.region m.page).leavePlace agentMover m.region m.page
  else (s1.dropMove m.region m.page).leavePlace agentMover m.region m.page

/-- A move is abandoned on uncorrectable source data (R436): `bad` as the lines' worst status. -/
def State.abandonMove (s : State) (m : Move) (bad : Nat) : State :=
  let s1 := match m.op with | some i => s.setOp i { s.opSlot i with ue := (s.opSlot i).ue + 1 } | none => s
  ((s1.undoMove m (decide (2 ≤ bad))).tierCount 9 1).raise 0x600A (pageDetail m.region m.page)

/-- The counters of a committed move (R455). -/
def State.countMove (s : State) (m : Move) (d : Desc) : State :=
  match m.kind with
  | .promoteC => s.tierCount 0 1
  | .promoteU => s.tierCount 1 1
  | .demoteU => if d.raw then s.tierCount 4 1 else if d.tier = 4 then s.tierCount 2 1 else s
  | .batch => s.tierCount 3 1
  | .thin => s.tierCount 11 1
  | _ => s

/-- The warmth of a page that MIGRATE_TIER has moved (R751). -/
def State.migrated (s : State) (region : Nat) (m : Move) (d : Desc) : Desc :=
  match m.op with
  | some i =>
    if (s.opSlot i).code = opMigrate then
      { d with
        warmth := if d.tier = 3 then bits (s.policyWord (s.region region).policy 1).toNat 31 16 else 0
        epoch := s.tier.epoch }
    else d
  | none => d

/-- A demotion has stored a stream, and MEAN_c learns of it (R476). -/
def State.learnMove (s : State) (m : Move) (d : Desc) : State :=
  if m.kind == .demoteU && d.format != 0 then s.learnMean d.dict (d.priCount + d.offCount) else s

/-- Install a move's new location under the lock, or discard its copy where the page has left Transit or its location has
changed (R336), and release the source slots (R329). -/
def State.installMove (s : State) (m : Move) (cur : Desc) : State :=
  match m.newDesc with
  | none => s
  | some nd =>
    if cur.tier ≠ 6 ∨ !cur.sameLoc m.src then ((s.freeSlots m.slots).dropMove m.region m.page).tierCount 9 1
    else
      let keep := m.kind == .demoteU && nd.raw
      let old := if keep then [] else s.slotsOf cur
      let d := s.migrated m.region m ((cur.relocate nd))
      let s1 := ((s.putDesc m.region m.page d).dropMove m.region m.page).release m.region m.page cur old
      (s1.countMove m d).learnMove m d

/-- A relocation's progress for the operation that it serves: slots of a drain, pages of a retirement (R749). -/
def State.moveProgress (s : State) (m : Move) : State :=
  match m.op with
  | some i =>
    if (s.opSlot i).code = opDrain then s.opProgress i m.slots.length
    else if (s.opSlot i).code = opRetire then s.opProgress i 1
    else s
  | none => s

/-- Commit a move, with the descriptor's fetch `e`; none where it has to wait for its descriptor. -/
def State.commitMove (s : State) (m : Move) (e : ReadErrs) : Option State :=
  if !s.descReach m.region m.page then none
  else
    match s.descOf? m.region m.page 3 e with
    | none => none
    | some (t, .error _) => some (((t.freeSlots m.slots).dropMove m.region m.page).leavePlace agentMover m.region m.page)
    | some (t, .ok d) =>
      let u := t.installMove m d
      some ((if d.tier = 6 && d.sameLoc m.src then u.moveProgress m else u).leavePlace agentMover m.region m.page)

/-- The mover waits for a page's descriptor: for its turn at the lock (R9), or for the stand or the channel of its fetch. -/
def State.moverWaits (s : State) (region page : Nat) : State :=
  let slot := (descLine (s.region region).descBase page).1 / 4
  let n := s.slotChan slot
  if s.lockWait agentMover region page then s.takePlace agentMover region page
  else if (s.dcEntry region page).isSome then s
  else if !s.standServes (slotStand slot) then s.wakeStand (slotStand slot)
  else if !s.chanOpen n && !s.chanLost n then s.stallChan n
  else s

/-- Start a move under the lock (R433 step 1). -/
def State.startMove (s : State) (m : Move) (d : Desc) : State :=
  let s1 := s.putDesc m.region m.page { d with tier := 6 }
  { s1 with tier := { s1.tier with moves := s1.tier.moves ++ [m], stopped := false } }

/-- Relocate a page whole (R433 steps 1 and 2): read its slots, lay them out by `open_` away from some plots, and put it in
Transit with the copy written; the commit follows. A page that cannot be read is abandoned; `noRoom` says what happens
where no slots are found. -/
def State.relocate (s : State) (master o : Nat) (open_ : Opener) (away : List Nat) (m : Move) (errs : List ReadErrs)
    (noRoom : State → State) : State :=
  let d := m.src
  let lines := s.pageLines d
  if !s.canRead master lines then s
  else if !s.chainWhole d then s.raise 0x6006 (pageDetail m.region m.page)
  else
    let (s1, copy, bad) := s.readLines master lines errs
    if bad ≠ 0 then
      let s2 := if 2 ≤ bad then s1.poisonPage m.region m.page else s1
      let s3 := match m.op with | some i => s2.setOp i { s2.opSlot i with ue := (s2.opSlot i).ue + 1 } | none => s2
      (s3.tierCount 9 1).raise 0x600A (pageDetail m.region m.page)
    else
      match ((s1.setOpen o (if (s1.openPlot o).any fun p => away.contains (256 * p) then none else s1.openPlot o)).hidePlots away).lay
          master d copy d.tier o open_ with
      | .noSpace => noRoom s1
      | .wait => s
      | .done t slots nd => (t.showPlots s1 away).startMove { m with slots := slots, newDesc := some nd } d

end Sys2Proof.Machine
end

