-- ==== Sys2Proof/Machine/Mover.lean ====
section
/-! DEFINITION. The mover (R350, R424 to R445, R781): the epoch, the scan, moves, demotion, batches and promotions. -/

namespace Sys2Proof.Machine

open Sys2Proof

/-! ### Epochs and policy (R424, R428 to R432) -/

/-- EPOCH_ADVANCE: EPOCH_LEN has passed (R424). -/
def execEpochAdvance (s : State) : Host.Outcome State Fault Refusal :=
  guarded s.live s { s with tier := { s.tier with epoch := (s.tier.epoch + 1) % 65536 } }

/-- A page that the mover does not demote (R337, R428). -/
def State.heldWarm (s : State) (region : Nat) (d : Desc) : Bool := d.pinned || (s.region region).pinned || d.poison

/-- What R428 makes of a page: the kind of its demotion, if it is due for one. Demotion pauses where no compression lane is
in service (R482), or where no Floor stand has room (R442). -/
def State.dueMove (s : State) (region : Nat) (d : Desc) : Option MoveKind :=
  let c := (s.region region).policy
  let w1 := (s.policyWord c 1).toNat
  let w2 := (s.policyWord c 2).toNat
  let w3 := (s.policyWord c 3).toNat
  if s.heldWarm region d then none
  else if d.tier = 3 ∧ s.decayed d ≤ bits w1 15 0 ∧ !s.cLanes.isEmpty then some .demoteU
  else if d.tier = 4 ∧ bit w3 0 ∧ s.decayed d ≤ bits w2 15 0 ∧ (s.tier.pressure ∨ bits w2 31 16 ≤ s.age d) ∧ !s.tier.noFloor then
    some .batch
  else none

/-- A page whose age is about to wrap (R431). -/
def State.ageDue (s : State) (d : Desc) : Bool := decide (3 ≤ d.tier ∧ d.tier ≤ 5) && decide (32768 ≤ s.age d)

/-- TIER_POL_COMMIT: the staged policy table takes effect, or is refused whole (R430). -/
def execTierPolCommit (s : State) : Host.Outcome State Fault Refusal :=
  let bad := (List.range 16).find? fun c =>
    let df := s.fld (Reg.TIER_POL c 2) 15 0
    let du := s.fld (Reg.TIER_POL c 1) 15 0
    let pr := s.fld (Reg.TIER_POL c 1) 31 16
    !(decide (df ≤ du ∧ du < pr))
  commanding 8 true s (
    match bad with
    | some c => ((s.setReg Reg.TIER_POL_STATUS (BitVec.ofNat 32 (2 ^ 31 + c))).raise 0x6005).wrote
    | none =>
      let p := (List.range 64).foldl (fun t i =>
        tabSet (fun i => if i % 4 = 0 then 0x1000_0400 else if i % 4 = 1 then 0x2000_0100 else if i % 4 = 2 then 0x0258_0000 else 5)
          t i (s.reg (Reg.TIER_POL (i / 4) (i % 4)))) s.tier.policy
      (({ s with tier := { s.tier with policy := p } }).setReg Reg.TIER_POL_STATUS 0).wrote)

/-! ### The scan (R431, R432, R435, R437) -/

/-- The next descriptor of the scan: from its cursor, ready regions in ascending order. -/
def State.scanNext (s : State) : Option (Nat × Nat) :=
  s.readyRegions.findSome? fun r =>
    let p := if r = s.tier.scanRegion then s.tier.scanPage else 0
    if s.tier.scanRegion ≤ r ∧ p < (s.region r).pageCount then some (r, p) else none

/-- What the scan does with a descriptor that it has read from DRAM: the age rule and the inferred restore under the lock,
or a page to demote noted (R431, R435, R437). -/
def State.scanned (s : State) (region page : Nat) (seen : Desc) : State :=
  if s.dcPinned region page then s
  else
    let s1 :=
      if s.ageDue seen then
        s.amend region page fun t d =>
          if t.ageDue d then t.putDesc region page { d with warmth := 0, epoch := (t.tier.epoch + 65536 - 32767) % 65536 } else t
      else if seen.tier = 6 then s.amend region page fun t _ => t.inferTransit region page
      else s
    if (s1.dueMove region seen).isSome && !s1.tier.picked.contains (region, page) then
      { s1 with tier := { s1.tier with picked := s1.tier.picked ++ [(region, page)] } }
    else s1

/-- A batch buffer. -/
def State.batch (s : State) (i : Nat) : Batch := if i = 0 then s.tier.batch0 else s.tier.batch1

/-- The state with a batch buffer replaced. -/
def State.setBatch (s : State) (i : Nat) (b : Batch) : State :=
  { s with tier := if i = 0 then { s.tier with batch0 := b } else { s.tier with batch1 := b } }

/-- Slots that a descriptor's page takes in a batch. -/
def Desc.batchSlots (d : Desc) : Nat := if d.isGroup then 16 else d.priCount + d.offCount

/-- The Floor stand that a batch goes to: an Awake one with room, else the one with the most free slots (R441). -/
def State.floorStand (s : State) (need : Nat) : Option Nat :=
  let room (k : Nat) : Bool := s.role k == 2 && decide (need ≤ s.freeOf k)
  match s.bestStand fun k => room k && s.standServes k with
  | some k => some k
  | none => s.bestStand room

/-- The stand that a batch's next extent goes to (R441, R442). -/
def State.batchTarget (s : State) (b : Batch) : Option Nat :=
  let need := ((b.moves.head?.bind fun x => s.moveOf x.1 x.2).map fun m => m.src.batchSlots).getD 1
  if b.writing && decide (need ≤ s.freeOf b.stand) then some b.stand else s.floorStand need

/-- The mover can start a move of a page now. -/
def State.startable (s : State) (region page : Nat) : Bool :=
  !s.dcPinned region page && (s.moveOf region page).isNone && s.descAtHand region page

/-- A captured or queued promotion can start: it goes before all other work of the mover. -/
def State.promoFirst (s : State) : Bool :=
  (s.tier.captures.any fun m => s.startable m.region m.page) ||
    s.tier.promos.any fun p =>
      s.startable p.region p.page && s.canRead 4 (s.pageLines (s.descPeek p.region p.page))

/-- A closed batch can be written: it goes before the scan. -/
def State.batchFirst (s : State) : Bool :=
  [s.tier.batch0, s.tier.batch1].any fun b =>
    b.closed && (match s.batchTarget b with | some k => s.standServes k | none => false)

/-- The scan runs (R437, R717). -/
def State.scanOn (s : State) : Bool := s.moverOn && s.flag Reg.TIER_CTRL 1 && s.mayBegin 8 0x600000

/-- SCAN_VISIT: the scan reads the next descriptor, after promotions and batches that can go on (R437). -/
def execScanVisit (errs : List ReadErrs) (s : State) : Host.Outcome State Fault Refusal :=
  match s.scanNext with
  | none => .next s
  | some (region, page) =>
    let (la, off) := descLine (s.region region).descBase page
    let (s1, r) := s.readDirect 4 la (errs.headD ReadErrs.none)
    let s2 := { s1 with tier := { s1.tier with scanRegion := region, scanPage := page + 1 } }
    needing 8 (s.scanOn && s.canRead 4 [la] && !s.promoFirst && !s.batchFirst) s
      (if r.status.badness = 0 then s2.scanned region page (descOfBytes ((r.bytes.drop off).take 32)) else s2)

/-- SCAN_PASS_END: every region has been passed (R432, R437). -/
def execScanPassEnd (s : State) : Host.Outcome State Fault Refusal :=
  let n := (s.tier.epoch + 65536 - s.tier.scanStart) % 65536
  let passes := (s.fld Reg.TIER_SCAN_PASS 31 16 + 1) % 65536
  let s1 := s.setReg Reg.TIER_SCAN_PASS (BitVec.ofNat 32 (passes * 65536 + n))
  let s2 := if 16384 < n then s1.raise 0x6004 else s1
  needing 8 (s.scanOn && s.scanNext.isNone) s
    { s2 with tier := { s2.tier with scanRegion := 0, scanPage := 0, scanStart := s.tier.epoch } }

/-! ### Batches (R439 to R442) -/

/-- The buffer that fills. -/
def State.openBatch (s : State) : Option Nat :=
  if !s.tier.batch0.closed then some 0 else if !s.tier.batch1.closed then some 1 else none

/-- BATCH_FILL in slots (TIER_MOVER_CFG). -/
def State.batchFill (s : State) : Nat := s.fld Reg.TIER_MOVER_CFG 31 24 * 1024

/-! ### Starting moves (R433, R438, R439, R443 to R445) -/

/-- The page leaves the lists that could start a move of it. -/
def State.dropWork (s : State) (region page : Nat) : State :=
  { s with tier := { s.tier with
    captures := s.tier.captures.filter fun m => !(m.region == region && m.page == page)
    promos := s.tier.promos.filter fun p => !(p.region == region && p.page == page)
    picked := s.tier.picked.filter (· != (region, page)) } }

/-- Write a Floor page's copy as an extent in an Awake stand and put the page in Transit (R443, R445). -/
def State.startPromoteU (s back : State) (m : Move) (d : Desc) : State :=
  match s.lay 4 d m.copy 4 26 (openMover 26) with
  | .noSpace => s.tierCount 9 1
  | .wait => back
  | .done t slots nd => t.startMove { m with slots := slots, newDesc := some nd } d

/-- A page joins the open batch with a copy of its slots (R439). -/
def State.startBatch (s : State) (m : Move) (d : Desc) (errs : List ReadErrs) : State :=
  match s.openBatch with
  | none => s
  | some i =>
    let b := s.batch i
    let lines := s.pageLines d
    if s.batchFill < b.slots + d.batchSlots || !s.canRead 4 lines then s
    else if !s.chainWhole d then (s.dropWork m.region m.page).raise 0x6006 (pageDetail m.region m.page)
    else
      let (s1, copy, bad) := (s.dropWork m.region m.page).readLines 4 lines errs
      if bad ≠ 0 then
        let s2 := if 2 ≤ bad then s1.poisonPage m.region m.page else s1
        (s2.tierCount 9 1).raise 0x600A (pageDetail m.region m.page)
      else
        (s1.startMove { m with copy := copy, copied := true } d).setBatch i { b with
          moves := b.moves ++ [(m.region, m.page)], slots := b.slots + d.batchSlots
          openedAt := if b.moves.isEmpty then s.now else b.openedAt }

/-- What MOVE_START does with a page on its locked descriptor: a captured page, a queued promotion or a page that the scan
has picked, in that order (R433, R437 to R439, R443 to R445). -/
def State.beginMove (s : State) (region page : Nat) (d : Desc) (errs : List ReadErrs) : State :=
  let mine (r p : Nat) : Bool := r == region && p == page
  let m : Move := { region := region, page := page, kind := .demoteU, src := d }
  let s1 := s.dropWork region page
  match s.tier.captures.find? fun c => mine c.region c.page with
  | some c =>
    if d.tier = 5 && d.sameLoc c.src && !d.poison then
      s1.startPromoteU s { c with src := d } d
    else s1
  | none =>
    match s.tier.promos.find? fun p => mine p.region p.page with
    | some p =>
      if d.tier = 4 && !d.poison then s1.startMove { m with kind := .promoteC } d
      else if d.tier = 5 && p.hint && !d.poison then
        let lines := s.pageLines d
        if !s.canRead 4 lines then s
        else if !s.chainWhole d then s1.raise 0x6006 (pageDetail region page)
        else
          let (s2, copy, bad) := s1.readLines 4 lines errs
          if bad ≠ 0 then
            let s3 := if 2 ≤ bad then s2.poisonPage region page else s2
            (s3.tierCount 9 1).raise 0x600A (pageDetail region page)
          else s2.startPromoteU s { m with kind := .promoteU, copy := copy, copied := true } d
      else s1
    | none =>
      if s.tier.picked.contains (region, page) then
        match s.dueMove region d with
        | some .demoteU => s1.startMove m d
        | some .batch => s.startBatch { m with kind := .batch } d errs
        | _ => s1
      else s

/-- MOVE_START: the mover records a move and sets the page to Transit (R433). The first of `errs` is the descriptor's
fetch, the others are the page's lines. A pinned entry is left for the next pass (R10), and what the scan has picked waits for
promotions that can start. -/
def execMoveStart (region page : Nat) (errs : List ReadErrs) (s : State) : Host.Outcome State Fault Refusal :=
  let work := s.tier.captures.any (fun m => m.region == region && m.page == page)
    || s.tier.promos.any (fun p => p.region == region && p.page == page) || s.tier.picked.contains (region, page)
  let promo := s.tier.captures.any (fun m => m.region == region && m.page == page)
    || s.tier.promos.any (fun p => p.region == region && p.page == page)
  let ok := s.moverOn && work && !s.dcPinned region page && (s.moveOf region page).isNone && (promo || !s.promoFirst)
  needing 8 ok s
    (s.agent agentMover region page 3 (errs.headD ReadErrs.none) (fun t d => t.beginMove region page d (errs.drop 1))
      (fun t _ => t.dropWork region page))

/-- MOVE_COMMIT: a move's copy is in place, and the page is committed there or the copy discarded (R336, R433). -/
def execMoveCommit (region page : Nat) (errs : ReadErrs) (s : State) : Host.Outcome State Fault Refusal :=
  match s.moveOf region page with
  | none => .next s
  | some m =>
    if s.up (pipeDom region page) then
      needing 8 (m.newDesc.isSome && m.kind != .batch) s
        (match s.commitMove m errs with | some t => t | none => s.moverWaits region page)
    else .next (s.stall (pipeDom region page))

/-! ### Demotion to Understory (R438, R471) -/

/-- Encrypt units under a page's keys, one of them checked as `ok` and `again` say (R512, R513). -/
def State.encryptUnits (s : State) (k1 k2 : BitVec 256) (region page engine : Nat) (ok again : Bool) (l : List XUnit) :
    State × Option (List (XUnit × List Byte)) :=
  let (s1, good) := (s.cryCount 0 (l.length - 1)).unitCheck engine ok again
  (s1, if good then some (l.map fun u => (u, xtsEnc k1 k2 (xtsTweak region page u.slotForm u.ordinal) u.plain)) else none)

/-- A unit of the mover fails its check twice: the page stays where it is (R513). -/
def State.moverCheckFail (s : State) (m : Move) : State :=
  ((s.undoMove m false).tierCount 9 1).raise 0x8002 (pageDetail m.region m.page)

/-- The page of a group's stored lines, where every plaintext tag agrees (R603). -/
def groupPlain (k1 k2 : BitVec 256) (region page : Nat) (copy : List (List Byte × Byte)) : Option (List Byte) :=
  let plain := (List.range copy.length).map fun i =>
    xtsDec k1 k2 (xtsTweak region page false i) (copy.getD i ([], 0)).1
  if (List.range copy.length).all fun i => crc8Bytes (plain.getD i []) == (copy.getD i ([], 0)).2 then some plain.flatten else none

/-- One line of a group decrypted and checked: none where its tag fails, the engine at fault among the causes. -/
def groupUnit (k1 k2 : BitVec 256) (region page i : Nat) (l : List Byte × Byte) (engineFault : Bool) : Option (List Byte) :=
  let p := xtsDec k1 k2 (xtsTweak region page false i) l.1
  if crc8Bytes p = l.2 ∧ !engineFault then some p else none

/-- The lines of a group decrypted, from line `i` on: one whose tag fails is read again by its master and decrypted in another
engine; none where it fails again, counted and with event 0x030A (R605). The caller marks the page POISON. -/
def State.groupRead (s : State) (m : Nat) (k1 k2 : BitVec 256) (region page : Nat) :
    List Nat → List (List Byte × Byte) → List ReadErrs → Nat → State × Option (List Byte)
  | [], _, _, _ => (s, some [])
  | la :: lines, copy, errs, i =>
    let e := errs.headD ReadErrs.none
    let next (t : State) (p : List Byte) : State × Option (List Byte) :=
      match t.groupRead m k1 k2 region page lines copy.tail errs.tail (i + 1) with
      | (u, none) => (u, none)
      | (u, some ps) => (u, some (p ++ ps))
    match groupUnit k1 k2 region page i (copy.headD ([], 0)) e.engineFault with
    | some p => next s p
    | none =>
      let (s1, r) := s.readDirect m la { e with first := e.tagRead, again := e.tagRead }
      match if r.status.badness = 0 then groupUnit k1 k2 region page i (r.bytes, r.tag) false else none with
      | some p => next ((s1.count Reg.RAS_TAG_RETRY_OK).raise 0x0309) p
      | none => ((s1.count Reg.RAS_TAG_FAIL).raise 0x030A (pageDetail region page), none)

/-- A page that demotion finds Zero or a Pattern, raw, or as a stream: what its commit will install (R438). -/
def State.demoted (s back : State) (m : Move) (k1 k2 : BitVec 256) (lane : Nat) (page stream : List Byte) (fault : Bool)
    (engine : Nat) (ok again : Bool) : State :=
  let r := s.region m.region
  let s0 := s.cmpCount 0 1
  if isZeroPage page then (s0.cmpCount 5 1).putMove { m with newDesc := some m.src.zero }
  else if r.patternOk && isPatternPage page then
    (s0.cmpCount 6 1).putMove { m with newDesc := some (m.src.pattern (leNat (page.take 8))) }
  else
    match s0.laneStream m.region lane m.src page stream fault with
    | (s1, some (.extent p0 p o len v c _)) =>
      (match s1.encryptUnits k1 k2 m.region m.page engine ok again (streamUnits stream p o) with
       | (s2, none) => s2.moverCheckFail m
       | (s2, some enc) =>
         match s2.takeExtent (1 + lane) p0 p o (openMover (1 + lane)) with
         | (_, none) => (s2.undoMove m false).tierCount 9 1
         | (s3, some sl) =>
           let bodies := (List.range sl.length).map fun i => slotBytes p sl i ((enc.map (·.2)).getD i [])
           match s3.postWrites 4 (slotWrites sl bodies) with
           | none => back
           | some t => t.putMove { m with slots := sl, newDesc := some (m.src.inExtent 4 sl p len v c) })
    | (s1, _) => s1.putMove { m with newDesc := some (m.src.inGroup 4 true m.src.priSlot) }

/-- DEMOTE_UNDERSTORY: the mover reads a Canopy page, tests and compresses it in the lowest idle lane, after the write path's pages,
and writes its extent (R438, R471). -/
def execDemoteUnderstory (region page lane : Nat) (stream : List Byte) (fault : Bool) (engine : Nat) (ok again : Bool)
    (errs : List ReadErrs) (s : State) : Host.Outcome State Fault Refusal :=
  match s.moveOf region page with
  | none => .next s
  | some m =>
    let lines := s.pageLines m.src
    let (_, v, c) := s.writeClass region
    let seen := (s.pageKeys region page).bind fun k => groupPlain k.1 k.2 region page (s.copyLines (s.slotsOf m.src))
    let ready := m.kind == .demoteU && m.newDesc.isNone && m.ending.isNone && s.moverOn && !s.pageWaits && s.nextLane == some lane
      && s.laneWrites v c (seen.getD []) stream fault && s.engineFree engine && s.canRead 4 lines && decide (lane < 16)
    let t :=
      match s.pageKeys region page with
      | none => ((s.emptySlot region).undoMove m false).tierCount 9 1
      | some (k1, k2) =>
        let (s1, copy, bad) := s.readLines 4 lines errs
        if bad ≠ 0 then s1.abandonMove m bad
        else
          match s1.groupRead 4 k1 k2 region page lines copy errs 0 with
          | (s2, none) => s2.abandonMove m 3
          | (s2, some p) => (s2.cryCount 1 64).demoted s m k1 k2 lane p stream fault engine ok again
    if s.up 8 && s.up 11 then needing (laneDom lane) ready s t else .next ((s.stall 8).stall 11)

/-! ### Writing batches (R440 to R442) -/

/-- BATCH_CLOSE: the open batch closes (R440). -/
def execBatchClose (s : State) : Host.Outcome State Fault Refusal :=
  match s.openBatch with
  | none => .next s
  | some i =>
    needing 8 (s.moverOn && !(s.batch i).moves.isEmpty) s (s.setBatch i { s.batch i with closed := true })

/-- The state with the batch's open plot in a stand: one in another stand is closed (R416, R441). -/
def State.batchPlotIn (s : State) (k : Nat) : State :=
  if (s.openPlot 17).any fun p => p / 2 ^ 25 != k then s.setOpen 17 none else s

/-- Write and commit a batch's extents in order: what is left, and whether the stand has no room. -/
def State.writeBatch (s : State) (k : Nat) : List (Nat × Nat) → Nat → State × List (Nat × Nat) × Nat × Bool
  | [], n => (s, [], n, false)
  | (r, p) :: rest, n =>
    match s.moveOf r p with
    | none => s.writeBatch k rest n
    | some m =>
      let cur := s.descPeek r p
      if cur.tier ≠ 6 ∨ !cur.sameLoc m.src then ((s.dropMove r p).tierCount 9 1).writeBatch k rest n
      else if !s.up (pipeDom r p) then (s.stall (pipeDom r p), (r, p) :: rest, n, false)
      else if !s.descReach r p then (s.moverWaits r p, (r, p) :: rest, n, false)
      else
        match s.lay 4 m.src m.copy 5 17 (openAt 17 k) with
        | .noSpace => (s, (r, p) :: rest, n, true)
        | .wait => (s, (r, p) :: rest, n, false)
        | .done t slots d =>
          match t.commitMove { m with slots := slots, newDesc := some d, toStand := k } ReadErrs.none with
          | none => (s, (r, p) :: rest, n, false)
          | some u => u.writeBatch k rest (n + slots.length)

/-- No Floor stand has room: the batch waits and demotion to Floor pauses (R442). -/
def State.batchNoRoom (s : State) (i : Nat) : State :=
  let b := s.batch i
  let s1 := { s.setBatch i { b with noRoom := true, writing := false } with
    tier := { (s.setBatch i { b with noRoom := true, writing := false }).tier with noFloor := true } }
  if b.noRoom then s1 else s1.raise 0x6008

/-- BATCH_WRITE: a closed batch is written to its target stand as far as the channels accept it, and ends with event 0x6003
(R441). -/
def execBatchWrite (s : State) : Host.Outcome State Fault Refusal :=
  match [0, 1].find? fun i => (s.batch i).closed with
  | none => .next s
  | some i =>
    let b := s.batch i
    let t :=
      match s.batchTarget b with
      | none => s.batchNoRoom i
      | some k =>
        let s1 := ((s.useStand k).batchPlotIn k).setBatch i { b with stand := k, writing := true }
        if !s.standServes k then s1
        else
          let (s2, left, n, full) := s1.writeBatch k b.moves b.written
          let s3 := { s2 with tier := { s2.tier with noFloor := false } }
          let b1 := { b with moves := left, written := n, stand := k, writing := true, noRoom := false }
          if full then ((s3.setBatch i b1).batchNoRoom i)
          else if left.isEmpty then
            ((((s3.setBatch i {}).useStand k).tierCount 5 1).tierCount 6 n).raise 0x6003 k n
          else s3.setBatch i b1
    needing 8 s.moverOn s t

/-! ### Promotion (R444, R445) -/

/-- A stream decoded for the mover, with its second try in a lane (R485). -/
def State.moverDecode (s : State) (m : Move) (lane : Nat) (fault again : Bool) (st : List Byte) : State × Option (List Byte) :=
  let page := s.decode m.src.format m.src.dict st
  let s1 := s.cmpCount 10 1
  match (if fault then none else page), (if again then none else page) with
  | some p, _ => (s1, some p)
  | none, some p => (((s1.laneFail (16 + lane)).cmpCount 11 1).raise 0x7004 lane, some p)
  | none, none => ((s1.cmpCount 12 1).raise 0x7003 (pageDetail m.region m.page), none)

/-- Write a page's lines into a new Canopy group for the mover (R444). -/
def State.laidCanopy (s back : State) (m : Move) (ws : Nat → List LineWr) : State :=
  match s.takeGroup 0 (openMover 0) with
  | (_, none) => (s.undoMove m false).tierCount 9 1
  | (t, some x) =>
    match t.postWrites 4 (ws x) with
    | none => back
    | some u => u.putMove { m with slots := groupSlots x, newDesc := some (m.src.inGroup 3 false x) }

/-- A promotion's page as plaintext lines into Canopy, or its raw lines as they are. -/
def State.promoted (s back : State) (m : Move) (k1 k2 : BitVec 256) (lane : Nat) (fault again : Bool) (engine : Nat)
    (ok retry : Bool) (copy : List (List Byte × Byte)) : State :=
  if m.src.isGroup then s.laidCanopy back m fun x => groupWrites x copy
  else
    let n := m.src.priCount + m.src.offCount
    let st := decryptStream k1 k2 m.region m.page m.src.priCount m.src.compLen (copyBodies n copy)
    match (s.cryCount 1 n).moverDecode m lane fault again st with
    | (s1, none) => s1.abandonMove m 3
    | (s1, some page) =>
      match s1.encryptUnits k1 k2 m.region m.page engine ok retry (lineUnits page) with
      | (s2, none) => s2.moverCheckFail m
      | (s2, some enc) => s2.laidCanopy back m fun x => lineWrites x enc

/-- PROMOTE_CANOPY: an extent is read, decrypted, decompressed and written to a new Canopy group (R444). -/
def execPromoteCanopy (region page lane : Nat) (fault again : Bool) (engine : Nat) (ok retry : Bool)
    (errs : List ReadErrs) (s : State) : Host.Outcome State Fault Refusal :=
  match s.moveOf region page with
  | none => .next s
  | some m =>
    let lines := s.pageLines m.src
    let ready := m.kind == .promoteC && m.newDesc.isNone && m.ending.isNone && s.moverOn && s.dLanes.contains lane
      && (m.src.isGroup || decide (s.decoding false < s.dLanes.length))
      && s.engineFree engine && s.canRead 4 lines && decide (lane < 16)
    let t :=
      match s.pageKeys region page with
      | none => ((s.emptySlot region).undoMove m false).tierCount 9 1
      | some (k1, k2) =>
        if !s.chainWhole m.src then ((s.undoMove m false).tierCount 9 1).raise 0x6006 (pageDetail region page)
        else
          let (s1, copy, bad) := s.readLines 4 lines errs
          if bad ≠ 0 then s1.abandonMove m bad
          else s1.promoted s m k1 k2 lane fault again engine ok retry copy
    if s.up 8 && s.up 11 then needing (laneDom lane) ready s t else .next ((s.stall 8).stall 11)

/-- PROMO_HOLD_EXPIRE: the mover wakes the stand of a hinted Floor page (R445). -/
def execPromoHoldExpire (stand : Nat) (s : State) : Host.Outcome State Fault Refusal :=
  let waits := s.tier.promos.any fun p => p.hint && slotStand (s.descPeek p.region p.page).priSlot == stand
  needing 8 (s.moverOn && waits && !s.standServes stand) s (s.useStand stand)

/-! ### Stopping, hints and stands (R350, R434, R445 to R448) -/

/-- MOVER_STOP: every page in Transit is restored, those whose lock is held when it becomes free (R434). -/
def execMoverStop (s : State) : Host.Outcome State Fault Refusal :=
  let s1 := s.tier.moves.foldl (fun t m => t.undoMove m false) s
  let stop := s.live && (!s.flag Reg.TIER_CTRL 0 || s.boot.brace || s.boot.draining)
  needing 8 stop s { s1 with tier := { s1.tier with batch0 := {}, batch1 := {}, picked := [], stopped := s1.tier.moves.isEmpty } }

/-- What a hint does to a page under its lock (R350). -/
def State.hinted (s : State) (h : HintEntry) (d : Desc) : State :=
  let moves := decide (3 ≤ d.tier ∧ d.tier ≤ 5)
  if !moves then s
  else if h.cold then
    (if d.pinned || (s.region h.region).pinned then s
     else s.putDesc h.region h.page { d with warmth := 0, epoch := s.tier.epoch })
  else
    let w := bits (s.policyWord (s.region h.region).policy 1).toNat 31 16
    let s1 := s.putDesc h.region h.page { d with warmth := w, epoch := s.tier.epoch }
    if d.tier = 5 && s.flag Reg.TIER_CTRL 3 && !d.poison then s1.queuePromo h.region h.page true else s1

/-- The hint queue after one page of its head. -/
def State.hintNext (s : State) : State :=
  match s.tier.hints with
  | [] => s
  | h :: r =>
    let l := if h.left ≤ 1 then r else { h with page := h.page + 1, left := h.left - 1 } :: r
    { s with tier := { s.tier with hints := l } }

/-- HINT_PAGE: TIER processes one page of the oldest hint under its lock (R350). -/
def execHintPage (errs : ReadErrs) (s : State) : Host.Outcome State Fault Refusal :=
  match s.tier.hints with
  | [] => .next s
  | h :: _ =>
    let r := s.region h.region
    needing 8 true s (
      if !r.valid || r.state != 0 || decide (r.pageCount ≤ h.page) then s.hintNext
      else s.agent agentHint h.region h.page 3 errs (fun t d => (t.hinted h d).hintNext) (fun t _ => t.hintNext))

/-- A request, move or batch uses a stand. -/
def State.standInUse (s : State) (k : Nat) : Bool :=
  (s.coh.flights.any fun f =>
      (f.stage == .read && slotStand f.loc.priSlot == k)
        || (f.stage == .stand && slotStand (s.descNow f.region f.page).priSlot == k))
    || (s.coh.flights.any fun f => f.writes.any fun w => slotStand (w.la / 4) == k)
    || (s.tier.moves.any fun m =>
      (m.newDesc.isNone && !m.copied && m.ending.isNone && slotStand m.src.priSlot == k) || m.slots.any fun x => slotStand x == k)
    || [0, 1].any fun i => (s.batch i).writing && (s.batch i).stand == k

/-- FLOOR_LINGER_EXPIRE: TIER withdraws a stand's vote (R448). -/
def execFloorLingerExpire (stand : Nat) (s : State) : Host.Outcome State Fault Refusal :=
  needing 8 ((s.stand stand).tierVote && !s.standInUse stand) s (s.setStand stand { s.stand stand with tierVote := false })

/-- STAND_WAKE_DONE: a woken stand is Awake, and what waits for it goes on in arrival order (R446). -/
def execStandWakeDone (stand : Nat) (s : State) : Host.Outcome State Fault Refusal :=
  let mine (f : Flight) : Bool := slotStand (s.descNow f.region f.page).priSlot == stand
  let waited := ((s.coh.flights.filter fun f => f.stage == .stand && mine f).map fun f => s.now - f.since).sum
  let s1 := s.setStand stand { s.stand stand with power := 0, exiting := false, implicit := false }
  let s2 := if s.role stand = 2 then s1.tierCount 14 waited else s1
  guarded (s.live && (s.stand stand).exiting) s (s2.resumeStage .stand mine)

/-- Requests that wait for new slots go on (R743). -/
def State.resumeAllocations (s : State) : State :=
  (s.coh.flights.filter fun f => f.stage == .check && f.units.isEmpty && !f.cipher.isEmpty).foldl (fun t f =>
    match t.flight? f.id with
    | some g => t.allocate g
    | none => t) s

/-- SUMMARY_RELOAD_DONE: the summary is back after a wake from Dormant, but for the stretches `bad` whose save area failed its
CRC (R415, R743). -/
def execSummaryReloadDone (bad : List Nat) (s : State) : Host.Outcome State Fault Refusal :=
  let s1 := { s with tier := { s.tier with reloading := false, rebuild := (s.tier.rebuild ++ bad).dedup } }
  needing 8 s.tier.reloading s s1.resumeAllocations

/-- STRETCH_REBUILD_DONE: a stretch has been rebuilt from its bitmaps (R415). -/
def execStretchRebuildDone (stretch : Nat) (s : State) : Host.Outcome State Fault Refusal :=
  needing 8 (s.tier.rebuild.contains stretch) s
    { s with tier := { s.tier with rebuild := s.tier.rebuild.filter (· != stretch) } }

/-- TIER_STAND_CFG_WRITE: a stand's role (R452). DESIGN CHOICE: before discovery has run, no stand is known to be absent, and
the image's roles are accepted. -/
def execTierStandCfgWrite (stand : Nat) (value : Word) (s : State) : Host.Outcome State Fault Refusal :=
  let r := bits value.toNat 1 0
  let x := s.stand stand
  let held := s.keyHeld (.stand stand)
  commanding 8 (decide (stand < 8)) s (
    if r = 3 then s.wrote stOutOfRange
    else if r = s.role stand then
      (if held then s else s.setStand stand { x with draining := false }).wrote
    else if (!x.present && s.tier.channels != 0) || x.used != s.standRetired stand || held then s.wrote stAccessDenied
    else
      (((s.setStand stand { x with draining := false }).setReg (Reg.TIER_STAND_CFG stand) (BitVec.ofNat 32 r)).judgePressure).wrote)

end Sys2Proof.Machine
end

