-- ==== Sys2Proof/Machine/Relocate.lean ====
section
/-! DEFINITION. Thinning, draining and migration (R449 to R451, R750, R751): one page at a time, each by a move whose commit
follows. -/

namespace Sys2Proof.Machine

open Sys2Proof

/-- THIN_OCC in slots of a plot, and THIN_LOW in plots. -/
def State.thinOcc (s : State) : Nat := s.fld Reg.TIER_THIN_CFG 6 0 * 256 / 100
def State.thinLow (s : State) : Nat := s.fld Reg.TIER_THIN_CFG 31 8

/-- A plot is sparse: in use, and at THIN_OCC or below (R449, R450). -/
def State.sparse (s : State) (p : Nat) : Bool :=
  let n := popCount (s.bitmap p)
  decide (0 < n ∧ n ≤ s.thinOcc)

/-- Plots of a page that are sparse. -/
def State.sparsePlots (s : State) (d : Desc) : List Nat := ((s.slotsOf d).map (· / 256)).dedup.filter s.sparse

/-- The page can be relocated as it is: in Canopy, Understory or Floor. -/
def Desc.movable (d : Desc) : Bool := decide (3 ≤ d.tier ∧ d.tier ≤ 5)

/-- Thinning runs (R449). -/
def State.thinOn (s : State) : Bool :=
  s.flag Reg.TIER_CTRL 2 && s.mayBegin 8 0x600000
    && (decide (s.awakeFree < s.thinLow) || (s.tier.thinning && decide (s.awakeFree < 2 * s.thinLow)))

/-- THINNING_RUN: a page of a sparse plot of an Awake stand moves to another plot (R449). -/
def execThinningRun (region page : Nat) (errs : List ReadErrs) (s : State) : Host.Outcome State Fault Refusal :=
  let go (t : State) (d : Desc) : State :=
    let away := t.sparsePlots d
    match t.bestStand (fun k => t.role k == 1) with
    | none => t
    | some k =>
      if !d.movable || away.isEmpty || t.role (slotStand d.priSlot) != 1 then t
      else
        let emptied := (away.filter fun p =>
          popCount (t.bitmap p) == ((t.slotsOf d).filter fun x => x / 256 == p).length).length
        let t1 := { t with tier := { t.tier with
          thinning := true, thinStand := slotStand d.priSlot
          thinFreed := (if t.tier.thinning then t.tier.thinFreed else 0) + emptied } }
        t1.relocate 9 (18 + k) (openAt (18 + k) k) (away.map (256 * ·))
          { region := region, page := page, kind := .thin, src := d, toStand := k } (errs.drop 1) (fun u => u.tierCount 9 1)
  needing 8 (s.thinOn && !s.dcPinned region page && (s.moveOf region page).isNone) s
    (s.agent agentMover region page 3 (errs.headD ReadErrs.none) go (fun t _ => t))

/-- A page relocated for an operation in one stand, to stand `k`. -/
def State.relocateFor (s : State) (op : Nat) (master k : Nat) (away : List Nat) (kind : MoveKind) (region page : Nat) (d : Desc)
    (errs : List ReadErrs) (noRoom : State → State) : State :=
  if !s.standServes k then s.useStand k
  else if !s.standServes (slotStand d.priSlot) then s.useStand (slotStand d.priSlot)
  else
    s.relocate master (18 + k) (openAt (18 + k) k) (away.map (256 * ·))
      { region := region, page := page, kind := kind, src := d, toStand := k, op := some op } errs noRoom

/-- DRAIN_STAND_MOVE: a page of the drained stand moves to another stand of its role (R451). -/
def execDrainStandMove (op region page : Nat) (errs : List ReadErrs) (s : State) : Host.Outcome State Fault Refusal :=
  let o := s.opSlot op
  let k := bits o.arg0.toNat 2 0
  let go (t : State) (d : Desc) : State :=
    if !d.movable || d.poison || slotStand d.priSlot != k then t
    else
      match t.bestStand (fun j => j != k && t.role j == t.role k && decide (d.slotsHeld ≤ t.freeOf j)) with
      | none => t.opFail op rcNoSpace 0
      | some j => t.relocateFor op 4 j [] .drain region page d (errs.drop 1) (fun u => u.opFail op rcNoSpace 0)
  needing 8 (o.working opDrain && s.moverOn && !s.dcPinned region page && (s.moveOf region page).isNone) s
    (s.agent agentMover region page 3 (errs.headD ReadErrs.none) go (fun t _ => t))

/-- The first sparse plot of a stand from plot `p`, among the next `n`. -/
def State.nextSparse (s : State) (k : Nat) : Nat → Nat → Option Nat
  | 0, _ => none
  | n + 1, p => if s.sparse (k * 2 ^ 25 + p) then some p else s.nextSparse k n (p + 1)

/-- THIN_STAND_MOVE: a page of a sparse plot moves within its stand (R450); PROGRESS is the plots visited. -/
def execThinStandMove (op region page : Nat) (errs : List ReadErrs) (s : State) : Host.Outcome State Fault Refusal :=
  let o := s.opSlot op
  let k := bits o.arg0.toNat 2 0
  let go (t : State) (d : Desc) : State :=
    let away := t.sparsePlots d
    if !d.movable || d.poison || away.isEmpty || slotStand d.priSlot != k then t
    else
      let at_ := (away.map (· % 2 ^ 25)).foldl min (2 ^ 25)
      let t1 := t.setOp op { o with progress := max o.progress at_ }
      t1.relocateFor op 9 k away .thin region page d (errs.drop 1) (fun u => u.setOp op { u.opSlot op with bad := 1 })
  needing 8 (o.working opThin && !s.boot.brace && !s.boot.draining && !s.dcPinned region page && (s.moveOf region page).isNone) s
    (s.agent agentMover region page 3 (errs.headD ReadErrs.none) go (fun t _ => t))

/-- First page and page count of MIGRATE_TIER (R749). -/
def OpSlot.migrateFirst (o : OpSlot) : Nat := o.arg1.toNat + 2 ^ 32 * bits o.arg2.toNat 1 0
def State.migrateCount (s : State) (o : OpSlot) : Nat :=
  if o.arg3 = 0 then (s.region o.region).pageCount - o.migrateFirst else o.arg3.toNat

/-- One page of MIGRATE_TIER is passed. -/
def State.migrateNext (s : State) (op bad : Nat) : State :=
  let o := s.opSlot op
  s.setOp op { o with cursor := o.cursor + 1, progress := o.progress + 1, bad := o.bad + bad }

/-- One step of a page toward a tier, or the page passed (R751). -/
def State.migrateStep (s : State) (op region page target : Nat) (d : Desc) (errs : List ReadErrs) : State :=
  let m : Move := { region := region, page := page, kind := .demoteU, src := d, op := some op }
  if !d.movable || d.tier == target || d.poison then s.migrateNext op 0
  else if d.tier < target then
    if d.pinned || (s.region region).pinned then s.migrateNext op 1
    else if d.tier = 3 then s.startMove m d
    else s.startBatch { m with kind := .batch } d errs
  else if d.tier = 4 then s.startMove { m with kind := .promoteC } d
  else
    let lines := s.pageLines d
    let k := slotStand d.priSlot
    if !s.standServes k then s.useStand k
    else if !s.canRead 4 lines then s
    else if !s.chainWhole d then (s.migrateNext op 0).raise 0x6006 (pageDetail region page)
    else
      let (s1, copy, bad) := s.readLines 4 lines errs
      if bad ≠ 0 then
        let s2 := if 2 ≤ bad then s1.poisonPage region page else s1
        let s3 := s2.setOp op { s2.opSlot op with ue := (s2.opSlot op).ue + 1 }
        ((s3.tierCount 9 1).raise 0x600A (pageDetail region page)).migrateNext op 0
      else s1.startPromoteU s { m with kind := .promoteU, copy := copy, copied := true } d

/-- MIGRATE_TIER_PAGE: the operation's next page takes a step toward the named tier (R751). -/
def execMigrateTierPage (op : Nat) (errs : List ReadErrs) (s : State) : Host.Outcome State Fault Refusal :=
  let o := s.opSlot op
  let r := o.region
  let page := o.migrateFirst + o.cursor
  let ok := o.working opMigrate && s.moverOn && decide (o.cursor < s.migrateCount o) && !s.dcPinned r page
    && (s.moveOf r page).isNone
  needing 8 ok s
    (s.agent agentMover r page 3 (errs.headD ReadErrs.none)
      (fun t d => t.migrateStep op r page (bits o.arg0.toNat 19 16) d (errs.drop 1))
      (fun t _ => t.migrateNext op 0))

end Sys2Proof.Machine
end

