-- ==== Sys2Proof/Machine/Compression.lean ====
section
/-! DEFINITION. Lanes returned to service and the class window (R479, R486 to R491, R779). -/

namespace Sys2Proof.Machine

open Sys2Proof

/-! ### Lanes -/

/-- CLANE_RETURN: a write to CMP_CLANE_OOS clears the bits written 1 (R479). -/
def execClaneReturn (value : Word) (s : State) : Host.Outcome State Fault Refusal :=
  commanding 9 true s ((s.setReg Reg.CMP_CLANE_OOS (s.reg Reg.CMP_CLANE_OOS &&& ~~~value)).wrote)

/-- DLANE_RETURN: a write to CMP_DLANE_OOS clears the bits written 1 (R779). -/
def execDlaneReturn (value : Word) (s : State) : Host.Outcome State Fault Refusal :=
  commanding 9 true s ((s.setReg Reg.CMP_DLANE_OOS (s.reg Reg.CMP_DLANE_OOS &&& ~~~value)).wrote)

/-! ### Classes -/

/-- The state with a class replaced. -/
def State.setClass (s : State) (c : Nat) (k : CmpClass) : State :=
  { s with cmp := { s.cmp with classes := tabSet (fun _ => {}) s.cmp.classes c k } }

/-- The staged bytes. -/
def State.stageAt (s : State) (from_ n : Nat) : List Byte :=
  (List.range n).map fun i => tabGet (fun _ => 0) s.cmp.stage (from_ + i)

/-- A class command ends with a code. -/
def State.clsEnd (s : State) (code : Nat) : State := ({ s with cmp := { s.cmp with clsCode := code } }).wrote

/-- The CRC of a class's parts (R489). -/
def classCrc (codes dict : Option (List Byte)) : Word := crc32c (codes.getD [] ++ dict.getD [])

/-- Commit of a class with staged parts (R489): the refusing status, or the class loaded. -/
def State.commitClass (s : State) (c : Nat) (codes dict : Option (List Byte)) : State × Nat :=
  let k := s.classOf? c
  let refuse (code : Nat) : State × Nat := (s.raise 0x7005 (c * 256 + code), code)
  if c = 0 ∨ k.loaded then refuse stAccessDenied
  else if codes.isNone ∧ dict.isNone then refuse stOutOfRange
  else if (match codes with | some t => !codeTableOk t | none => false) then refuse stOutOfRange
  else (s.setClass c { k with loaded := true, codes := codes, dict := dict, crc := classCrc codes dict }, stOK)

/-- CLASS_DATA_WRITE: four stage bytes at PTR, or a refusal where PTR holds 4,256 (R488). -/
def execClassDataWrite (value : Word) (s : State) : Host.Outcome State Fault Refusal :=
  let p := s.fld Reg.CMP_CLS_PTR 12 0
  let st := (List.range 4).foldl (fun t i =>
    tabSet (fun _ => 0) t (p + i) (BitVec.ofNat 8 (value.toNat >>> (8 * i)))) s.cmp.stage
  commanding 9 true s (
    if 4256 ≤ p then s.wrote stOutOfRange
    else ((({ s with cmp := { s.cmp with stage := st } }).setReg Reg.CMP_CLS_PTR (BitVec.ofNat 32 (p + 4))).wrote))

/-- The staged parts that CMP_CLS_STAGE names. -/
def State.stagedParts (s : State) : Option (List Byte) × Option (List Byte) :=
  (if s.flag Reg.CMP_CLS_STAGE 0 then some (s.stageAt 0 157) else none,
   if s.flag Reg.CMP_CLS_STAGE 1 then some (s.stageAt 160 4096) else none)

/-- CLASS_COMMIT (R489). -/
def execClassCommit (s : State) : Host.Outcome State Fault Refusal :=
  let (codes, dict) := s.stagedParts
  let (t, code) := s.commitClass (s.fld Reg.CMP_CLS_SEL 3 0) codes dict
  commanding 9 true s (if s.cmp.unloading.isSome then s.wrote stAccessDenied else t.clsEnd code)

/-- A valid region names a class (R490). -/
def State.classNamed (s : State) (c : Nat) : Bool := s.pipe.regions.any fun e => e.2.valid && e.2.dictClass == c

/-- CLASS_UNLOAD: checked, and BUSY until no lane works with the class (R490). -/
def execClassUnload (s : State) : Host.Outcome State Fault Refusal :=
  let c := s.fld Reg.CMP_CLS_SEL 3 0
  let k := s.classOf? c
  commanding 9 true s (
    if s.cmp.unloading.isSome then s.wrote stAccessDenied
    else if c = 0 then s.clsEnd stAccessDenied
    else if !k.loaded then s.clsEnd stUnmapped
    else if s.classNamed c || k.pages != 0 then s.clsEnd stAccessDenied
    else ({ s with cmp := { s.cmp with unloading := some c } }).wrote)

/-- A lane works with a class: a write that compresses with it, a stream being encrypted or written, or one being decoded. -/
def State.classInUse (s : State) (c : Nat) : Bool :=
  (s.coh.flights.any fun f =>
      (f.stage == .compress && (s.region f.region).writeFormat == 2 && (s.region f.region).dictClass == c)
      || (f.stage == .decode && f.loc.dict == c)
      || (match f.target with | .extent _ _ _ _ _ d _ => d == c | _ => false))
    || s.tier.moves.any fun m => match m.newDesc with | some d => d.format != 0 && d.dict == c | none => false

/-- CLASS_UNLOAD_DONE: the class becomes Empty (R490). -/
def execClassUnloadDone (s : State) : Host.Outcome State Fault Refusal :=
  match s.cmp.unloading with
  | none => .next s
  | some c =>
    needing 9 (!s.classInUse c) s
      (({ s.setClass c {} with cmp := { (s.setClass c {}).cmp with unloading := none } }).clsEnd stOK)

/-- CLASS_CLEAR_STAGE (R496). -/
def execClassClearStage (s : State) : Host.Outcome State Fault Refusal :=
  commanding 9 true s (
    if s.cmp.unloading.isSome then s.wrote stAccessDenied
    else ((({ s with cmp := { s.cmp with stage := [] } }).setReg Reg.CMP_CLS_PTR 0).clsEnd stOK))

end Sys2Proof.Machine
end

