-- ==== Sys2Proof/Machine/Link.lean ====
section
/-! DEFINITION. The intake link, the wires, VSTBY, the intake straps and the TAP (02_package_clocks.md). -/

namespace Sys2Proof.Machine

open Sys2Proof

/-- A 48-bit link frame carries its CRC-8 over type and data (02, Intake link). -/
def linkFrameOk (f : BitVec 48) : Bool := f.setWidth 8 == crc8 40 (f.toNat >>> 8)

/-- A valid link frame: its receiver sees the link up. The fault wire of a lost link falls when the reasons of R26 are next
judged, at a write of EVT_STATUS or a reset of the blocks; the manual does not say when (DESIGN CHOICE, log 179). -/
def State.linkGood (s : State) (d : LinkDir) : State :=
  match d with
  | .toLogic => { s with logic := { s.logic with linkUp := true, linkLost := false, resendLogic := false,
                                                  strapsSeen := s.logic.strapsSeen || s.intake.strapped } }
  | .toIntake =>
    { s with
      logic := { s.logic with resendIntake := false }
      intake := { s.intake with linkLost := false } }

/-- A management write waits whose frame the intake die has not taken (R54). -/
def Intake.unsent (i : Intake) : Bool := match i.linkWrite with | some w => !w.done | none => false

/-- A frame that fails its CRC: resent once; a second failure is logged, and a management write that the frame
carried has no effect and is answered InternalFault (R23, R54). -/
def State.linkBad (s : State) (d : LinkDir) : State :=
  let s1 := s.count Reg.INT_LINK_ERR
  match d with
  | .toLogic =>
    if s.logic.resendLogic then
      { s1.intakeEvent 0x0514 with logic := { (s1.intakeEvent 0x0514).logic with resendLogic := false } }
    else { s1 with logic := { s1.logic with resendLogic := true } }
  | .toIntake =>
    if s.logic.resendIntake then
      let s2 := s1.intakeEvent 0x0514
      { s2 with
        logic := { s2.logic with resendIntake := false }
        intake := { s2.intake with linkWrite := if s.intake.unsent then none else s.intake.linkWrite }
        mgmt := { s2.mgmt with lastStatus := if s.intake.unsent then stInternalFault else s.mgmt.lastStatus } }
    else { s1 with logic := { s1.logic with resendIntake := true } }

/-- INTAKE_LINK_FRAME (R23). -/
def execIntakeLinkFrame (dir : LinkDir) (frame : BitVec 48) (s : State) : Host.Outcome State Fault Refusal :=
  guarded (s.live && s.intake.vstby) s (if linkFrameOk frame then s.linkGood dir else s.linkBad dir)

/-- LOGIC_LINK_TIMEOUT (R24): event 0x0515 and the fault wire; the intake die goes on with what it has. -/
def execLogicLinkTimeout (s : State) : Host.Outcome State Fault Refusal :=
  guarded s.live s
    (let s1 := s.raise 0x0515
     { s1 with logic := { s1.logic with linkUp := false, linkLost := true, faultWire := true } })

/-- INTAKE_LINK_TIMEOUT (R25): FAULT_N, with pass FET and PG_OUT as they are. -/
def execIntakeLinkTimeout (s : State) : Host.Outcome State Fault Refusal :=
  guarded (s.intake.vstby && s.intake.pgOut) s (s.setIntake { s.intake with linkLost := true })

/-- A reason for the logic die to hold the fault wire (R26, R43). -/
def State.faultReason (s : State) : Bool :=
  s.anyFatal || s.logic.linkLost || decide (tabGet (fun _ => PllState.off) s.logic.plls 0 = .failed)

/-- FAULT_WIRE_ASSERT (R26). -/
def execFaultWireAssert (s : State) : Host.Outcome State Fault Refusal :=
  guarded (s.live && s.faultReason) s { s with logic := { s.logic with faultWire := true } }

/-- THERMAL_TRIP (R34, R35): PG_OUT falls, FAULT_N and THERMTRIP_N assert, and the pass FET stays as it is. A retry, latch-off,
lockout or Off goes on meanwhile (R79, R80, R82, R97). -/
def execThermalTrip (s : State) : Host.Outcome State Fault Refusal :=
  guarded s.logic.on s
    (let s1 := s.dropPg causePgOut
     { s1 with
       logic := { s1.logic with thermTrip := true }
       intake := { s1.intake with
         thermTrip := true
         phase := if s1.intake.phase.latched || s1.intake.phase.retrying then s1.intake.phase else .tripHold } })

/-- The registers of INT pages 1 to 3 that a commit stages and the profile may set (R49, R51), with the limits of
R60: address, field, minimum and maximum. -/
def intakeLimits : List (Nat × Nat × Nat × Nat × Nat) := [
  (Reg.INT_FEED_CFG, 31, 16, 1, 600), (Reg.INT_FEED_CFG, 15, 0, 5, 500), (Reg.INT_V_QUAL, 9, 0, 300, 600),
  (Reg.INT_V_OV, 9, 0, 500, 750), (Reg.INT_V_SW, 9, 0, 300, 600), (Reg.INT_V_WARN, 25, 16, 2, 50),
  (Reg.INT_V_WARN, 9, 0, 300, 600), (Reg.INT_V_RST, 9, 0, 200, 600), (Reg.INT_FEED_TIMES, 21, 12, 1, 1000),
  (Reg.INT_FEED_TIMES, 7, 0, 2, 100), (Reg.INT_FEED_TIMES2, 9, 0, 1, 1000), (Reg.INT_ILIM, 31, 16, 10, 500),
  (Reg.INT_ILIM, 15, 0, 10, 450), (Reg.INT_PFET, 31, 16, 5, 100), (Reg.INT_PFET, 15, 0, 10, 600),
  (Reg.INT_FTIMER, 31, 0, 1, 1000), (Reg.INT_PG_CFG, 31, 16, 2, 50), (Reg.INT_PG_CFG, 15, 0, 0, 1000),
  (Reg.INT_FET_TEMP_CFG, 31, 16, 40, 120), (Reg.INT_FET_TEMP_CFG, 15, 0, 80, 150), (Reg.INT_I_NOM, 31, 0, 10, 450),
  (Reg.INT_RETRY_CFG, 25, 16, 1, 1000), (Reg.INT_RETRY_CFG, 15, 0, 0, 60000), (Reg.INT_RETRY_MAX, 3, 0, 1, 15),
  (Reg.INT_SEQ_CFG, 31, 16, 1, 600), (Reg.INT_SEQ_CFG, 15, 0, 0, 6000)]

/-- A field of an intake configuration. -/
def cfgFld (c : Tab Word) (a hi lo : Nat) : Nat := bits (tabGet resetOf c a).toNat hi lo

/-- The first register that breaks a check of R52, as its offset from the INT base: ranges in register order, then
the order of the thresholds, then the curve. -/
def intakeCheck (c : Tab Word) : Option Nat :=
  let ranges := intakeLimits.findSome? fun (a, hi, lo, mn, mx) =>
    if mn ≤ cfgFld c a hi lo ∧ cfgFld c a hi lo ≤ mx then none else some a
  let iMax := cfgFld c Reg.INT_ILIM 15 0
  let fast := if iMax ≤ cfgFld c Reg.INT_ILIM 31 16 then none else some Reg.INT_ILIM
  let vRst := cfgFld c Reg.INT_V_RST 9 0
  let vWarn := cfgFld c Reg.INT_V_WARN 9 0
  let vSw := cfgFld c Reg.INT_V_SW 9 0
  let vQual := cfgFld c Reg.INT_V_QUAL 9 0
  let order :=
    if ¬ vRst < vWarn then some Reg.INT_V_WARN
    else if ¬ 0 < cfgFld c Reg.INT_V_WARN 25 16 then some Reg.INT_V_WARN
    else if ¬ vWarn + cfgFld c Reg.INT_V_WARN 25 16 < vSw then some Reg.INT_V_SW
    else if ¬ vSw < vQual then some Reg.INT_V_QUAL
    else if ¬ vQual < cfgFld c Reg.INT_V_OV 9 0 then some Reg.INT_V_OV
    else none
  let curve := (List.range 15).findSome? fun k =>
    if cfgFld c (Reg.INT_BRK_PT k) 31 20 < cfgFld c (Reg.INT_BRK_PT (k + 1)) 31 20
        ∧ cfgFld c (Reg.INT_BRK_PT (k + 1)) 19 0 < cfgFld c (Reg.INT_BRK_PT k) 19 0 then none
    else some (Reg.INT_BRK_PT (k + 1))
  ((ranges.orElse fun _ => fast).orElse fun _ => order.orElse fun _ => curve).map (· - 0x028000)

/-- A register that the profile or a commit sets at the intake die: the RWL registers of INT. -/
def intakeStaged (a : Nat) : Bool :=
  decide (0x029000 ≤ a ∧ a < 0x02C000) && (match regDef a with | some d => d.access == .rwl | none => false)

/-- The profile's valid pairs applied in index order over the defaults (R49): the configuration and how many. A pair that names
neither INT_CTRL nor a staged register is passed over and not counted: the manual does not say what it does (DESIGN CHOICE,
log 180). -/
def applyProfile (p : Tab Word) : Tab Word × Nat :=
  (List.range 16).foldl (fun (c, n) i =>
    let e := (tabGet (fun _ => 0) p (2 * i)).toNat
    let a := 0x028000 + bits e 14 0
    if bit e 31 && (intakeStaged a || a == Reg.INT_CTRL) then
      (tabSet resetOf c a (tabGet (fun _ => 0) p (2 * i + 1) &&& writeMask a), n + 1)
    else (c, n)) ([], 0)

/-- VSTBY_RISE (R49): defaults, then the profile, discarded whole if the check of a commit refuses it. -/
def execVstbyRise (s : State) : Host.Outcome State Fault Refusal :=
  guarded (!s.intake.vstby) s
    (let (c, n) := applyProfile s.intake.profile
     let bad := (intakeCheck c).isSome
     let i : Intake :=
       { vstby := true, profile := s.intake.profile, burned := s.intake.burned, cfg := if bad then [] else c, profileErr := bad,
         profilePairs := if bad then 0 else n, needSeq := true,
         hist := if bad then [(0, 0x0517#16)] else [] }
     { s with intake := i, regs := i.cfg })

/-- VSTBY_FALL (R35, R36, R82): the intake die's state is lost, and with it all that lies behind PG_OUT. -/
def execVstbyFall (s : State) : Host.Outcome State Fault Refusal :=
  guarded s.intake.vstby s
    { s.powerOn causeVstby with intake := { profile := s.intake.profile, burned := s.intake.burned }, regs := [] }

/-- INTAKE_STRAP_SAMPLE (R36, R37). -/
def execIntakeStrapSample (first : Bool) (mode : BitVec 2) (s : State) : Host.Outcome State Fault Refusal :=
  guarded (s.intake.vstby && !s.intake.strapped) s
    (let s1 := s.setIntake { s.intake with strapped := true, seqFirst := first, feedMode := mode.toNat }
     if mode = 3#2 then
       (s1.setIntake { s1.intake with faults := s1.intake.faults ||| 0x800 }).intakeEvent 0x0513
     else s1)

/-- The key of a PLL in the table of PLLs. -/
def pllKey : Pll → Nat
  | .core => 0
  | .sram => 1
  | .channel n => 2 + n % 16
  | .serdes p => 18 + p % 2
  | .port p => 20 + p % 2

/-- The state of a PLL. -/
def State.pll (s : State) (p : Pll) : PllState := tabGet (fun _ => PllState.off) s.logic.plls (pllKey p)

/-- The state with a PLL in state `v`. -/
def State.setPll (s : State) (p : Pll) (v : PllState) : State :=
  { s with logic := { s.logic with plls := tabSet (fun _ => PllState.off) s.logic.plls (pllKey p) v } }

/-- Whether a PLL has been enabled and not yet locked. -/
def pllLocking : PllState → Bool
  | .locking _ => true
  | _ => false

/-- PLL_LOCK (R42). -/
def execPllLock (pll : Pll) (s : State) : Host.Outcome State Fault Refusal :=
  guarded (s.live && pllLocking (s.pll pll)) s (s.setPll pll .locked)

/-- The TAP's IDCODE register by its fields (R45): version, part number, manufacturer and bit 0. -/
def idcodeWord (version part maker : Nat) : Word := BitVec.ofNat 32 (version * 2 ^ 28 + part * 2 ^ 12 + maker * 2 + 1)

/-- IDCODE of this device (R45). -/
abbrev idcode : Word := idcodeWord 0x1 0x4160 0x5E3

/-- The 32-bit data register that the TAP's instruction selects: IDCODE, which Test-Logic-Reset selects too (R45; IEEE 1149.1);
none for the instructions that select another register. -/
def Logic.tapData (l : Logic) : Option Word := if l.tapInstr = none ∨ l.tapInstr = some .idcode then some idcode else none

/-- TAP_RESET (R46): Test-Logic-Reset, in which TRST_N holds the TAP if it is low. -/
def execTapReset (trst : Bool) (s : State) : Host.Outcome State Fault Refusal :=
  .next { s with logic := { s.logic with trst := s.logic.trst || trst, tapInstr := none, tapActive := .idcode } }

/-- The boundary-scan instructions that act outside test hold (R47). -/
def tapAlways : TapInstr → Bool
  | .bypass | .idcode | .sample => true
  | _ => false

/-- TAP_INSTRUCTION (R45 to R47): nothing is loaded while TRST_N is low; IDCODE shifts its register out, and the instructions
other than BYPASS, IDCODE and SAMPLE act only while BOOT_SEL selects test hold. -/
def execTapInstruction (instr : TapInstr) (trst : Bool) (s : State) : Host.Outcome State Fault Refusal :=
  let s1 := { s with logic := { s.logic with
    trst := false
    tapInstr := some instr
    tapActive := if tapAlways instr || (s.logic.on && decide (2 ≤ s.logic.bootSel)) then instr else s.logic.tapActive } }
  let s2 := { s with logic := { s.logic with trst := true, tapInstr := none, tapActive := .idcode } }
  .next (if trst then s2 else match instr with | .idcode => s1.emit (.tapData idcode) | _ => s1)

/-- INTAKE_KEEPALIVE_FRAME (R23): the sending side emits a Keepalive frame. -/
def execIntakeKeepaliveFrame (dir : LinkDir) (s : State) : Host.Outcome State Fault Refusal :=
  guarded (match dir with | .toLogic => s.intake.vstby | .toIntake => s.live) s (s.emit (.linkFrame dir true))

end Sys2Proof.Machine
end

