-- ==== Sys2Proof/Machine/Intake.lean ====
section
/-! DEFINITION. The intake die: configuration, sensing, feed selection, soft start, breaker, trips, presence, early
warning and sequencing (03_intake.md). A row for a timer or filter acts when its count, kept by EVALUATION_TICK, has
been reached; where the manual gives no count in ticks, the row's arrival asserts that the time has passed. -/

namespace Sys2Proof.Machine

open Sys2Proof

/-- A field of the intake configuration in force. -/
def State.icfg (s : State) (a hi lo : Nat) : Nat := cfgFld s.intake.cfg a hi lo

/-- t_FILT in ticks (R60). -/
def State.tFilt (s : State) : Nat := s.icfg Reg.INT_FEED_TIMES 7 0

/-- The unlock window is open (R50). -/
def State.unlocked (s : State) : Bool := decide (s.intake.ticks < s.intake.unlockUntil)

/-! ### Configuration -/

/-- A management write that needs the link (R54) can be sent. -/
def State.linkReady (s : State) : Bool := s.live && s.logic.linkUp && s.intake.vstby && s.intake.linkWrite.isNone

/-- INT_UNLOCK at the intake die (R50): the unlock value opens the window for 1 ms. -/
def State.openUnlock (s : State) (value : Word) : State :=
  s.setIntake { s.intake with unlockUntil := if value = 0x4E53 then s.intake.ticks + 1000 else s.intake.unlockUntil }

/-- INT_PROFILE_PROG at the intake die (R50): within the window, a word that has not been programmed starts to burn. -/
def State.profileProg (s : State) (value : Word) : State :=
  let w := bits value.toNat 4 0
  let ok := s.unlocked && s.intake.burning.isNone && !s.intake.burned.getLsbD w
  s.setIntake { s.intake with burning := if ok then some (w, s.reg Reg.INT_PROFILE_DATA) else s.intake.burning }

/-- PROFILE_WORD_PROGRAMMED (R50): after 2 ms the word holds its value for good. -/
def execProfileWordProgrammed (s : State) : Host.Outcome State Fault Refusal :=
  match s.intake.burning with
  | some (w, v) =>
    .next (s.setIntake { s.intake with
      profile := tabSet (fun _ => 0) s.intake.profile w v
      burned := s.intake.burned ||| BitVec.ofNat 32 (2 ^ w)
      burning := none })
  | none => .next s

/-- Every staged INT register (R51), page by page. -/
def stagedAddrs : List Nat :=
  ((List.range 3).flatMap fun p => (List.range 64).map fun k => 0x029000 + 0x1000 * p + 0x40 + 4 * k).filter intakeStaged

/-- The configuration with every staged register taken from the mirror. -/
def stagedCfg (s : State) : Tab Word :=
  stagedAddrs.foldl (fun c a => tabSet resetOf c a (s.reg a)) s.intake.cfg

/-- INT_CFG_COMMIT at the intake die (R52): the whole staged set takes effect at once, or nothing does and event 0x0516 is
raised. -/
def State.cfgCommit (s : State) : State :=
  let c := stagedCfg s
  match intakeCheck c with
  | none => (s.setIntake { s.intake with cfg := c }).setReg Reg.INT_CFG_STATUS 0
  | some off => (s.setReg Reg.INT_CFG_STATUS (BitVec.ofNat 32 (0x8000_0000 + off % 2 ^ 15))).raise 0x0516

/-- INT_FAULT at the intake die (R80, R82): a W1C write; SHORT_FET clears only within the unlock window and ends the lockout,
RETRY_EXHAUSTED ends latch-off. -/
def State.faultClear (s : State) (value : Word) : State :=
  let i := s.intake
  let clr := if s.unlocked then value else value &&& ~~~0x040
  let f := i.faults &&& ~~~clr
  let freed := decide (i.faults &&& clr &&& 0x042 ≠ 0 ∧ f &&& 0x042 = 0)
  s.setIntake { i with
    faults := f
    held := i.held && decide (i.faults &&& clr &&& 0x13D = 0)
    phase := if freed = true ∧ (i.phase = .latchedOff ∨ i.phase = .lockout) then .qualify else i.phase }

/-- INT_CTRL.OFF_REQ at the intake die (R97, R72): PG_OUT deasserts and Off is 100 ms away. -/
def State.requestOff (s : State) : State :=
  let s1 := s.dropPg causePgOut
  s1.setIntake { s1.intake with offPending := true }

/-- INT_CTRL at the intake die (R64, R78, R97): SEQ_WAKE, REVERT and AUTO_RETRY take effect, and OFF_REQ turns the shelf off. -/
def State.ctrlWrite (s : State) (value : Word) : State :=
  let w := value &&& 0xB0
  let s1 := (s.setReg Reg.INT_CTRL w).setIntake { s.intake with cfg := tabSet resetOf s.intake.cfg Reg.INT_CTRL w }
  if bit value.toNat 6 then s1.requestOff else s1

/-- A link write's effect on the intake die (R54). -/
def State.linkEffect (s : State) (a : Nat) (v : Word) : State :=
  if a = Reg.INT_UNLOCK then s.openUnlock v
  else if a = Reg.INT_PROFILE_PROG then s.profileProg v
  else if a = Reg.INT_CFG_COMMIT then s.cfgCommit
  else if a = Reg.INT_FAULT then s.faultClear v
  else s.ctrlWrite v

/-- A link write leaves for the intake die, which has not yet acted on it (R54). -/
def State.linkSend (s : State) (a : Nat) (v : Word) : State := s.setIntake { s.intake with linkWrite := some { addr := a, value := v } }

/-- A link write reaches the intake die: the one that has been sent, or one sent now (R54). -/
def State.linkTakes (s : State) (a : Nat) (v : Word) : Bool :=
  s.live && s.logic.linkUp && s.intake.vstby
    && (s.intake.linkWrite.isNone || decide (s.intake.linkWrite = some { addr := a, value := v }))

/-- A link write takes effect, and its acknowledgement is awaited; the effect may leave no logic die to answer. -/
def State.linkAct (s : State) (a : Nat) (v : Word) : State :=
  let t := s.linkEffect a v
  if t.live then t.setIntake { t.intake with linkWrite := some { addr := a, value := v, done := true } } else t

/-- INT_UNLOCK (R50, R54). -/
def execIntUnlock (value : Word) (s : State) : Host.Outcome State Fault Refusal :=
  guarded (s.linkTakes Reg.INT_UNLOCK value) s (s.linkAct Reg.INT_UNLOCK value)

/-- INT_PROFILE_PROG (R50, R54). -/
def execIntProfileProg (value : Word) (s : State) : Host.Outcome State Fault Refusal :=
  guarded (s.linkTakes Reg.INT_PROFILE_PROG value) s (s.linkAct Reg.INT_PROFILE_PROG value)

/-- INT_CFG_COMMIT (R52, R54): GO is written. -/
def execIntCfgCommit (value : Word) (s : State) : Host.Outcome State Fault Refusal :=
  guarded (s.linkTakes Reg.INT_CFG_COMMIT value && bit value.toNat 0) s (s.linkAct Reg.INT_CFG_COMMIT value)

/-- INT_LINK_WRITE_ACK (R54): the write that waited for the intake die is answered; one whose effect no row has brought takes it
now, since the intake die acknowledges what it has done. -/
def execIntLinkWriteAck (s : State) : Host.Outcome State Fault Refusal :=
  match s.intake.linkWrite with
  | none => .next s
  | some w =>
    let t := if w.done then s else s.linkEffect w.addr w.value
    guarded s.live s
      (if t.live then
         { t with intake := { t.intake with linkWrite := none }, mgmt := { t.mgmt with lastStatus := stOK } }
       else t)

/-- Log the intake die's held events, oldest first (R55, R156). -/
def State.deliverHist (s : State) : List (Nat × BitVec 16) → State
  | [] => s
  | (t, c) :: r => (s.occur c.toNat 0 false true t 0 0).deliverHist r

/-- INT_EVT_HIST_DELIVERY (R55). The history is empty afterwards, which the manual does not say (DESIGN CHOICE, log 181). -/
def execIntEvtHistDelivery (s : State) : Host.Outcome State Fault Refusal :=
  guarded (s.live && s.logic.linkUp) s
    ((s.setIntake { s.intake with hist := [] }).deliverHist s.intake.hist)

/-! ### Sensing -/

/-- The mean of the samples held of one quantity (R56): of fewer than eight until eight have been taken, and rounded down to a
whole unit, neither of which the manual gives (DESIGN CHOICE, log 182). -/
def mean (f : Reading → Int) (l : List Reading) : Int :=
  if l.isEmpty then 0 else (l.map f).sum / (l.length : Int)

/-- A sensing fault is latched, so that the conservative reading of the two paths is used (R59). -/
def Intake.conservative (i : Intake) : Bool := decide (i.faults &&& 0x600 ≠ 0)

/-- The filtered voltage of a feed: path A's, or the lower of the two under R59. -/
def Intake.feedV (i : Intake) (f : Feed) : Int :=
  let sel : Reading → Int := match f with | .a => Reading.feedA | .b => Reading.feedB
  if i.conservative then min (mean sel i.pathA) (mean sel i.pathB) else mean sel i.pathA

/-- The filtered output voltage. -/
def Intake.vout (i : Intake) : Int := mean Reading.vout i.pathA

/-- The filtered current: path A's, or the higher of the two under R59. -/
def Intake.cur (i : Intake) : Int :=
  if i.conservative then max (mean Reading.cur i.pathA) (mean Reading.cur i.pathB) else mean Reading.cur i.pathA

/-- FET_TEMP: path A's, or the higher of the two under R59. -/
def Intake.tFet (i : Intake) : Int := if i.conservative then max i.tFetA i.tFetB else i.tFetA

/-- The filtered voltage of the active feed, if there is one. -/
def Intake.activeV (i : Intake) : Option Int := i.feed.map i.feedV

/-- One tick's effect on the count of a condition. -/
def tickCount (c : Bool) (n : Nat) : Nat := if c then n + 1 else 0

/-- A condition on the active feed. -/
def Intake.onActive (i : Intake) (p : Int → Bool) : Bool :=
  match i.activeV with
  | some v => p v
  | none => false

/-- Which filtered readings of one path lie outside their plausibility windows: feed A, feed B, current, FET_TEMP (R56, R57). -/
def implausible (l : List Reading) (t : Int) : List Bool :=
  let out (lo hi v : Int) : Bool := decide (v < lo ∨ hi < v)
  [out (-2000) 85000 (mean Reading.feedA l), out (-2000) 85000 (mean Reading.feedB l), out (-2000) 55000 (mean Reading.cur l),
   out (-500) 1800 t]

/-- How far the two paths' filtered readings of each input differ, in 0.01 % of full scale (R56, R58): feed A and feed B of
80 V, VOUT of 3.3 V behind its divider, the current of 50 mV over the shunt (02, Intake), and FET_TEMP of the 230 degrees of its
window, which the manual does not call its full scale (DESIGN CHOICE, log 183). -/
def pathDiffs (a b : List Reading) (ta tb : Int) (shunt div : Nat) : List Nat :=
  let d (x y : Int) (full : Nat) : Nat := (x - y).natAbs * 10000 / max full 1
  let of (f : Reading → Int) (full : Nat) : Nat := d (mean f a) (mean f b) full
  [of Reading.feedA 80000, of Reading.feedB 80000, of Reading.vout (3300 * div / 1000), of Reading.cur (50000000 / max shunt 1),
   d ta tb 2300]

/-- Counts of a list of conditions after one tick. -/
def tickCounts' (c : List Bool) (n : List Nat) : List Nat := List.zipWith tickCount c n

/-- The current-limit setpoint in mA (R67): min(I_MAX, P_FET / max(V_DS, V_DS_MIN)). -/
def limitSetpoint (iMax pFet vMin : Nat) (vds : Int) : Nat :=
  min (iMax * 100) (pFet * 1000000 / max (max vds 0).toNat (max (vMin * 100) 1))

/-- The curve point below a current, the largest k with m_k·I_NOM at or below it (R74). -/
def curveIndex (c : Tab Word) (cur nom : Nat) : Nat :=
  ((List.range 16).filter fun k => decide (cfgFld c (Reg.INT_BRK_PT k) 31 20 * nom ≤ cur * 100)).length - 1

/-- `n` binary digits of the logarithm to base 2 of `x` / 2^40, for `x` from 2^40 to 2^41. -/
def log2Digits : (n x : Nat) → Nat
  | 0, _ => 0
  | n + 1, x =>
    let y := x * x / 2 ^ 40
    if 2 ^ 41 ≤ y then 2 ^ n + log2Digits n (y / 2) else log2Digits n y

/-- The logarithm to base 2 of `a / b`, where `a` is not below `b`, in 2^-32. -/
def log2Ratio (a b : Nat) : Nat :=
  let x := a * 2 ^ 40 / max b 1
  let k := Nat.log2 x - 40
  k * 2 ^ 32 + log2Digits 32 (x / 2 ^ k)

/-- 2^(-2^-i) in 2^-40, for i from 1 to 32. -/
def expRoots : List Nat := [
  777472127993, 924575386326, 1008256608221, 1052895941924, 1075951360882, 1087667703028, 1093573631099, 1096538610001,
  1098024112668, 1098767618496, 1099139560183, 1099325578239, 1099418599072, 1099465112440, 1099488369862, 1099499998757,
  1099505813251, 1099508720509, 1099510174141, 1099510900958, 1099511264367, 1099511446071, 1099511536923, 1099511582349,
  1099511605062, 1099511616419, 1099511622097, 1099511624936, 1099511626356, 1099511627066, 1099511627421, 1099511627598]

/-- 2^(-f / 2^32) in 2^-40, for `f` below 2^32. -/
def exp2Frac (f : Nat) : Nat :=
  (List.range 32).foldl (fun acc i => if bit f (31 - i) then acc * expRoots.getD i 0 / 2 ^ 40 else acc) (2 ^ 40)

/-- `t` times (`t'` / `t`) to the power ln(i / i0) / ln(i1 / i0): the power law between two curve points (R74), with its
logarithms in 2^-32 and its power in 2^-40, rounded down (the manual does not say how it rounds: DESIGN CHOICE, log 17). -/
def powerLaw (t t' i i0 i1 : Nat) : Nat :=
  let y := log2Ratio i i0 * log2Ratio t t' / max (log2Ratio i1 i0) 1
  t * exp2Frac (y % 2 ^ 32) / 2 ^ 40 / 2 ^ (y / 2 ^ 32)

/-- The trip time at a current, in ns (R74): exact at a point and above the last. -/
def tripTime (c : Tab Word) (cur nom : Nat) : Nat :=
  let k := curveIndex c cur nom
  let m (j : Nat) := cfgFld c (Reg.INT_BRK_PT j) 31 20
  let t (j : Nat) := cfgFld c (Reg.INT_BRK_PT j) 19 0 * 10000
  if k = 15 ∨ m k * nom = cur * 100 then t k
  else powerLaw (t k) (t (k + 1)) (cur * 100) (m k * nom) (m (k + 1) * nom)

/-- The curve accumulator, in 10^-12, after one tick (R75). -/
def curveStep (c : Tab Word) (cur : Int) (acc : Nat) : Nat :=
  let nom := cfgFld c Reg.INT_I_NOM 31 0 * 100
  if (cfgFld c (Reg.INT_BRK_PT 0) 31 20 * nom : Int) < cur * 100 then
    acc + 1000000000000000 / max (tripTime c cur.toNat nom) 1
  else acc - 100000

/-- The I²t accumulator, in 10^-12 A²s, after one tick (R76): mA² times µs. -/
def i2tStep (c : Tab Word) (cur : Int) (acc : Nat) : Nat :=
  let nom : Int := cfgFld c Reg.INT_I_NOM 31 0 * 100
  (max 0 ((acc : Int) + (cur * cur - nom * nom))).toNat

/-- Power-good qualification (R70). -/
def State.pgQualifies (s : State) (gateFull : Bool) : Bool :=
  let i := s.intake
  i.passFet && gateFull && !i.inLimit && decide (i.faults = 0)
    && i.onActive (fun v => decide (v - s.icfg Reg.INT_PG_CFG 31 16 * 100 ≤ i.vout))

/-- The shorted-FET test runs: 1 ms after VOUT first fell below 10 %, or 500 ms after the gate command (R82). -/
def Intake.shortTest (i : Intake) : Bool :=
  decide (500000 ≤ i.cnt.gateOff) || (match i.cnt.belowTen with | some n => decide (1000 ≤ n) | none => false)

/-- The counts after one tick, from the readings already taken in. -/
def State.tickCounts (s : State) (gateFull seq : Bool) (imp dis : List Bool) : IntakeCounts :=
  let i := s.intake
  let c := i.cnt
  let mv (a hi lo : Nat) : Int := s.icfg a hi lo * 100
  let qual (f : Feed) : Bool := decide (mv Reg.INT_V_QUAL 9 0 ≤ i.feedV f ∧ i.feedV f ≤ mv Reg.INT_V_OV 9 0)
  let low (f : Feed) : Bool := decide (i.feedV f < mv Reg.INT_V_SW 9 0)
  let high (f : Feed) : Bool := decide (mv Reg.INT_V_OV 9 0 < i.feedV f)
  let warnV := mv Reg.INT_V_WARN 9 0
  let below10 : Bool := i.onActive (fun v => decide (i.vout * 10 < v))
  let above10 : Bool := i.onActive (fun v => decide (v < i.vout * 10))
  { qualA := tickCount (qual .a) c.qualA
    qualB := tickCount (qual .b) c.qualB
    swA := tickCount (low .a) c.swA
    swB := tickCount (low .b) c.swB
    ovA := tickCount (high .a) c.ovA
    ovB := tickCount (high .b) c.ovB
    warn := tickCount (i.onActive (fun v => decide (v < warnV))) c.warn
    recov := tickCount (i.onActive (fun v => decide (warnV + mv Reg.INT_V_WARN 25 16 < v))) c.recov
    rst := tickCount (i.onActive (fun v => decide (v < mv Reg.INT_V_RST 9 0))) c.rst
    voutRst := tickCount (decide (i.vout < mv Reg.INT_V_RST 9 0)) c.voutRst
    plaus := tickCounts' imp c.plaus
    disagree := tickCounts' dis c.disagree
    hot := tickCount (decide ((s.icfg Reg.INT_FET_TEMP_CFG 15 0 * 10 : Int) ≤ i.tFet)) c.hot
    short := tickCount (!i.passFet && i.shortTest && above10) c.short
    openFet := tickCount (i.onActive (fun v => decide (1000 < v - i.vout)) && decide (i.cur < 1000)) c.openFet
    pg := tickCount (s.pgQualifies gateFull) c.pg
    ftimer := if i.inLimit then c.ftimer + 1 else 0
    gateFull := tickCount (i.passFet && gateFull) c.gateFull
    gateOff := if i.passFet then 0 else c.gateOff + 1
    seqHigh := tickCount seq c.seqHigh
    seqLow := tickCount (!seq) c.seqLow
    retry := tickCount i.phase.retrying c.retry
    belowTen := if i.passFet then none
      else match c.belowTen with
        | some n => some (n + 1)
        | none => if below10 then some 0 else none }

/-- A peak-hold telemetry register. -/
def State.peak (s : State) (j : Nat) (v : Nat) : State :=
  if (s.reg (Reg.INT_TLM_MAX j)).toNat < v then s.setReg (Reg.INT_TLM_MAX j) (BitVec.ofNat 32 v) else s

/-- EVALUATION_TICK (R56, R67, R70, R75, R76): the samples, accumulators, setpoint and counts of one tick, and the
thresholds that need no row of their own: VOUT below V_RST deasserts PG_OUT (R72). SEQ_IN passes its 1 ms filter both ways, though
the manual speaks of its assertion only (DEDUCED, log 184). -/
def execEvaluationTick (pathA pathB : Reading) (tFet : Option (Int × Int)) (gateFull seq : Bool) (s : State) :
    Host.Outcome State Fault Refusal :=
  guarded s.intake.vstby s
    (let i := s.intake
     let (ta, tb) := tFet.getD (i.tFetA, i.tFetB)
     let i1 := { i with
       ticks := i.ticks + 1, pathA := (pathA :: i.pathA).take 8, pathB := (pathB :: i.pathB).take 8, tFetA := ta,
       tFetB := tb }
     let s1 := s.setIntake i1
     let diffs := pathDiffs i1.pathA i1.pathB ta tb (s.icfg Reg.INT_SHUNT 31 0) (s.icfg Reg.INT_VOUT_DIV 31 0)
     let diff := diffs.foldl max 0
     let cnt := s1.tickCounts gateFull seq (implausible i1.pathA ta ++ implausible i1.pathB tb)
       (diffs.map fun d => decide (200 < d))
     let vds := (i1.activeV.getD 0) - i1.vout
     let power := (max 0 (i1.activeV.getD 0)).toNat * (max 0 i1.cur).toNat
     let i2 := { i1 with
       cnt := cnt
       seqIn := if 1000 ≤ cnt.seqHigh then true else if 1000 ≤ cnt.seqLow then false else i.seqIn
       iLimit := limitSetpoint (s.icfg Reg.INT_ILIM 15 0) (s.icfg Reg.INT_PFET 15 0) (s.icfg Reg.INT_PFET 31 16) vds
       curveAcc := curveStep i.cfg i1.cur i.curveAcc
       i2tAcc := i2tStep i.cfg i1.cur i.i2tAcc
       phase := if i.phase = .softStart ∧ 0 < cnt.pg then .pgDelay
         else if i.phase = .pgDelay ∧ cnt.pg = 0 then .softStart else i.phase
       energy := i.energy + power }
     let s2 := s1.setIntake i2
     let s3 := (((((s2.peak 0 (ofSigned 32 (i2.feedV .a))).peak 1 (ofSigned 32 (i2.feedV .b))).peak 2
       (ofSigned 32 i2.vout)).peak 3 (max 0 i2.cur).toNat).peak 4 (power / 100000)).peak 5 (max 0 i2.tFet).toNat
     let s4 := if (s3.reg Reg.INT_TLM_PATH_DIFF).toNat < diff then s3.setReg Reg.INT_TLM_PATH_DIFF (BitVec.ofNat 32 diff)
       else s3
     if i2.pgOut && (decide (s.tFilt ≤ cnt.voutRst)
         || (!i2.passFet && decide (0 < cnt.voutRst) && decide (i2.warnCause = .trip ∨ i2.warnCause = .removal))) then
       s4.dropPg causePgOut
     else s4)

/-- PLAUSIBILITY_FAULT (R57). -/
def execPlausibilityFault (s : State) : Host.Outcome State Fault Refusal :=
  guarded (s.intake.vstby && s.intake.cnt.plaus.any fun n => decide (500 ≤ n)) s
    ((s.setIntake { s.intake with faults := s.intake.faults ||| 0x400 }).intakeEvent 0x050C)

/-- SENSE_DISAGREE (R58). -/
def execSenseDisagree (s : State) : Host.Outcome State Fault Refusal :=
  guarded (s.intake.vstby && s.intake.cnt.disagree.any fun n => decide (500 ≤ n)) s
    ((s.setIntake { s.intake with faults := s.intake.faults ||| 0x200 }).intakeEvent 0x050B)

/-! ### Feed selection -/

/-- The feeds that FEED_MODE permits (02, Straps). -/
def Intake.permits (i : Intake) (f : Feed) : Bool :=
  match f with
  | .a => i.feedMode == 0 || i.feedMode == 2
  | .b => i.feedMode == 1 || i.feedMode == 2

def Intake.valid (i : Intake) : Feed → Bool
  | .a => i.validA
  | .b => i.validB

def Intake.setValid (i : Intake) (f : Feed) (v : Bool) : Intake :=
  match f with
  | .a => { i with validA := v }
  | .b => { i with validB := v }

def Intake.setIso (i : Intake) (f : Feed) (v : Bool) : Intake :=
  match f with
  | .a => { i with isoA := v }
  | .b => { i with isoB := v }

def Intake.iso (i : Intake) : Feed → Bool
  | .a => i.isoA
  | .b => i.isoB

def otherFeed : Feed → Feed
  | .a => .b
  | .b => .a

/-- A feed that may be used now: permitted and valid. -/
def Intake.usable (i : Intake) (f : Feed) : Bool := i.permits f && i.valid f

/-- The feed to start on: A while it is usable, else B (R61). -/
def Intake.choose (i : Intake) : Option Feed :=
  if i.usable .a then some .a else if i.usable .b then some .b else none

/-- The active feed is valid and permitted. -/
def Intake.fed (i : Intake) : Bool := match i.feed with | some f => i.usable f | none => false

/-- While no feed's isolation FETs are on and no break runs, the feed to start on is the active one (R61). -/
def Intake.rechoose (i : Intake) : Intake :=
  if i.isoA || i.isoB || i.breaking then i
  else
    match i.choose with
    | some f => { i with feed := some f, switchTo := none }
    | none => i

/-- The SEQ wait begins once insertion is complete and a feed is valid; with SEQ_FIRST it ends at once (R94, R95). -/
def Intake.seqStart (i : Intake) : Intake :=
  if i.phase = .qualify ∧ i.inserted = true ∧ i.fed = true ∧ i.needSeq = true then
    if i.seqFirst then { i with needSeq := false } else { i with phase := .seqWait }
  else i

def Intake.qualCount (i : Intake) : Feed → Nat
  | .a => i.cnt.qualA
  | .b => i.cnt.qualB

def Intake.swCount (i : Intake) : Feed → Nat
  | .a => i.cnt.swA
  | .b => i.cnt.swB

def Intake.ovCount (i : Intake) : Feed → Nat
  | .a => i.cnt.ovA
  | .b => i.cnt.ovB

/-- FEED_VALID (R61, R62, R94): the feed is valid; while no feed is in use the one to start on is chosen afresh, and an active
feed that has ceased to be valid and is below V_SW is left for this one. -/
def execFeedValid (feed : Feed) (s : State) : Host.Outcome State Fault Refusal :=
  guarded (s.intake.strapped && !s.intake.valid feed
      && decide (s.icfg Reg.INT_FEED_TIMES 21 12 * 1000 ≤ s.intake.qualCount feed)) s
    (let i := s.intake.setValid feed true
     let j := i.rechoose
     s.setIntake (match j.feed with
       | none => j
       | some g =>
         if feed ≠ g ∧ j.permits feed = true ∧ j.valid g = false ∧ 0 < j.swCount g then { j with switchTo := some feed } else j).seqStart)

/-- FEED_INVALID (R61, R62): the feed ceases to be valid; if it is the active one, another usable feed takes over, and
with none it stays active. An active feed that is no longer valid and falls below V_SW again is left in the same way (DEDUCED,
log 185). -/
def execFeedInvalid (feed : Feed) (s : State) : Host.Outcome State Fault Refusal :=
  guarded ((s.intake.valid feed || decide (s.intake.feed = some feed))
      && (decide (s.tFilt ≤ s.intake.swCount feed) || decide (s.tFilt ≤ s.intake.ovCount feed))) s
    (let i := s.intake.setValid feed false
     s.setIntake (if i.feed = some feed ∧ i.usable (otherFeed feed) = true then
       { i with switchTo := some (otherFeed feed) } else i))

/-- FEED_SWITCH (R63): the old feed's isolation FETs turn off and the new feed is the active one, to which the counts of the
thresholds then apply; event 0x0501. -/
def execFeedSwitch (s : State) : Host.Outcome State Fault Refusal :=
  match s.intake.switchTo with
  | some g =>
    .next ((s.setIntake { (s.intake.setIso (otherFeed g) false) with
      feed := some g, switchTo := none, breaking := s.intake.breaking || s.intake.iso (otherFeed g)
      cnt := { s.intake.cnt with warn := 0, recov := 0, rst := 0, openFet := 0 } }).intakeEvent 0x0501)
  | none => .next s

/-- FEED_BREAK_END (R63): the new feed's isolation FETs turn on. -/
def execFeedBreakEnd (s : State) : Host.Outcome State Fault Refusal :=
  match s.intake.feed with
  | some g => guarded s.intake.breaking s (s.setIntake { (s.intake.setIso g true) with breaking := false })
  | none => .next s

/-- Back to feed qualification without a SEQ wait and without insertion debounce (R62, R65). A retry, latch-off, lockout, Off or
trip hold goes on, since only what R79, R80, R82, R35 and R97 name ends it, and with it the wait on SEQ_IN that its end owes. -/
def Intake.requalify (i : Intake) : Intake :=
  let stays := i.phase.latched || i.phase.retrying
  { i with passFet := false, isoA := false, isoB := false, enhancing := false, breaking := false, inLimit := false,
           switchTo := none, feed := none, validA := false, validB := false
           phase := if stays then i.phase else .qualify
           needSeq := stays && i.needSeq
           cnt := { i.cnt with qualA := 0, qualB := 0 } }

/-- FEED_BELOW_VRST (R62, R72): a dip of R91 has not recovered, and FEED_WARN_N stays asserted. -/
def execFeedBelowVrst (s : State) : Host.Outcome State Fault Refusal :=
  guarded (s.intake.feed.isSome && decide (s.tFilt ≤ s.intake.cnt.rst)) s
    (let s1 := (s.dropPg causePgOut).intakeEvent 0x0502
     s1.setIntake { s1.intake.requalify with
       warnCause := if s1.intake.warnCause = .early then .none else s1.intake.warnCause })

/-- FEED_OVERVOLTAGE (R65): switch to the other feed, or turn off and start again without a SEQ wait. -/
def execFeedOvervoltage (s : State) : Host.Outcome State Fault Refusal :=
  match s.intake.feed with
  | none => .next s
  | some f =>
    guarded (decide (s.tFilt ≤ s.intake.ovCount f)) s
      (let i := s.intake.setValid f false
       if i.usable (otherFeed f) then s.setIntake { i with switchTo := some (otherFeed f) }
       else
         let s1 := ((s.setIntake { i with faults := i.faults ||| 0x001 }).dropPg causePgOut).intakeEvent 0x0518
         s1.setIntake s1.intake.requalify)

/-- FEED_RETURN (R64). -/
def execFeedReturn (s : State) : Host.Outcome State Fault Refusal :=
  guarded (bit (s.icfg Reg.INT_CTRL 31 0) 5 && decide (s.intake.feed = some .b) && s.intake.usable .a
      && !s.intake.inLimit && !s.intake.feedWarn) s
    (s.setIntake { s.intake with switchTo := some .a })

/-! ### Soft start and power-good -/

/-- Soft start may begin (R67, R79, R94): a valid active feed, any SEQ wait over, and no fault that holds it off. -/
def State.startReady (s : State) : Bool :=
  let i := s.intake
  (decide (i.phase = .qualify) || decide (i.phase = .seqWait)) && i.fed && !i.needSeq && i.inserted && !i.held
    && !i.thermTrip && !i.offPending && decide (i.faults &&& 0x842 = 0) && i.switchTo.isNone
    && decide (i.tFet < (s.icfg Reg.INT_FET_TEMP_CFG 31 16 * 10 : Int))

/-- The active feed's isolation FETs on and the 1 ms enhancement wait begun (R67). -/
def Intake.softStart (i : Intake) : Intake :=
  match i.feed with
  | some f => { (i.setIso f true) with enhancing := true, phase := .softStart }
  | none => i

/-- SOFT_START (R67). -/
def execSoftStart (s : State) : Host.Outcome State Fault Refusal :=
  guarded s.startReady s (s.setIntake s.intake.softStart)

/-- PASS_FET_DRIVE (R67). -/
def execPassFetDrive (s : State) : Host.Outcome State Fault Refusal :=
  guarded s.intake.enhancing s (s.setIntake { s.intake with enhancing := false, passFet := true })

/-- CURRENT_LIMIT_ENTER (R68, R71): the fault timer starts; a power-good qualification that holds in the same tick is deferred
with event 0x050E. -/
def execCurrentLimitEnter (s : State) : Host.Outcome State Fault Refusal :=
  guarded (s.intake.passFet && !s.intake.inLimit) s
    (let tie := !s.intake.pgOut && decide (0 < s.intake.cnt.pg)
     let s1 := s.setIntake { s.intake with inLimit := true, cnt := { s.intake.cnt with ftimer := 0, pg := 0 } }
     if tie then s1.intakeEvent 0x050E else s1)

/-- CURRENT_LIMIT_LEAVE (R68): the fault timer returns to idle, cleared. -/
def execCurrentLimitLeave (s : State) : Host.Outcome State Fault Refusal :=
  guarded s.intake.inLimit s
    (s.setIntake { s.intake with inLimit := false, cnt := { s.intake.cnt with ftimer := 0 } })

/-- The intake die's part of a trip (R78, R80). -/
def State.tripState (s : State) (cause : Word) : Intake :=
  let i := s.intake
  let n := min 15 (i.faultCount + 1)
  let last := decide (s.icfg Reg.INT_RETRY_MAX 3 0 ≤ n)
  let auto := bit (s.icfg Reg.INT_CTRL 31 0) 4
  { i with
    passFet := false, enhancing := false, inLimit := false, feedWarn := true, warnCause := .trip, braceSent := true
    faults := i.faults ||| cause ||| (if last then 0x002 else 0)
    faultCount := n
    held := !last && !auto
    phase := if last then .latchedOff else if auto then .retryCool else .qualify
    cnt := { i.cnt with ftimer := 0, pg := 0, gateOff := 0, belowTen := none, retry := 0 } }

/-- A trip (R78): gate down, FEED_WARN_N, the cause latched and counted, its event, and the retry timer or latch-off
with event 0x050F. -/
def State.trip (s : State) (cause : Word) (code : Nat) : State :=
  let s1 := (s.setIntake (s.tripState cause)).intakeEvent code
  if s1.intake.phase = .latchedOff then s1.intakeEvent 0x050F else s1

/-- FTIMER_EXPIRED (R68, R78). -/
def execFtimerExpired (s : State) : Host.Outcome State Fault Refusal :=
  guarded (s.intake.inLimit && decide (s.icfg Reg.INT_FTIMER 31 0 * 100 ≤ s.intake.cnt.ftimer)) s (s.trip 0x004 0x0505)

/-- CURVE_TRIP (R75, R78). -/
def execCurveTrip (s : State) : Host.Outcome State Fault Refusal :=
  guarded (s.intake.passFet && decide (1000000000000 ≤ s.intake.curveAcc)) s (s.trip 0x008 0x0506)

/-- I2T_TRIP (R76, R78). -/
def execI2tTrip (s : State) : Host.Outcome State Fault Refusal :=
  guarded (s.intake.passFet && decide (s.icfg Reg.INT_I2T_LIMIT 31 0 * 1000000000000 ≤ s.intake.i2tAcc)) s
    (s.trip 0x010 0x0507)

/-- FAST_TRIP (R77, R78). -/
def execFastTrip (s : State) : Host.Outcome State Fault Refusal :=
  guarded s.intake.passFet s (s.trip 0x020 0x0508)

/-- FET_OVERTEMP (R78). With the pass FET off there is nothing to trip: the manual does not say so (DESIGN CHOICE, log 186). -/
def execFetOvertemp (s : State) : Host.Outcome State Fault Refusal :=
  guarded (s.intake.passFet && decide (1000 ≤ s.intake.cnt.hot)) s (s.trip 0x100 0x0512)

/-- Brace ends once the last-gasp write has completed, or at once where none is under way (R91, R93). -/
def State.leaveBrace (s : State) : State :=
  let wait := s.boot.brace && s.boot.lgWriting
  { s with boot := { s.boot with brace := wait, braceEnd := wait } }

/-- FEED_WARN_N has been asserted by a trip or removal (R93). -/
def Intake.tripWarned (i : Intake) : Bool := decide (i.warnCause = .trip ∨ i.warnCause = .removal)

/-- PG_OUT_ASSERT (R70, R93): power-good has qualified for PG_DELAY; a warning from a trip or removal ends, and with it a brace
that PG_OUT has outlasted. Where PG_OUT has been deasserted meanwhile, the manual does not say when the warning ends: here it does
so with the next power-good too (DESIGN CHOICE, log 187). -/
def execPgOutAssert (s : State) : Host.Outcome State Fault Refusal :=
  guarded ((!s.intake.pgOut || s.intake.tripWarned) && !s.intake.inLimit && !s.intake.thermTrip && !s.intake.offPending
      && s.intake.passFet && decide (0 < s.intake.cnt.pg) && decide (s.icfg Reg.INT_PG_CFG 15 0 * 1000 ≤ s.intake.cnt.pg)) s
    ((s.setIntake { s.intake with
      pgOut := true, phase := .running, feedWarn := false, warnCause := .none, braceSent := false }).leaveBrace)

/-! ### Retry, latches, FET health -/

/-- RETRY_COOL_END (R79, R86): the delay portion begins, unless a removal has abandoned it. -/
def execRetryCoolEnd (s : State) : Host.Outcome State Fault Refusal :=
  guarded (decide (s.intake.phase = .retryCool)) s
    (s.setIntake { s.intake with
      phase := if s.intake.inserted then .retryDelay else .qualify
      cnt := { s.intake.cnt with retry := 0 } })

/-- RETRY_END (R79): soft start begins again with no SEQ wait, unless the FET is at or above T_START. -/
def execRetryEnd (s : State) : Host.Outcome State Fault Refusal :=
  guarded (decide (s.intake.phase = .retryDelay)) s
    (let s1 := s.setIntake { s.intake with phase := if s.intake.thermTrip then .tripHold else .qualify, needSeq := false }
     if s1.startReady then s1.setIntake s1.intake.softStart else s1)

/-- INT_FAULT_CLEAR (R54, R80, R82). -/
def execIntFaultClear (value : Word) (s : State) : Host.Outcome State Fault Refusal :=
  guarded (s.linkTakes Reg.INT_FAULT value) s (s.linkAct Reg.INT_FAULT value)

/-- FAULT_COUNT_RESET (R81). -/
def execFaultCountReset (s : State) : Host.Outcome State Fault Refusal :=
  guarded s.intake.pgOut s (s.setIntake { s.intake with faultCount := 0 })

/-- SHORT_FET (R82): both feeds' FETs open and the lockout is latched; event 0x0509. -/
def execShortFet (s : State) : Host.Outcome State Fault Refusal :=
  guarded (!s.intake.passFet && decide (1000 ≤ s.intake.cnt.short)) s
    ((s.setIntake { s.intake with
      isoA := false, isoB := false, breaking := false, enhancing := false, phase := .lockout
      faults := s.intake.faults ||| 0x040 }).intakeEvent 0x0509)

/-- OPEN_FET (R83): latched with event 0x050A; the FETs stay as they are. -/
def execOpenFet (s : State) : Host.Outcome State Fault Refusal :=
  guarded (decide (1000 ≤ s.intake.cnt.gateFull) && decide (0 < s.intake.cnt.openFet)) s
    ((s.setIntake { s.intake with faults := s.intake.faults ||| 0x080 }).intakeEvent 0x050A)

/-! ### Presence -/

/-- REMOVAL (R84, R86, R35): either presence pin reads deasserted. -/
def execRemoval (long short : Bool) (s : State) : Host.Outcome State Fault Refusal :=
  guarded (s.intake.vstby && !(long && short)) s
    (let i := s.intake
     let ends := i.phase.retrying || decide (i.phase = .latchedOff ∨ i.faults &&& 0x002 ≠ 0)
     (s.setIntake { i with
       pin0 := !long, pin1 := !short, inserted := false
       passFet := false, enhancing := false, inLimit := false, feedWarn := true, braceSent := true
       warnCause := .removal
       held := false, thermTrip := false
       cnt := { i.cnt with ftimer := 0, pg := 0, gateOff := 0, belowTen := none }
       faultCount := if ends then 0 else i.faultCount
       faults := if ends then i.faults &&& ~~~0x002 else i.faults
       phase := if i.phase = .retryCool ∨ i.phase = .lockout ∨ i.phase = .off then i.phase else .qualify
       }).intakeEvent 0x0510)

/-- INSERTION_COMPLETE (R85, R86, R94, R97): both pins have stayed asserted for 100 ms and no cool-down runs. -/
def execInsertionComplete (s : State) : Host.Outcome State Fault Refusal :=
  guarded (s.intake.strapped && !s.intake.inserted && decide (s.intake.phase ≠ .retryCool)) s
    (let i := s.intake
     let i1 := { i with
       pin0 := false, pin1 := false, inserted := true, needSeq := true, offPending := false
       phase := if i.phase = Phase.off then .qualify else i.phase }
     (s.setIntake i1.rechoose.seqStart).intakeEvent 0x0511)

/-! ### Early warning -/

/-- EARLY_WARNING (R87): FEED_WARN_N, the brace frame and event 0x0503. -/
def execEarlyWarning (s : State) : Host.Outcome State Fault Refusal :=
  guarded (s.intake.feed.isSome && !s.intake.feedWarn && decide (s.tFilt ≤ s.intake.cnt.warn)) s
    ((s.setIntake { s.intake with feedWarn := true, warnCause := .early, braceSent := true }).intakeEvent 0x0503)

/-- DIP_RECOVERED (R91): FEED_WARN_N deasserts with event 0x0504; brace ends at once, or with the last-gasp write. -/
def execDipRecovered (s : State) : Host.Outcome State Fault Refusal :=
  guarded (decide (s.intake.warnCause = .early) && decide (s.icfg Reg.INT_FEED_TIMES2 9 0 * 1000 ≤ s.intake.cnt.recov)) s
    (((s.setIntake { s.intake with feedWarn := false, warnCause := .none, braceSent := false }).intakeEvent 0x0504).leaveBrace)

/-! ### Sequencing -/

/-- SEQ_IN_ASSERT (R94, R95): ends the SEQ wait. -/
def execSeqInAssert (s : State) : Host.Outcome State Fault Refusal :=
  guarded (s.intake.vstby && decide (1000 ≤ s.intake.cnt.seqHigh)) s
    (s.setIntake { s.intake with
      seqIn := true
      needSeq := s.intake.needSeq && decide (s.intake.phase ≠ .seqWait) })

/-- SEQ_TIMEOUT (R94): the wait ends with SEQ_TIMED_OUT and event 0x050D. The manual does not say when the bit returns to 0: it
stays until VSTBY falls (DESIGN CHOICE, log 188). -/
def execSeqTimeout (s : State) : Host.Outcome State Fault Refusal :=
  guarded (decide (s.intake.phase = .seqWait) && s.intake.needSeq) s
    ((s.setIntake { s.intake with needSeq := false, seqTimedOut := true }).intakeEvent 0x050D)

/-- SEQ_OUT_ASSERT (R96). -/
def execSeqOutAssert (s : State) : Host.Outcome State Fault Refusal :=
  guarded s.intake.pgOut s (s.setIntake { s.intake with seqOut := true })

/-- OFF_REQ (R97, R72): PG_OUT deasserts and Off is 100 ms away. -/
def execOffReq (s : State) : Host.Outcome State Fault Refusal :=
  guarded (s.live && s.logic.linkUp && s.intake.pgOut) s s.requestOff

/-- OFF_PASS_FET_OFF (R97). -/
def execOffPassFetOff (s : State) : Host.Outcome State Fault Refusal :=
  guarded s.intake.offPending s
    (s.setIntake { s.intake with
      offPending := false, passFet := false, enhancing := false, inLimit := false, phase := .off
      cnt := { s.intake.cnt with gateOff := 0, belowTen := none } })

/-- SEQ_WAKE_EDGE (R97, R95): ends Off while SEQ_WAKE is 1; the start that follows waits on SEQ_IN. -/
def execSeqWakeEdge (s : State) : Host.Outcome State Fault Refusal :=
  guarded (decide (s.intake.phase = Phase.off) && bit (s.icfg Reg.INT_CTRL 31 0) 7) s
    (s.setIntake (({ s.intake with phase := .qualify, needSeq := true }).rechoose).seqStart)

end Sys2Proof.Machine
end

