-- ==== Sys2Proof/Machine/Keys.lean ====
section
/-! DEFINITION. The crypto block's commands (13_crypto.md): provisioning the wrap key, the at-rest key slots, engines put back
in service, rekey and crypto-erase. -/

namespace Sys2Proof.Machine

open Sys2Proof

/-! ### The wrap key (R497 to R499) -/

/-- The operator's key-encryption key as CRY_DWK_PROV holds it. -/
def State.provKey (s : State) : BitVec 256 := keyOf (s.stageBytes (Reg.CRY_DWK_PROV 0) 8)

/-- CRY_DWK_PROV is cleared. -/
def State.clearProv (s : State) : State := (List.range 8).foldl (fun t w => t.setReg (Reg.CRY_DWK_PROV w) 0) s

/-- DWK_BURN: F is burned within the unlock window, once (R498). -/
def execDwkBurn (value : Word) (s : State) : Host.Outcome State Fault Refusal :=
  commanding 11 (bit value.toNat 0) s
    (if s.cry.provisioned || s.cry.burning || !s.unlocked then s.wrote stAccessDenied
     else ({ s with cry := { s.cry with fuseF := s.provKey ^^^ Config.pufValue, burning := true } }).wrote)

/-- DWK_PROVISIONED: the burn has ended and the wrap key is formed (R498). -/
def execDwkProvisioned (s : State) : Host.Outcome State Fault Refusal :=
  guarded (s.up 11 && s.cry.burning) s
    (({ s with cry := { s.cry with burning := false, provisioned := true, valid := true } }).clearProv.raise 0x8009)

/-! ### Key slots (R502 to R504) -/

/-- The valid regions whose KEY_SLOT names a slot: REFS (R502). -/
def State.keyRefs (s : State) (k : Nat) : Nat := (s.pipe.regions.filter fun e => e.2.valid && e.2.keySlot == k).length

/-- A rekey record names the slot: REKEY_HELD (R502). -/
def State.rekeyHeld (s : State) (k : Nat) : Bool := s.cry.records.any fun e => e.2.valid && (e.2.old == k || e.2.new == k)

/-- A key slot command ends: CRY_KS_STATE, CRY_KS_KCV and CRY_KS_STATUS show the slot and the code (R503). -/
def State.ksEnd (s : State) (k code : Nat) : State :=
  let x := s.keySlot k
  let st := bitNat x.loaded * 2 ^ 31 + bitNat (s.rekeyHeld k) * 2 ^ 30 + s.keyRefs k
  (((s.setReg Reg.CRY_KS_STATE (BitVec.ofNat 32 st)).setReg Reg.CRY_KS_KCV (BitVec.ofNat 32 x.kcv)).setReg
    Reg.CRY_KS_STATUS (BitVec.ofNat 32 code)).wrote

/-- CRY_KS_STAGE is cleared. -/
def State.clearStage (s : State) : State := (List.range 18).foldl (fun t w => t.setReg (Reg.CRY_KS_STAGE w) 0) s

/-- KEY_SLOT_LOAD (R500, R503). -/
def execKeySlotLoad (s : State) : Host.Outcome State Fault Refusal :=
  let k := s.fld Reg.CRY_KS_SEL 11 0
  let t :=
    if (s.keySlot k).loaded then s.clearStage.ksEnd k stAccessDenied
    else
      match s.unwrap (s.stageBytes (Reg.CRY_KS_STAGE 0) 18) with
      | (s1, none) => s1.clearStage.ksEnd k stAuthFail
      | (s1, some p) =>
        let k1 := keyOf (p.take 32)
        let k2 := keyOf (p.drop 32)
        if k1 = k2 then s1.clearStage.ksEnd k stOutOfRange
        else
          ((s1.setKeySlot k { loaded := true, k1 := k1, k2 := k2, kcv := keyCheck k1 }).clearStage.raise 0x8005
            (k * 2 ^ 32 + keyCheck k1)).ksEnd k stOK
  commanding 11 true s t

/-- Zeroise a slot (R504). -/
def State.zeroise (s : State) (k : Nat) : State := ((s.setKeySlot k {}).cryCount 11 1).raise 0x8006 k

/-- KEY_SLOT_ZEROISE (R503, R504). -/
def execKeySlotZeroise (s : State) : Host.Outcome State Fault Refusal :=
  let k := s.fld Reg.CRY_KS_SEL 11 0
  commanding 11 true s
    (if s.keyRefs k != 0 || s.rekeyHeld k then s.ksEnd k stAccessDenied else (s.zeroise k).ksEnd k stOK)

/-- KEY_SLOT_READ (R503). -/
def execKeySlotRead (s : State) : Host.Outcome State Fault Refusal :=
  commanding 11 true s (s.ksEnd (s.fld Reg.CRY_KS_SEL 11 0) stOK)

/-- XTS_ENGINE_RETURN: the engines whose bits are written 1 in CRY_XTS_OOS, or CRY_GCM_OOS, are in service again (R514). -/
def execXtsEngineReturn (gcm : Bool) (value : Word) (s : State) : Host.Outcome State Fault Refusal :=
  let a := if gcm then Reg.CRY_GCM_OOS else Reg.CRY_XTS_OOS
  commanding 11 true s ((s.setReg a (s.reg a &&& ~~~value)).wrote)

/-! ### Rekey (R517 to R521) -/

/-- The state with a rekey record replaced. -/
def State.setRekey (s : State) (r : Nat) (v : RekeyRec) : State :=
  { s with cry := { s.cry with records := tabSet (fun _ => {}) s.cry.records r v } }

/-- A stream's units, read as they lie, under another key pair (R519). -/
def recryptStream (o1 o2 n1 n2 : BitVec 256) (region page : Nat) (d : Desc) (copy : List (List Byte × Byte)) :
    List (List Byte × Byte) :=
  let n := d.priCount + d.offCount
  (List.range n).flatMap fun i =>
    let body := (copyBodies n copy).getD i []
    let len := if i < d.priCount then 256 else 248
    let plain := xtsDec o1 o2 (xtsTweak region page true i) (body.take len)
    let enc := xtsEnc n1 n2 (xtsTweak region page true i) plain ++ body.drop len
    (List.range 4).map fun l => ((enc.drop (64 * l)).take 64, (copy.getD (4 * i + l) ([], 0)).2)

/-- The stored units of a page under another key pair: none where a line of a group fails its tag twice (R519, R605). -/
def State.recrypt (s : State) (o1 o2 n1 n2 : BitVec 256) (region page : Nat) (d : Desc) (lines : List Nat)
    (copy : List (List Byte × Byte)) (errs : List ReadErrs) : State × Option (List (List Byte × Byte)) :=
  if d.isGroup then
    match s.groupRead 4 o1 o2 region page lines copy errs 0 with
    | (t, none) => (t, none)
    | (t, some p) =>
      (t, some ((lineUnits p).map fun u => (xtsEnc n1 n2 (xtsTweak region page false u.ordinal) u.plain, crc8Bytes u.plain)))
  else (s, some (recryptStream o1 o2 n1 n2 region page d copy))

/-- The rekey passes a page: MARK is the next one (R519). -/
def State.rekeyNext (s : State) (op rec bad done : Nat) : State :=
  let v := s.rekey rec
  let o := s.opSlot op
  ((s.setRekey rec { v with mark := v.mark + 1 }).setOp op { o with progress := v.mark + 1, bad := o.bad + bad }).cryCount 10 done

/-- A page of the rekey whose data is uncorrectable: marked, counted and passed over (R519). -/
def State.rekeyBad (s : State) (op rec region page bad : Nat) : State :=
  (if 2 ≤ bad then s.poisonPage region page else s).rekeyNext op rec 1 0

/-- A stored page read, encrypted under the new slot into new slots of its stand, and committed (R519 steps 2 to 5). -/
def State.rekeyStored (s back : State) (op rec region page engine : Nat) (ok again : Bool) (errs : List ReadErrs) (d : Desc) :
    State :=
  let v := s.rekey rec
  let k := slotStand d.priSlot
  let old := s.keySlot v.old
  let new := s.keySlot v.new
  let lines := s.pageLines d
  if d.poison then s.rekeyNext op rec 1 0
  else if !s.standServes k then back.useStand k
  else if !s.canRead 4 lines then back
  else if !s.chainWhole d then (s.raise 0x6006 (pageDetail region page)).rekeyBad op rec region page 1
  else
    let slots := s.slotsOf d
    let (s1, copy, bad) := s.readLines 4 lines errs
    let units := if d.isGroup then 64 else d.priCount + d.offCount
    if bad ≠ 0 then s1.rekeyBad op rec region page bad
    else
      match s1.recrypt old.k1 old.k2 new.k1 new.k2 region page d lines copy errs with
      | (s1, none) => s1.rekeyBad op rec region page 3
      | (s1, some enc) =>
        let (s2, good) := ((s1.cryCount 1 units).cryCount 0 (units - 1)).unitCheck engine ok again
        if !good then (s2.raise 0x8002 (pageDetail region page)).opFail op rcInternalFault 0
        else
          match s2.lay 4 d enc d.tier (18 + k) (openAt (18 + k) k) with
          | .noSpace => back.opFail op rcNoSpace 0
          | .wait => back
          | .done t _ nd => ((t.putDesc region page (d.relocate nd)).release region page d slots).rekeyNext op rec 0 1

/-- REKEY_PAGE: the page at MARK (R519). Pages that are not stored only advance it. -/
def execRekeyPage (op engine : Nat) (ok again : Bool) (errs : List ReadErrs) (s : State) : Host.Outcome State Fault Refusal :=
  let o := s.opSlot op
  match s.rekeyOf o.region with
  | none => .next s
  | some (rec, v) =>
    let page := v.mark
    let r := o.region
    let may := o.working opRekey && decide (page < (s.region r).pageCount) && !s.boot.brace && !s.boot.draining
      && !s.tracked r page && s.engineFree engine
    let go (t : State) (d : Desc) : State :=
      if !d.stored then t.rekeyNext op rec 0 0
      else (t.restoreTransit r page).rekeyStored t op rec r page engine ok again (errs.drop 1) ((t.restoreTransit r page).descNow r page)
    needing 11 may s (s.agent (agentOp op) r page 3 (errs.headD ReadErrs.none) go (fun t _ => t.rekeyNext op rec 1 0))

/-! ### Crypto-erase (R522, R523) -/

/-- A unit of the region is being encrypted or decrypted: it completes with the old key before a zeroisation (R504). -/
def State.regionInCrypto (s : State) (region : Nat) : Bool :=
  s.coh.flights.any fun f => f.region == region && (f.stage == .read || f.stage == .check)

/-- What erasing leaves of a descriptor: Unallocated, with its directory (R334, R523). -/
def Desc.erased (d : Desc) : Desc :=
  { dir := d.dir, fValid := d.fValid, fIndex := d.fIndex, overflow := d.overflow, ptrCount := d.ptrCount
    ptr0 := d.ptr0, ptr1 := d.ptr1, ptr2 := d.ptr2, ptr3 := d.ptr3, group := d.group }

/-- The zeroisation that begins an erase, and the record of the region deleted (R523). -/
def State.eraseKeys (s : State) (region : Nat) : State :=
  let s1 :=
    match s.rekeyOf region with
    | some (rec, v) => (s.setRekey rec {}).zeroise v.new
    | none => s
  s1.zeroise (s.region region).keySlot

/-- ERASE_REGION_STEP: the zeroisation, and then one descriptor after another (R523). -/
def execEraseRegionStep (op : Nat) (errs : ReadErrs) (s : State) : Host.Outcome State Fault Refusal :=
  let o := s.opSlot op
  let r := o.region
  let page := o.cursor - 1
  let next (t : State) : State :=
    let x := t.opSlot op
    t.setOp op { x with cursor := x.cursor + 1, progress := x.progress + 1 }
  let clear (t : State) (d : Desc) : State :=
    let slots := t.slotsOf d
    next ((t.putDesc r page d.erased).release r page d (if d.stored then slots else []))
  if o.cursor = 0 then
    needing 11 (o.working opErase && !s.regionInCrypto r) s ((s.eraseKeys r).setOp op { o with cursor := 1 })
  else
    needing 11 (o.working opErase && decide (page < (s.region r).pageCount) && !s.boot.brace && !s.boot.draining && !s.tracked r page)
      s (s.agent (agentOp op) r page 3 errs clear (fun t _ => next (t.storeDesc 11 r page {})))

end Sys2Proof.Machine
end

