-- ==== Sys2Proof/Machine/Ports.lean ====
section
/-! DEFINITION. Ethernet ports: link state, failover, frame reception, PFC, neighbours, echo, MACsec and the wake filter
(06_ports.md, R175 to R205 and R214 to R218). -/

namespace Sys2Proof.Machine

open Sys2Proof

/-! ### Failover (R194 to R200) -/

/-- The alternate MAC of a session's primary, if it names one. -/
def State.alternate (s : State) (m : Nat) : Option Nat :=
  let a := Reg.PRT_FAILOVER (macPort m) (macIdx m)
  if s.flag a 31 then some (s.fld a 2 0) else none

/-- The MAC of a session's pair that it does not send on. -/
def State.otherMac (s : State) (x : Session) : Option Nat :=
  if x.current = x.primary then s.alternate x.primary else some x.primary

/-- Where a session's frames on a MAC go: the source of its latest verified frame there, else the gateway (R194). -/
def State.destMac (s : State) (c m : Nat) : Option (BitVec 48) :=
  let x := s.sess c
  match tabGet (fun _ => none) x.peerMac m with
  | some a => some a
  | none =>
    let g := if x.v6 then (s.mac m).gw6 else (s.mac m).gw4
    if g.resolved then some g.mac else none

/-- A session's current MAC, with its send rate brought down to that MAC's line rate (R298). -/
def State.setCurrent (s : State) (c m : Nat) : State :=
  let x := s.sess c
  s.setSess c { x with current := m, rate := min x.rate (10 * s.macRate m * 256) }

/-- Move a session to another MAC: its unsent segments go with it, and every unacknowledged one is sent again at once
(R197, R198, R709). -/
def State.moveSession (s : State) (c m : Nat) : State :=
  let s1 := (s.leaveRings c).setCurrent c m
  let s2 := (s1.sess c).replay.foldl (fun t r =>
    if (r.sent || r.held) && !r.sacked then t.retransmit c r.seg.ext else t) s1
  s2.joinRings c

/-- The client IDs with an open or closing session on a MAC. -/
def State.sessionsOn (s : State) (m : Nat) : List Nat :=
  (s.kct.ctx.filter fun e => e.2.sess.live && e.2.sess.current == m).map (·.1)

/-- A session can move to a MAC: its link is up and it has an address of the session's IP version (R197). -/
def State.canMove (s : State) (c m : Nat) : Bool := s.macUp m && s.hasIp m (s.sess c).v6

/-- Sessions on a downed MAC move or are counted as skipped: the state, and whether one moved (R197). -/
def State.failover (s : State) (m : Nat) : State × Bool :=
  (s.sessionsOn m).foldl (fun (t, moved) c =>
    match t.otherMac (t.sess c) with
    | some o =>
      if o ≠ m ∧ t.canMove c o = true then (t.moveSession c o, true)
      else (t.count (Reg.PRT_FAILOVER_SKIP (macPort m)), moved)
    | none => (t.count (Reg.PRT_FAILOVER_SKIP (macPort m)), moved)) (s, false)

/-- The link of a MAC becomes down: event 0x1002, and sessions fail over with event 0x1003 (R182, R197). -/
def State.linkDown (s : State) (m : Nat) : State :=
  if (s.mac m).linkUp then
    let x := s.mac m
    let s1 := (s.setMac m { x with
      linkUp := false, paused := 0, xoff := 0
      gw4 := { x.gw4 with asked := false, failures := 0 }, gw6 := { x.gw6 with asked := false, failures := 0 } }).raiseAt 0x1002
        (macPort m) (macIdx m) 0
    let (s2, moved) := s1.failover m
    if moved then s2.raiseAt 0x1003 (macPort m) (macIdx m) 0 else s2
  else s

/-- Sessions whose current and other MACs were both down move to the one that comes up (R199). -/
def State.moveTo (s : State) (m : Nat) : State :=
  (s.kct.ctx.filter fun e => e.2.sess.live && e.2.sess.current != m).foldl (fun t e =>
    let c := e.1
    if !t.macUp (t.sess c).current && t.otherMac (t.sess c) == some m && t.canMove c m then t.moveSession c m else t) s

/-- Announcements at link up (R192). -/
def State.announce (s : State) (m : Nat) : State :=
  let cfg := Reg.PRT_MAC_CFG (macPort m) (macIdx m)
  let s1 := if s.flag cfg 31 && s.ipv4 m != 0 then s.sendOwn m 46 (.arpRequest m (s.ipv4 m)) else s
  if s.flag cfg 30 then
    (s.ipv6s m).foldl (fun t a =>
      t.sendOwn m 90 (.neighAdv m 0x333300000001 a { v6 := true, src := a, dst := 0xFF020000000000000000000000000001 })) s1
  else s1

/-- LINK_UP (R182, R192, R193, R199). The row's arrival asserts PCS alignment, FEC lock, no remote fault and completed
negotiation for LINK_UP_HOLD. -/
def execLinkUp (mac : Nat) (s : State) : Host.Outcome State Fault Refusal :=
  guarded (s.macOn mac && s.up (portDom (macPort mac)) && !(s.mac mac).linkUp
      && (!s.msOn mac || ((s.sa mac (s.txAn mac)).valid && !(s.mac mac).pnExhausted))) s
    (let s1 := (s.setMac mac { s.mac mac with linkUp := true }).raiseAt 0x1001 (macPort mac) (macIdx mac) 0
     (((s1.announce mac).askGateway mac false).askGateway mac true).moveTo mac)

/-- LINK_DOWN (R182, R197): the condition has failed for LINK_HOLD. -/
def execLinkDown (mac : Nat) (s : State) : Host.Outcome State Fault Refusal :=
  guarded (s.live && (s.mac mac).linkUp) s (s.linkDown mac)

/-- FAILBACK (R200): a session returns to its primary; nothing is sent again. -/
def execFailback (client : BitVec 12) (s : State) : Host.Outcome State Fault Refusal :=
  let c := client.toNat
  let x := s.sess c
  guarded (s.up 5 && x.live && x.current != x.primary && s.macUp x.primary && s.hasIp x.primary x.v6
      && (s.destMac c x.primary).isSome) s
    ((((s.leaveRings c).setCurrent c x.primary).joinRings c).raiseAt 0x1004 (macPort x.primary) (macIdx x.primary) 0)

/-- AN_TIMEOUT (R181): the MAC restarts negotiation, advertising what its mode names (R180). -/
def execAnTimeout (mac : Nat) (s : State) : Host.Outcome State Fault Refusal :=
  let p := macPort mac
  match s.ability mac with
  | none => .next s
  | some a =>
    guarded (s.macOn mac && s.up (portDom p) && s.anOn mac && !(s.mac mac).linkUp) s
      (((s.count (Reg.PRT_AN_FAIL p (macIdx mac))).raiseAt 0x100C p (macIdx mac) 0).emit (.advertise mac a))

/-- FEC_ALARM (R178, R179): a 1 ms window's codeword counts, with event 0x1005 above the threshold. -/
def execFecAlarm (mac corrected uncorrected symbols : Nat) (s : State) : Host.Outcome State Fault Refusal :=
  let p := macPort mac
  let k := macIdx mac
  guarded (s.macOn mac && s.up (portDom p)) s
    (let s1 := ((s.count64 (Reg.PRT_FEC_CORR_LO p k) corrected).count64 (Reg.PRT_FEC_UNCORR_LO p k) uncorrected).count64
       (Reg.PRT_FEC_SYM_LO p k) symbols
     if (s.reg (Reg.PRT_FEC_ALARM p k)).toNat < uncorrected then s1.raiseAt 0x1005 p k 0 else s1)

/-! ### Reception -/

/-- The bytes of a wake pattern register array (R215). -/
def State.patBytes (s : State) (a : Nat) : List Byte :=
  (List.range 32).flatMap fun w => beBytes 4 (s.reg (a + 4 * w)).toNat

/-- A frame's first 128 bytes match an enabled pattern (R215). -/
def State.patMatch (s : State) (p : Nat) (f : EthFrame) : Bool :=
  (List.range 4).any fun k =>
    s.flag (Reg.PRT_WAKE_CFG p) (4 + k) &&
      (let v := s.patBytes (Reg.PRT_WAKE_PAT_VAL p k 0)
       let msk := s.patBytes (Reg.PRT_WAKE_PAT_MASK p k 0)
       List.zipWith (· &&& ·) (frameBytes f) msk == v)

/-- A frame matches the wake filter of a MAC's port (R215). -/
def State.wakeMatch (s : State) (m : Nat) (f : EthFrame) : Bool :=
  let kct := match f.body with
    | .kct hdr _ => s.flag (Reg.PRT_WAKE_CFG (macPort m)) 8 && (hdr.version == 2 || hdr.version == 3)
        && f.udpDst == s.kctPort m && f.fcsOk && decide (f.length ≤ s.mtu m + 66) && (s.macsecRx m f).2
        && (s.rxCheckHeaders m f).isNone
    | _ => false
  kct || s.patMatch (macPort m) f

/-- The frame is a datagram to the KCT port (R221). -/
def State.toKct (s : State) (m : Nat) (f : EthFrame) : Bool :=
  frameIsIp f && (match f.ip with | some h => h.next == 17 | none => false) && f.udpDst == s.kctPort m

/-- What a frame is by its EtherType, its protocol and its UDP port (R183): what it carries otherwise is nothing to its taker. -/
def State.payload (s : State) (m : Nat) (f : EthFrame) : FrameBody :=
  let udp := frameIsIp f && (match f.ip with | some h => h.next == 17 | none => false)
  let fits : Bool := match f.body with
    | .kct .. => s.toKct m f
    | .ptp .. => f.etherType == 0x88F7 || (frameIsIp f && frameIsPtpUdp f)
    | .arp .. => f.etherType == 0x0806
    | .macControl .. => f.etherType == 0x8808
    | .echo _ | .neighSol .. | .neighAdv .. => frameIsIp f && !udp
    | .other => true
  if fits then f.body else .other

/-- What an accepted frame becomes, outside the wake filter (R183, R189, R193, R217). A datagram to the KCT port is a KCT frame
whatever it carries: one that holds no base header is dropped and counted as malformed (R223). -/
def State.rxAccept (s : State) (m : Nat) (f : EthFrame) : State :=
  let asleep := s.portAsleep
  match s.payload m f with
  | .kct .. => if asleep then s else s.rxStore m f
  | .ptp .. => if asleep then s else s.rxQueue m f
  | .macControl op _ _ =>
    if op = 0x0101 then s.rxQueue m f
    else if op = 0x0001 then s.macCount m cRxPauseIgnored 1
    else s
  | .arp req sm sip _ => if req then s.rxQueue m f else s.learnGw4 m sip sm
  | .neighAdv t a => s.learnGw6 m t a
  | .neighSol .. | .echo _ => s.rxQueue m f
  | .other => if s.toKct m f && !asleep then s.count Reg.KCT_RX_MALFORMED else s

/-- A frame that matches the wake filter (R216): it is held if it is a KCT frame, a FRAME wake event occurs, and event
0x100A is raised on the first match of a Dormant period. -/
def State.wakeFrame (s : State) (m : Nat) (f : EthFrame) : State :=
  let s1 := if s.ports.wakeSeen then s
    else ({ s with ports := { s.ports with wakeSeen := true } }).raiseAt 0x100A (macPort m) (macIdx m) 0
  let s2 := s1.wakeEvent 1
  let (s3, ok) := s2.rxChecks m f
  if ok then s3.rxAccept m f else s3

/-- FRAME_RECEIVE (R183). -/
def execFrameReceive (mac : Nat) (frame : EthFrame) (s : State) : Host.Outcome State Fault Refusal :=
  guarded (s.macUp mac) s
    (if s.frameWakes && s.wakeMatch mac frame then s.wakeFrame mac frame
     else
       let (s1, ok) := s.rxChecks mac frame
       if ok then s1.rxAccept mac frame else s1)

/-- WAKE_FRAME_MATCH (R215, R216, R726). -/
def execWakeFrameMatch (mac : Nat) (frame : EthFrame) (s : State) : Host.Outcome State Fault Refusal :=
  guarded (s.macUp mac && s.frameWakes && s.wakeMatch mac frame) s (s.wakeFrame mac frame)

/-- PFC_REPEAT (R190). -/
def execPfcRepeat (mac cls : Nat) (s : State) : Host.Outcome State Fault Refusal :=
  guarded (s.macUp mac && (s.mac mac).xoff.getLsbD cls && s.pfcOn mac cls
      && decide (s.fld (Reg.PRT_PFC_THRESH (macPort mac) (macIdx mac) cls) 15 0 * 1024 < s.rxClassBytes mac cls)) s
    (s.sendPfc mac cls 0xFFFF)

/-- The classes paused after a PFC frame: an enabled class is paused for its quanta and reopened by quanta 0. -/
def pfcPaused (en paused vector : BitVec 8) (quanta : List Nat) : BitVec 8 :=
  (List.range 8).foldl (fun p c =>
    if en.getLsbD c && vector.getLsbD c then setMask p c (decide (0 < quanta.getD c 0)) else p) paused

/-- PFC_RECEIVE (R189): the next queued 802.1Qbb frame of a MAC. -/
def execPfcReceive (mac : Nat) (s : State) : Host.Outcome State Fault Refusal :=
  match s.takeRx mac (fun b => match b with | .macControl op _ _ => op == 0x0101 | _ => false) with
  | some (e, s1) =>
    match e.frame.body with
    | .macControl _ v q =>
      let en := BitVec.ofNat 8 (s.fld (Reg.PRT_PFC_CFG (macPort mac) (macIdx mac)) 7 0)
      let s2 := s1.macCount mac cRxPfc 1
      let s3 := if v &&& ~~~ en = 0 then s2 else s2.macCount mac cRxPauseIgnored 1
      .next (s3.setMac mac { s3.mac mac with paused := pfcPaused en (s3.mac mac).paused v q })
    | _ => .next s
  | none => .next s

/-- PFC_PAUSE_EXPIRE (R189). -/
def execPfcPauseExpire (mac cls : Nat) (s : State) : Host.Outcome State Fault Refusal :=
  guarded (s.live && (s.mac mac).paused.getLsbD cls) s
    (s.setMac mac { s.mac mac with paused := setMask (s.mac mac).paused cls false })

/-! ### Neighbours and echo -/

/-- ARP_REQUEST (R192, R193): the next queued request of a MAC. -/
def execArpRequest (mac : Nat) (s : State) : Host.Outcome State Fault Refusal :=
  match s.takeRx mac (fun b => match b with | .arp req .. => req | _ => false) with
  | some (e, s1) =>
    match e.frame.body with
    | .arp _ sm sip tip =>
      let s2 := s1.learnGw4 mac sip sm
      .next (if s.ipv4 mac ≠ 0 ∧ tip = s.ipv4 mac then s2.sendOwn mac 46 (.arpReply mac sm sip) else s2)
    | _ => .next s
  | none => .next s

/-- NEIGHBOR_SOLICITATION (R192, R193). -/
def execNeighborSolicitation (mac : Nat) (s : State) : Host.Outcome State Fault Refusal :=
  match s.takeRx mac (fun b => match b with | .neighSol .. => true | _ => false) with
  | some (e, s1) =>
    match e.frame.body with
    | .neighSol t sm src =>
      let s2 := s1.learnGw6 mac src sm
      .next (if (s.ipv6s mac).contains t then s2.sendOwn mac 90 (.neighAdv mac sm t { v6 := true, src := t, dst := src }) else s2)
    | _ => .next s
  | none => .next s

/-- ECHO_REQUEST (R195): at most ECHO_RATE replies in a second of the device's clock. -/
def execEchoRequest (mac : Nat) (s : State) : Host.Outcome State Fault Refusal :=
  match s.takeRx mac (fun b => match b with | .echo _ => true | _ => false) with
  | some (e, s1) =>
    match e.frame.body, e.frame.ip with
    | .echo d, some h =>
      let x := s1.mac mac
      let sec := s.now / 1000000000
      let n := if x.echoSec = sec then x.echoes else 0
      if n < s.fld (Reg.PRT_NEIGH_CFG (macPort mac) (macIdx mac)) 15 0 then
        .next ((s1.setMac mac { x with echoes := n + 1, echoSec := sec }).sendOwn mac e.frame.length
          (.echoReply mac e.frame.sa d { v6 := h.v6, src := h.dst, dst := h.src }))
      else .next (s1.macCount mac cEchoDrop 1)
    | _, _ => .next s
  | none => .next s

/-- A gateway's entry after its timer: an unanswered request is a failure (R193). -/
def gatewayFail (g : Gateway) : Gateway := if g.asked then { g with failures := g.failures + 1 } else g

/-- GATEWAY_RESOLVE (R193): a timer fires and a request is sent; the third failure raises event 0x100E. -/
def execGatewayResolve (mac : Nat) (v6 : Bool) (s : State) : Host.Outcome State Fault Refusal :=
  let present := if v6 then s.gwIp6 mac != 0 else s.gwIp4 mac != 0
  guarded (s.macUp mac && present) s
    (let x := s.mac mac
     let g := gatewayFail (if v6 then x.gw6 else x.gw4)
     let s1 := s.setMac mac (if v6 then { x with gw6 := g } else { x with gw4 := g })
     let third := (if v6 then x.gw6 else x.gw4).asked && g.failures == 3
     let s2 := if third then s1.raiseAt 0x100E (macPort mac) (macIdx mac) 0 else s1
     s2.askGateway mac v6)

/-! ### MACsec -/

/-- The SA staged in MS_SA registers, unwrapped (R203). -/
def State.stagedSa (s : State) (p k i : Nat) (key : List Byte) : MsSa :=
  let a := Reg.PRT_MS_SA p k i
  { valid := true, key := keyOf key, ssci := s.reg (a + 0x28),
    salt := s.reg (a + 0x2C) ++ s.reg (a + 0x30) ++ s.reg (a + 0x34),
    pn := (s.reg (a + 0x38)).toNat + 2 ^ 32 * (s.reg (a + 0x3C)).toNat }

/-- The selected SA is judged by its PN: one that is not at its limit ends PN_EXHAUSTED, and one at its limit sets it (R205). -/
def State.judgePn (s : State) (m : Nat) : State :=
  let x := s.sa m (s.txAn m)
  if !(s.msOn m) || !x.valid then s
  else if x.pn < s.pnLimit m then s.setMac m { s.mac m with pnExhausted := false }
  else if (s.mac m).pnExhausted then s
  else (s.setMac m { s.mac m with pnExhausted := true }).raiseAt 0x1007 (macPort m) (macIdx m) 0

/-- MS_SA_INSTALL (R203, R205): GO written to PRTn_MS_SA_INSTALL. -/
def execMsSaInstall (port : Nat) (value : Word) (s : State) : Host.Outcome State Fault Refusal :=
  commanding2 (portDom port) 11 (bit value.toNat 31) s
    (let k := bits value.toNat 4 3
     let i := bits value.toNat 2 0
     let m := 4 * port + k
     let (s1, key) := s.unwrap (s.stageBytes (Reg.PRT_MS_SA port k i) 10)
     let keep := value &&& 0x1F
     match key with
     | none => s1.setReg (Reg.PRT_MS_SA_INSTALL port) (keep ||| 0x4000_0000)
     | some b =>
       let s2 := (s1.setSa m i (s.stagedSa port k i b)).setReg (Reg.PRT_MS_SA_INSTALL port) keep
       let s3 := if s2.pnThresh m ≤ (s2.sa m i).pn then s2.raiseAt 0x1006 port k 0 else s2
       if i = s.txAn m then s3.judgePn m else s2)

end Sys2Proof.Machine
end

