-- ==== Sys2Proof/Machine/Egress.lean ====
section
/-! DEFINITION. Egress scheduling, shaping, gate lists and ingress policing (19_egress_policing.md). -/

namespace Sys2Proof.Machine

open Sys2Proof

/-! ### Class shapers (R693, R694) -/

/-- The shaper of a class of a MAC. -/
def State.shaper (s : State) (m c : Nat) : ClsShaper := tabGet (fun _ => {}) s.egr.shapers (8 * m + c)

/-- The state with a class shaper replaced. -/
def State.setShaper (s : State) (m c : Nat) (v : ClsShaper) : State :=
  { s with egr := { s.egr with shapers := tabSet (fun _ => {}) s.egr.shapers (8 * m + c) v } }

/-- RATE in Mb/s and BURST in 1/8000 byte of a class shaper. -/
def State.clsRate (s : State) (m c : Nat) : Nat := s.fld (Reg.EGR_CSHP (macPort m) (macIdx m) c) 18 0
def State.clsBurst (s : State) (m c : Nat) : Nat :=
  s.fld (Reg.EGR_CSHP (macPort m) (macIdx m) c) 30 20 * 1024 * 8000

/-- The tokens of a class now: they rise at RATE up to BURST (R693). -/
def State.tokens (s : State) (m c : Nat) : Int :=
  let x := s.shaper m c
  min (s.clsBurst m c : Int) (x.tokens + (s.clsRate m c * (s.now - x.at_) : Nat))

/-- The class shaper lets a frame start: it is unshaped, or holds tokens of 0 or more (R687, R693). -/
def State.shaperOpen (s : State) (m c : Nat) : Bool :=
  !s.shapeOn m || s.clsRate m c == 0 || decide (0 ≤ s.tokens m c)

/-- A frame of `len` bytes lowers its class's tokens (R693). -/
def State.chargeClass (s : State) (m c len : Nat) : State :=
  if s.clsRate m c = 0 then s else s.setShaper m c { tokens := s.tokens m c - len * 8000, at_ := s.now }

/-! ### Gate lists (R695 to R700) -/

/-- The gate lists of a port. -/
def State.gates (s : State) (p : Nat) : Gates := tabGet (fun _ => {}) s.egr.gates p

/-- The state with a port's gate lists replaced. -/
def State.setGates (s : State) (p : Nat) (v : Gates) : State :=
  { s with egr := { s.egr with gates := tabSet (fun _ => {}) s.egr.gates p v } }

/-- Sum of the durations of a list. -/
def gclCycle (l : List (Nat × Nat)) : Nat := (l.map (·.2)).sum

/-- The entry that holds at offset `o` into the cycle, and how long it still holds. -/
def gclAt : List (Nat × Nat) → Nat → Nat → Nat × Nat
  | [], i, _ => (i, 0)
  | (_, d) :: r, i, o => if o < d then (i, d - o) else gclAt r (i + 1) (o - d)

/-- The entry of a list with base `base` at time `t`, and how long it still holds (R695, R700). -/
def gclPos (l : List (Nat × Nat)) (base t : Nat) : Nat × Nat :=
  let cyc := max (gclCycle l) 1
  gclAt l 0 (((t : Int) - base) % (cyc : Int)).toNat

/-- The mask of an entry. -/
def gclMask (l : List (Nat × Nat)) (i : Nat) : Nat := (l.getD i (255, 0)).1

/-- Class c stays open for `need` ns from time `t`, along the operational list and along the pending one from T (R698). -/
def Gates.openFor (g : Gates) (c : Nat) : Nat → Nat → Nat → Bool
  | 0, _, _ => true
  | n + 1, t, need =>
    let (l, b, cut) := match g.pending with
      | some T => if T ≤ t then (g.pendingList, T, none) else (g.oper, g.base, some (T - t))
      | none => (g.oper, g.base, none)
    if l.isEmpty then
      match cut with
      | some k => if need ≤ k then true else g.openFor c n (t + k) (need - k)
      | none => true
    else
      let (i, left) := gclPos l b t
      let hold := match cut with | some k => min left k | none => left
      if !bit (gclMask l i) c then false
      else if need ≤ hold then true
      else g.openFor c n (t + hold) (need - hold)

/-- The longest run of consecutive open entries of a class, wrapping once (R696, R699). -/
def longestWindow (l : List (Nat × Nat)) (c : Nat) : Nat :=
  let (best, cur) := (l ++ l).foldl (fun (best, cur) (e : Nat × Nat) =>
    if bit e.1 c then (max best (cur + e.2), cur + e.2) else (best, 0)) (0, 0)
  min (gclCycle l) (max best cur)

/-- The gates of a port are applied. -/
def State.gateOn (s : State) (p : Nat) : Bool := s.flag (Reg.EGR_CTRL p) 1 && !(s.gates p).oper.isEmpty

/-- The gate of a class is open (R695). -/
def State.gateOpen (s : State) (m c : Nat) : Bool := !s.gateOn (macPort m) || bit (s.gates (macPort m)).mask c

/-- A frame of `len` bytes can finish before its class's gate closes (R698). -/
def State.gateFits (s : State) (m c len : Nat) : Bool :=
  !s.gateOn (macPort m)
    || (s.gates (macPort m)).openFor c 300 s.time.nanos (s.wireNs m (len + 20 + s.msOverhead m))

/-- The first entry of the window of class `c` that holds entry `i`; the first argument bounds the walk. -/
def windowStart (l : List (Nat × Nat)) (c : Nat) : Nat → Nat → Nat
  | 0, i => i
  | n + 1, i =>
    let p := (i + l.length - 1) % max l.length 1
    if bit (gclMask l p) c then windowStart l c n p else i

/-- A frame is longer than every window of its class, and the class's longest window has just opened (R699): no more than a step of
the clock has passed since then, or since the end of a frame that the MAC was sending. -/
def State.gateOverrun (s : State) (m c len : Nat) : Bool :=
  let g := s.gates (macPort m)
  let (i, left) := gclPos g.oper g.base s.time.nanos
  let i0 := windowStart g.oper c g.oper.length i
  let w := (g.oper.drop i0 ++ g.oper.take i0).takeWhile fun e => bit e.1 c
  let k := (i + g.oper.length - i0) % max g.oper.length 1
  let open_ := ((w.take k).map (·.2)).sum + (g.oper.getD i (0, 0)).2 - left
  bit (gclMask g.oper i) c && decide ((w.map (·.2)).sum < s.wireNs m (len + 20 + s.msOverhead m))
    && (w.map (·.2)).sum == longestWindow g.oper c && decide (min open_ (s.now - s.freeAt m) < 10)

/-- Show the operational list in the registers of a port (R711). -/
def State.showGates (s : State) (p : Nat) : State :=
  let g := s.gates p
  let s1 := (List.range 128).foldl (fun t i =>
    (t.setReg (Reg.EGR_GCL_OPER_MASK p i) (BitVec.ofNat 32 (g.oper.getD i (0, 0)).1)).setReg (Reg.EGR_GCL_OPER_DUR p i)
      (BitVec.ofNat 32 (g.oper.getD i (0, 0)).2)) s
  let s2 := s1.setReg (Reg.EGR_GCL_OPER_CYCLE p) (BitVec.ofNat 32 (gclCycle g.oper))
  let s3 := s2.setReg (Reg.EGR_GCL_OPER_BASE_NS p) (BitVec.ofNat 32 (g.base % 1000000000))
  let s4 := s3.setReg (Reg.EGR_GCL_OPER_BASE_SEC_LO p) (BitVec.ofNat 32 (g.base / 1000000000))
  s4.setReg (Reg.EGR_GCL_OPER_BASE_SEC_HI p) (BitVec.ofNat 32 (g.base / 1000000000 / 2 ^ 32))

/-- The gates of a port take the entry that holds at the present time; a class's wait for its next window lasts until its gate
closes, or the list is entered elsewhere by a `jump` (R687, R698, R700). -/
def State.gateEntry (s : State) (p : Nat) (jump : Bool := false) : State :=
  let g := s.gates p
  let i := (gclPos g.oper g.base s.time.nanos).1
  let s1 := s.setGates p { g with entry := i, mask := gclMask g.oper i }
  let s2 := { s1 with egr := { s1.egr with
    guards := s1.egr.guards.filter fun e => macPort (e.1 / 8) != p || (!jump && bit (gclMask g.oper i) (e.1 % 8)) } }
  s2.setReg (Reg.EGR_GCL_OPER_ENTRY p) (BitVec.ofNat 32 (gclMask g.oper i * 256 + i))

/-- The admin copy becomes operational at T, at entry 0 (R697). -/
def State.gateSwitch (s : State) (p T : Nat) : State :=
  let g := s.gates p
  let s1 := s.setGates p { oper := g.pendingList, base := T, pending := none, pendingList := [] }
  let st := Reg.EGR_GCL_STATUS p
  let s2 := (s1.setFld st 31 31 0).setFld st 28 28 1
  ((s2.showGates p).gateEntry p).raiseAt 0x3001 p T 0

/-- A step or set of the time base: the position of each operational list is recomputed, and a pending switch that is
now past takes place at once, with event 0x3005 (R700). -/
def State.rephase (s : State) : State :=
  [0, 1].foldl (fun t p =>
    let g := t.gates p
    if g.oper.isEmpty && g.pending.isNone then t
    else
      let t1 := if g.oper.isEmpty then t else t.gateEntry p true
      let t2 := match g.pending with
        | some T => if T < t.time.nanos then t1.gateSwitch p T else t1
        | none => t1
      t2.raiseAt 0x3005 p 0 0) s

/-- The staged list of a port (R696). -/
def State.adminList (s : State) (p : Nat) : List (Nat × Nat) :=
  (List.range (s.fld (Reg.EGR_GCL_ADMIN_COUNT p) 7 0)).map fun i =>
    (s.fld (Reg.EGR_GCL_ADMIN_MASK p i) 7 0, s.fld (Reg.EGR_GCL_ADMIN_DUR p i) 29 0)

/-- The longest wire time of a full frame on the MACs of a port, in ns (R696 code 4). -/
def State.gclNeed (s : State) (p : Nat) : Nat :=
  ((List.range 4).map fun k =>
    let m := 4 * p + k
    if s.macProvided m then s.wireNs m (s.mtu m + 94 + s.msOverhead m) else 0).foldl max 0

/-- The checks of R696: the code and the entry or class. -/
def State.gclCheck (s : State) (p : Nat) : Option (Nat × Nat) :=
  let n := s.fld (Reg.EGR_GCL_ADMIN_COUNT p) 7 0
  let l := s.adminList p
  if n < 1 ∨ 128 < n then some (1, n)
  else match l.findIdx? (fun e => decide (e.2 < 64)) with
    | some i => some (2, i)
    | none =>
      if 1000000000 < gclCycle l ∨ 999999999 < s.fld (Reg.EGR_GCL_ADMIN_BASE_NS p) 29 0 then some (3, 0)
      else ((List.range 8).find? fun c =>
        l.any (fun e => bit e.1 c) && decide (longestWindow l c < s.gclNeed p)).map fun c => (4, c)

/-- GCL_COMMIT (R696, R697): GO written to EGR_GCL_COMMIT. -/
def execGclCommit (port : Nat) (value : Word) (s : State) : Host.Outcome State Fault Refusal :=
  let st := Reg.EGR_GCL_STATUS port
  commanding 6 (bit value.toNat 0) s
    (if (s.gates port).pending.isSome then s.wrote stAccessDenied else
     match s.gclCheck port with
     | some (code, x) =>
       ((s.setReg st (putBits ((s.reg st &&& 0xB000_0000) ||| 0x4000_0000) 15 0 (code * 256 + x))).raiseAt 0x3003 port code x).wrote
         stAccessDenied
     | none =>
       let l := s.adminList port
       let base := (s.reg (Reg.EGR_GCL_ADMIN_BASE_SEC_LO port)).toNat * 1000000000
         + s.fld (Reg.EGR_GCL_ADMIN_BASE_SEC_HI port) 15 0 * 2 ^ 32 * 1000000000
         + s.fld (Reg.EGR_GCL_ADMIN_BASE_NS port) 29 0
       let earliest := s.time.nanos + s.fld (Reg.EGR_SWITCH_LEAD port) 15 0 * 1000
       let cyc := max (gclCycle l) 1
       let n := (earliest - base + cyc - 1) / cyc
       let T := base + n * cyc
       let late := decide (base < earliest)
       let s1 := s.setGates port { s.gates port with pending := some T, pendingList := l }
       let s2 := s1.setReg st ((s.reg st &&& 0x1000_0000) ||| 0x8000_0000 ||| (if late then 0x2000_0000 else 0))
       let s3 := s2.setReg (Reg.EGR_GCL_SWITCH_NS port) (BitVec.ofNat 32 (T % 1000000000))
       let s4 := s3.setReg (Reg.EGR_GCL_SWITCH_SEC_LO port) (BitVec.ofNat 32 (T / 1000000000))
       let s5 := s4.setReg (Reg.EGR_GCL_SWITCH_SEC_HI port) (BitVec.ofNat 32 (T / 1000000000 / 2 ^ 32))
       (if late then s5.raiseAt 0x3002 port n 0 else s5).wrote)

/-- GCL_SWITCH (R697): the time base reaches T. -/
def execGclSwitch (port : Nat) (s : State) : Host.Outcome State Fault Refusal :=
  match (s.gates port).pending with
  | some T => guarded (s.up 6 && decide (T ≤ s.time.nanos)) s (s.gateSwitch port T)
  | none => .next s

/-- GATE_LIST_ENTRY_END (R687): the next entry's mask opens and closes classes on every MAC of the port. -/
def execGateListEntryEnd (port : Nat) (s : State) : Host.Outcome State Fault Refusal :=
  guarded (s.up 6 && !(s.gates port).oper.isEmpty) s (s.gateEntry port)

/-! ### Selecting and sending a frame (R687, R688) -/

/-- Deficit of a client in a class. -/
def EgrSess.deficitOf (x : EgrSess) (c : Nat) : Nat := tabGet (fun _ => 0) x.deficit c

/-- The state with a client's deficit in a class set. -/
def State.setDeficit (s : State) (k c v : Nat) : State :=
  let x := s.esess k
  s.setEsess k { x with deficit := tabSet (fun _ => 0) x.deficit c v }

/-- The frame that deficit round robin would send next in a class of a MAC (R688); the first argument bounds the turns. -/
def State.drr (m c : Nat) : Nat → State → State × Option TxSeg
  | 0, s => (s, none)
  | n + 1, s =>
    let r := s.ring m c
    match r.order with
    | [] => (s, none)
    | k :: rest =>
      match s.headSeg k m c with
      | none => State.drr m c n ((s.setRing m c { order := rest, credited := false }).setDeficit k c 0)
      | some g =>
        if !s.segEligible m g then State.drr m c n (s.setRing m c { order := rest, credited := false })
        else
          let s1 := if r.credited then s
            else (s.setRing m c { r with credited := true }).setDeficit k c
              ((s.esess k).deficitOf c + bits (s.esess k).shape.toNat 25 16 * 64)
          if s1.frameLen g ≤ (s1.esess k).deficitOf c then (s1, some g)
          else State.drr m c n (s1.setRing m c { order := rest ++ [k], credited := false })

/-- The turns that suffice for one selection: every session of the ring may need a full frame's worth of quanta. -/
def State.drrTurns (s : State) (m c : Nat) : Nat := ((s.ring m c).order.length + 1) * 170

/-- Mark the sending of a segment in its session's replay buffer. -/
def State.markSent (s : State) (g : TxSeg) : State :=
  if !g.sequenced || g.dest.isSome then s
  else
    let x := s.sess g.client
    s.setSess g.client { x with
      replay := updFirst (fun r => r.seg.ext == g.ext)
        (fun r => { r with sent := true, held := false, sentAt := if r.sent then r.sentAt else s.now, lastSent := s.now }) x.replay }

/-- Take a sent segment out of its client's queue, with its charges: deficit, E and class tokens (R300, R688, R693). -/
def State.charge (s : State) (m : Nat) (g : TxSeg) : State :=
  let c := g.client
  let len := s.frameLen g
  let x := s.esess c
  let q := x.queue.erase g
  let more := q.any fun h => h.cls == g.cls && s.segMac h == m
  let e := if isControl g.hdr.type.toNat then x.e else x.e + rateTime len (s.rateOf c)
  let s1 := s.setEsess c { x with
    queue := q, e := e
    deficit := tabSet (fun _ => 0) x.deficit g.cls (if more then x.deficitOf g.cls - len else 0) }
  let r := s1.ring m g.cls
  let s2 := if more then s1 else s1.setRing m g.cls { order := r.order.erase c, credited := false }
  let s3 := if !q.isEmpty && decide (16 * (s.now : Int) < e) then s2.setSess c { s2.sess c with waited := true } else s2
  s3.chargeClass m g.cls len

/-- DSCP of a class on a MAC (R188). -/
def State.txDscp (s : State) (m cls : Nat) : Nat :=
  s.fld (Reg.PRT_TX_DSCP (macPort m) (macIdx m) (cls / 4)) (8 * (cls % 4) + 5) (8 * (cls % 4))

/-- What stands before a segment of class `cls` that a MAC sends to a destination (R187, R188, R194, R221): the ECN codepoint is
ECT(0), and the UDP checksum is computed for IPv6 and 0 for IPv4. -/
def State.txHeaders (s : State) (m cls : Nat) (d : Dest) : TxHeaders :=
  { da := d.da, sa := s.macAddr m, udpSrc := s.kctPort m, udpDst := d.port, sum := d.v6
    ip := { v6 := d.v6, src := s.srcIp m d.v6 d.ip, dst := d.ip, dscp := s.txDscp m cls, ecn := 2 } }

/-- Where a segment goes on a MAC, if it has a destination there (R194). -/
def State.segDest (s : State) (m : Nat) (g : TxSeg) : Option Dest :=
  match g.dest with
  | some d => some d
  | none =>
    let x := s.sess g.client
    (s.destMac g.client m).map fun a => { mac := m, da := a, ip := x.ip, v6 := x.v6, port := x.port }

/-- A segment that has come up and has no destination: it leaves the queue unsent, and a sequenced one stays in the replay
buffer (R194). -/
def State.holdBack (s : State) (m : Nat) (g : TxSeg) : State :=
  let x := s.esess g.client
  let s1 := (s.setEsess g.client { x with queue := x.queue.erase g }).macCount m cTxHeld 1
  if !g.sequenced || g.dest.isSome then s1
  else
    let y := s1.sess g.client
    s1.setSess g.client { y with
      replay := updFirst (fun r => r.seg.ext == g.ext) (fun r => { r with held := true, lastSent := s.now }) y.replay }

/-- Send a segment on a MAC (R194, R205, R687), or hold it back for want of a destination. -/
def State.transmit (s : State) (m : Nat) (g : TxSeg) : State :=
  match s.segDest m g, g.box with
  | some d, some b =>
    let len := s.frameLen g
    let e := s.onWire m g.cls (.seg m (s.txHeaders m g.cls d) b)
    let s1 := ((s.charge m g).markSent g).txFrame m len
    ((s1.count64 (Reg.EGR_TX_BYTES_LO (macPort m) (macIdx m) g.cls) len).emit e).joinRings g.client
  | _, _ => (s.holdBack m g).joinRings g.client

/-- The class waits for its next window, counted once (R698). -/
def State.guardWait (s : State) (m c : Nat) : State :=
  if tabGet (fun _ => false) s.egr.guards (8 * m + c) then s
  else ({ s with egr := { s.egr with guards := tabSet (fun _ => false) s.egr.guards (8 * m + c) true } }).count
    (Reg.EGR_GUARD_WAITS (macPort m) (macIdx m) c)

/-- Count an overrun, with event 0x3004 at most once per second for each MAC (R699). -/
def State.overrun (s : State) (m c : Nat) : State :=
  let s1 := s.count (Reg.EGR_OVERRUNS (macPort m) (macIdx m))
  let sec := s.now / 1000000000
  if tabGet (fun _ => none) s.egr.overrunAt m = some sec then s1
  else ({ s1 with egr := { s1.egr with overrunAt := tabSet (fun _ => none) s1.egr.overrunAt m (some sec) } }).raiseAt
    0x3004 (macPort m) (macIdx m * 256 + c) 0

/-- Consider the classes of a MAC from the highest and send the frame of the first candidate (R687). -/
def State.sendFrom (m : Nat) : Nat → State → State
  | 0, s => s
  | c + 1, s =>
    if s.gateOpen m c && !(s.mac m).paused.getLsbD c && s.shaperOpen m c
        && !(s.gateOn (macPort m) && tabGet (fun _ => false) s.egr.guards (8 * m + c)) then
      match State.drr m c (s.drrTurns m c) s with
      | (s1, none) => State.sendFrom m c s1
      | (s1, some g) =>
        if s1.gateFits m c (s1.frameLen g) then s1.transmit m g
        else if s1.gateOverrun m c (s1.frameLen g) then (s1.transmit m g).overrun m c
        else State.sendFrom m c (s1.guardWait m c)
    else State.sendFrom m c s

/-- FRAME_TRANSMIT (R687): a MAC can start a frame, the one before having ended. -/
def execFrameTransmit (mac : Nat) (s : State) : Host.Outcome State Fault Refusal :=
  guarded (s.up 6 && s.txOk mac && decide (s.freeAt mac ≤ s.now)) s (State.sendFrom mac 8 s)

/-- WHEEL_SLOT (R691): an entity whose time has come becomes eligible. -/
def execWheelSlot (entity : WheelEntity) (s : State) : Host.Outcome State Fault Refusal :=
  match entity with
  | .session c => guarded (s.up 6 && decide ((s.esess c.toNat).e ≤ 16 * (s.now : Int))) s (s.joinRings c.toNat)
  | .shaper m c =>
    guarded (s.up 6 && decide ((s.shaper m c).tokens < 0 ∧ 0 ≤ s.tokens m c)) s
      (s.setShaper m c { tokens := s.tokens m c, at_ := s.now })

/-- EGRESS_QUEUE_ROOM (R685): a session's first held segment enters its queue. -/
def execEgressQueueRoom (client : BitVec 12) (s : State) : Host.Outcome State Fault Refusal :=
  match takeFirst (fun g => g.client == client.toNat) s.kct.stage11 with
  | some (g, r) =>
    guarded (s.up 6 && s.roomFor g) s
      (let s1 := { s with
         kct := { s.kct with stage11 := r }
         egr := { s.egr with full := tabSet (fun _ => false) s.egr.full (macPort (s.segMac g)) false } }
       (s1.toReplay g).enqueue g)
  | none => .next s

/-! ### Reconfiguring (R694) -/

/-- The client that EGR_SESS_SEL selects. -/
def State.egrSel (s : State) : Nat := s.fld (Reg.EGR_SESS_SEL 0) 11 0

/-- SESS_SHAPE_WRITE (R694): out of range (R778), nothing changes. -/
def execSessShapeWrite (value : Word) (s : State) : Host.Outcome State Fault Refusal :=
  let c := s.egrSel
  commanding 6 (bits value.toNat 25 16 != 0 && bits value.toNat 15 0 != 0) s
    (let s1 := s.setEsess c { s.esess c with shape := value &&& 0x03FF_FFFF }
     let e := if bit value.toNat 31 then s1.fullE c else 16 * (s.now : Int)
     (s1.setEsess c { s1.esess c with e := e }).joinRings c)

/-- CSHP_WRITE (R694). -/
def execCshpWrite (mac cls : Nat) (value : Word) (s : State) : Host.Outcome State Fault Refusal :=
  commanding 6 (bits value.toNat 30 20 != 0) s
    (let s1 := s.setReg (Reg.EGR_CSHP (macPort mac) (macIdx mac) cls) (value &&& 0x7FF7_FFFF)
     s1.setShaper mac cls { tokens := if bit value.toNat 31 then (s1.clsBurst mac cls : Int) else 0, at_ := s.now })

/-! ### Ingress policing (R701 to R708) -/

/-- The profile a session's policer uses. -/
def State.profileOf (s : State) (c : Nat) : PolProfile :=
  tabGet (fun _ => {}) s.egr.profiles (bits (s.esess c).ing.toNat 5 0)

/-- The buckets of a session filled up to now: Tc at CIR, Tp at PIR, in 1/8000 byte (R702). -/
def State.refill (s : State) (c : Nat) : EgrSess :=
  let x := s.esess c
  let p := s.profileOf c
  let dt := s.now - x.ingAt
  { x with tc := min (p.cbs * 8000) (x.tc + p.cir * dt), tp := min (p.pbs * 8000) (x.tp + p.pir * dt), ingAt := s.now }

/-- The colours of R702. -/
inductive Colour where
  | green | yellow | red
  deriving DecidableEq, Repr

/-- ING is enabled, for the block and the session (R702). -/
def State.policed (s : State) (c : Nat) : Bool := s.flag Reg.ING_CTRL 0 && bit (s.esess c).ing.toNat 31

/-- Mark a message of `b` bytes (R702, R705): the state and the colour, `exempt` where it is never red. -/
def State.police (s : State) (c b : Nat) (exempt : Bool) : State × Colour :=
  let cnt (k : Nat) (t : State) : State := t.count64 (Reg.ING_CNT k) 1
  if !s.policed c then (cnt 0 s, .green)
  else
    let x := s.refill c
    let need := b * 8000
    if x.tp < need then
      if exempt then (cnt 3 (cnt 1 (s.setEsess c x)), .yellow)
      else (cnt 2 (s.setEsess c { x with red := x.red + 1 }), .red)
    else if x.tc < need then (cnt 1 (s.setEsess c { x with tp := x.tp - need }), .yellow)
    else (cnt 0 (s.setEsess c { x with tp := x.tp - need, tc := x.tc - need }), .green)

/-- The retry-after time of a red message in µs (R704). -/
def State.redInfo (s : State) (c b : Nat) : Nat :=
  let x := s.refill c
  let d := max (s.profileOf c).pir 1 * 1000
  max (s.fld Reg.ING_RED_MIN 15 0) ((b * 8000 - x.tp + d - 1) / d)

/-- The measured size of a request in bytes (R701). -/
def policeSize (t : Nat) (body : List Byte) : Nat :=
  max 64 <|
    if t = tReadShared ∨ t = tReadOwn ∨ t = tReadCurrent then beAt body 8 2
    else if t = tReadBulk then beAt body 8 1 * 4096
    else if t = tWriteThrough ∨ t = tWriteBackDirty ∨ t = tWriteBulk ∨ t = tAtomic then body.length - 12
    else if t = tEvacData then body.length - 16
    else 0

/-- The buckets of a session set full or empty (R707). -/
def State.resetPolicer (s : State) (c : Nat) (full : Bool) : State :=
  let p := s.profileOf c
  s.setEsess c { s.esess c with
    tc := if full then p.cbs * 8000 else 0, tp := if full then p.pbs * 8000 else 0, ingAt := s.now }

/-- YELLOW_AGE_EXPIRE (R706): a yellow message that waits at a stage's input is served as green, from then on. -/
def execYellowAgeExpire (client : BitVec 12) (msgId : BitVec 24) (s : State) : Host.Outcome State Fault Refusal :=
  let p := fun (m : InMsg) => m.client == client.toNat && m.msgId == msgId && m.yellow
  let q := fun (f : Flight) => f.client == client.toNat && f.msgId == msgId && f.yellow
  guarded (s.up 6 && (s.kct.delivered.any p || s.coh.flights.any q)) s
    (({ s with
        kct := { s.kct with delivered := updFirst p (fun m => { m with yellow := false }) s.kct.delivered }
        coh := { s.coh with flights := s.coh.flights.map fun f => if q f then { f with yellow := false } else f } }).count64
      (Reg.ING_CNT 4) 1)

/-- ING_SESS_CFG_WRITE (R707). -/
def execIngSessCfgWrite (value : Word) (s : State) : Host.Outcome State Fault Refusal :=
  let c := s.fld Reg.ING_SESS_SEL 11 0
  commanding 6 true s
    ((s.setEsess c { s.esess c with ing := value &&& 0x8000_003F }).resetPolicer c (bit value.toNat 30))

/-- ING_PROFILE_READ (R712). -/
def execIngProfileRead (s : State) : Host.Outcome State Fault Refusal :=
  commanding 6 true s
    (let p := tabGet (fun _ => {}) s.egr.profiles (s.fld Reg.ING_PROF_SEL 5 0)
     ((((s.setReg Reg.ING_PROF_CIR (BitVec.ofNat 32 p.cir)).setReg Reg.ING_PROF_CBS (BitVec.ofNat 32 p.cbs)).setReg
       Reg.ING_PROF_PIR (BitVec.ofNat 32 p.pir)).setReg Reg.ING_PROF_PBS (BitVec.ofNat 32 p.pbs)).setReg
       Reg.ING_PROF_STATUS (BitVec.ofNat 32 stOK))

/-- The staged profile (R712). -/
def State.stagedProfile (s : State) : PolProfile :=
  { cir := s.fld Reg.ING_PROF_CIR 18 0, cbs := s.fld Reg.ING_PROF_CBS 23 0, pir := s.fld Reg.ING_PROF_PIR 18 0,
    pbs := s.fld Reg.ING_PROF_PBS 23 0 }

/-- The profile breaks a rule of R708. -/
def profileBad (p : PolProfile) : Bool := decide (p.pir = 0 ∨ p.pir < p.cir ∨ p.cbs < 64 ∨ p.pbs < 65536)

/-- ING_PROFILE_WRITE (R707, R708). -/
def execIngProfileWrite (value : Word) (s : State) : Host.Outcome State Fault Refusal :=
  let n := s.fld Reg.ING_PROF_SEL 5 0
  commanding 6 true s
    (let p := s.stagedProfile
     if profileBad p then (s.setReg Reg.ING_PROF_STATUS (BitVec.ofNat 32 stOutOfRange)).raise 0x3201 n
     else
       let s1 := { s with egr := { s.egr with profiles := tabSet (fun _ => {}) s.egr.profiles n p } }
       let s2 := s1.kct.ctx.foldl (fun t e =>
         if e.2.sess.live && bits (t.esess e.1).ing.toNat 5 0 == n then t.resetPolicer e.1 (bit value.toNat 31) else t) s1
       s2.setReg Reg.ING_PROF_STATUS (BitVec.ofNat 32 stOK))

end Sys2Proof.Machine
end

