-- ==== Sys2Proof/Machine/Requests.lean ====
section
/-! DEFINITION. The request rows (R323, R345, R349, R363 to R396): a delivered request is translated and taken by the
home; and what moves trackers, page queues, fetches, credits and snoop responses on. -/

namespace Sys2Proof.Machine

open Sys2Proof

/-! ### The request's words (R232 to R237) -/

/-- ADDR, region, offset and page of a request's header. -/
def bodyAddr (b : List Byte) : Nat := beAt b 0 8
def bodyRegion (b : List Byte) : Nat := bodyAddr b / 2 ^ 48
def bodyOffset (b : List Byte) : Nat := bodyAddr b % 2 ^ 48
def bodyPage (b : List Byte) : Nat := bodyOffset b / 4096

/-- LENGTH, or COUNT of a Hint. -/
def bodyLen (b : List Byte) : Nat := beAt b 8 2

/-- PAGES of a bulk request. -/
def bodyPages (b : List Byte) : Nat := beAt b 8 1

/-- Pages that a request covers from its first. -/
def pagesOf (t : Nat) (b : List Byte) : Nat :=
  if t = tReadBulk ∨ t = tWriteBulk then bodyPages b else if t = tHint then bodyLen b else 1

/-- The format rules (R233, R234, R235, R237, R349). -/
def formatOk (t : Nat) (b : List Byte) : Bool :=
  let a := bodyAddr b
  let n := bodyLen b
  let masked := bit (beAt b 10 1) 0
  if t = tReadBulk ∨ t = tWriteBulk then a % 4096 == 0 && decide (1 ≤ bodyPages b ∧ bodyPages b ≤ 16)
  else if t = tHint then a % 4096 == 0 && decide (1 ≤ n) && (beAt b 10 1 == 1 || beAt b 10 1 == 2)
  else if t = tAtomic then
    let size := beAt b 9 1
    (size == 8 || size == 16) && a % size == 0 && decide (beAt b 8 1 ≤ 2)
  else if t = tUpgrade ∨ t = tEvictClean then a % 4096 == 0 && n == 0 && !masked
  else
    a % 8 == 0 && n % 8 == 0 && decide (8 ≤ n ∧ n ≤ 4096) && decide (a % 4096 + n ≤ 4096)
      && (!masked || t == tWriteThrough || t == tWriteBackDirty)

/-- One past the last byte of a request's offset (R232). -/
def bodyEnd (t : Nat) (b : List Byte) : Nat :=
  if t = tReadBulk ∨ t = tWriteBulk ∨ t = tHint then bodyOffset b + 4096 * pagesOf t b
  else if t = tUpgrade ∨ t = tEvictClean then bodyOffset b + 4096
  else if t = tAtomic then bodyOffset b + beAt b 9 1
  else bodyOffset b + bodyLen b

/-- The grant's rights allow a message (R324). -/
def Grant.allows (g : Grant) (t : Nat) : Bool :=
  if t = tReadShared then g.read && g.caching
  else if t = tReadOwn then g.read && g.write && g.caching
  else if t = tUpgrade then g.write && g.caching
  else if t = tReadCurrent ∨ t = tReadBulk ∨ t = tHint then g.read
  else if t = tWriteThrough ∨ t = tWriteBulk then g.write
  else if t = tAtomic then g.atomic
  else true

/-- The region's attributes allow a message (R324). -/
def Region.allows (r : Region) (t : Nat) : Bool :=
  if t = tReadOwn ∨ t = tUpgrade then r.coherent && !r.homeAtomic
  else if t = tReadShared ∨ t = tWriteBackDirty ∨ t = tEvictClean then r.coherent
  else true

/-- Steps 1 to 6 of translation: the status and INFO of the first check that fails (R323). -/
def State.translate (s : State) (c t : Nat) (b : List Byte) : Option (Nat × Nat) :=
  let rid := bodyRegion b
  let r := s.region rid
  let first := bodyPage b
  let last := first + pagesOf t b - 1
  let g := s.grantOf c rid
  if !formatOk t b then some (stOutOfRange, 0)
  else if !r.valid || r.state == 2 || (!r.enable && !isEviction t) then some (stUnmapped, 0)
  else if r.state = 1 then some (stBusy, (s.reg Reg.PIPE_INIT_RETRY).toNat)
  else if 2 ^ 46 ≤ bodyOffset b ∨ r.pageCount * 4096 < bodyEnd t b then some (stOutOfRange, 0)
  else if !isEviction t && !(match g with
      | some (_, x) => x.allows t && decide (x.first ≤ first ∧ last ≤ x.last)
      | none => false) then some (stAccessDenied, 0)
  else if !r.allows t then some (stAccessDenied, 0)
  else none

/-! ### Stage 3 (R88, R121, R124, R141, R388, R703) -/

/-- Requests that brace answers Busy: changes of data, and the recalls that a new owner needs; a WriteBackDirty that joins
a tracker is accepted (R388). -/
def State.braced (s : State) (c t : Nat) (b : List Byte) : Bool :=
  s.boot.brace && (changesData t || t == tReadOwn || t == tUpgrade || t == tEvacData) &&
    !(t == tWriteBackDirty && (s.activeOn (bodyRegion b) (bodyPage b) s.coh.nextId).isSome &&
      (s.descNow (bodyRegion b) (bodyPage b)).named.contains c)

/-- The ENABLE bits of the message path of a client's session (R141): its port, KCT, ING and EGR. -/
def State.pathEnabled (s : State) (c : Nat) : Bool :=
  let p := macPort (s.sess c).current
  s.enabled (0x100000 + 0x10000 * p) && s.enabled 0x200000 && s.enabled 0x320000 && s.enabled (0x300000 + 0x10000 * p)

/-- The ENABLE bits that a request needs (R141). -/
def State.blocksEnabled (s : State) (t : Nat) : Bool :=
  if t = tHint then s.enabled 0x400000 && s.enabled 0x600000
  else
    [0x400000, 0x500000, 0x600000, 0x700000, 0x800000, 0x900000].all s.enabled &&
      s.goodChans.all fun n => s.enabled (0xA00000 + n * 0x10000)

/-- What stage 3 answers before policing: Busy with a retry-after time (R88, R121, R124, R141). -/
def State.stage3 (s : State) (c t : Nat) (b : List Byte) : Option Nat :=
  if s.boot.draining then some (s.fld Reg.MGT_RESET_CFG 15 0 * 10)
  else if s.boot.stage = .limited then some 1000000
  else if s.braced c t b then some 20000
  else if !(s.blocksEnabled t && s.pathEnabled c) then some 1000
  else none

/-! ### Taking a delivered request (R12, R229, R706) -/

/-- Two requests address a common page. -/
def samePage (t : Nat) (b : List Byte) (t' : Nat) (b' : List Byte) : Bool :=
  bodyRegion b == bodyRegion b' && decide (bodyPage b < bodyPage b' + pagesOf t' b' ∧ bodyPage b' < bodyPage b + pagesOf t b)

/-- A delivered message by client, type and message ID, with the messages before it and the rest. -/
def takeMsg (c t : Nat) (id : BitVec 24) : List InMsg → List InMsg → Option (List InMsg × InMsg × List InMsg)
  | _, [] => none
  | before, m :: rest =>
    if m.client = c ∧ m.type = t ∧ m.msgId = id then some (before, m, before ++ rest) else takeMsg c t id (before ++ [m]) rest

/-- A request may be taken: no earlier one of its session addresses its page (R12), and a yellow one lets the green ones
of other pages go first (R706). -/
def mayServe (before rest : List InMsg) (m : InMsg) : Bool :=
  !(before.any fun x => x.client == m.client && isRequest x.type && samePage x.type x.body m.type m.body)
    && !(m.yellow && rest.any fun x => isRequest x.type && x.type != tEvacData && !x.yellow
      && !(x.client == m.client && samePage x.type x.body m.type m.body))

/-- The first request that waits at stage 5 for a tracker of the shared pool (R365). -/
def State.firstTracker (s : State) : Option Flight :=
  match s.coh.flights.filter fun f => f.stage == .tracker with
  | [] => none
  | x :: l => some (l.foldl (fun a b => if b.queuedAt < a.queuedAt then b else a) x)

/-- A tracker has come back to the shared pool: it goes to the retry list's head or to the stage-5 wait's, whichever first
found none (R365, R390). -/
def State.poolFree (s : State) : State :=
  if 8192 ≤ s.sharedUsed then s
  else
    match s.firstTracker, s.coh.retries with
    | some f, [] => s.queuePage { f with trk := .shared, stage := .pageQ }
    | some f, e :: _ => if f.queuedAt < e.since then s.queuePage { f with trk := .shared, stage := .pageQ } else s.grantCredit
    | none, _ :: _ => s.grantCredit
    | none, [] => s

/-- Answer a request that has taken no tracker. -/
def State.answer (s : State) (m : InMsg) (status info : Nat) : State :=
  s.complete m.client m.epoch m.msgId status info

/-- The credit that a request spends: `none` where its tag is not current (R229, R391). -/
def State.creditOf (s : State) (m : InMsg) : Option Credit :=
  s.coh.credits.find? fun c => c.client == m.client && c.epoch == m.epoch && c.tag == bits m.credit.toNat 11 0

/-- The state without a credit. -/
def State.dropCredit (s : State) (c : Credit) : State :=
  { s with coh := { s.coh with credits := s.coh.credits.filter fun x => !(x.client == c.client && x.tag == c.tag) } }

/-- Split a bulk request into its pages (R345), the first of which carries the failing check. -/
def State.splitBulk (s : State) (m : InMsg) (credited : Bool) (crc : Nat) : State :=
  let n := bodyPages m.body
  let b := s.coh.nextId
  let region := bodyRegion m.body
  let page := bodyPage m.body
  let rec_ : Bulk := { id := b, client := m.client, epoch := m.epoch, msgId := m.msgId, write := m.type == tWriteBulk
                       region := region, page := page, results := List.replicate n none }
  let s1 := { s with coh := { s.coh with bulks := s.coh.bulks ++ [rec_], nextId := b + 1 } }
  (List.range n).foldl (fun t i =>
    (t.pipeCount region (page + i) 1).launch
      { id := 0, client := m.client, epoch := m.epoch, type := m.type, msgId := m.msgId, region := region, page := page + i
        len := 4096, bulk := some (b, i), credited := credited && i == 0, crcAt := if i = 0 then crc else 0
        body := if m.type = tWriteBulk then List.replicate 12 0 ++ (m.body.drop (12 + 4096 * i)).take 4096 else []
        yellow := m.yellow }) s1

/-- A delivered request passes stage 3 again, spends its credit, passes steps 1 to 6 and goes on to its descriptor
(R323). `crc` is the boundary at which its CRC-32C will fail, 0 for none: 2 to 4 on its way here, 5 before the home, 6 after it,
10 where its response is composed (R14 to R16). -/
def State.serve (s : State) (m : InMsg) (crc : Nat) : State :=
  let region := bodyRegion m.body
  let page := bodyPage m.body
  let spends := bits m.credit.toNat 15 14 == 1
  let credit := if spends then s.creditOf m else none
  let s1 := match credit with | some c => s.dropCredit c | none => s
  let back (t : State) : State := if credit.isSome then t.poolFree else t
  if crc = 2 ∨ crc = 3 then back ((s1.crcFail crc).answer m stInternalFault 0) else
  match s.stage3 m.client m.type m.body with
  | some us => back (s1.answer m stBusy us)
  | none =>
    let s2 := s1.pipeCount region page 0
    if crc = 4 then back ((s2.crcFail 4).answer m stInternalFault 0)
    else if spends && credit.isNone then s2.answer m stStale 0
    else
      match s2.translate m.client m.type m.body with
      | some (st, info) =>
        let s3 := if st = stBusy then s2.pipeCount region page 7 else
          s2.countStatus { id := 0, client := 0, epoch := 0, type := 0, msgId := 0, region := region, page := page } st
        back (s3.answer m st info)
      | none =>
        if m.type = tReadBulk ∨ m.type = tWriteBulk then s2.splitBulk m credit.isSome crc
        else
          s2.launch
            { id := 0, client := m.client, epoch := m.epoch, type := m.type, msgId := m.msgId, region := region
              page := page, off := bodyOffset m.body % 4096
              len := if m.type = tAtomic then beAt m.body 9 1 else bodyLen m.body
              body := m.body, credited := credit.isSome, crcAt := crc, yellow := m.yellow }

/-- A request row: the first delivered message of the type with this client and message ID, if it may be taken; its
pipeline's domain has to be Up. -/
def requestRow (t : Nat) (client : BitVec 12) (msgId : BitVec 24) (crc : Nat) (s : State) :
    Host.Outcome State Fault Refusal :=
  match takeMsg client.toNat t msgId [] s.kct.delivered with
  | none => .next s
  | some (before, m, rest) =>
    let d := pipeDom (bodyRegion m.body) (bodyPage m.body)
    let s1 := { s with kct := { s.kct with delivered := rest } }
    if s.domFailed d then guarded (s.live && mayServe before rest m) s (s1.answer m stDomainFailed 0)
    else needing d (mayServe before rest m) s (s1.serve m crc)

/-- READ_SHARED (R369). -/
def execReadShared (client : BitVec 12) (msgId : BitVec 24) (crc : Nat) (s : State) : Host.Outcome State Fault Refusal :=
  requestRow tReadShared client msgId crc s

/-- READ_OWN (R369). -/
def execReadOwn (client : BitVec 12) (msgId : BitVec 24) (crc : Nat) (s : State) : Host.Outcome State Fault Refusal :=
  requestRow tReadOwn client msgId crc s

/-- UPGRADE (R369). -/
def execUpgrade (client : BitVec 12) (msgId : BitVec 24) (crc : Nat) (s : State) : Host.Outcome State Fault Refusal :=
  requestRow tUpgrade client msgId crc s

/-- READ_CURRENT (R369). -/
def execReadCurrent (client : BitVec 12) (msgId : BitVec 24) (crc : Nat) (s : State) : Host.Outcome State Fault Refusal :=
  requestRow tReadCurrent client msgId crc s

/-- WRITE_THROUGH (R369). -/
def execWriteThrough (client : BitVec 12) (msgId : BitVec 24) (crc : Nat) (s : State) : Host.Outcome State Fault Refusal :=
  requestRow tWriteThrough client msgId crc s

/-- WRITE_BACK_DIRTY (R369). -/
def execWriteBackDirty (client : BitVec 12) (msgId : BitVec 24) (crc : Nat) (s : State) : Host.Outcome State Fault Refusal :=
  requestRow tWriteBackDirty client msgId crc s

/-- EVICT_CLEAN (R369). -/
def execEvictClean (client : BitVec 12) (msgId : BitVec 24) (crc : Nat) (s : State) : Host.Outcome State Fault Refusal :=
  requestRow tEvictClean client msgId crc s

/-- ATOMIC (R396). -/
def execAtomic (client : BitVec 12) (msgId : BitVec 24) (crc : Nat) (s : State) : Host.Outcome State Fault Refusal :=
  requestRow tAtomic client msgId crc s

/-- READ_BULK (R345). -/
def execReadBulk (client : BitVec 12) (msgId : BitVec 24) (crc : Nat) (s : State) : Host.Outcome State Fault Refusal :=
  requestRow tReadBulk client msgId crc s

/-- WRITE_BULK (R345). -/
def execWriteBulk (client : BitVec 12) (msgId : BitVec 24) (crc : Nat) (s : State) : Host.Outcome State Fault Refusal :=
  requestRow tWriteBulk client msgId crc s

/-- HINT: checked as other requests are, queued or dropped, and answered OK at once (R349); the tag of a credit that it carries is
spent (R391). -/
def execHint (client : BitVec 12) (msgId : BitVec 24) (crc : Nat) (s : State) : Host.Outcome State Fault Refusal :=
  match takeMsg client.toNat tHint msgId [] s.kct.delivered with
  | none => .next s
  | some (before, m, rest) =>
    let region := bodyRegion m.body
    let page := bodyPage m.body
    let s0 := { s with kct := { s.kct with delivered := rest } }
    let spends := bits m.credit.toNat 15 14 == 1
    let credit := if spends then s0.creditOf m else none
    let s1 := match credit with | some c => (s0.dropCredit c).poolFree | none => s0
    let t :=
      if crc = 2 ∨ crc = 3 then (s1.crcFail crc).answer m stInternalFault 0 else
      match s0.stage3 m.client m.type m.body with
      | some us => s1.answer m stBusy us
      | none =>
        let s2 := s1.pipeCount region page 0
        if crc ≠ 0 then (s2.crcFail crc).answer m stInternalFault 0
        else if spends && credit.isNone then s2.answer m stStale 0
        else
          match s2.translate m.client tHint m.body with
          | some (st, info) => s2.answer m st info
          | none =>
            let s3 :=
              if s2.tier.hints.length < 4096 then
                ({ s2 with tier := { s2.tier with hints := s2.tier.hints ++
                  ([{ region := region, page := page, left := bodyLen m.body, cold := beAt m.body 10 1 == 2 }] : List HintEntry) } }).pipeCount
                  region page 14
              else (s2.pipeCount region page 15).raise 0x4006
            (s3.pipeCount region page 2).answer m stOK 0
    if s.domFailed (pipeDom region page) || (s.up (pipeDom region page) && s.domFailed 8) then
      guarded (s.live && mayServe before rest m) s
        (({ s with kct := { s.kct with delivered := rest } }).answer m stDomainFailed 0)
    else if s.up (pipeDom region page) then needing 8 (mayServe before rest m) s t
    else .next (s.stall (pipeDom region page))

/-- The status, INFO and data of a bulk request whose pages have all ended (R262, R347). -/
def bulkStatus (write : Bool) (l : List (Nat × List Byte)) : Nat × Nat × List Byte :=
  let n := l.length
  let ok (x : Nat × List Byte) : Bool := x.1 == stOK || (!write && n == 1 && x.1 == stOwnerLost)
  let good := l.filter ok
  if good.length = n then ((l.headD (stOK, [])).1, 0, good.flatMap (·.2))
  else if good.isEmpty then ((l.headD (stInternalFault, [])).1, 0, [])
  else (stPartial, ((List.range n).map fun i => bitNat (ok (l.getD i (0, []))) * 2 ^ i).sum, good.flatMap (·.2))

/-- BULK_COMPLETION: every page has succeeded or failed (R262); `crc` is a CRC-32C failure where the Completion is composed, which
then carries no data (R16). -/
def execBulkCompletion (client : BitVec 12) (msgId : BitVec 24) (crc : Bool) (s : State) : Host.Outcome State Fault Refusal :=
  match s.coh.bulks.find? fun b => b.client == client.toNat && b.msgId == msgId && b.results.all Option.isSome with
  | none => .next s
  | some b =>
    let (st, info, data) :=
      if crc then (stInternalFault, 0, []) else bulkStatus b.write (b.results.map fun r => r.getD (stInternalFault, []))
    let f : Flight := { id := 0, client := 0, epoch := 0, type := 0, msgId := 0, region := b.region, page := b.page }
    let s0 := if crc then s.crcFail 10 else s
    let s1 := { s0 with coh := { s0.coh with bulks := s0.coh.bulks.filter (·.id != b.id) } }
    let s2 := (s1.countStatus f st).reply b.client b.epoch tCompletion b.msgId st
      (beBytes 4 info ++ if b.write then [] else data)
    let at_ := (s2.sess b.client).txNext
    let s3 := { s2 with coh := { s2.coh with
      flights := s2.coh.flights.map fun x => match x.bulk with
        | some (i, _) => if i = b.id then { x with stage := .ackWait, ackAt := at_, data := [] } else x
        | none => x } }
    guarded s.live s s3

/-! ### Descriptor fetches and ways (R352, R354) -/

/-- A page's descriptor has been fetched and installed: the requests that wait for it go on under its lock in arrival order
(R9, R12). -/
def State.fetched (s : State) (region page : Nat) (d : Desc) : State :=
  let s1 := s.install region page d
  let fl := s1.coh.flights.map fun x =>
    if x.region = region ∧ x.page = page ∧ x.stage = .fetch then { x with stage := .lock } else x
  ({ s1 with coh := { s1.coh with flights := fl } }).lockFreed region page

/-- DESCRIPTOR_FETCH_DONE: the fetch of a request's descriptor returns (R352, R354). -/
def execDescriptorFetchDone (flight : Nat) (errs : ReadErrs) (s : State) : Host.Outcome State Fault Refusal :=
  match s.flight? flight with
  | none => .next s
  | some f =>
    let base := (descLine (s.region f.region).descBase f.page).1 / 4
    let n := s.slotChan base
    let (s1, r) := s.fetchDesc 3 f.region f.page errs
    let t :=
      match r with
      | .ok d =>
        (match s1.dcRoom f.region f.page with
         | some u => u.fetched f.region f.page d
         | none => s1.translate7 f)
      | .error _ =>
        ((s1.raise 0x4003 (pageDetail f.region f.page)).respond f stUncorrectable 0 []).lockFreed f.region f.page
    if f.stage ≠ .fetch ∨ !s.live then .next s
    else if !s.standServes (slotStand base) then .next (s.wakeStand (slotStand base))
    else if !s.chanOpen n && !s.chanLost n then .next (s.stallChan n)
    else serving (pipeDom f.region f.page) f true s t

/-- CACHE_WAY_UNPINNED: an agent that waits at stage 4 takes a way that has become unpinned (R352). -/
def execCacheWayUnpinned (flight : Nat) (s : State) : Host.Outcome State Fault Refusal :=
  match s.flight? flight with
  | none => .next s
  | some f =>
    serving (pipeDom f.region f.page) f (f.stage == .way && (s.dcRoom f.region f.page).isSome) s
      ((s.translate7 f).wakeWaiters f.region f.page .way)

/-- A request keeps its page's descriptor lock: it waits for the home's domain with it, or its fetch is the one under way
(R325). -/
def State.keepsLock (s : State) (f : Flight) : Bool :=
  f.stage == .home || (f.stage == .fetch
    && !s.coh.flights.any fun x => x.region == f.region && x.page == f.page && decide (x.id < f.id) && x.stage == .fetch)

/-- LOCK_TIMEOUT: a holder has kept a lock for PIPE_LOCK_TIMEOUT; the lock is released unwritten (R327). Where a request waits
behind a service agent whose turn it is, the agent is the holder, and loses its turn (DEDUCED, log 206). -/
def execLockTimeout (flight : Nat) (s : State) : Host.Outcome State Fault Refusal :=
  match s.flight? flight with
  | none => .next s
  | some f =>
    let s1 := (s.raise 0x4004).pipeCount f.region f.page 17
    if f.stage = .lock ∧ !s.lockTaken f.region f.page then
      match s.firstPlace f.region f.page with
      | some p => guarded (s.live && p.who != agentMover) s (s1.leavePlace p.who f.region f.page)
      | none => .next s
    else
      guarded (s.live && s.keepsLock f) s ((s1.respond f stInternalFault 0 []).lockFreed f.region f.page)

/-! ### Handshakes (R17, R18, R327, R368, R674, R771) -/

/-- The boundaries at which a request's handshake can be waiting, by where it is: into stage 4, from the directory to stage 6, and
on along the data path (DEDUCED, log 207). Waits for locks, ways, trackers, page queues, snoops and wakes are none. -/
def Flight.handshakes (f : Flight) : List Nat :=
  match f.stage with
  | .fetch => [4, 5]
  | .read => [6, 7, 8]
  | .decode => [8, 9]
  | .compress => [5, 6]
  | .check => [6, 7]
  | .write => [8, 9]
  | .commit => [9, 10]
  | .bulkWait => [10]
  | _ => []

/-- A line of a request waits at a channel that is not open, or there for its master's budget or rank (R18, R674). -/
def State.lineStalled (s : State) (f : Flight) (la : Nat) : Bool :=
  let n := s.slotChan (la / 4)
  !s.standServes (slotStand (la / 4)) || !s.chanOpen n || s.demotedNow f.master
    || ((s.chan n).port.any fun r => r.src == some f.id) || (f.stage == .write && !s.withinBudget n f.master)

/-- A request's wait does not count against a handshake timeout: it is stalled for a domain or a stand (R18), held at a port
or demoted (R674), or the core clock relocks (R771). -/
def State.stalled (s : State) (f : Flight) : Bool :=
  s.thermal.relock ||
    match f.stage with
    | .fetch =>
      let base := (descLine (s.region f.region).descBase f.page).1 / 4
      !s.up (pipeDom f.region f.page) || !s.standServes (slotStand base) || !s.chanOpen (s.slotChan base)
    | .read => f.want.any (s.lineStalled f) || !s.up 11
    | .decode => !s.dLanes.any fun k => s.up (laneDom k)
    | .compress => !s.cLanes.any fun k => s.up (laneDom k)
    | .check => !s.up 11 || s.tier.reloading
    | .write => f.writes.any fun w => s.lineStalled f w.la
    | .commit => !s.up (pipeDom f.region f.page)
    | _ => false

/-- What a timed-out handshake leaves: its retry has succeeded, or it is counted with the stage as detail (R17, R630). -/
def State.handshake (s : State) (stage : Nat) (cleared : Bool) : State :=
  if cleared then (s.count Reg.RAS_HS_RETRY_OK).raise 0x0306 else (s.count Reg.RAS_HS_FAIL).raise 0x0305 stage

/-- A delivered request by client and message ID. -/
def State.deliveredMsg (s : State) (c : Nat) (id : BitVec 24) : Option InMsg :=
  s.kct.delivered.find? fun m => m.client == c && m.msgId == id && isRequest m.type

/-- HANDSHAKE_TIMEOUT: a handshake into `stage` times out; its retry succeeds, or the request is answered InternalFault (R17). -/
def execHandshakeTimeout (who : HsRef) (stage : Nat) (cleared : Bool) (s : State) : Host.Outcome State Fault Refusal :=
  let s1 := s.handshake stage cleared
  match who with
  | .flight id =>
    match s.flight? id with
    | none => .next s
    | some f =>
      let t :=
        if cleared then s1
        else if f.stage = .fetch then (s1.respond f stInternalFault 0 []).lockFreed f.region f.page
        else s1.abort f stInternalFault
      guarded (s.live && f.handshakes.contains stage && !s.stalled f && (f.stage != .fetch || s.keepsLock f)) s t
  | .message client msgId =>
    match s.deliveredMsg client.toNat msgId with
    | none => .next s
    | some m =>
      let gone := { s1 with kct := { s1.kct with delivered := s1.kct.delivered.erase m } }
      guarded (s.live && decide (2 ≤ stage ∧ stage ≤ 4) && !s.thermal.relock && s.up (pipeDom (bodyRegion m.body) (bodyPage m.body)))
        s (if cleared then s1 else gone.answer m stInternalFault 0)

/-! ### Trackers, credits and page queues (R363, R367, R390, R391) -/

/-- Every segment of a request's response has been acknowledged, or its session is gone (R363, R400). -/
def State.acknowledged (s : State) (f : Flight) : Bool :=
  let x := s.sess f.client
  !x.live || x.epoch != f.epoch || decide (f.ackAt ≤ x.acked) ||
    (List.range (f.ackAt - x.acked)).all fun i => x.replay.any fun r => r.seg.ext == x.acked + i && r.sacked

/-- TRACKER_FREE: a response has been acknowledged and its tracker closes (R363, R390). -/
def execTrackerFree (flight : Nat) (s : State) : Host.Outcome State Fault Refusal :=
  match s.flight? flight with
  | none => .next s
  | some f =>
    let s1 := s.dropFlight f.id
    needing 7 (f.stage == .ackWait && s.acknowledged f) s (if f.trk = .shared then s1.poolFree else s1)

/-- CREDIT_EXPIRE: a credit tag has been current for COH_CREDIT_HOLD (R391). -/
def execCreditExpire (client : BitVec 12) (tag : BitVec 12) (s : State) : Host.Outcome State Fault Refusal :=
  match s.coh.credits.find? fun c => c.client == client.toNat && c.tag == tag.toNat with
  | none => .next s
  | some c => needing 7 true s ((((s.dropCredit c).raise 0x5005 c.client).cohCount 8 1).poolFree)

/-- PAGE_QUEUE_ADVANCE: no tracker is active on a page any more, and its queue's head goes on (R367). -/
def execPageQueueAdvance (region page : Nat) (s : State) : Host.Outcome State Fault Refusal :=
  match s.queueHead region page with
  | none => .next s
  | some f => needing 7 (s.activeOn region page f.id).isNone s (s.activate f)

/-! ### Snoop responses (R244, R369, R376, R379, R383, R387) -/

/-- The bytes of the page that a SnpResp carries (R237, R244). -/
def snoopData (b : List Byte) : List (Option Byte) :=
  let data := (b.drop 12).take 4096
  if bit (beAt b 9 1) 1 then
    (List.range 4096).map fun i =>
      if ((b.drop 4108).getD (i / 8) 0).getLsbD (i % 8) then some (data.getD i 0) else none
  else data.map some

/-- The longest snoop wait in µs (R401, SNOOP_WAIT_MAX). -/
def State.snoopWaited (s : State) (x : Snoop) : State :=
  let us := (s.now - x.sentAt) / 1000
  if (s.reg (Reg.COH_CNT 15)).toNat < us then s.setReg (Reg.COH_CNT 15) (BitVec.ofNat 32 us) else s

/-- Apply a SnpResp to the snoop it answers. -/
def State.snpResp (s : State) (f : Flight) (x : Snoop) (b : List Byte) : State :=
  let flags := beAt b 9 1
  let res := if beAt b 8 1 = 0 then (if bit flags 3 then 3 else 0) else if bit flags 3 then 2 else 1
  let s1 := s.snoopWaited x
  let upd (y : Snoop) : List Snoop := updFirst (fun z => z.client == x.client && z.msgId == x.msgId) (fun _ => y) f.snoops
  if bit flags 2 then s1.putFlight { f with snoops := upd { x with wbWait := true } }
  else
    let ops : List PageOp := if bit flags 0 then [.put 0 (snoopData b)] else []
    s1.joinData f ops (upd { x with result := some res })

/-- SNP_RESP: a snooped client's answer reaches its tracker (R376); one that answers no snoop is discarded. -/
def execSnpResp (client : BitVec 12) (msgId : BitVec 24) (s : State) : Host.Outcome State Fault Refusal :=
  match takeMsg client.toNat tSnpResp msgId [] s.kct.delivered with
  | none => .next s
  | some (_, m, rest) =>
    let s1 := { s with kct := { s.kct with delivered := rest } }
    let hit (x : Snoop) : Bool := x.client == client.toNat && x.msgId == msgId && x.result.isNone && !x.wbWait
    let t :=
      match s1.coh.flights.find? fun f => f.snoops.any hit with
      | none => s1
      | some f => (match f.snoops.find? hit with | some x => s1.snpResp f x m.body | none => s1)
    needing 7 true s t

end Sys2Proof.Machine
end

