-- ==== Sys2Proof/Machine/SessionEnd.lean ====
section
/-! DEFINITION. The end of a session (R150, R160, R296, R302, R387, R391, R397, R400): what it held goes with it, and its
client's holdings are swept. -/

namespace Sys2Proof.Machine

open Sys2Proof

/-- The session of a client ID as one number: client ID and epoch, as in REQ_SESSION (R244). -/
def State.sessId (s : State) (c : Nat) : Nat := 16 * c + (s.sess c).epoch.toNat

/-- A register of client ID in [11:0], epoch in [27:24] and a valid bit 31 names a session. -/
def State.namesSess (s : State) (a c : Nat) (epoch : BitVec 4) : Bool :=
  s.flag a 31 && s.fld a 11 0 == c && s.fld a 27 24 == epoch.toNat

/-- A subscription is cleared (R160). -/
def State.clearSub (s : State) (i : Nat) : State :=
  let s1 := s.setReg (Reg.RAS_SUB i) 0
  { s1 with log := { s1.log with due := tabSet (fun _ => 0) s1.log.due i 0 } }

/-- The management lock and the subscriptions of a session that has ended (R150, R160). -/
def State.releaseHolds (s : State) (c : Nat) (epoch : BitVec 4) : State :=
  let s1 :=
    if s.namesSess Reg.MGT_MGR_LOCK c epoch then (s.setReg Reg.MGT_MGR_LOCK 0).raise 0x0303 (16 * c + epoch.toNat)
    else s
  (List.range 8).foldl (fun t i => if t.namesSess (Reg.RAS_SUB i) c epoch then t.clearSub i else t) s1

/-- Where a session's frames go now (R194, R275). -/
def State.sessDest (s : State) (c : Nat) : Option Dest :=
  let x := s.sess c
  (s.destMac c x.current).map fun da => { mac := x.current, da := da, ip := x.ip, v6 := x.v6, port := x.port }

/-- Snoops that a dead client has not answered count as answered I without data; the descriptor that the tracker locks again
takes the dead-session handling first (R387, R395, R399, R400). -/
def State.snoopsDie (s : State) (c : Nat) : State :=
  s.coh.flights.foldl (fun t f0 =>
    match t.flight? f0.id with
    | none => t
    | some f =>
      let dies (x : Snoop) : Bool := x.client == c && x.result.isNone
      if f.snoops.any dies then
        ((t.deadHolder f.region f.page c).1).joinData f []
          (f.snoops.map fun x => if dies x then { x with result := some 0, wbWait := false } else x)
      else t) s

/-- Credit tags of an ended session, whose trackers return to the pool, and its retry entries (R391). -/
def State.creditsEnd (s : State) (c : Nat) : State :=
  let s1 := { s with coh := { s.coh with retries := s.coh.retries.filter (·.client != c) } }
  (s1.coh.credits.filter (·.client == c)).foldl (fun t x => (t.dropCredit x).poolFree) s1

/-- Segments of a session that wait to be encrypted, placed or sent are gone, but for those with a destination of their
own. -/
def State.dropSegments (s : State) (c : Nat) : State :=
  let keep (g : TxSeg) : Bool := g.client != c || g.dest.isSome
  let s1 := { s with kct := { s.kct with gcm := s.kct.gcm.filter keep, stage11 := s.kct.stage11.filter keep } }
  let x := s1.esess c
  let s2 := s1.setEsess c { x with queue := x.queue.filter keep }
  let rings := s2.egr.rings.map fun e =>
    (e.1, if (x.queue.filter keep).isEmpty then { e.2 with order := e.2.order.erase c } else e.2)
  { s2 with egr := { s2.egr with rings := tabMap (fun _ => {}) (fun _ r => r) rings } }

/-- The holder sweep of an ended session (R397). -/
def State.queueSweep (s : State) (c : Nat) : State :=
  let x := s.ctx c
  if x.held = 0 then s
  else
    let s1 := s.setCtx c { x with sweeping := true }
    ({ s1 with kct := { s1.kct with sweepQ := s1.kct.sweepQ ++ [c] } }).raise 0x5001 c

/-- MGT_PEER_STATUS of the entry whose outbound session has ended: Closed, or Failed where it died (R760). -/
def State.peerGone (s : State) (c : Nat) (st : SessState) : State :=
  (List.range 8).foldl (fun t p =>
    let a := Reg.MGT_PEER_STATUS p
    if t.fld (Reg.MGT_PEER_CFG p) 27 16 = c ∧ (t.fld a 31 28 = 1 ∨ t.fld a 31 28 = 2) then
      t.setFld a 31 28 (if st = .dead then 3 else 0)
    else t) s

/-- A session has ended, as `st` says: its space is freed, its requests that have been delivered and not taken are dropped,
and all that it held is released. -/
def State.sessionGone (s : State) (c : Nat) (st : SessState) : State :=
  let x := s.sess c
  let s1 := (s.setSess c { x with state := st, opening := false, replay := [], rxHeld := [] }).dropSegments c
  let s2 := { s1 with
    kct := { s1.kct with delivered := s1.kct.delivered.filter (·.client != c) }
    mgmt := { s1.mgmt with jobs := s1.mgmt.jobs.filter (·.client != c) } }
  let s3 := if x.initiator then s2.peerGone c st else s2
  (((s3.releaseHolds c x.epoch).queueSweep c).snoopsDie c).creditsEnd c

/-- A dead session (R296): one Close with REASON 2, which is not retransmitted, event 0x2003 and the end. -/
def State.deadSession (s : State) (c : Nat) : State :=
  if !(s.sess c).bound then s
  else
    let s1 :=
      match s.sessDest c with
      | none => s
      | some d =>
        let (id, t) := s.drawMsgId c
        t.sendSeg c tClose 0 id 0 0 true false [2, 0, 0, 0] (some d)
    (s1.raise 0x2003 (s.sessId c)).sessionGone c .dead

end Sys2Proof.Machine
end

