-- ==== Sys2Proof/Machine/Mreg.lean ====
section
/-! DEFINITION. Memory bandwidth regulation (18_regulation.md): windows, the admission check and the scale factor. -/

namespace Sys2Proof.Machine

open Sys2Proof

/-! ### Frequency points and deliverable bandwidth (R21, R566) -/

/-- The current point, MAX_POINT and the throttle cap of DRC_FP_STATUS. -/
def State.fpNow (s : State) : Nat := s.fld (Reg.DRC_FP_STATUS 0) 1 0
def State.fpMax (s : State) : Nat := s.fld (Reg.DRC_FP_STATUS 0) 9 8
def State.fpCap (s : State) : Nat := s.fld (Reg.DRC_FP_STATUS 0) 5 4
def State.fpTarget (s : State) : Nat := s.fld (Reg.DRC_FP_CTRL 0) 1 0

/-- The FP2 clause of Drowsy: from AP3 of an entry until the first step of the exit (R566, R730). -/
def State.drowsyPoint (s : State) : Bool :=
  (s.pwr.current == 2 && s.pwr.exiting.isNone) || (s.pwr.entering == some 2 && decide (3 ≤ s.pwr.ap))

/-- The effective point: the slowest that any clause of R566 asks for. -/
def State.fpEffective (s : State) : Nat :=
  max (max s.fpTarget s.fpCap) (max s.fpMax (if s.drowsyPoint then 2 else 0))

/-- Peak of a channel at a point in MB/s. -/
def fpPeak (p : Nat) : Nat := if p = 0 then 48000 else if p = 1 then 38400 else 25600

/-- MREG_EFFICIENCY and MREG_ADMIT_PCT. -/
def State.efficiency (s : State) : Nat := s.fld Reg.MREG_EFFICIENCY 6 0
def State.admitPct (s : State) : Nat := s.fld Reg.MREG_ADMIT_PCT 6 0

/-- Bandwidth of the channels that are not Failed at a point, in MB/s (R21). -/
def State.bandwidth (s : State) (p : Nat) : Nat := s.goodChans.length * fpPeak p * s.efficiency / 100

/-- D at the current point, and D_FULL of R677. -/
def State.dNow (s : State) : Nat := s.bandwidth s.fpNow
def State.dFull (s : State) : Nat := s.bandwidth (max s.fpTarget s.fpMax)

/-! ### The scale factor (R679, R680) -/

/-- S after a change of D, of D_ADMIT or of the efficiency: the next window boundary applies it (R680). -/
def State.rescale (s : State) : State :=
  let n := if !s.mreg.checked || s.mreg.dAdmit = 0 then 65536 else min 65536 (s.dNow * 65536 / s.mreg.dAdmit)
  { s with mreg := { s.mreg with nextScale := n } }

/-- Masters other than 10. -/
def budgetMasters : List Nat := [0, 1, 2, 3, 4, 5, 6, 7, 8, 9, 11]

/-- G of a table in MB/s, times WINDOW (R677). -/
def tableSum (budgets : List Nat) : Nat := (budgetMasters.map fun m => 64 * budgets.getD m 0).sum

/-- A table is over the admitted share of D_FULL (R677). -/
def State.overAdmission (s : State) (window : Nat) (budgets : List Nat) : Bool :=
  decide (s.admitPct * s.dFull * window < 100 * tableSum budgets)

/-- The admission check of a commit made before stage 7 ended, run when it ends (R678). -/
def State.bootAdmission (s : State) : State :=
  let m := s.mreg
  let (w, b) :=
    match m.next with
    | some (w, _, b) => (w, b)
    | none => (m.window, (List.range 12).map s.budget)
  let g := tableSum b / max w 1
  let m1 := { m with checked := true, provisional := false, lastG := g / 100 }
  if s.overAdmission w b then
    ({ s with mreg := { m1 with err := true, dAdmit := g * 100 / max s.admitPct 1 } }.raise 0x9004).rescale
  else { s with mreg := { m1 with err := false, dAdmit := s.dFull } }.rescale

/-! ### Commands -/

/-- MREG_COMMIT: GO (R676 to R678). -/
def execMregCommit (s : State) : Host.Outcome State Fault Refusal :=
  let w := s.fld Reg.MREG_WINDOW 10 0
  let f := s.fld Reg.MREG_CHAN_FACTOR 3 0
  let b := (List.range 12).map fun m => if m = 10 then 0 else s.fld (Reg.MREG_BUDGET m) 23 0
  let g := tableSum b / max w 1 / 100
  let m := s.mreg
  let t :=
    if m.next.isSome then s.wrote stAccessDenied
    else if !m.checked then { s with mreg := { m with next := some (w, f, b), provisional := true, lastG := g } }.wrote
    else if s.overAdmission w b then
      ({ s with mreg := { m with err := true, lastG := g } }.raise 0x9001 g).wrote stAccessDenied
    else { s with mreg := { m with err := false, lastG := g, next := some (w, f, b), dAdmit := s.dFull } }.rescale.wrote
  commanding 12 true s t

/-- MREG_EFFICIENCY_WRITE: a write of MREG_EFFICIENCY or, with `admission`, of MREG_ADMIT_PCT (R679). -/
def execMregEfficiencyWrite (admission : Bool) (value : Word) (s : State) : Host.Outcome State Fault Refusal :=
  let a := if admission then Reg.MREG_ADMIT_PCT else Reg.MREG_EFFICIENCY
  let v := bits value.toNat 6 0
  commanding 12 true s
    (if s.pageLocked a then s.wrote stAccessDenied
     else if v < 50 ∨ (if admission then 95 else 90) < v then s.wrote stOutOfRange
     else (s.setReg a (BitVec.ofNat 32 v)).rescale.wrote)

/-- The committed table in force. -/
def State.applyTable (s : State) : State :=
  match s.mreg.next with
  | none => s
  | some (w, f, b) =>
    { s with mreg := { s.mreg with
      next := none, window := w, factor := f
      budgets := (List.range 12).foldl (fun t m => tabSet resetBudget t m (b.getD m 0)) s.mreg.budgets } }

/-- S applied at a window boundary, with its event (R680). -/
def State.applyScale (s : State) : State :=
  let a := s.mreg.scale
  let b := s.mreg.nextScale
  let t := { s with mreg := { s.mreg with scale := b } }
  if b < a then t.raise 0x9002 (a * 2 ^ 32 + b) else if a < b then t.raise 0x9003 (a * 2 ^ 32 + b) else t

/-- The demoted masters (R669). -/
def State.demotedMasters (s : State) : List Nat := budgetMasters.filter s.demotedNow

/-- Masters 2 and 3 that have passed their crossbar limit in this window (R671). -/
def State.overrunMasters (s : State) : List Nat :=
  [2, 3].filter fun m => decide (s.xbarLimit m < tabGet (fun _ => 0) s.mreg.counts m)

/-- REG_WINDOW_BOUNDARY: what the window has seen is counted, the counters restart, what is staged takes effect and held
requests are tested again (R667, R670 to R672, R676, R680). -/
def execRegWindowBoundary (s : State) : Host.Outcome State Fault Refusal :=
  let s1 := s.demotedMasters.foldl (fun t m => t.count64 (Reg.MREG_DEMOTED_WIN_LO m) 1) s
  let s2 := s.overrunMasters.foldl (fun t m => (t.raise 0x9005 m).count Reg.MREG_RT_OVERRUN) s1
  let s3 := { s2 with
    mreg := { s2.mreg with counts := [] }
    dram := { s2.dram with chans := tabMap (fun _ => {}) (fun _ c => { c with counts := [] }) s2.dram.chans } }
  needing 12 true s s3.applyTable.applyScale.pumpAll

end Sys2Proof.Machine
end

