-- ==== Sys2Proof/Machine/Dram.lean ====
section
/-! DEFINITION. The commands of a DRAM channel (14_dram_scheduling.md): choosing the next command, refresh, row
disturbance and parity alerts. JESD79-5 timing is not modelled: a command names how many better-ranked pieces of work have
to wait for it. -/

namespace Sys2Proof.Machine

open Sys2Proof

/-! ### Banks -/

/-- The key of a bank in its subchannel: rank, bank group and bank. -/
def bankKey (rank bg bank : Nat) : Nat := 32 * rank + 4 * bg + bank

/-- The rank of a line. -/
def lineRank (la : Nat) : Nat := slotStand (la / 4)

/-- The bank of a line. -/
def State.lineBank (s : State) (la : Nat) : Nat :=
  let p := s.linePlace la
  bankKey (lineRank la) p.bg p.bank

/-- A bank of a subchannel. -/
def SubChan.bank (x : SubChan) (k : Nat) : Bank := tabGet (fun _ => {}) x.banks k

/-- The subchannel with a bank replaced. -/
def SubChan.setBank (x : SubChan) (k : Nat) (b : Bank) : SubChan := { x with banks := tabSet (fun _ => {}) x.banks k b }

/-- Commands as they are emitted. -/
abbrev cmdAct : Nat := 0
abbrev cmdRd : Nat := 1
abbrev cmdWr : Nat := 2
abbrev cmdPre : Nat := 3
abbrev cmdRef : Nat := 4
abbrev cmdRfm : Nat := 5
abbrev cmdDrfm : Nat := 6
abbrev cmdSre : Nat := 7
abbrev cmdSrx : Nat := 8

/-- A command to a rank; the RCD of a 4-rank DIMM is in encoded quad chip-select mode, and the two DCS_N outputs of the slot
select the rank (R529). -/
def State.sendCmd (s : State) (n b cmd rank bank row col : Nat) : State :=
  s.emit (.dramCmd n b ((s.chan n).dimm (rank / 4)).quadSelect cmd rank bank row col)

/-- Counters of DRC_CNT (R557). -/
def State.drcCount (s : State) (n k : Nat) : State := s.count64 (Reg.DRC_CNT n k) 1

/-- RAAIMT and RAAMMT. -/
def State.raaImt (s : State) (n : Nat) : Nat := s.fld (Reg.DRC_RAA n) 15 0
def State.raaMmt (s : State) (n : Nat) : Nat := s.fld (Reg.DRC_RAA n) 31 16

/-- One bit of the generator of R546, x^32 + x^22 + x^2 + x + 1. -/
def lfsrBit (v : BitVec 32) : BitVec 32 :=
  let f := (v.getLsbD 31 != v.getLsbD 21) != (v.getLsbD 1 != v.getLsbD 0)
  (v <<< 1) ||| (if f then 1 else 0)

/-- The next value: 32 bits on. -/
def lfsrNext : Nat → BitVec 32 → BitVec 32
  | 0, v => v
  | n + 1, v => lfsrNext n (lfsrBit v)

/-! ### The queue as the ranking sees it (R535 to R540) -/

/-- An entry has to wait for another access to its line (R535): an earlier one in the queue, or the write of a
read-modify-write whose read has been issued. -/
def lineBlocked (ret before : List Entry) (e : Entry) : Bool :=
  (before.any fun o => o.la == e.la && (o.access == .rmw || (o.access == .rd && e.access != .rd)
      || (o.access == .wr && e.access == .rmw)))
    || ret.any fun o => o.la == e.la && o.access == .rmw

/-- The entries that may be worked on, in queue order. -/
def unblocked (ret : List Entry) : List Entry → List Entry → List Entry
  | _, [] => []
  | before, e :: r =>
    if lineBlocked ret before e then unblocked ret (before ++ [e]) r else e :: unblocked ret (before ++ [e]) r

/-- The entry hits its bank's open row. -/
def State.rowHit (s : State) (x : SubChan) (e : Entry) : Bool := (x.bank (s.lineBank e.la)).row == some (s.linePlace e.la).row

/-- The entry needs another row of an open bank. -/
def State.rowMiss (s : State) (x : SubChan) (e : Entry) : Bool :=
  match (x.bank (s.lineBank e.la)).row with
  | some r => r != (s.linePlace e.la).row
  | none => false

/-- An entry's place in the ranking of R537: the retry of R552, aged entries, then class, then hits, then age. -/
def State.rankKey (s : State) (x : SubChan) (e : Entry) : Nat :=
  let cls := if x.drain then (if e.cls = 2 then 1 else if e.cls = 1 then 2 else 3) else e.cls
  if e.err1.isSome && !e.half then 0
  else if e.aged then e.arrived + 1
  else (1 + 2 * cls + bitNat (!s.rowHit x e)) * 2 ^ 64 + e.arrived

/-- The older entry of the same bank and another row that a hit must let pass after HIT_MAX column commands (R540). -/
def State.yieldsTo (s : State) (n : Nat) (x : SubChan) (l : List Entry) (e : Entry) : Option Entry :=
  if s.rowHit x e && decide (s.hitMax n ≤ (x.bank (s.lineBank e.la)).hits) then
    l.find? fun o => decide (o.arrived < e.arrived) && s.lineBank o.la == s.lineBank e.la && s.rowMiss x o
  else none

/-- Entries in the order of R537 and R540. -/
def State.ranked (s : State) (n : Nat) (x : SubChan) : List Entry :=
  let l := (unblocked x.ret [] x.queue).foldl (fun acc e => insertBy (s.rankKey x) e acc) []
  let free := l.filter fun e => (s.yieldsTo n x l e).isNone
  free.flatMap fun o => o :: l.filter fun e => s.yieldsTo n x l e == some o

/-- Write drain begins and ends (R539). -/
def State.drainUpdate (s : State) (n b : Nat) : State :=
  let x := s.sub n b
  let writes := (x.queue.filter fun e => e.access != .rd).length
  let reads := x.queue.length - writes
  if !x.drain && (decide (s.wrHigh n ≤ writes) || (decide (0 < writes) && reads == 0)) then
    (s.setSub n b { x with drain := true }).drcCount n 11
  else if x.drain && (writes == 0 || (decide (writes ≤ s.wrLow n) && reads != 0)) then s.setSub n b { x with drain := false }
  else s

/-! ### Work (R537) -/

/-- A piece of work with the command that it needs next. -/
inductive Work where
  | refresh (rank : Nat) (pre : Bool)
  | manage (bank : Nat)
  | act (e : Entry)
  | pre (e : Entry)
  | rd (e : Entry)
  | wr (e : Entry)
  deriving DecidableEq, Repr

/-- A class 1 or class 2 entry is queued for a rank, in either subchannel. -/
def State.demandFor (s : State) (n r : Nat) : Bool :=
  (s.sub n 0).queue.any (fun e => e.cls != 3 && lineRank e.la == r) || (s.sub n 1).queue.any fun e => e.cls != 3 && lineRank e.la == r

/-- A rank that takes commands: present, not in self-refresh, and not of a DIMM that recovers from an alert (R553). -/
def State.rankOpen (s : State) (n r : Nat) : Bool :=
  (s.stand r).present && !(s.rank n r).selfRefresh && !(s.chan n).alert.contains (r / 4)

/-- Banks of a rank with an open row in a subchannel. -/
def SubChan.openBanks (x : SubChan) (r : Nat) : List Nat := (x.banks.filter fun e => e.1 / 32 == r && e.2.row.isSome).map (·.1)

/-- Refreshes that are due (R543, R544). -/
def State.refreshWork (s : State) (n b : Nat) : List Work :=
  ((List.range 8).filter fun r =>
      let k := s.rank n r
      s.rankOpen n r && decide (0 < k.owed) && (k.force || !s.demandFor n r)).map fun r =>
    .refresh r (!((s.sub n b).openBanks r).isEmpty)

/-- DRFM and RFM that are due (R547 to R549). -/
def State.manageWork (s : State) (n b : Nat) : List Work :=
  let x := s.sub n b
  ((x.banks.filter fun e =>
      s.rankOpen n (e.1 / 32)
        && (e.2.due || (((s.chan n).dimm (e.1 / 128)).rfm && decide (s.raaImt n ≤ e.2.raa ∧ 0 < s.raaImt n)))).map (·.1)).map .manage

/-- An ACT that an RAA maximum holds (R549). -/
def State.raaHeld (s : State) (n : Nat) (x : SubChan) (k : Nat) : Bool :=
  ((s.chan n).dimm (k / 128)).rfm && decide (s.raaMmt n ≤ (x.bank k).raa ∧ 0 < s.raaMmt n)

/-- What an entry needs next, if it may have it, with the entries ranked above it (R537 to R540). -/
def State.entryWork (s : State) (n : Nat) (x : SubChan) (above : List Entry) (e : Entry) : Option Work :=
  let k := s.lineBank e.la
  let b := x.bank k
  if !s.rankOpen n (lineRank e.la) then none
  else
    match b.row with
    | none => if b.due || s.raaHeld n x k then none else some (.act e)
    | some r =>
      if r = (s.linePlace e.la).row then
        if e.access = .rd ∨ (e.access = .rmw ∧ e.half = false) then some (.rd e)
        else if x.drain || e.aged || !(x.queue.any fun o => o.cls == 1) then some (.wr e)
        else none
      else if above.any fun o => s.lineBank o.la == k && s.rowHit x o then none
      else some (.pre e)

/-- The work of the entries in their order. -/
def State.entriesWork (s : State) (n : Nat) (x : SubChan) : List Entry → List Entry → List Work
  | _, [] => []
  | above, e :: r => (s.entryWork n x above e).toList ++ s.entriesWork n x (above ++ [e]) r

/-- All work of a subchannel whose next command may go, best first. -/
def State.work (s : State) (n b : Nat) : List Work :=
  let x := s.sub n b
  s.refreshWork n b ++ s.manageWork n b ++ s.entriesWork n x [] (s.ranked n x)

/-! ### Issuing -/

/-- A rank leaves power-down (R545, R587). -/
def State.wakeRank (s : State) (n r : Nat) : State := s.setRank n r { s.rank n r with powerDown := false }

/-- Close a bank: a sampled row makes a DRFM or RFM due (R547, R548). -/
def State.closeBank (s : State) (n b k : Nat) : State :=
  let x := s.sub n b
  let v := x.bank k
  if v.row.isNone then s
  else
    (s.setSub n b (x.setBank k { v with row := none, hits := 0, due := v.due || v.selected, selected := false })).sendCmd
      n b cmdPre (k / 32) (k % 32) 0 0

/-- Close every bank of a rank in a subchannel. -/
def State.closeRank (s : State) (n b r : Nat) : State := ((s.sub n b).openBanks r).foldl (fun t k => t.closeBank n b k) s

/-- A row is opened (R546 to R549). -/
def State.issueAct (s : State) (n b : Nat) (e : Entry) : State :=
  let k := s.lineBank e.la
  let x := s.sub n b
  let v := x.bank k
  let l := lfsrNext 32 x.lfsr
  let hit := s.flag (Reg.DRC_CTRL n) 1 && l.toNat % 2 ^ s.fld (Reg.DRC_NRR_CFG n) 4 0 == 0
  let skip := hit && (v.due || v.selected)
  let v1 := { v with row := some (s.linePlace e.la).row, hits := 0, selected := v.selected || hit, raa := v.raa + 1, lastCol := s.now }
  let s1 := ((s.setSub n b { x.setBank k v1 with lfsr := l }).drcCount n 2).sendCmd
    n b cmdAct (k / 32) (k % 32) (s.linePlace e.la).row 0
  let s2 := if skip then s1.drcCount n 10 else s1
  if s.raaMmt n = v.raa + 1 && ((s.chan n).dimm (k / 128)).rfm then
    s2.raiseAt 0xA004 n ((k / 32) * 2 ^ 16 + (k % 32 / 4) * 2 ^ 8 + k % 4) 0
  else s2

/-- A column command to a bank's open row, remembered for a parity alert (R540, R553). -/
def State.column (s : State) (n b cmd : Nat) (e : Entry) : State :=
  let k := s.lineBank e.la
  let x := s.sub n b
  let v := x.bank k
  let s1 := (s.setSub n b (x.setBank k { v with hits := v.hits + 1, lastCol := s.now })).sendCmd
    n b cmd (k / 32) (k % 32) (s.linePlace e.la).row (s.linePlace e.la).col
  let s2 := if v.hits = 0 then s1 else s1.drcCount n 3
  let c := s2.chan n
  s2.setChan n { c with
    recent := ((k / 128, s.now, e) :: c.recent).filter fun y => decide (s.now ≤ y.2.1 + 41000)
    reissued := if cmd = cmdWr then c.reissued.filter fun o => !(o.la == e.la && o.access == e.access) else c.reissued }

/-- The subchannel's queue without an entry. -/
def SubChan.less (x : SubChan) (e : Entry) : SubChan := { x with queue := x.queue.erase e }

/-- A read is issued: what the line holds now is what will return (R552). -/
def State.issueRd (s : State) (n b : Nat) (e : Entry) : State :=
  let s1 := s.column n b cmdRd e
  let x := (s1.sub n b).less e
  let e1 := { e with bytes := if e.access = .rd then (s.lineBytes e.la).map some else e.bytes, mark := s.lineMark e.la }
  (s1.setSub n b { x with ret := x.ret ++ [e1] }).drcCount n 0

/-- A write is issued (R550). -/
def State.issueWr (s : State) (n b : Nat) (e : Entry) : State :=
  let s1 := s.column n b cmdWr e
  let s2 := (s1.setSub n b ((s1.sub n b).less e)).drcCount n 1
  let s3 := if e.access = .rmw then s2.drcCount n 12 else s2
  (s3.writeStored e.la e.bytes e.tag).1

/-- A refresh is issued (R541, R544). -/
def State.issueRef (s : State) (n b r : Nat) : State :=
  let k := s.rank n r
  let s1 := ((s.setRank n r { k with owed := k.owed - 1, force := false, powerDown := false }).drcCount n 5).sendCmd
    n b cmdRef r 0 0 0
  let s2 := if 1 < k.owed then s1.drcCount n 7 else s1
  let c := s2.chan n
  let e : Entry := { la := r * 2 ^ 35, access := .rd, cls := 0, master := 11 }
  s2.setChan n { c with recent := (r / 4, s.now, e) :: c.recent, reissued := c.reissued.erase e }

/-- A DRFM or RFM is issued (R547 to R549): RAAIMT comes off the bank's count. -/
def State.issueManage (s : State) (n b k : Nat) : State :=
  let x := s.sub n b
  let v := x.bank k
  let drfm := v.due && ((s.chan n).dimm (k / 128)).drfm
  let s1 := s.setSub n b (x.setBank k { v with due := false, raa := v.raa - s.raaImt n })
  (s1.drcCount n (if drfm then 8 else 9)).sendCmd n b (if drfm then cmdDrfm else cmdRfm) (k / 32) (k % 32) 0 0

/-- One command: an RFM or DRFM on a bank with an open row needs its PRE first. -/
def State.issue (s : State) (n b : Nat) : Work → State
  | .refresh r pre => if pre then s.closeRank n b r else s.issueRef n b r
  | .manage k => if ((s.sub n b).bank k).row.isSome then s.closeBank n b k else s.issueManage n b k
  | .act e => (s.wakeRank n (lineRank e.la)).issueAct n b e
  | .pre e => s.closeBank n b (s.lineBank e.la)
  | .rd e => s.issueRd n b e
  | .wr e => s.issueWr n b e

/-- A channel runs its queue (R555, R569). -/
def State.chanRuns (s : State) (n : Nat) : Bool := (s.chan n).state == .ready && s.up (chanDom n) && !s.flag (Reg.DRC_FP_STATUS 0) 31

/-- DRAM_COMMAND_ISSUE: the best-ranked command but for `skip` of better rank whose timing is not met (R537). -/
def execDramCommandIssue (chan sub skip : Nat) (s : State) : Host.Outcome State Fault Refusal :=
  let s1 := s.drainUpdate chan sub
  let t :=
    match (s1.work chan sub)[skip]? with
    | some w => (s1.issue chan sub w).pump chan
    | none => s1
  guarded (s.chanRuns chan && decide (sub < 2)) s t

/-- ENTRY_AGED: an entry has waited past its class's limit (R536). -/
def execEntryAged (chan sub la : Nat) (s : State) : Host.Outcome State Fault Refusal :=
  let x := s.sub chan sub
  let old (e : Entry) : Bool := e.la == la && !e.aged
  guarded (s.chanRuns chan && decide (sub < 2) && x.queue.any old) s
    ((s.setSub chan sub { x with queue := updFirst old (fun e => { e with aged := true }) x.queue }).drcCount chan 4)

/-- REFRESH_DUE: a rank owes one more refresh; it is postponed, due, or at the limit (R543, R545). -/
def execRefreshDue (chan rank : Nat) (s : State) : Host.Outcome State Fault Refusal :=
  let k := s.rank chan rank
  let max_ := s.fld (Reg.DRC_REF_CFG chan) 3 0
  let owed := k.owed + 1
  let busy := s.demandFor chan rank
  let s1 := s.setRank chan rank { k with owed := owed, force := k.force || decide (max_ ≤ owed), powerDown := false }
  let s2 := if busy && decide (owed < max_) then s1.drcCount chan 6 else s1
  guarded ((s.chan chan).state == .ready && s.up (chanDom chan) && (s.stand rank).present && !k.selfRefresh) s
    (if owed = max_ then s2.raiseAt 0xA003 chan rank 0 else s2)

/-- ROW_IDLE_EXPIRE: a row that no queued entry hits is closed (R540). -/
def execRowIdleExpire (chan sub rank bankId : Nat) (s : State) : Host.Outcome State Fault Refusal :=
  let x := s.sub chan sub
  let k := 32 * rank + bankId
  let hit := x.queue.any fun e => s.lineBank e.la == k && s.rowHit x e
  guarded (s.chanRuns chan && decide (sub < 2 ∧ bankId < 32) && !hit) s (s.closeBank chan sub k)

/-! ### Parity alerts and failure (R553 to R555) -/

/-- A channel enters Failed: everything it holds is answered LOST, and the guarantees are scaled (R555, R680). -/
def State.failChannel (s : State) (n : Nat) : State :=
  let c := s.chan n
  let lose (x : SubChan) : SubChan :=
    { x with
      ret := (x.ret ++ x.queue.filter fun e => e.access == .rd).filterMap fun e =>
        if e.access = .rd then some { e with bytes := [], fwd := false } else none
      queue := [], drain := false, banks := [] }
  ((s.setChan n { c with
    state := .failed, subA := lose c.subA, subB := lose c.subB, alert := [], reissued := [], recent := [], ranks := c.ranks }).pump n).rescale

/-- PARITY_ALERT: the channel stops commands to the DIMM, or fails where what it reissued has not completed (R553, R554). -/
def execParityAlert (chan q : Nat) (s : State) : Host.Outcome State Fault Refusal :=
  let c := s.chan chan
  let mine (e : Entry) : Bool := lineRank e.la / 4 == q
  let window := s.fld (Reg.DRC_ALERT_CFG chan) 31 16
  let ns := window * (if s.fpNow = 0 then 333 else if s.fpNow = 1 then 417 else 625) / 1000
  let s1 := s.drcCount chan 14
  let t :=
    if c.alert.contains q || c.reissued.any mine then (s1.raiseAt 0xA002 chan q 0).failChannel chan
    else
      (s1.raiseAt 0xA001 chan q 0).setChan chan { s1.chan chan with
        alert := c.alert ++ [q]
        reissued := c.reissued ++ ((c.recent.filter fun y => y.1 == q && decide (s.now ≤ y.2.1 + ns)).map (·.2.2)).reverse }
  guarded (s.chanRuns chan && s.flag (Reg.DRC_CTRL chan) 0 && (c.dimm q).present) s t

/-- One command sent again: a read that has not returned, or a write, goes back to the head of its queue (R553). -/
def State.resend (s : State) (n : Nat) (e : Entry) : State :=
  if e.cls = 0 then s.setRank n (lineRank e.la) { s.rank n (lineRank e.la) with owed := (s.rank n (lineRank e.la)).owed + 1, force := true }
  else
    let b := (s.linePlace e.la).sub
    let x := s.sub n b
    if e.access = .rd ∨ (e.access = .rmw ∧ e.half = false) then
      match takeFirst (fun o => o.la == e.la && o.access == e.access && !o.fwd) x.ret with
      | some (_, rest) => s.setSub n b { x with ret := rest, queue := e :: x.queue }
      | none => s
    else s.setSub n b { x with queue := e :: x.queue }

/-- ALERT_WAIT_END: the banks of the DIMM that raised its alert first are precharged and its recent commands are reissued, in
their order (R553). -/
def execAlertWaitEnd (chan : Nat) (s : State) : Host.Outcome State Fault Refusal :=
  let c := s.chan chan
  match c.alert with
  | [] => .next s
  | q :: others =>
    let mine := c.reissued.filter fun e => lineRank e.la / 4 == q
    let s1 := [0, 1].foldl (fun t b => (List.range 4).foldl (fun u r => u.closeRank chan b (4 * q + r)) t) s
    let s2 := mine.reverse.foldl (fun t e => t.resend chan e) s1
    let d := s2.chan chan
    let left := d.reissued.filter fun e =>
      lineRank e.la / 4 != q || e.cls == 0 || ((d.subA.queue ++ d.subB.queue).any fun o => o.la == e.la && o.access == e.access)
    guarded (s.chanRuns chan) s (s2.setChan chan { d with
      alert := others, reissued := left, recent := d.recent.filter fun y => y.1 != q })

end Sys2Proof.Machine
end

