-- ==== Sys2Proof/Machine/Bringup.lean ====
section
/-! DEFINITION. Channels in service (15_dram_bringup_stands.md): frequency points, training, recalibration, temperature,
self-refresh and DIMM power-off. -/

namespace Sys2Proof.Machine

open Sys2Proof

/-! ### Votes of a stand (R721) -/

/-- The ROLE vote: an Awake-role stand in Active, Quiet or Drowsy, until an entry to Dormant reaches AP3 (R721 table, R730). -/
def State.roleVote (s : State) (k : Nat) : Bool :=
  s.role k == 1 && !(s.pwr.entering == some 3 && decide (3 ≤ s.pwr.ap)) && decide (s.pwr.current ≤ 2 ∨ s.effective ≤ 2)

/-- The hardware votes of a stand, as PWR_STAND_VOTE shows them. -/
def State.standVotes (s : State) (k : Nat) : Nat :=
  let x := s.stand k
  bitNat x.implicit + 2 * bitNat x.tierVote + 4 * bitNat x.scrubVote + 8 * bitNat x.opVote + 16 * bitNat (s.roleVote k)

/-- A stand has a vote (R721). -/
def State.standWanted (s : State) (k : Nat) : Bool := s.standVotes k != 0 || s.fld (Reg.PWR_STAND_VOTE k) 31 24 != 0

/-! ### Quieting ranks -/

/-- The accepted writes of some ranks of a channel are issued at once, each a read-modify-write where it is one (R551). -/
def State.flushWrites (s : State) (n : Nat) (ok : Nat → Bool) : State :=
  [0, 1].foldl (fun t b =>
    let mine (e : Entry) : Bool := e.access != .rd && ok (lineRank e.la)
    let x := t.sub n b
    let l := x.ret.filter mine ++ x.queue.filter mine
    l.foldl (fun u e =>
      let u1 := (u.drcCount n 1).writeStored e.la e.bytes e.tag
      if e.access = .rmw then u1.1.drcCount n 12 else u1.1)
      (t.setSub n b { x with ret := x.ret.filter fun e => !mine e, queue := x.queue.filter fun e => !mine e })) s

/-- The DRFM and RFM that are due in a rank are issued (R545). -/
def State.flushManage (s : State) (n b r : Nat) : State :=
  ((s.sub n b).banks.filter fun e => e.1 / 32 == r && e.2.due).foldl (fun t e => t.issueManage n b e.1) s

/-- A rank's banks closed, its pending DRFM and RFM and its owed refreshes issued, and SRE (R545, R588); a Failed channel issues
no command (R555). -/
def State.enterSelfRefresh (s : State) (n r : Nat) : State :=
  if (s.chan n).state = .failed ∨ (s.rank n r).selfRefresh then s
  else
  let s0 := (((s.closeRank n 0 r).closeRank n 1 r).flushManage n 0 r).flushManage n 1 r
  let s1 := (List.range (s0.rank n r).owed).foldl (fun t _ => t.issueRef n 0 r) s0
  let k := s1.rank n r
  (s1.setRank n r { k with owed := 0, force := false, powerDown := false, selfRefresh := true }).sendCmd n 0 cmdSre r 0 0 0

/-- DCK of the slot position of a rank runs again (R592). -/
def State.startDck (s : State) (n r : Nat) : State :=
  let c := s.chan n
  s.setChan n { c with dckOff := c.dckOff.filter (· != r / 4) }

/-- SRX: DCK runs, the rank takes the settings of the point in force, its refresh rate is doubled until a sensor is read, and its
recalibration falls due (R567, R568, R580, R583, R592). -/
def State.exitSelfRefresh (s : State) (n r : Nat) : State :=
  let s1 := s.startDck n r
  let k := s1.rank n r
  if k.selfRefresh && (s.chan n).state != .failed then
    (s1.setRank n r { k with
      selfRefresh := false, owed := 0, force := false, hot := true, calAt := s.now, point := s.fpNow
      dqShift := if k.point = s.fpNow then k.dqShift else 0 }).sendCmd n 0 cmdSrx r 0 0 0
  else s

/-- Present stands. -/
def State.presentStands (s : State) : List Nat := (List.range 8).filter fun k => (s.stand k).present

/-! ### Training (R570 to R579) -/

/-- The training sequence table in force (R576). -/
def State.trainTable (s : State) : List (List Byte) :=
  match s.dram.training with
  | some l => l
  | none => Config.trainTable

/-- Fields of DRC_TRAIN_STATUS. -/
def State.trainActive (s : State) (n : Nat) : Bool := s.flag (Reg.DRC_TRAIN_STATUS n) 31

/-- A phase of a channel's training runs; a Failed channel stays Failed while RETRAIN_CHANNEL trains it (R555). -/
def State.trains (s : State) (n : Nat) : Bool :=
  ((s.chan n).state == .training || (s.chan n).state == .failed) && s.trainActive n && !(s.chan n).trainHeld
def State.trainPhase (s : State) (n : Nat) : Nat := s.fld (Reg.DRC_TRAIN_STATUS n) 26 24
def State.trainPoint (s : State) (n : Nat) : Nat := s.fld (Reg.DRC_TRAIN_STATUS n) 21 20

/-- A byte of a record. -/
def recByte (r : List Byte) (i : Nat) : Nat := (r.getD i 0).toNat

/-- The record is a SWEEP of a phase that applies at a point (R575, R579). -/
def recSweep (phase point : Nat) (r : List Byte) : Bool :=
  recByte r 0 == phase && recByte r 1 == 4 && bit (recByte r 3) point

/-- The sweeps of a phase of a channel, one record for each rank and nibble that it covers (R577): 20 nibbles of two
subchannels. -/
def State.sweepsOf (s : State) (n phase point : Nat) : List (List Byte) :=
  let ranks := (s.presentStands.filter fun k => ((s.chan n).dimm (k / 4)).present).length
  (s.trainTable.filter (recSweep phase point)).flatMap fun r =>
    List.replicate ((if bit (recByte r 2) 0 then ranks else 1) * (if bit (recByte r 2) 1 then 20 else 1)) r

/-- The longest run of passing settings: its first index and length (R578); `at_` is the next index. -/
def longestRun : List Bool → (at_ cur best len : Nat) → Nat × Nat
  | [], at_, cur, best, len => if len < cur then (at_ - cur, cur) else (best, len)
  | true :: l, at_, cur, best, len => longestRun l (at_ + 1) (cur + 1) best len
  | false :: l, at_, cur, best, len =>
    if len < cur then longestRun l (at_ + 1) 0 (at_ - cur) cur else longestRun l (at_ + 1) 0 best len

/-- The setting that a sweep chooses, or none where its window is too narrow (R578). -/
def sweepSetting (r : List Byte) (passes : List Bool) : Option Nat :=
  let start := beAt r 6 2
  let steps := (beAt r 8 2 - start) / max (beAt r 10 2) 1 + 1
  let (first, len) := longestRun (passes.take steps) 0 0 0 0
  if len = 0 ∨ len < recByte r 13 then none
  else some (start + max (beAt r 10 2) 1 * ((first + (first + len - 1)) / 2))

/-- The settings that a phase's sweeps choose, or none where one fails. -/
def State.phaseSettings (s : State) (n phase point : Nat) (sweeps : List (List Bool)) : Option (List Nat) :=
  let l := s.sweepsOf n phase point
  let r := (List.range l.length).map fun i => sweepSetting (l.getD i []) (sweeps.getD i [])
  if r.all (·.isSome) then some (r.filterMap id) else none

/-- The operation that retrains a channel. -/
def State.retrainOp (s : State) (n : Nat) : Option Nat :=
  opSlots.find? fun i => (s.opSlot i).code == opRetrain && (s.opSlot i).state.active && (s.opSlot i).arg0.toNat % 16 == n

/-- The index of a phase's first record in the training sequence table (R575). -/
def State.phaseRecord (s : State) (phase : Nat) : Nat :=
  (s.trainTable.findIdx? fun r => recByte r 0 == phase).getD 0

/-- Start a training pass of a channel at a point from a phase (R571). -/
def State.startPass (s : State) (n point phase : Nat) : State :=
  let c := s.chan n
  (s.setReg (Reg.DRC_TRAIN_STATUS n) (BitVec.ofNat 32 (2 ^ 31 + phase * 2 ^ 24 + point * 2 ^ 20 + s.phaseRecord phase))).setChan n
    { c with
      state := if c.state = .failed then .failed else .training, trainAt := s.now, trainHeld := false
      ranks := tabMap (fun _ => {}) (fun _ r => { r with dqShift := 0 }) c.ranks }

/-- The results of a pass saved as those of its point, and the pass ended (R571). -/
def State.savePass (s : State) (n : Nat) (boot : Bool) : State :=
  let p := s.trainPoint n
  let c := s.chan n
  let saved := (List.range 8).foldl (fun t k => tabSet (fun _ => []) t (8 * p + k) (tabGet (fun _ => []) c.settings (24 + k))) c.settings
  let clear := (List.range 8).foldl (fun t k => tabSet (fun _ => []) t (24 + k) []) saved
  let ms := (s.now - c.trainAt) / 1000000
  ((s.setChan n { c with settings := clear }).setReg (Reg.DRC_TRAIN_SAVED n p)
    (BitVec.ofNat 32 (2 ^ 31 + bitNat boot * 2 ^ 30 + ms % 2 ^ 16))).raiseAt 0xA007 n p 0

/-- Training of a channel fails at a point (R119, R573). -/
def State.trainFail (s : State) (n : Nat) : State :=
  let p := s.trainPoint n
  let s1 := s.raiseAt 0xA008 n (s.trainPhase n * 256 + p) 0
  match s1.retrainOp n with
  | some i =>
    ((s1.setFld (Reg.DRC_TRAIN_STATUS n) 31 29 1).failChannel n).opFail i rcInternalFault 0
  | none =>
    if (s1.chan n).trainAgain then
      (s1.setFld (Reg.DRC_TRAIN_STATUS n) 31 29 1).setChan n { s1.chan n with trainHeld := true }
    else (s1.startPass n s1.fpMax 0).setChan n { (s1.startPass n s1.fpMax 0).chan n with trainAgain := true }

/-- A phase of a pass has ended well (R571, R574). -/
def State.phaseDone (s : State) (n : Nat) : State :=
  let p := s.trainPoint n
  let k := s.trainPhase n
  let s1 := match s.retrainOp n with | some i => s.opProgress i 1 | none => s
  if (s.retrainOp n).any fun i => (s.opSlot i).state == .cancelling then s.setChan n { s.chan n with trainHeld := true }
  else if k < 7 then
    let s2 := (s1.setFld (Reg.DRC_TRAIN_STATUS n) 26 24 (k + 1)).setFld (Reg.DRC_TRAIN_STATUS n) 8 0 (s.phaseRecord (k + 1))
    if s.flag (Reg.DRC_FP_STATUS 0) 30 then s2.setChan n { s2.chan n with trainHeld := true } else s2
  else
    match s.retrainOp n with
    | some _ => (s1.savePass n false).setFld (Reg.DRC_TRAIN_STATUS n) 31 31 0
    | none =>
      let s2 := s1.savePass n true
      if p < 2 then s2.startPass n (p + 1) 0 else s2.setFld (Reg.DRC_TRAIN_STATUS n) 31 31 0

/-- A line of the training row: row 0 of bank group 0, bank 0 (R572). -/
def State.trainingRow (s : State) (n la : Nat) : Bool :=
  let p := s.linePlace la
  s.slotChan (la / 4) == n && p.row == 0 && p.bg == 0 && p.bank == 0

/-- TRAINING_PHASE_END: `sweeps` are the passes and failures of the phase's sweeps, `errs` what the engine reads of the
training row (R572, R573, R577, R578). -/
def execTrainingPhaseEnd (chan : Nat) (sweeps : List (List Bool)) (errs : List (Nat × ReadErrs)) (s : State) :
    Host.Outcome State Fault Refusal :=
  let k := s.trainPhase chan
  let keeps := k == 6 && ((s.retrainOp chan).isSome || (s.boot.warm && !s.boot.retrain))
  let s1 :=
    if keeps then
      errs.foldl (fun t e =>
        if t.trainingRow chan e.1 then (t.readStored e.1 (t.lineBytes e.1) (t.lineMark e.1) e.2).1 else t) s
    else s
  let t :=
    match s1.phaseSettings chan k (s1.trainPoint chan) sweeps with
    | none => s1.trainFail chan
    | some l =>
      let c := s1.chan chan
      (s1.setChan chan { c with settings := tabSet (fun _ => []) c.settings (24 + k) l }).phaseDone chan
  guarded (s.live && s.trains chan) s t

/-- PHASE_LIMIT_EXPIRE (R573). -/
def execPhaseLimitExpire (chan : Nat) (s : State) : Host.Outcome State Fault Refusal :=
  guarded (s.live && s.trains chan) s (s.trainFail chan)

/-! ### Frequency points (R566 to R568, R574) -/

/-- FP_TARGET_WRITE: DRC0_FP_CTRL is written (R566, R595). -/
def execFpTargetWrite (value : Word) (s : State) : Host.Outcome State Fault Refusal :=
  let v := bits value.toNat 1 0
  commanding (chanDom 0) true s
    (if v = 3 then s.wrote stOutOfRange else (s.setReg (Reg.DRC_FP_CTRL 0) (BitVec.ofNat 32 v)).wrote)

/-- A phase of some channel is running. -/
def State.phaseRuns (s : State) : Bool :=
  s.chanList.any s.trains

/-- A deferred change is no longer wanted: the passes that wait for it go on (R574). -/
def State.dropChange (s : State) : State :=
  s.chanList.foldl (fun t n =>
    if t.trainActive n && !(t.retrainOp n).any fun i => (t.opSlot i).state == .cancelling then
      t.setChan n { t.chan n with trainHeld := false } else t)
    (s.setFld (Reg.DRC_FP_STATUS 0) 30 30 0)

/-- FP_CHANGE: every channel issues its accepted writes and owed refreshes and puts its ranks into self-refresh; a running
training phase defers the change (R567, R574). -/
def execFpChange (s : State) : Host.Outcome State Fault Refusal :=
  let due := (s.fpEffective != s.fpNow || s.flag (Reg.DRC_FP_STATUS 0) 30) && !s.flag (Reg.DRC_FP_STATUS 0) 31
    && s.boot.stage == .ready
  let t :=
    if s.fpEffective = s.fpNow then s.dropChange
    else if s.phaseRuns then s.setFld (Reg.DRC_FP_STATUS 0) 30 30 1
    else
      let s1 := s.chanList.foldl (fun t n =>
        if (t.chan n).state = .failed then t
        else
          let t1 := t.flushWrites n fun _ => true
          (t1.presentStands.filter fun k => decide ((t1.stand k).power ≤ 1)).foldl (fun u k => u.enterSelfRefresh n k) t1) s
      s1.setFld (Reg.DRC_FP_STATUS 0) 31 30 2
  guarded (s.live && due) s t

/-- What a pass keeps of a phase's results: those of records with FREQ_DEP 0 (R574). -/
def State.keptResults (s : State) (n k : Nat) : List Nat :=
  (((s.sweepsOf n k (s.trainPoint n)).zip (tabGet (fun _ => []) (s.chan n).settings (24 + k))).filter
    fun x => !bit (recByte x.1 2) 2).map (·.2)

/-- A held training pass restarts at phase 1 at the new point (R574). -/
def State.restartPass (s : State) (n p : Nat) : State :=
  if (s.chan n).trainHeld && s.trainActive n && !(s.retrainOp n).any fun i => (s.opSlot i).state == .cancelling then
    let c := s.chan n
    let set := (List.range 8).foldl (fun t k => tabSet (fun _ => []) t (24 + k) (s.keptResults n k)) c.settings
    let s1 := ((s.setChan n { c with settings := set, trainHeld := false }).setReg (Reg.DRC_TRAIN_STATUS n)
      (BitVec.ofNat 32 (2 ^ 31 + 2 ^ 30 + 2 ^ 24 + p * 2 ^ 20 + s.phaseRecord 1))).raiseAt 0xA009 n (s.trainPoint n * 256 + p) 0
    match s1.retrainOp n with
    | some i => s1.setOp i { s1.opSlot i with progress := 1 }
    | none => s1
  else s

/-- The ranks of a channel that are not in Retention, nor have issued SRE on the way to it, leave self-refresh (R567). -/
def State.wakeRanks (s : State) (n : Nat) : State :=
  (s.presentStands.filter fun k =>
      decide ((s.stand k).power ≤ 1) && !((s.stand k).entering && (s.stand k).sreDone.contains n)).foldl
    (fun u k => u.exitSelfRefresh n k) s

/-- FP_CHANGE_DONE: the channels run at the new point (R567, R574, R680). -/
def execFpChangeDone (s : State) : Host.Outcome State Fault Refusal :=
  let old := s.fpNow
  let p := s.fpEffective
  let s1 := ((s.setFld (Reg.DRC_FP_STATUS 0) 31 30 0).setFld (Reg.DRC_FP_STATUS 0) 1 0 p).raise 0xA00A (old * 256 + p)
  let s2 := s.chanList.foldl (fun t n => t.wakeRanks n) s1
  let s3 := s.chanList.foldl (fun t n => t.restartPass n p) s2
  guarded (s.live && s.flag (Reg.DRC_FP_STATUS 0) 31) s (s3.rescale.pumpAll)

/-! ### Recalibration and temperature (R580 to R586) -/

/-- RECALIBRATE: the write DQ delays follow a drift that exceeds DRIFT_STEPS (R580). -/
def execRecalibrate (chan rank : Nat) (drift : Int) (s : State) : Host.Outcome State Fault Refusal :=
  let k := s.rank chan rank
  let moves := decide (s.fld (Reg.DRC_RECAL_CFG chan) 7 0 < drift.natAbs)
  guarded (s.chanRuns chan && (s.stand rank).present && !k.selfRefresh) s
    (s.setRank chan rank { k with calAt := s.now, dqShift := if moves then k.dqShift + drift else k.dqShift })

/-- The sideband address of a DIMM: its host ID (R558), and the targets TS0, TS1, PMIC and SPD hub at their static addresses (R560). -/
def hostId (n q : Nat) : Nat := 2 * (n % 4) + q
abbrev sbTs0 : Nat := 0x10
abbrev sbTs1 : Nat := 0x30
abbrev sbPmic : Nat := 0x48
abbrev sbHub : Nat := 0x50

/-- A transfer to a target of a DIMM on its bus (R560). -/
def State.sideband (s : State) (n q target : Nat) : State := s.emit (.sideband (n / 4) s.dram.i3c (target + hostId n q))

/-- The refresh rate of a DIMM's ranks. -/
def State.setHot (s : State) (n q : Nat) (hot : Bool) : State :=
  (List.range 4).foldl (fun t r => t.setRank n (4 * q + r) { t.rank n (4 * q + r) with hot := hot }) s

/-- Hysteresis and HOT of DRC_TEMP_CFG, in 0.25 °C. -/
def State.dimmHyst (s : State) (n : Nat) : Int := 4 * (s.fld (Reg.DRC_TEMP_CFG n) 7 0 : Nat)
def State.dimmHotAt (s : State) (n : Nat) : Int := 4 * (s.fld (Reg.DRC_TEMP_CFG n) 23 16 : Nat)

/-- A DIMM's temperature has been read, in 0.25 °C (R581 to R585). -/
def State.dimmTemp (s : State) (n q : Nat) (t : Int) : State :=
  let a := Reg.DRC_DIMM_TEMP n q
  let was2x := s.flag a 30
  let wasHot := s.flag a 29
  let x2 := decide (340 < t) || (was2x && decide (340 - s.dimmHyst n < t))
  let hot := decide (s.dimmHotAt n < t) || (wasHot && decide (s.dimmHotAt n - s.dimmHyst n < t))
  let s1 := (s.setReg a (BitVec.ofNat 32 (2 ^ 31 + bitNat x2 * 2 ^ 30 + bitNat hot * 2 ^ 29 + ofSigned 16 t))).setHot n q x2
  let s2 := if x2 ≠ was2x then s1.raiseAt 0xA00B n (q * 256 + bitNat x2) 0 else s1
  if hot && !wasHot then s2.raiseAt 0xA00C n q 0 else s2

/-- A PMIC reports a fault or loss of power good (R586). -/
def State.pmicFault (s : State) (n q : Nat) : State :=
  let (v, s1) := s.draw 512
  let a := Reg.DRC_PMIC_STATUS n q
  ((s1.setReg a (BitVec.ofNat 32 (bitNat (s1.flag a 31) * 2 ^ 31 + v / 256 * 2 ^ 30 + 2 ^ 29 + v % 256))).raiseAt 0xA00E n q 0).failChannel n

/-- The SPD hub sensor, TS0, TS1 and the PMIC of a DIMM are read (R581, R586). -/
def State.polled (s : State) (n q : Nat) : State :=
  (((s.sideband n q sbHub).sideband n q sbTs0).sideband n q sbTs1).sideband n q sbPmic

/-- SENSOR_POLL: the hottest of the valid readings `temps` is the DIMM's temperature (R581, R586). -/
def execSensorPoll (chan q : Nat) (temps : List Int) (pmicFault : Bool) (s : State) : Host.Outcome State Fault Refusal :=
  let s1 :=
    match temps with
    | t :: l => (s.polled chan q).dimmTemp chan q (l.foldl max t)
    | [] => (s.polled chan q).setFld (Reg.DRC_DIMM_TEMP chan q) 31 31 0
  let bad := pmicFault && !s.flag (Reg.DRC_PMIC_STATUS chan q) 29
  guarded (s.up (chanDom chan) && ((s.chan chan).dimm q).present && (s.stand (4 * q)).power != 3) s
    (if bad then s1.pmicFault chan q else s1)

/-- SENSOR_UNREADABLE: the DIMM counts as above 85 °C (R584). -/
def execSensorUnreadable (chan q : Nat) (s : State) : Host.Outcome State Fault Refusal :=
  let s1 := (s.setFld (Reg.DRC_DIMM_TEMP chan q) 31 30 1).setHot chan q true
  guarded (s.up (chanDom chan) && ((s.chan chan).dimm q).present && (s.stand (4 * q)).power != 3) s (s1.raiseAt 0xA00D chan q 0)

/-! ### Stand power (R587 to R592) -/

/-- An entry of a channel's queues names a rank. -/
def State.rankQueued (s : State) (n r : Nat) : Bool :=
  ((s.sub n 0).queue ++ (s.sub n 1).queue).any fun e => lineRank e.la == r

/-- PD_IDLE_EXPIRE: an idle rank enters precharge power-down (R587). -/
def execPdIdleExpire (chan rank : Nat) (s : State) : Host.Outcome State Fault Refusal :=
  let k := s.rank chan rank
  let idle := !s.rankQueued chan rank && ((s.sub chan 0).openBanks rank).isEmpty && ((s.sub chan 1).openBanks rank).isEmpty
  let mode := s.pwr.current == 1 || s.pwr.current == 2
  guarded (s.chanRuns chan && mode && decide ((s.stand rank).power ≤ 1) && !k.selfRefresh && idle && k.owed == 0) s
    (s.setRank chan rank { k with powerDown := true })

/-- A channel may issue SRE for a rank: no writes, no refreshes, no DRFM or RFM left (R545, R588). -/
def State.sreReady (s : State) (n r : Nat) : Bool :=
  let due (b : Nat) : Bool := (s.sub n b).banks.any fun e => e.1 / 32 == r && e.2.due
  !(((s.sub n 0).queue ++ (s.sub n 0).ret ++ (s.sub n 1).queue ++ (s.sub n 1).ret).any fun e => lineRank e.la == r)
    && (s.rank n r).owed == 0 && !due 0 && !due 1

/-- Entry to Retention is complete once every channel has issued SRE (R588). -/
def State.entryComplete (s : State) (k : Nat) : State :=
  let x := s.stand k
  if s.chanList.all fun n => x.sreDone.contains n || (s.chan n).state == .failed then
    s.chanList.foldl (fun t n => t.count (Reg.DRC_SR_ENTRIES n))
      (s.setStand k { x with power := 2, entering := false, sreDone := [] })
  else s

/-- SELF_REFRESH_ENTRY: a channel of a stand without a vote issues SRE; the first starts the entry (R588, R721). -/
def execSelfRefreshEntry (stand chan : Nat) (s : State) : Host.Outcome State Fault Refusal :=
  let x := s.stand stand
  let x1 := { x with entering := true }
  let s1 := s.setStand stand x1
  let t :=
    if s.chanRuns chan && s.sreReady chan stand && !x.sreDone.contains chan && s.chanList.contains chan then
      ((s1.enterSelfRefresh chan stand).setStand stand { x1 with sreDone := x.sreDone ++ [chan] }).entryComplete stand
    else if s.chanLost chan then s1.entryComplete stand
    else s1
  guarded (s.up (chanDom chan) && x.present && decide (x.power ≤ 1) && !s.standWanted stand && s.boot.stage == .ready) s t

/-- SELF_REFRESH_ABORT: a request has come for a stand that is entering Retention (R589, R590). -/
def execSelfRefreshAbort (stand : Nat) (s : State) : Host.Outcome State Fault Refusal :=
  let x := s.stand stand
  let asked := s.standWanted stand || s.chanList.any fun n =>
    s.rankQueued n stand || (s.chan n).port.any fun r => r.entries.any fun e => lineRank e.la == stand
  let s1 := s.chanList.foldl (fun t n => (t.exitSelfRefresh n stand).count (Reg.DRC_SR_ABORTS n)) s
  guarded (s.live && x.entering && asked) s (s1.setStand stand { x with entering := false, sreDone := [] })

/-- CLK_STOP_DELAY_EXPIRE: DCK of a slot whose ranks are all in self-refresh stops (R588), but not of one that a change of the
frequency point has put there (R567). -/
def execClkStopDelayExpire (chan q : Nat) (s : State) : Host.Outcome State Fault Refusal :=
  let ks := (List.range 4).map (4 * q + ·) |>.filter fun k => (s.stand k).present
  let c := s.chan chan
  guarded (s.up (chanDom chan) && s.flag (Reg.DRC_SR_CFG chan) 31 && !s.flag (Reg.DRC_FP_STATUS 0) 31 && decide (q < 2)
      && !ks.isEmpty && !c.dckOff.contains q && ks.all fun k => (s.rank chan k).selfRefresh) s
    (s.setChan chan { c with dckOff := c.dckOff ++ [q] })

/-- SELF_REFRESH_EXIT: every channel of a stand with a vote restarts DCK and issues SRX (R590 to R592). -/
def execSelfRefreshExit (stand : Nat) (s : State) : Host.Outcome State Fault Refusal :=
  let x := s.stand stand
  let ready := s.chanList.all fun n => s.up (chanDom n) || s.domFailed (chanDom n)
  let s1 := s.chanList.foldl (fun t n => t.exitSelfRefresh n stand) s
  let t := if ready then s1.setStand stand { x with exiting := true } else s.chanList.foldl (fun t n => t.stall (chanDom n)) s
  guarded (s.live && x.present && x.power == 2 && !x.exiting && s.standWanted stand) s t

/-! ### DIMM power-off (R453, R593, R594) -/

/-- A slot position may be switched off (R453). -/
def State.dimmMayGo (s : State) (q : Nat) : Bool :=
  (List.range 4).all fun r => let x := s.stand (4 * q + r); !x.present || (s.role (4 * q + r) == 0 && x.used == s.standRetired (4 * q + r))

/-- The DIMMs of a slot position go off on every channel (R593). -/
def State.dimmGo (s : State) (q : Nat) : State :=
  let ks := (List.range 4).map (4 * q + ·) |>.filter fun k => (s.stand k).present
  let s1 := s.chanList.foldl (fun t n =>
    let u := ks.foldl (fun u k => u.enterSelfRefresh n k) (t.flushWrites n fun r => r / 4 == q)
    let c := u.chan n
    ((u.setChan n { c with dckOff := c.dckOff.filter (· != q) ++ [q] }).sideband n q sbPmic).setFld (Reg.DRC_PMIC_STATUS n q) 31 30 0) s
  let s2 := ks.foldl (fun t k => t.setStand k { t.stand k with power := 3, entering := false, sreDone := [], exiting := false }) s1
  (s2.setFld (Reg.DRC_DIMM_OFF_STATUS 0) q q 1).raise 0xA00F q

/-- DIMM_OFF (R593). -/
def execDimmOff (value : Word) (s : State) : Host.Outcome State Fault Refusal :=
  let qs := [0, 1].filter fun q => bit value.toNat q
  let t :=
    if qs.all s.dimmMayGo then
      (qs.foldl (fun t q => if t.flag (Reg.DRC_DIMM_OFF_STATUS 0) q || !(t.stand (4 * q)).present then t else t.dimmGo q) s).wrote
    else s.wrote stAccessDenied
  commanding (chanDom 0) true s t

end Sys2Proof.Machine
end

