-- ==== Sys2Proof/Machine/Votes.lean ====
section
/-! DEFINITION. The work that a block holds, the votes of the power domains and whether a domain is wanted (R714 to R716). -/

namespace Sys2Proof.Machine

open Sys2Proof

/-- The domains of the block that owns a use, none for blocks of D0 (R713, R715). -/
def ownerDoms (owner : Nat) : List Nat :=
  if owner = 0x06 ∨ owner = 0x08 ∨ owner = 0x01 then [3, 4]
  else if owner = 0x09 ∨ owner = 0x02 then [5]
  else if owner = 0x03 ∨ owner = 0x04 ∨ owner = 0x0B ∨ owner = 0x0C ∨ owner = 0x10 then [6]
  else if owner = 0x0A then [7]
  else if owner = 0x05 ∨ owner = 0x07 then [8]
  else if owner = 0x0D then [9, 10]
  else if owner = 0x0E then [11]
  else []

/-! ### Work (R715) -/

/-- Requests in a pipeline, or delivered to it. -/
def State.pipeWork (s : State) (p : Nat) : Bool :=
  (s.coh.flights.any fun f => f.stage != .ackWait && pipeOf f.region f.page == p)
    || (s.kct.delivered.any fun m => isRequest m.type && m.type != tEvacData && pipeOf (beAt m.body 0 2) (beAt m.body 2 6 / 4096) == p)
    || (p == 0 && (s.pipe.rgnBusy || s.pipe.dscBusy || s.pipe.flushing))

/-- The block of a domain holds work in flight or queued (R715 bit 4). -/
def State.work' (s : State) (d : Nat) : Bool :=
  if d = 1 ∨ d = 2 then s.ports.rx.any fun e => macPort e.mac == d - 1 && (!s.portAsleep || bodyIsKct e.frame.body)
  else if d = 3 ∨ d = 4 then s.pipeWork (d - 3)
  else if d = 5 then
    !s.kct.gcm.isEmpty || !s.kct.stage11.isEmpty || (s.ports.rx.any fun e => bodyIsKct e.frame.body)
      || s.kct.ctx.any fun e => !e.2.sess.replay.isEmpty || !e.2.sess.rxHeld.isEmpty || e.2.sess.unacked != 0
  else if d = 6 then !s.kct.stage11.isEmpty || s.egr.sess.any fun e => !e.2.queue.isEmpty
  else if d = 7 then
    !s.coh.flights.isEmpty || !s.coh.retries.isEmpty || !s.coh.credits.isEmpty || s.coh.sweep.isSome || !s.kct.sweepQ.isEmpty
  else if d = 8 then
    !s.tier.moves.isEmpty || !s.tier.hints.isEmpty || !s.tier.promos.isEmpty || !s.tier.captures.isEmpty
      || !s.tier.releases.isEmpty || s.tier.reloading || !s.tier.rebuild.isEmpty
  else if d = 9 ∨ d = 10 then
    (d = 9 || (s.dom 10).state == .up)
      && (s.cmp.unloading.isSome || s.coh.flights.any fun f => f.stage == .decode
          || (f.stage == .compress && (match f.lane with | some k => laneDom k == d | none => true)))
  else if d = 11 then s.cry.burning || !s.kct.gcm.isEmpty || s.coh.flights.any fun f => f.stage == .check
  else if d = 12 then s.chanList.any fun n => !(s.chan n).port.isEmpty
  else if 13 ≤ d ∧ d ≤ 28 then
    let c := s.chan (d - 13)
    !c.port.isEmpty || !c.subA.queue.isEmpty || !c.subA.ret.isEmpty || !c.subB.queue.isEmpty || !c.subB.ret.isEmpty
  else false

/-! ### Votes (R714, R715) -/

/-- An operation holds its engine's domain (R164). -/
def State.opVotes (s : State) (d : Nat) : Bool :=
  opSlots.any fun i => let o := s.opSlot i; o.state.votes && (s.opDomains o).contains d

/-- Boot stages 1 to 8 run. -/
def Boot.staging (b : Boot) : Bool :=
  [BootStage.start, .imageRead, .imageVerify, .apply, .march, .discover, .train, .portsUp].contains b.stage

/-- An Up logic domain holds a block that owns a bank of the group, or MGT does outside Dormant. -/
def State.depVote (s : State) (g : Nat) : Bool :=
  allBanks.any fun b =>
    bankGroup b == g &&
      (((s.bankAt b).owner == ownMgt && s.effective != 3)
        || (ownerDoms (s.bankAt b).owner).any fun d => (s.dom d).state == .up)

/-- A march or the clearing of a bank works on the group. -/
def State.marchVote (s : State) (g : Nat) : Bool :=
  (allBanks.any fun b => bankGroup b == g && (s.bankAt b).busy)
    || opSlots.any fun i => let o := s.opSlot i; o.code == opMarch && o.state.votes && bankGroup (bits o.arg0.toNat 8 0) == g

/-- Some stand is Awake, Drowsy, entering or exiting. -/
def State.standVote (s : State) : Bool :=
  s.presentStands.any fun k => let x := s.stand k; decide (x.power ≤ 1) || x.entering || x.exiting

/-- A channel's domain that is never powered (R714). -/
def State.chanAbsent (s : State) (d : Nat) : Bool :=
  decide (13 ≤ d ∧ d ≤ 28) && s.tier.channels != 0 && (!s.chanList.contains (d - 13) || (s.chan (d - 13)).excluded)

/-- The event log has taken an entry since its group went to Retention: an access from D0 to that group alone (R746). -/
def State.logAsks (s : State) (d : Nat) : Bool :=
  (s.dom d).state == .retention && s.pwr.logSeen != s.log.wseq.toNat
    && allBanks.any fun b => bankGroup b + 29 == d && (s.bankAt b).owner == 0x0F

/-- The hardware votes of a domain, as PWR_VOTE shows them (R715). -/
def State.hwVotes (s : State) (d : Nat) : Nat :=
  if d = 0 then 2
  else if s.chanAbsent d then 0
  else
    let drc := decide (12 ≤ d ∧ d ≤ 28)
    let grp := decide (29 ≤ d)
    bitNat ((s.dom d).implicit || s.logAsks d) + 2 * bitNat (s.stateVote d) + 4 * bitNat (grp && s.depVote (d - 29))
      + 8 * bitNat (s.opVotes d) + 16 * bitNat (s.work' d) + 32 * bitNat s.boot.staging
      + 64 * bitNat (drc && (List.range 8).any fun k => (s.stand k).scrubVote)
      + 128 * bitNat (grp && s.marchVote (d - 29))
      + 256 * bitNat ((d == 1 || d == 2) && d == portDom s.keptPort && s.effective == 3)
      + 512 * bitNat (drc && s.standVote)

/-- MGR votes of a domain. -/
def State.mgrVotes (s : State) (d : Nat) : Nat := s.fld (Reg.PWR_VOTE d) 31 24

/-- A domain is wanted (R716): an SRAM group not for its STATE bit alone. -/
def State.wanted (s : State) (d : Nat) : Bool :=
  (if 29 ≤ d then s.hwVotes d % 2 + s.hwVotes d / 4 else s.hwVotes d) != 0 || (!s.chanAbsent d && s.mgrVotes d != 0)

/-- An Up domain that is no longer wanted is in Hysteresis (R716). -/
def State.inHyst (s : State) (d : Nat) : Bool := (s.dom d).state == .up && d != 0 && !s.wanted d

/-- The domain of the registers at an address, outside the common page header (R213, R776). -/
def regDomain (a : Nat) : Nat :=
  match pageOf a with
  | none => 0
  | some (b, i, p) =>
    if b.code = 0x10 then
      (if i = 0 ∧ p = 11 ∧ 0x048 ≤ a % 0x1000 ∧ a % 0x1000 ≤ 0x090 then 0 else portDom i)
    else if b.code = 0x20 then 5
    else if b.code = 0x30 ∨ b.code = 0x32 then 6
    else if b.code = 0x40 then (if p = 6 then 4 else 3)
    else if b.code = 0x50 then 7
    else if b.code = 0x60 then 8
    else if b.code = 0x70 then 9
    else if b.code = 0x80 then 11
    else if b.code = 0x90 then 12
    else if b.code = 0xA0 then 13 + i
    else 0

end Sys2Proof.Machine
end

