-- ==== Sys2Proof/Machine/Power.lean ====
section
/-! DEFINITION. The power manager (20_power_states.md; R43, R415, R497, R499, R507, R583, R662, R663, R710, R776): domains
powering up and down, entries, exits, wakes and failures. -/

namespace Sys2Proof.Machine

open Sys2Proof

/-! ### PLLs of a domain (R740, R744) -/

/-- The PLLs whose lock a domain needs. -/
def pllsOf (d : Nat) : List Pll :=
  if d = 1 ∨ d = 2 then [.serdes (d - 1), .port (d - 1)]
  else if 3 ≤ d ∧ d ≤ 12 then [.core]
  else if 13 ≤ d ∧ d ≤ 28 then [.channel (d - 13)]
  else if 29 ≤ d ∧ d ≤ 36 then [.sram]
  else []

/-- Every domain but D0. -/
abbrev allDoms : List Nat := (List.range 36).map (· + 1)

/-- A PLL that is off is enabled. -/
def State.enablePll (s : State) (p : Pll) : State := if s.pll p = .off then s.setPll p (.locking false) else s

/-- A domain's switches close, and its PLLs are enabled. -/
def State.powerUp (s : State) (d : Nat) : State :=
  (pllsOf d).foldl (fun t p => t.enablePll p)
    (s.setDom d { s.dom d with
      state := .poweringUp, again := false, clockGated := false, implicit := (s.dom d).implicit || s.logAsks d })

/-- A domain's switches open; a PLL that no other powered domain uses stops, but for the SRAM die's, which lies on no island of
the logic die (DEDUCED, log 49). -/
def State.powerDown (s : State) (d : Nat) : State :=
  let s1 := s.setDom d { s.dom d with state := .poweringDown, implicit := false }
  let used (p : Pll) : Bool := allDoms.any fun e =>
    (pllsOf e).contains p && ((s1.dom e).state == .up || (s1.dom e).state == .poweringUp)
  (pllsOf d).foldl (fun t p => if p = .sram ∨ used p = true then t else t.setPll p .off) s1

/-! ### Failure (R43, R744, R745) -/

/-- Requests that wait at a stage are answered DomainFailed. -/
def State.failStage (s : State) (st : Stage) : State :=
  (s.coh.flights.filter (·.stage == st)).foldl (fun t x =>
    match t.flight? x.id with
    | some f => if f.stage = st then t.abort f stDomainFailed else t
    | none => t) s

/-- A domain becomes Failed: event 0x0406 with the cause (1 its switches, 2 its PLL), and what waits for it is answered. -/
def State.failDomain (s : State) (d cause : Nat) : State :=
  let s1 := (s.setDom d { s.dom d with state := .failed, implicit := false }).raise 0x0406 (d * 256 + cause)
  if d = 7 then s1.failStage .home
  else if d = 8 then s1.failStage .tier
  else if d = 9 ∨ d = 10 then
    let s2 := if s1.cLanes.isEmpty then s1.failStage .compress else s1
    if s2.dLanes.isEmpty then s2.failStage .decode else s2
  else if 12 ≤ d ∧ d ≤ 28 then s1.resumeStage .stand (fun _ => true)
  else if 29 ≤ d then
    allBanks.foldl (fun t b => if bankGroup b = d - 29 then t.setBank b { t.bankAt b with failed := true } else t) s1
  else s1

/-- A PLL's first failure is that of each domain that powers up with it (R744), which fails where it was on its second attempt
(R745). -/
def State.pllAgain (s : State) (p : Pll) : State :=
  (allDoms.filter fun d => (pllsOf d).contains p && (s.dom d).state == .poweringUp).foldl (fun t d =>
    let x := t.dom d
    if x.again then t.failDomain d 2 else t.setDom d { x with again := true, retries := min 255 (x.retries + 1) }) s

/-- PLL_LOCK_TIMEOUT (R43): enabled once more; then boot stops for the core PLL, and another's domains fail: those of the SRAM
PLL whether powered or not, since no island of the SRAM die can run without it (DEDUCED, log 25). -/
def execPllLockTimeout (pll : Pll) (s : State) : Host.Outcome State Fault Refusal :=
  match s.pll pll with
  | .locking false => guarded s.live s ((s.setPll pll (.locking true)).pllAgain pll)
  | .locking true =>
    let s1 := s.setPll pll .failed
    let doms := allDoms.filter fun d => (pllsOf d).contains pll && (pll == .sram || (s.dom d).state != .off)
    guarded s.live s
      (if pll = .core ∧ s.boot.stage ≠ .ready then { s1 with logic := { s1.logic with faultWire := true } }
       else (doms.filter fun d => (s.dom d).state != .failed).foldl (fun t d => t.failDomain d 2) s1)
  | _ => .next s

/-! ### Powering domains (R716, R742, R744) -/

/-- The wave of an exit that raises a domain; 0 for a domain that Dormant keeps (R740). -/
def State.waveOf (s : State) (d : Nat) : Nat :=
  if d = portDom s.keptPort then 0
  else if d = 1 ∨ d = 2 ∨ (21 ≤ d ∧ d ≤ 28) then 3
  else if 13 ≤ d ∧ d ≤ 20 then 2
  else 1

/-- A domain rests: Off, or a group in Retention. -/
def Dom.resting (x : Dom) : Bool := x.state == .off || x.state == .retention

/-- DOMAIN_POWER_UP (R716): an Off domain that is wanted, in its wave or after it during an exit. -/
def execDomainPowerUp (domain : Nat) (s : State) : Host.Outcome State Fault Refusal :=
  let inTurn := match s.pwr.exiting with | some w => decide (s.waveOf domain < w) | none => true
  guarded (s.live && decide (1 ≤ domain ∧ domain ≤ 36) && (s.dom domain).resting && s.wanted domain && inTurn) s
    (s.powerUp domain)

/-- The wrap key is formed again: VALID, or PUF_ERR with event 0x8008 (R497, R499). -/
def State.deriveKey (s : State) (ok : Bool) : State :=
  if !s.cry.provisioned then { s with cry := { s.cry with valid := false } }
  else if ok then { s with cry := { s.cry with valid := true, pufErr := false } }
  else ({ s with cry := { s.cry with valid := false, pufErr := true } }).raise 0x8008

/-- D6 becomes ready (R710): E, class tokens and policer buckets full, and the operational lists resume. -/
def State.resumeEgress (s : State) : State :=
  let s1 := { s with egr := { s.egr with shapers := [], rings := [], guards := [], full := [] } }
  let s2 := (List.range 64).foldl (fun t i =>
    t.setShaper (i / 8) (i % 8) { tokens := t.clsBurst (i / 8) (i % 8), at_ := t.now }) s1
  let s3 := s2.kct.ctx.foldl (fun t e =>
    let u := t.setEsess e.1 { t.esess e.1 with e := t.fullE e.1, deficit := [] }
    u.resetPolicer e.1 true) s2
  s3.rephase

/-- The gated port is powered again: sessions whose current MAC is one of its own, all of them down, move (R218). -/
def State.wakeFailover (s : State) (p : Nat) : State :=
  (List.range 4).foldl (fun t k => if (t.mac (4 * p + k)).linkUp then t else (t.failover (4 * p + k)).1) s

/-- What a domain does as it becomes Up. -/
def State.domainReady (s : State) (d : Nat) (pufOk : Bool) : State :=
  if d = 1 ∨ d = 2 then s.wakeFailover (d - 1)
  else if d = 6 then s.resumeEgress
  else if d = 8 then
    (if s.tier.saved then { s with tier := { s.tier with saved := false, reloading := true } } else s)
  else if d = 11 then s.deriveKey pufOk
  else if 13 ≤ d ∧ d ≤ 28 then s.presentStands.foldl (fun t r => t.setRank (d - 13) r { t.rank (d - 13) r with hot := true }) s
  else s

/-- DOMAIN_UP (R718, R742 to R744): the domain reports Up with its PLLs locked, and stalled accesses go on. -/
def execDomainUp (domain : Nat) (pufOk : Bool) (s : State) : Host.Outcome State Fault Refusal :=
  let x := s.dom domain
  let s1 := s.setDom domain { x with state := .up, again := false, implicit := false }
  let s2 := if x.again then (s1.raise 0x0405 domain).count64 (Reg.PWR_CNT 7) 1 else s1
  let s3 := if x.implicit then s2.count64 (Reg.PWR_CNT 6) 1 else s2
  guarded (s.live && x.state == .poweringUp && (pllsOf domain).all fun p => s.pll p == .locked) s
    ((s3.domainReady domain pufOk).resumeDomain domain)

/-- DOMAIN_WAKE_TIMEOUT (R744, R745): powered down and up once more, and Failed the second time. -/
def execDomainWakeTimeout (domain : Nat) (s : State) : Host.Outcome State Fault Refusal :=
  let x := s.dom domain
  guarded (s.live && x.state == .poweringUp) s
    (if x.again then s.failDomain domain 1
     else s.setDom domain { x with again := true, retries := min 255 (x.retries + 1) })

/-- A group that Dormant keeps in retention (R662). -/
def State.retained (s : State) (g : Nat) : Bool :=
  decide (g ≤ 1) || s.flag Reg.SRM_RET_MASK g || s.sram.extra.getLsbD g

/-- An Up domain that nothing holds goes down: in Dormant a retained group goes to Retention. -/
def State.dropDomain (s : State) (d : Nat) : State :=
  if 29 ≤ d ∧ s.effective = 3 ∧ s.retained (d - 29) then
    ({ s with pwr := { s.pwr with logSeen := s.log.wseq.toNat } }).setDom d { s.dom d with state := .retention, implicit := false }
  else s.powerDown d

/-- DOMAIN_HYSTERESIS_EXPIRE (R716). -/
def execDomainHysteresisExpire (domain : Nat) (s : State) : Host.Outcome State Fault Refusal :=
  guarded (s.live && decide (1 ≤ domain ∧ domain ≤ 36) && s.inHyst domain) s (s.dropDomain domain)

/-- A register that a gated domain loses (R719). -/
def lostReg (d a : Nat) : Bool :=
  decide (0x40 ≤ a % 0x1000) && regDomain a == d
    && (match regDef a with | some r => r.access == .ro || r.access == .rc | none => false)

/-- Words of a bank group are lost, and with them the structures that lie there (R663, R746). -/
def State.loseGroup (s : State) (g : Nat) : State :=
  let s1 := { s with sram := { s.sram with
    words := s.sram.words.filter fun e => bankGroup (e.1 / 2 ^ 17) != g
    banks := tabMap (fun _ => none) (fun b k => if bankGroup b = g then k.map fun x => { x with foreign := false } else k) s.sram.banks } }
  if g = 2 ∨ g = 3 then { s1 with pipe := { s1.pipe with cache := [] } } else s1

/-- What the internal state of a gated block is when it is powered again (R507, R716 to R719, R746). -/
def State.loseState (s : State) (d : Nat) : State :=
  if d = 1 ∨ d = 2 then
    { s with ports := { s.ports with
      macs := s.ports.macs.filter fun e => macPort e.1 != d - 1
      rx := s.ports.rx.filter fun e => macPort e.mac != d - 1 } }
  else if d = 3 then { s with pipe := { s.pipe with rgnCode := 0, gntCode := 0, gntIndex := 0, dscCode := 0 } }
  else if d = 7 then { s with coh := { s.coh with sgCode := 0, sgMember := false } }
  else if d = 8 then
    { s with tier := { s.tier with picked := [], batch0 := {}, batch1 := {}, scanRegion := 0, scanPage := 0 } }
  else if d = 9 then { s with cmp := { s.cmp with mean := [], fails := [], clsCode := 0 } }
  else if d = 11 then { s with cry := { s.cry with valid := false, fails := [] } }
  else if d = 12 then { s with mreg := { s.mreg with counts := [] } }
  else if 13 ≤ d ∧ d ≤ 28 then
    let c := s.chan (d - 13)
    s.setChan (d - 13) { c with
      cet := [], ceBank := [], counts := [], recent := []
      ranks := tabMap (fun _ => {}) (fun _ r => { r with hot := true }) c.ranks
      subA := { c.subA with banks := [], drain := false }, subB := { c.subB with banks := [], drain := false } }
  else if 29 ≤ d then s.loseGroup (d - 29)
  else s

/-- DOMAIN_POWER_DOWN_DONE (R716, R719, R742). -/
def execDomainPowerDownDone (domain : Nat) (s : State) : Host.Outcome State Fault Refusal :=
  let s1 := s.setDom domain { s.dom domain with state := .off, clockGated := false }
  let s2 := { s1 with regs := tabMap resetOf (fun a v => if lostReg domain a then resetOf a else v) s1.regs }
  guarded (s.live && (s.dom domain).state == .poweringDown) s (s2.loseState domain)

/-- PWR_VOTE_WRITE (R714, R720): the MGR bits of a domain, or of a stand. -/
def execPwrVoteWrite (toStand : Bool) (index : Nat) (value : Word) (s : State) : Host.Outcome State Fault Refusal :=
  let v := bits value.toNat 31 24
  let ok := if toStand then decide (index < 8) else decide (1 ≤ index ∧ index ≤ 36) && !s.domFailed index && !s.chanAbsent index
  guarded s.live s
    (if ok then s.setFld (if toStand then Reg.PWR_STAND_VOTE index else Reg.PWR_VOTE index) 31 24 v else s).wrote

/-- CLOCK_IDLE_GATE (R724). -/
def execClockIdleGate (domain : Nat) (s : State) : Host.Outcome State Fault Refusal :=
  guarded (s.up domain && decide (1 ≤ domain ∧ domain ≤ 28) && decide (1 ≤ s.pwr.current) && !s.work' domain) s
    (s.setDom domain { s.dom domain with clockGated := true })

/-! ### Requests for a state (R725, R728 to R730, R739) -/

/-- A move to a deeper state `t` is refused (R728). -/
def State.deepRefused (s : State) (t : Nat) : Bool :=
  let busy := match s.pwr.entering with | some u => decide (u < t) | none => s.pwr.exiting.isSome && decide (s.effective < t)
  let p := s.keptPort
  let noWake := t == 3 && !s.flag Reg.PWR_WAKE_CFG 1 && !s.flag (Reg.PRT_WAKE_CFG p) 8
    && s.fld (Reg.PRT_WAKE_CFG p) 7 4 == 0
  (allDoms.any fun d => !s.inSet t d && s.mgrVotes d != 0) || noWake || busy

/-- A refused request: PWR_RESULT and event 0x0403. -/
def State.refuseDeep (s : State) : State := (s.pwrResult 5).raise 0x0403

/-- Begin to move to the deeper state `t`, from the state that the device is in: Quiet at once, Drowsy and Dormant through
their steps (R721, R730); the state that it is entering already is entered on (R729). -/
def State.deepen (s : State) (t : Nat) : State :=
  let s1 := s.setReg Reg.PWR_RESULT 0
  if s.pwr.entering = some t then s
  else if t = 1 then (({ s1 with pwr := { s1.pwr with current := 1 } }).pwrResult 1).raise 0x0401 (s.pwr.current * 256 + 1)
  else if t = 2 ∨ t = 3 then
    { s1 with
      pwr := { s1.pwr with entering := some t, ap := 1, wakeAfter := false }
      ports := { s1.ports with wakeSeen := s1.ports.wakeSeen && t != 3 } }
  else s1

/-- PWR_REQ_WRITE (R725, R726, R728, R729); nothing abandons a request for Off (R739). -/
def execPwrReqWrite (value : Word) (s : State) : Host.Outcome State Fault Refusal :=
  let v := bits value.toNat 2 0
  let s1 := (s.setReg Reg.PWR_RESULT 0).setFld Reg.PWR_REQ 2 0 v
  let old := s.effective
  let t :=
    if 4 < v then s.wrote stOutOfRange
    else if v < old then (s1.wakeEvent 4).wrote
    else if s1.effective ≤ old then s1.wrote
    else if s.deepRefused s1.effective then s.refuseDeep.wrote stAccessDenied
    else if v = 4 then s1.wrote
    else (s1.deepen s1.effective).wrote
  guarded (s.live && s.fld Reg.PWR_REQ 2 0 != 4) s t

/-- An idle time makes the auto depth `t` (R725, R728, R732). -/
def State.autoDepth (s : State) (t : Nat) : State :=
  let s1 := { s with pwr := { s.pwr with auto := t } }
  if s1.effective ≤ s.effective then s1
  else if s.deepRefused t then s.refuseDeep
  else s1.deepen t

/-- IDLE_DROWSY_EXPIRE (R725). -/
def execIdleDrowsyExpire (s : State) : Host.Outcome State Fault Refusal :=
  guarded (s.live && s.flag Reg.PWR_AUTO 31 && decide (s.pwr.auto < 2)) s (s.autoDepth 2)

/-- IDLE_DORMANT_EXPIRE (R725). -/
def execIdleDormantExpire (s : State) : Host.Outcome State Fault Refusal :=
  guarded (s.live && s.flag Reg.PWR_AUTO 31 && decide (s.pwr.auto < 3)) s (s.autoDepth 3)

/-- ALARM (R726, R727): the time base reaches PWR_ALARM. -/
def execAlarm (s : State) : Host.Outcome State Fault Refusal :=
  let at_ := (s.reg Reg.PWR_ALARM_SEC_LO).toNat + 2 ^ 32 * s.fld Reg.PWR_ALARM_SEC_HI 15 0
  guarded (s.live && s.flag Reg.PWR_WAKE_CFG 1 && !s.pwr.alarmDone && decide (at_ ≤ s.time.sec)) s
    (({ s with pwr := { s.pwr with alarmDone := true } }).wakeEvent 2)

/-! ### Entering (R730 to R738) -/

/-- Logic domains that an entry to `t` drops. -/
def State.dropping (s : State) (t : Nat) : List Nat :=
  ((List.range 28).map (· + 1)).filter fun d => !s.inSet t d && !(s.dom d).resting && (s.dom d).state != .failed

/-- ENTRY_QUIESCED: the dropping domains hold no vote other than STATE, and the STAND vote that AP3 ends; the groups none but the DEP
votes of those domains. -/
def execEntryQuiesced (s : State) : Host.Outcome State Fault Refusal :=
  match s.pwr.entering with
  | none => .next s
  | some t =>
    let groups := if t = 3 then (List.range 8).map (29 + ·) else []
    guarded (s.live && s.pwr.ap == 1 && ((s.dropping t).all fun d =>
        (s.hwVotes d) % 512 - 2 * bitNat (s.stateVote d) == 0 && s.mgrVotes d == 0)
        && groups.all fun d => (s.hwVotes d) - 2 * bitNat (s.stateVote d) - 4 * bitNat (s.depVote (d - 29)) == 0) s
      { s with pwr := { s.pwr with ap := 2 } }

/-- The AP2 saves of an entry to Dormant (R353, R415, R627, R742). -/
def State.saveAll (s : State) : State :=
  let s1 := s.pipe.cache.foldl (fun t e => match e.2 with | some d => t.writeBack e.1 d | none => t) s
  { s1 with tier := { s1.tier with saved := true } }

/-- ENTRY_SAVED (R730): nothing to save for Drowsy. -/
def execEntrySaved (s : State) : Host.Outcome State Fault Refusal :=
  match s.pwr.entering with
  | none => .next s
  | some t =>
    let s1 := if t = 3 then s.saveAll else s
    guarded (s.live && s.pwr.ap == 2) s { s1 with pwr := { s1.pwr with ap := 3 } }

/-- ENTRY_DRAM_DONE (R566, R730): the frequency point, or every stand in Retention; the dropping domains' clocks stop. -/
def execEntryDramDone (s : State) : Host.Outcome State Fault Refusal :=
  match s.pwr.entering with
  | none => .next s
  | some t =>
    let done := if t = 2 then s.fpNow == s.fpEffective else s.presentStands.all fun k => decide (2 ≤ (s.stand k).power)
    guarded (s.live && s.pwr.ap == 3 && done) s
      ((s.dropping t).foldl (fun u d => u.setDom d { u.dom d with clockGated := true })
        { s with pwr := { s.pwr with ap := 4 } })

/-- The links of the port that Dormant does not keep go down (R738). -/
def State.dropLinks (s : State) : State :=
  ((List.range 8).filter fun m => macPort m != s.keptPort && (s.mac m).linkUp).foldl (fun t m => t.linkDown m) s

/-- POINT_OF_NO_RETURN (R730, R738, R662): the dropping domains power down without hysteresis; groups that are kept enter
Retention and the others go off. -/
def execPointOfNoReturn (s : State) : Host.Outcome State Fault Refusal :=
  match s.pwr.entering with
  | none => .next s
  | some t =>
    let s1 := if t = 3 then s.dropLinks else s
    let s2 := { s1 with pwr := { s1.pwr with ap := 5 } }
    let s3 := (s.dropping t).foldl (fun u d => if (u.dom d).state = .up then u.powerDown d else u) s2
    let groups := if t = 3 then (List.range 8).map (29 + ·) else []
    let s4 := groups.foldl (fun u d => if (u.dom d).state = .up && !u.wanted d then u.dropDomain d else u) s3
    let idle := groups.all fun d => (s4.dom d).state != .up && (s4.dom d).state != .poweringUp
    guarded (s.live && s.pwr.ap == 4) s (if t = 3 ∧ idle = true then s4.setPll .sram .off else s4)

/-- ENTRY_DONE (R730, R733): every dropping domain is Off or in Retention. -/
def execEntryDone (s : State) : Host.Outcome State Fault Refusal :=
  match s.pwr.entering with
  | none => .next s
  | some t =>
    let rested := allDoms.all fun d => s.inSet t d || (s.dom d).resting || (s.dom d).state == .failed
    let s1 := { s with pwr := { s.pwr with current := t, entering := none, ap := 0, wakeAfter := false } }
    let s2 := ((s1.pwrResult 1).raise 0x0401 (s.pwr.current * 256 + t)).count64 (Reg.PWR_CNT (t - 2)) 1
    guarded (s.live && s.pwr.ap == 5 && rested) s
      (if s.pwr.wakeAfter then s2.startExit (s.fld Reg.PWR_WAKE_SRC 3 0) else s2)

/-- ENTRY_LIMIT_EXPIRE (R736). -/
def execEntryLimitExpire (s : State) : Host.Outcome State Fault Refusal :=
  let s1 := s.abandonEntry 4
  let byAuto := decide (s.fld Reg.PWR_REQ 2 0 < s.pwr.entering.getD 0)
  guarded (s.live && s.pwr.entering.isSome && (s.pwr.ap == 1 || s.pwr.ap == 2)) s
    ((if byAuto then { s1 with pwr := { s1.pwr with auto := 0 } } else s1).raise 0x0403)

/-- Client IDs with an open or closing session. -/
def State.liveClients (s : State) : List Nat := (s.kct.ctx.filter fun e => e.2.sess.live).map (·.1)

/-- OFF_REQUEST (R739): a request for Off closes every session. -/
def execOffRequest (s : State) : Host.Outcome State Fault Refusal :=
  let s1 := ({ s with pwr := { s.pwr with offWait := true } }).raise 0x0407
  guarded (s.live && s.fld Reg.PWR_REQ 2 0 == 4 && !s.pwr.offWait) s (s.liveClients.foldl (fun t c => t.sendClose c 5) s1)

/-- OFF_SESSIONS_ENDED (R739): OFF_REQ is written over the link. -/
def execOffSessionsEnded (timeout : Bool) (s : State) : Host.Outcome State Fault Refusal :=
  guarded (s.live && s.pwr.offWait && (timeout || s.liveClients.isEmpty) && s.intake.linkWrite.isNone) s
    ({ s with pwr := { s.pwr with offWait := false } }.linkSend Reg.INT_CTRL (s.reg Reg.INT_CTRL ||| 0x40))

/-! ### Exits (R740) -/

/-- A group holds a bank that a block owns. -/
def State.groupOwned (s : State) (g : Nat) : Bool :=
  allBanks.any fun b => bankGroup b == g && !(ownerDoms (s.bankAt b).owner).isEmpty

/-- The domains that a wave of an exit raises. -/
def State.waveDoms (s : State) (w : Nat) : List Nat :=
  allDoms.filter fun d =>
    s.waveOf d == w && (s.dom d).resting
      && (if 29 ≤ d then decide (d ≤ 30) || s.groupOwned (d - 29) || s.wanted d else s.wanted d)

/-- EXIT_WAVE (R740): the next wave's switches close; after the third the exit ends once every domain of the set is Up. -/
def execExitWave (s : State) : Host.Outcome State Fault Refusal :=
  match s.pwr.exiting with
  | none => .next s
  | some w =>
    let s1 := (s.waveDoms w).foldl (fun t d => t.powerUp d) s
    let s2 := if w = 1 then s1.enablePll .sram else s1
    let e := s.effective
    let ready := allDoms.all fun d =>
      decide (29 ≤ d) || !s.inSet e d || s.chanAbsent d || (s.dom d).state == .up || (s.dom d).state == .failed
    let done := (({ s with pwr := { s.pwr with current := e, exiting := none } }).raise 0x0401 (s.pwr.current * 256 + e)).setReg
      Reg.PWR_EXIT_TIME (BitVec.ofNat 32 ((s.now - s.pwr.wakeAt) / 100))
    if w ≤ 3 then guarded s.live s { s2 with pwr := { s2.pwr with exiting := some (w + 1) } }
    else guarded (s.live && ready) s done

end Sys2Proof.Machine
end

