-- ==== Sys2Proof/Machine/Ras.lean ====
section
/-! DEFINITION. Patrol scrub, SCRUB_NOW, the combining table's clears, the clock monitors, the duplicated state machines and
the promise (16_ecc_ras.md). -/

namespace Sys2Proof.Machine

open Sys2Proof

/-! ### The promise (R631, R634) -/

/-- Bits of RAS_PROMISE_STATUS. -/
abbrev promiseConditions : Nat := 0
abbrev promiseSramTest : Nat := 1
abbrev promiseScrub : Nat := 2
abbrev promiseParity : Nat := 3

/-- A condition of R631 as the device now observes it: HOLDS follows, and a fall is event 0x030B. -/
def State.setPromise (s : State) (b : Nat) (on : Bool) : State :=
  let s1 := s.setFld Reg.RAS_PROMISE_STATUS b b (bitNat on)
  let s2 := s1.setFld Reg.RAS_PROMISE_STATUS 31 31 (bitNat (s1.fld Reg.RAS_PROMISE_STATUS 3 0 == 15))
  if !on && s.flag Reg.RAS_PROMISE_STATUS b then s2.raise 0x030B b else s2

/-- A stand's pass. -/
def State.scrub (s : State) (k : Nat) : Scrub := tabGet (fun _ => {}) s.scrubs k

/-- The state with a stand's pass replaced. -/
def State.setScrub (s : State) (k : Nat) (v : Scrub) : State := { s with scrubs := tabSet (fun _ => {}) s.scrubs k v }

/-- The stands that the scrubber covers (R616). -/
def State.scrubStands (s : State) : List Nat := s.presentStands.filter fun k => (s.stand k).power != 3

/-- SCRUB falls: every stand that is scrubbed owes a pass within its target (R623). -/
def State.scrubLapse (s : State) (stand : Option Nat) : State :=
  let s1 := s.scrubStands.foldl (fun t k =>
    t.setScrub k { t.scrub k with late := if stand = some k then 2 else max 1 (t.scrub k).late }) s
  s1.setPromise promiseScrub false

/-- CLOCK_MONITOR (R19, R630): an island clock has stopped or left its window: 0 core, 1 SRAM die, 2 and 3 ports, 4 + n
channel n. -/
def execClockMonitor (island : Nat) (s : State) : Host.Outcome State Fault Refusal :=
  guarded s.live s
    (((s.setReg Reg.RAS_CLK_MON_STATUS (s.reg Reg.RAS_CLK_MON_STATUS ||| BitVec.ofNat 32 (2 ^ island))).raise 0x0307 island).setPromise
      promiseConditions false)

/-- DUP_STATE_MISMATCH (R629): the block as RAS_FAULT_SUMMARY numbers it. -/
def execDupStateMismatch (block : Nat) (s : State) : Host.Outcome State Fault Refusal :=
  guarded s.live s
    ((s.setReg Reg.RAS_DUP_STATUS (s.reg Reg.RAS_DUP_STATUS ||| BitVec.ofNat 32 (2 ^ block))).raise 0x0308 block)

/-! ### The combining table (R636) -/

/-- CET_CLEAR_SEL: the entry that DRC_CET_SEL names is emptied. -/
def execCetClearSel (chan : Nat) (s : State) : Host.Outcome State Fault Refusal :=
  let c := s.chan chan
  commanding (chanDom chan) true s
    (s.setChan chan { c with cet := tabSet (fun _ => none) c.cet (s.fld (Reg.DRC_CET_SEL chan) 5 0) none }).wrote

/-- CET_CLEAR_ALL. -/
def execCetClearAll (chan : Nat) (s : State) : Host.Outcome State Fault Refusal :=
  commanding (chanDom chan) true s (s.setChan chan { s.chan chan with cet := [] }).wrote

/-! ### Scrubbing a line (R616, R620, R621) -/

/-- Lines of a stand in each channel. -/
def State.standLines (s : State) (k : Nat) : Nat := 1024 * (s.stand k).plots / (if s.tier.channels = 8 then 8 else 16)

/-- The slot of a stand at a channel-local slot number of a channel (R405, R627). -/
def State.slotAt (s : State) (k n chan : Nat) : Nat :=
  k * 2 ^ 33 + (if s.tier.channels = 8 then 8 * n + ((chan / 2) ^^^ (n / 2 % 8)) else 16 * n + (chan ^^^ (n % 16)))

/-- Line `i` of a stand in a channel. -/
def State.scrubAddr (s : State) (k chan i : Nat) : Nat := 4 * s.slotAt k (i / 4) chan + i % 4

/-- The bits that a status says were corrected. -/
def WordStatus.correctedBits : WordStatus → Option (List Nat)
  | .corrected l => some l
  | _ => none

/-- Words of a line that a read attempt corrects, each with its bits. -/
def State.correctedWords (s : State) (la : Nat) (err : BitVec 640) : List (Option (List Nat)) :=
  let (l, m) := s.lineNow la
  (s.attempt la m (s.lineWords la l m) err).map fun r => r.2.correctedBits

/-- Words of a line that both attempts leave uncorrectable. -/
def State.badWords (s : State) (la : Nat) (e : ReadErrs) : Nat :=
  let (l, m) := s.lineNow la
  let ws := s.lineWords la l m
  let a := s.attempt la m ws e.first
  let b := s.attempt la m ws e.again
  ((List.range 8).filter fun k =>
    (a.getD k (0, .clean)).2 == .bad &&
      (match (b.getD k (0, .clean)).2 with | .clean => false | .corrected _ => false | _ => true)).length

/-- The masks of a re-read without the words that fail in the bits of the first read. -/
def withoutSame (same : List Nat) (e : ReadErrs) : ReadErrs :=
  let keep : BitVec 640 := BitVec.ofNat 640 (((List.range 8).map fun k => if same.contains k then 0 else (2 ^ 80 - 1) * 2 ^ (80 * k)).sum)
  { e with first := e.first &&& keep, again := e.again &&& keep }

/-- A lasting fault in a word: STICKY in its entry, and event 0xA011 (R620). -/
def State.sticky (s : State) (la word : Nat) : State :=
  let n := s.slotChan (la / 4)
  match s.cetOf n (slotStand (la / 4)) (s.slotLocal (la / 4)) (la % 4) word with
  | some (i, c) =>
    (s.setChan n { s.chan n with cet := tabSet (fun _ => none) (s.chan n).cet i (some { c with sticky := true }) }).raiseAt 0xA011 n i 0
  | none => s

/-- The scrubber reads a line under master 5, writes a corrected one back and reads it again (R620, R621). -/
def State.scrubRead (s : State) (la : Nat) (errs reread : ReadErrs) : State :=
  let n := s.slotChan (la / 4)
  let first := s.correctedWords la errs.first
  let (s1, _) := s.readDirect 5 la errs
  if s.chanLost n || !first.any (·.isSome) then s1
  else
    let s2 := (((s1.chargeMem 5 n 1).count64 (Reg.DRC_CNT n 0) 1).count64 (Reg.DRC_CNT n 1) 1).count64 (Reg.DRC_CNT n 12) 1
    let second := s2.correctedWords la reread.first
    let same := (List.range 8).filter fun k => (first.getD k none).isSome && first.getD k none == second.getD k none
    let (s3, _) := s2.readDirect 5 la (withoutSame same reread)
    if s.lineRetired la then s3 else same.foldl (fun t k => t.sticky la k) s3

/-! ### Patrol scrub (R616 to R623) -/

/-- The scrubber runs: EN, outside brace and warm reset (R622). -/
def State.scrubOn (s : State) : Bool :=
  s.live && s.flag Reg.RAS_SCRUB_CFG 31 && s.boot.stage == .ready && !s.boot.brace && !s.boot.draining

/-- PERIOD in ns. -/
def State.scrubPeriod (s : State) : Nat := s.fld Reg.RAS_SCRUB_CFG 23 16 * 3600000000000

/-- SCRUB_LINE: the next line of a stand's pass in a channel. -/
def execScrubLine (stand chan : Nat) (errs reread : ReadErrs) (s : State) : Host.Outcome State Fault Refusal :=
  let x := s.scrub stand
  let i := tabGet (fun _ => 0) x.cursor chan
  let la := s.scrubAddr stand chan i
  let x1 := { x with
    cursor := tabSet (fun _ => 0) x.cursor chan (i + 1)
    corrected := x.corrected + ((s.correctedWords la errs.first).filter (·.isSome)).length
    bad := x.bad + s.badWords la errs }
  guarded (s.scrubOn && (s.stand stand).present && s.chanList.contains chan && decide (i < s.standLines stand) && s.canRead 5 [la]) s
    ((s.scrubRead la errs reread).setScrub stand x1)

/-- SCRUB_TARGET_REACHED: progress has fallen to its target in a stand that is in Retention (R617, R619, R726, R727). -/
def execScrubTargetReached (stand : Nat) (s : State) : Host.Outcome State Fault Refusal :=
  let x := s.stand stand
  let s1 := (s.setStand stand { x with scrubVote := true }).setScrub stand { s.scrub stand with burst := true }
  let t := if s.effective = 3 then (if s.flag Reg.RAS_SCRUB_CFG 30 then s1.wakeEvent 3 else s) else s1
  guarded (s.scrubOn && x.present && x.power == 2 && !x.scrubVote) s t

/-- SCRUB_LEAD_REACHED: the lead is 2 × LAG_WAKE and the vote is withdrawn; once none is left, the device enters Dormant
again where it is in it but for the SCRUB wake (R617, R727). -/
def execScrubLeadReached (stand : Nat) (s : State) : Host.Outcome State Fault Refusal :=
  let s1 := (s.setStand stand { s.stand stand with scrubVote := false }).setScrub stand { s.scrub stand with burst := false }
  let last := !s1.presentStands.any fun k => (s1.stand k).scrubVote
  let s2 := if last && s.pwr.scrubUp then { s1 with pwr := { s1.pwr with scrubUp := false } } else s1
  let t :=
    if s2.effective ≤ s.effective then s2
    else if s2.deepRefused s2.effective then s2.refuseDeep
    else s2.deepen s2.effective
  guarded (s.live && (s.stand stand).scrubVote) s t

/-- SCRUB_PASS_END: every channel has done the stand's lines; the next pass begins (R623). -/
def execScrubPassEnd (stand : Nat) (s : State) : Host.Outcome State Fault Refusal :=
  let x := s.scrub stand
  let done := s.chanList.all fun n => decide (s.standLines stand ≤ tabGet (fun _ => 0) x.cursor n)
  let inTime := x.late != 2 && decide (s.now ≤ x.startAt + s.scrubPeriod)
  let x1 := { x with
    cursor := [], startAt := s.now, corrected := 0, bad := 0
    lastCorrected := min 65535 x.corrected, lastBad := min 65535 x.bad
    lastMinutes := min 65535 ((s.now - x.startAt) / 60000000000)
    passes := (x.passes + 1) % 65536
    late := if inTime then 0 else min 1 x.late }
  let s1 := (s.setScrub stand x1).raise 0xA016 stand
  let met := s1.scrubStands.all fun k => (s1.scrub k).late == 0
  guarded (s.scrubOn && s.scrubStands.contains stand && done) s (if met then s1.setPromise promiseScrub true else s1)

/-- SCRUB_PASS_LATE: a pass has run past its target end by more than 2 × LAG_WAKE (R623, R634). -/
def execScrubPassLate (stand : Nat) (s : State) : Host.Outcome State Fault Refusal :=
  guarded (s.live && s.flag Reg.RAS_SCRUB_CFG 31 && s.boot.stage == .ready && s.scrubStands.contains stand) s
    ((s.raise 0xA017 stand).scrubLapse (some stand))

/-! ### SCRUB_NOW (R749, R750) -/

/-- Stands and channels that a SCRUB_NOW names. -/
def OpSlot.scrubStands (o : OpSlot) : List Nat := (List.range 8).filter fun k => bit (bits o.arg0.toNat 7 0) k
def State.scrubChans (s : State) (o : OpSlot) : List Nat :=
  let m := bits o.arg1.toNat 15 0
  s.chanList.filter fun n => m == 0 || bit m n

/-- The lines that a SCRUB_NOW selects. -/
def State.scrubTotal (s : State) (o : OpSlot) : Nat :=
  ((o.scrubStands.map s.standLines).sum) * (s.scrubChans o).length

/-- Stand, channel and line of a SCRUB_NOW's line `i`, stand by stand and on all channels in parallel. -/
def State.scrubNth (s : State) (o : OpSlot) : List Nat → Nat → Option (Nat × Nat × Nat)
  | [], _ => none
  | k :: r, i =>
    let c := s.scrubChans o
    if i < s.standLines k * c.length then some (k, c.getD (i % c.length) 0, i / c.length)
    else s.scrubNth o r (i - s.standLines k * c.length)

/-- SCRUB_NOW_LINE: the operation's next line; an Unpowered stand's lines are passed over. -/
def execScrubNowLine (op : Nat) (errs reread : ReadErrs) (s : State) : Host.Outcome State Fault Refusal :=
  let o := s.opSlot op
  let s1 := s.setOp op { o with cursor := o.cursor + 1, progress := o.progress + 1 }
  match s.scrubNth o o.scrubStands o.cursor with
  | none => .next s
  | some (k, n, i) =>
    let la := s.scrubAddr k n i
    let t :=
      if (s.stand k).power = 3 then s1
      else if s.canRead 5 [la] then s1.scrubRead la errs reread
      else s
    guarded (s.live && o.working opScrub && !s.boot.brace && !s.boot.draining) s t

end Sys2Proof.Machine
end

