-- ==== Sys2Proof/Machine/Sram.lean ====
section
/-! DEFINITION. The SRAM die (17_sram.md): ownership and handover, the management window, atomics and aliases, what owners
make of a poisoned word, the background test, retired regions and marches. -/

namespace Sys2Proof.Machine

open Sys2Proof

/-- Add to a counter of SRM_CNT. -/
def State.srmCount (s : State) (k n : Nat) : State := s.count64 (Reg.SRM_CNT k) n

/-! ### Blocks (R139, R638 to R641) -/

/-- Registers of page 0 of the block that owns a use. -/
def ownerBase (owner : Nat) : Option Nat :=
  if owner = 0x01 ∨ owner = 0x06 ∨ owner = 0x08 then some 0x400000
  else if owner = 0x02 ∨ owner = 0x09 then some 0x200000
  else if owner = 0x03 ∨ owner = 0x0B then some 0x300000
  else if owner = 0x04 ∨ owner = 0x0C then some 0x310000
  else if owner = 0x05 ∨ owner = 0x07 then some 0x600000
  else if owner = 0x0A then some 0x500000
  else if owner = 0x0D then some 0x700000
  else if owner = 0x0E then some 0x800000
  else if owner = 0x0F then some 0x010000
  else if owner = 0x10 then some 0x320000
  else none

/-- Uses of R639 that belong to the block at a base: owner codes. -/
def usesAt (base : Nat) : List Nat := ((sramUses.map (·.2.2.1)).dedup).filter fun o => ownerBase o == some base

/-- The domains of the block at a base. -/
def blockDoms (base : Nat) : List Nat :=
  if base = 0x400000 then [3, 4] else if base = 0x700000 then [9, 10] else [regDomain (base + 0x40)]

/-- PAGE_STATUS.IDLE of the block at a base (R138, R141). -/
def State.blockIdle (s : State) (base : Nat) : Bool :=
  if base = 0x004000 then s.mgmt.jobs.isEmpty
  else if base = 0xC00000 then !allBanks.any fun b => (s.bankAt b).busy
  else (blockDoms base).all fun d => !s.work' d

/-- Each use of the block at a base is complete: exactly one bank that is not Failed for every INDEX (R640). -/
def State.usesComplete (s : State) (base : Nat) : Bool :=
  (usesAt base).all fun o =>
    let l := (allBanks.map s.bankAt).filter fun b => !b.failed && b.owner == o
    (List.range (useCount o)).all fun i => (l.filter (·.index == i)).length == 1

/-! ### Ownership (R641 to R643, R661) -/

/-- An owner code of R639. -/
def ownerCode (o : Nat) : Bool := o == ownNone || o == ownMgt || o == ownSpare || (useLarge o).isSome

/-- A change of a bank's owner or index is refused (R641). -/
def State.ownRefused (s : State) (b owner index : Nat) : Bool :=
  let k := s.bankAt b
  let busy :=
    match ownerBase k.owner with
    | some base => s.enabled base || !s.blockIdle base
    | none => false
  let kind := match useLarge owner with | some l => l != bankLarge b | none => false
  let twice := (useLarge owner).isSome &&
    allBanks.any fun c => c != b && !(s.bankAt c).failed && (s.bankAt c).owner == owner && (s.bankAt c).index == index
  k.lock || k.failed || busy || kind || twice || s.sram.remaps.any fun r => r.bank == b || r.toBank == b

/-- A bank whose owner is a block is marked NOTEST (R661). -/
def State.untested (s : State) : Bool :=
  allBanks.any fun b => (s.bankAt b).notest && (useLarge (s.bankAt b).owner).isSome

/-- Every word of a bank written as zero. -/
def State.zeroBank (s : State) (b : Nat) : State :=
  let t := { s with sram := { s.sram with words := s.sram.words.filter fun e => e.1 / 2 ^ 17 != b } }
  t.setBank b { t.bankAt b with foreign := false }

/-! ### What a bank holds as its owner changes (R4, R156, R309, R318, R642) -/

/-- The entry that the eight 32-bit words of R156 spell. -/
def logOf (w : Nat → Nat) : LogEntry :=
  { code := BitVec.ofNat 16 (bits (w 0) 31 16), inst := bits (w 0) 15 8, sev := bits (w 0) 7 6, forced := bit (w 0) 5
    hist := bit (w 0) 4, tbSet := bit (w 0) 3, seq := BitVec.ofNat 32 (w 1)
    time := BitVec.ofNat 64 (w 2 + 2 ^ 32 * w 3), detail := BitVec.ofNat 64 (w 4 + 2 ^ 32 * w 5), detail2 := BitVec.ofNat 32 (w 6) }

/-- Two 32-bit words in one of 64 bits, the first the less significant (R4). -/
def pairWords : List Nat → List Nat
  | a :: b :: l => (a + 2 ^ 32 * b) :: pairWords l
  | l => l

/-- The 64-bit words of a table's entries that lie in its bank `index`: `per` entries a bank, by their numbers. -/
def tableWords (per index : Nat) (l : List (Nat × List Nat)) : List (Nat × Nat) :=
  (l.filter fun e => e.1 / per == index).flatMap fun e =>
    (List.range e.2.length).map fun i => (e.2.length * (e.1 % per) + i, e.2.getD i 0)

/-- The words of a bank that its owner's structure holds, where the manual gives their layout: the region table, the grant table
and the event log, which starts at word 0 of the first bank of its use. -/
def State.useWords (s : State) (b : Nat) : List (Nat × Nat) :=
  let k := s.bankAt b
  if k.owner = 0x06 then tableWords 16384 k.index (s.pipe.regions.map fun e => (e.1, e.2.words))
  else if k.owner = 0x08 then tableWords 32768 k.index (s.pipe.grants.map fun e => (e.1, e.2.words))
  else if k.owner = 0x0F then
    tableWords 2048 k.index (s.log.ring.map fun e => (e.seq.toNat % 1024, pairWords e.words))
  else []

/-- The structures without what a bank holds of them. -/
def State.forgetUse (s : State) (b : Nat) : State :=
  let k := s.bankAt b
  if k.owner = 0x06 then { s with pipe := { s.pipe with regions := s.pipe.regions.filter fun e => e.1 / 16384 != k.index } }
  else if k.owner = 0x08 then { s with pipe := { s.pipe with grants := s.pipe.grants.filter fun e => e.1 / 32768 != k.index } }
  else if k.owner = 0x0F ∧ k.index = 0 then { s with log := { s.log with ring := [] } }
  else s

/-- A bank leaves its owner with its contents: the words that the structure held there, and, where the manual gives no layout,
words that are open until they are written (log 211). -/
def State.unloadBank (s : State) (b : Nat) : State :=
  let k := s.bankAt b
  if (useLarge k.owner).isSome then
    let l := s.useWords b
    let t := (s.forgetUse b).zeroBank b
    let words := l.foldl (fun u e =>
      tabSet (fun _ => {}) u (2 ^ 17 * b + e.1) { data := BitVec.ofNat 64 e.2, fixed := k.owner == 0x0F }) t.sram.words
    ({ t with sram := { t.sram with words := words } }).setBank b { t.bankAt b with foreign := k.owner != 0x06 && k.owner != 0x08 }
  else s

/-- A bank's contents become its new owner's, where the manual gives their layout; an open word counts as 0 (DESIGN CHOICE,
log 211). -/
def State.loadBank (s : State) (b : Nat) : State :=
  let k := s.bankAt b
  let mine := s.sram.words.filter fun e => e.1 / 2 ^ 17 == b
  let w (i : Nat) : Nat := (tabGet (fun _ => {}) s.sram.words (2 ^ 17 * b + i)).data.toNat
  let ids (n : Nat) : List Nat := (mine.map fun e => e.1 % 2 ^ 17 / n).dedup
  if k.owner = 0x06 then
    ((ids 8).foldl (fun t i => t.setRegion (16384 * k.index + i)
      { regionOf (w (8 * i)) (w (8 * i + 1)) (w (8 * i + 2)) with
        initMark := bits (w (8 * i + 3)) 34 0, pagesStored := bits (w (8 * i + 4)) 34 0, slotsHeld := bits (w (8 * i + 5)) 35 0
        cachedPages := bits (w (8 * i + 6)) 34 0 }) s).zeroBank b
  else if k.owner = 0x08 then
    ((ids 4).foldl (fun t i => t.setGrantAt (32768 * k.index + i) (grantOfWords (w (4 * i)) (w (4 * i + 1)) (w (4 * i + 2)) (w (4 * i + 3)))) s).zeroBank b
  else if k.owner = 0x0F ∧ k.index = 0 then
    let l := (ids 4).map fun i => logOf fun j => w (4 * i + j / 2) / 2 ^ (32 * (j % 2)) % 2 ^ 32
    let ring := l.foldl (fun acc e => insertBy (·.seq.toNat) e acc) []
    { s with log := { s.log with ring := ring } }
  else s

/-- BANK_OWNER_WRITE (R641 to R643, R661, R778). -/
def execBankOwnerWrite (bank : Nat) (value : Word) (s : State) : Host.Outcome State Fault Refusal :=
  let v := value.toNat
  let k := s.bankAt bank
  let owner := bits v 7 0
  let index := bits v 23 16
  let change := owner != k.owner || index != k.index
  let k1 : SramBank := { k with owner := owner, index := index, lock := k.lock || bit v 31, notest := bit v 30 }
  let s0 := if change then s.unloadBank bank else s
  let s1 := s0.setBank bank { k1 with foreign := (s0.bankAt bank).foreign }
  let s2 := if change && bit v 29 then (s1.setBank bank { k1 with busy := true }).zeroBank bank else s1
  let s2 := if change then s2.loadBank bank else s2
  let s3 := if s2.untested then s2.setPromise promiseSramTest false else s2
  guarded s.live s
    (if !ownerCode owner && owner != (bankReset bank).owner then s.wrote stOutOfRange
     else if change && s.ownRefused bank owner index then s.wrote stAccessDenied
     else s3.wrote)

/-! ### Words (R628, R652, R660) -/

/-- Where a word of a bank lies: in the target of its region's remap entry, where it has one. -/
def State.wordKey (s : State) (b w : Nat) : Nat :=
  match s.sram.remaps.find? fun r => r.bank == b && r.region == w / 512 with
  | some r => 2 ^ 17 * r.toBank + 512 * r.toRegion + w % 512
  | none => 2 ^ 17 * b + w

/-- A word. -/
def State.word (s : State) (b w : Nat) : SramWord := tabGet (fun _ => {}) s.sram.words (s.wordKey b w)

/-- The bank in which a word lies has been left by a block with a layout of its own. -/
def State.foreignWord (s : State) (b w : Nat) : Bool := (s.bankAt (s.wordKey b w / 2 ^ 17)).foreign

/-- The state with a word replaced. -/
def State.setWord (s : State) (b w : Nat) (v : SramWord) : State :=
  { s with sram := { s.sram with
    words := tabSet (fun _ => {}) s.sram.words (s.wordKey b w) { v with fixed := s.foreignWord b w } } }

/-- A word that is still open takes a free value as it is first read. -/
def State.pinWord (s : State) (b w : Nat) : State :=
  if s.foreignWord b w && !(s.word b w).fixed then
    let (x, t) := s.draw (2 ^ 64)
    t.setWord b w { data := BitVec.ofNat 64 x }
  else s

/-- The detail of an event about a word of a bank. -/
def State.sramDetail (s : State) (b w : Nat) : Nat := (s.bankAt b).owner * 2 ^ 40 + b * 2 ^ 20 + w

/-- A word is written as the poison pattern and reported (R628). -/
def State.losePoison (s : State) (b w : Nat) : State :=
  ((s.setWord b w { data := 0, poison := true }).raise 0xC003 (s.sramDetail b w)).srmCount 5 1

/-- Read a word whose bits `first`, and at the second read `again`, are inverted (R628): its data, or the status that the
agent gets. -/
def State.readWord (s : State) (b w : Nat) (first again : BitVec 80) : State × Except Nat Nat :=
  let s := s.pinWord b w
  let x := s.word b w
  let code := if x.poison then poisonWord else encodeWord x.data.toNat false
  let a := code ^^^ first.toNat
  let r := code ^^^ again.toNat
  let keep (t : State) (v : Nat) : State × Except Nat Nat :=
    (t.setWord b w { data := BitVec.ofNat 64 (wordData v), poison := false }, .ok (wordData v))
  match wordStatus a with
  | .clean => (s, .ok (wordData a))
  | .corrected l => keep (s.srmCount 3 1) (fixWord a (.corrected l))
  | .poisoned => (s, .error stPoisoned)
  | .bad =>
    match wordStatus r with
    | .clean => (s.srmCount 4 1, .ok (wordData r))
    | .corrected l => keep (s.srmCount 4 1) (fixWord r (.corrected l))
    | _ => (s.losePoison b w, .error stUncorrectable)

/-! ### The management window (R638, R646 to R652) -/

/-- The window's bank, word and data registers. -/
def State.winBank (s : State) : Nat := s.fld Reg.SRM_WIN_BANK 8 0
def State.winAddr (s : State) : Nat := s.fld Reg.SRM_WIN_ADDR 16 0
def State.winData (s : State) : DWord := BitVec.ofNat 64 ((s.reg Reg.SRM_WIN_DATA_LO).toNat + 2 ^ 32 * (s.reg Reg.SRM_WIN_DATA_HI).toNat)

/-- A value in the window's data registers. -/
def State.setWinData (s : State) (v : Nat) : State :=
  (s.setReg Reg.SRM_WIN_DATA_LO (BitVec.ofNat 32 v)).setReg Reg.SRM_WIN_DATA_HI (BitVec.ofNat 32 (v >>> 32))

/-- A window command ends with a code. -/
def State.winEnd (s : State) (code : Nat) : State := (s.setReg Reg.SRM_WIN_STATUS (BitVec.ofNat 32 code)).wrote

/-- What an access leaves in a word (R650, R651). -/
def sramApply (v : DWord) : SramOp → DWord
  | .read => v
  | .write x => x
  | .add x => v + x
  | .swap x => x
  | .set x => v ||| x
  | .clear x => v &&& ~~~x

/-- A plain write. -/
def sramWrites : SramOp → Bool
  | .write _ => true
  | _ => false

/-- A bank refuses an access: an atomic where it is large, an alias where it is small (R650, R651). -/
def sramWrong (large : Bool) : SramOp → Bool
  | .read => false
  | .write _ => false
  | .add _ => large
  | .swap _ => large
  | .set _ => !large
  | .clear _ => !large

/-- The counter of an access: atomics and aliases (R664). -/
def sramCounter : SramOp → Option Nat
  | .read => none
  | .write _ => none
  | .add _ => some 8
  | .swap _ => some 8
  | .set _ => some 9
  | .clear _ => some 9

/-- One access to a word whose bits `first`, and at the second read `again`, are inverted: the word's old value, or the status that
the agent gets (R628, R650 to R652). -/
def State.wordOp (s : State) (b w : Nat) (first again : BitVec 80) (op : SramOp) : State × Except Nat Nat :=
  match op with
  | .read => s.readWord b w first again
  | .write v => (s.setWord b w { data := v }, .ok 0)
  | _ =>
    match s.readWord b w first again with
    | (t, .ok v) =>
      let t1 := t.setWord b w { data := sramApply (BitVec.ofNat 64 v) op }
      ((match sramCounter op with | some k => t1.srmCount k 1 | none => t1), .ok v)
    | (t, .error _) => (t, .error stPoisoned)

/-- An access of port B and the access of port A that meets it, if one does (R644 to R647, R649): of two plain writes port B's is
LOST; otherwise the earlier comes first, and the later, held or reissued, after it. -/
def State.metOp (s : State) (b w : Nat) (first again : BitVec 80) (op : SramOp) (meet : Option SramMeet) : State × Except Nat Nat :=
  match meet with
  | none => s.wordOp b w first again op
  | some m =>
    if sramWrong (bankLarge b) m.op then s.wordOp b w first again op
    else if sramWrites m.op && sramWrites op then (((s.wordOp b w 0 0 m.op).1).lostWrite b w, .error stRetry)
    else if m.first then ((s.wordOp b w 0 0 m.op).1).wordOp b w first again op
    else
      let (t, r) := s.wordOp b w first again op
      ((t.wordOp b w 0 0 m.op).1, r)

/-- A window access on a word that it reaches: the data registers take the old value, but for a write or an alias (R650, R651). -/
def State.winRun (s : State) (b w : Nat) (first again : BitVec 80) (op : SramOp) (meet : Option SramMeet) : State :=
  match s.metOp b w first again op meet with
  | (t, .ok v) =>
    (match op with
     | .read => t.setWinData v
     | .add _ => t.setWinData v
     | .swap _ => t.setWinData v
     | _ => t).winEnd stOK
  | (t, .error c) => t.winEnd c

/-- A window command: refused while another is BUSY (DESIGN CHOICE, log 212), answered AccessDenied on a bank that the window does
not reach (R643, R664) and OutOfRange on a word or for an access that the bank does not have; while the bank is being cleared it
waits, with BUSY (R642). -/
def winCmd (s : State) (first again : BitVec 80) (op : SramOp) (meet : Option SramMeet) : Host.Outcome State Fault Refusal :=
  let b := s.winBank
  let w := s.winAddr
  let k := s.bankAt b
  let wrong := sramWrong (bankLarge b) op
  if s.sram.winWait.isSome then guarded s.live s (s.wrote stAccessDenied)
  else
  if 368 ≤ b ∨ k.owner ≠ ownMgt ∨ k.lock then guarded s.live s (s.winEnd stAccessDenied)
  else if bankWords b ≤ w ∨ wrong then
    guarded s.live s (s.winEnd stOutOfRange)
  else
    commanding (29 + bankGroup b) true s
      (if k.busy then
        let t := s.setReg Reg.SRM_WIN_STATUS 0x8000_0000
        ({ t with sram := { t.sram with winWait := some op } }).wrote
      else s.winRun b w first again op meet)

/-- BANK_CLEAR_DONE: a window access that has waited for the bank is carried out (R642). -/
def execBankClearDone (bank : Nat) (s : State) : Host.Outcome State Fault Refusal :=
  let s1 := s.setBank bank { s.bankAt bank with busy := false }
  let t :=
    match s.sram.winWait with
    | some op =>
      if s.winBank = bank then ({ s1 with sram := { s1.sram with winWait := none } }).winRun bank s.winAddr 0 0 op none else s1
    | none => s1
  guarded (s.live && (s.bankAt bank).busy) s t

/-- WIN_READ. -/
def execWinRead (first again : BitVec 80) (meet : Option SramMeet) (s : State) : Host.Outcome State Fault Refusal :=
  winCmd s first again .read meet

/-- WIN_WRITE (R646, R649). -/
def execWinWrite (meet : Option SramMeet) (s : State) : Host.Outcome State Fault Refusal :=
  winCmd s 0 0 (.write s.winData) meet

/-- WIN_ADD (R650). -/
def execWinAdd (first again : BitVec 80) (meet : Option SramMeet) (s : State) : Host.Outcome State Fault Refusal :=
  winCmd s first again (.add s.winData) meet

/-- WIN_SWAP (R650). -/
def execWinSwap (first again : BitVec 80) (meet : Option SramMeet) (s : State) : Host.Outcome State Fault Refusal :=
  winCmd s first again (.swap s.winData) meet

/-- WIN_SET (R651). -/
def execWinSet (first again : BitVec 80) (meet : Option SramMeet) (s : State) : Host.Outcome State Fault Refusal :=
  winCmd s first again (.set s.winData) meet

/-- WIN_CLEAR (R651). -/
def execWinClear (first again : BitVec 80) (meet : Option SramMeet) (s : State) : Host.Outcome State Fault Refusal :=
  winCmd s first again (.clear s.winData) meet

/-! ### What an owner does with a poisoned word (R653) -/

/-- The owner codes of a structure. -/
def hitOwners : SramHit → List Nat
  | .descriptor .. => [0x01]
  | .region _ => [0x06]
  | .grant _ => [0x08]
  | .client _ => [0x09]
  | .key _ => [0x0E]
  | .classTable .. => [0x0D]
  | .replay _ => [0x02]
  | .egress _ => [0x03, 0x04]
  | .move .. => [0x05]
  | .summary _ => [0x07]
  | .tracker _ => [0x0A]
  | .shaper .. => [0x0B, 0x0C]
  | .session _ => [0x0B, 0x0C]
  | .policer _ => [0x10]
  | .log _ => [0x0F]
  | .opSlot _ => [0x0F]

/-- A descriptor cache entry has lost a word. -/
def State.dcLost (s : State) (region page word : Nat) : State :=
  match s.dcEntry region page with
  | none => s
  | some e =>
    if !e.dirty then (if e.lock.isSome || s.dcPinned region page then s else s.setDc region page none)
    else if word = 3 then
      s.putDesc region page { e.desc with
        warmth := 0, epoch := s.tier.epoch
        group := if (s.region region).shareValid then (s.region region).shareGroup else 0xFFFF }
    else if word = 2 then
      let f : Flight :=
        { id := s.coh.nextId, client := 4096, epoch := 0, type := tPurge, msgId := 0, region := region, page := page,
          trk := .reserved, stage := .pageQ, bare := true }
      (s.addFlight f).queuePage f
    else
      let t := s.putDesc region page { e.desc.bare 0 with poison := true }
      match t.dcEntry region page with
      | some x => t.writeBack (pageKey region page) x
      | none => t

/-- What comes of a poisoned word's structure. -/
def State.structLost (s : State) (b w : Nat) : SramHit → State
  | .descriptor r p k => s.dcLost r p k
  | .region r => s.setRegion r { s.region r with enable := false, state := 2 }
  | .grant i => s.setGrantAt i { s.grantAt i with valid := false }
  | .client c =>
    let t := s.deadSession c
    t.setCtx c { t.ctx c with enable := false, key0 := {}, key1 := {} }
  | .key k => s.zeroise k
  | .classTable c dict =>
    let k := s.classOf? c
    s.setClass c (if dict then { k with dict := k.dict.map fun _ => [] } else { k with codes := k.codes.map fun _ => [] })
  | .replay c => s.deadSession c
  | .egress c => s.setEsess c { s.esess c with queue := (s.esess c).queue.tail }
  | .move r p =>
    let t := match s.moveOf r p with | some m => s.undoMove m false | none => s
    { t with tier := { t.tier with captures := t.tier.captures.filter fun m => !(m.region == r && m.page == p) } }
  | .summary x => { s with tier := { s.tier with rebuild := if s.tier.rebuild.contains x then s.tier.rebuild else s.tier.rebuild ++ [x] } }
  | .tracker id =>
    match s.flight? id with
    | none => s
    | some f =>
      if f.bulk.isSome then s.abort f stInternalFault
      else if f.mute || f.stage == .ackWait then s
      else (s.reply f.client f.epoch tCompletion f.msgId stInternalFault (beBytes 4 0)).putFlight { f with mute := true }
  | .shaper m c => s.setShaper m c { tokens := s.clsBurst m c, at_ := s.now }
  | .session c => s.setEsess c { s.esess c with e := s.fullE c }
  | .policer c => s.resetPolicer c true
  | .log q =>
    { s with log := { s.log with ring := s.log.ring.map fun x =>
        if x.seq = q then
          { x with
            code := 0xC003, inst := 0, sev := severity 0xC003, forced := false, hist := false
            detail := BitVec.ofNat 64 (s.sramDetail b w), detail2 := 0 }
        else x } }
  | .opSlot i => if (s.opSlot i).state.active then s.opFail i rcInternalFault 0 else s

/-- A word that a read leaves uncorrectable: poison, and its owner's handling. -/
def State.loseWord (s : State) (b w : Nat) (h : Option SramHit) : State :=
  let s1 := s.losePoison b w
  match h with
  | some x => if (hitOwners x).contains (s.bankAt b).owner then s1.structLost b w x else s1
  | none => s1

/-! ### Retired regions (R660) -/

/-- A bank's group is powered. -/
def State.bankOn (s : State) (b : Nat) : Bool := s.up (29 + bankGroup b)

/-- The first region of a bank that is neither source nor target of a remap entry. -/
def State.freeRegion (s : State) (b : Nat) : Option Nat :=
  (List.range (bankRegions b)).find? fun r =>
    !s.sram.remaps.any fun m => (m.bank == b && m.region == r) || (m.toBank == b && m.toRegion == r)

/-- The target of a new remap entry: the lowest free region of the lowest Spare bank of the kind. -/
def State.remapTarget (s : State) (b : Nat) : Option (Nat × Nat) :=
  allBanks.findSome? fun c =>
    if bankLarge c == bankLarge b && c != b && (s.bankAt c).owner == ownSpare && !(s.bankAt c).failed && s.bankOn c then
      (s.freeRegion c).map fun r => (c, r)
    else none

/-- The region is the source of a remap entry. -/
def State.remapped (s : State) (b r : Nat) : Bool := s.sram.remaps.any fun m => m.bank == b && m.region == r

/-- Retire a region: its words move with it. None where no entry or target is left. -/
def State.retireRegion (s : State) (b r : Nat) : Option State :=
  if 64 ≤ s.sram.remaps.length ∨ s.remapped b r then none
  else
    (s.remapTarget b).map fun (c, q) =>
      let lo := 2 ^ 17 * b + 512 * r
      let mine := s.sram.words.filter fun e => decide (lo ≤ e.1 ∧ e.1 < lo + 512)
      let rest := s.sram.words.filter fun e => !decide (lo ≤ e.1 ∧ e.1 < lo + 512)
      let words := mine.foldl (fun t e => tabSet (fun _ => {}) t (2 ^ 17 * c + 512 * q + (e.1 - lo)) e.2) rest
      let m : Remap := { bank := b, region := r, toBank := c, toRegion := q }
      ({ s with sram := { s.sram with words := words, remaps := s.sram.remaps ++ [m] } }).raise 0xC004 (b * 2 ^ 40 + r * 2 ^ 32 + c * 2 ^ 16 + q)

/-! ### The background test (R657 to R661) -/

/-- The test visits a bank. -/
def State.testable (s : State) (b : Nat) : Bool :=
  let k := s.bankAt b
  s.bankOn b && !k.notest && !k.failed && k.owner != ownNone

/-- The first region to be tested from region `r` of bank `b` on, among the next banks. -/
def State.nextTest (s : State) : (n b r : Nat) → Option (Nat × Nat)
  | 0, _, _ => none
  | n + 1, b, r =>
    if 368 ≤ b then none
    else if !s.testable b then s.nextTest n (b + 1) 0
    else
      match ((List.range (bankRegions b)).drop r).find? fun q => !s.remapped b q with
      | some q => some (b, q)
      | none => s.nextTest n (b + 1) 0

/-- A cycle of the test ends (R661). -/
def State.cycleEnds (s : State) : State :=
  let m := min 65535 ((s.now - s.sram.bistAt) / 60000000000)
  let inTime := decide (s.now ≤ s.sram.bistAt + 60 * 60000000000)
  let s1 := s.setReg Reg.SRM_BIST_LAST (BitVec.ofNat 32 ((s.fld Reg.SRM_BIST_LAST 31 16 + 1) % 65536 * 2 ^ 16 + m))
  let s2 := { s1 with sram := { s1.sram with bistBank := 0, bistRegion := 0, bistAt := s.now } }
  if inTime && !s2.untested then s2.setPromise promiseSramTest true else s2

/-- BIST_REGION_TEST: the next region is saved, borrowed, marched and restored (R657 to R660). `hits` are its words that read
uncorrectable twice at the save, with what they hold; `fails` whether the march fails. -/
def execBistRegionTest (hits : List (Nat × Option SramHit)) (corrected retried : Nat) (fails : Bool) (s : State) :
    Host.Outcome State Fault Refusal :=
  match s.nextTest 369 s.sram.bistBank s.sram.bistRegion with
  | none => guarded (s.live && s.flag Reg.SRM_CTRL 0) s s.cycleEnds
  | some (b, r) =>
    let s1 := ((s.srmCount 3 corrected).srmCount 4 retried).srmCount 7 1
    let s2 := hits.foldl (fun t h => if h.1 < 512 then t.loseWord b (512 * r + h.1) h.2 else t) s1
    let kept := s2.raise 0xC005 (b * 2 ^ 8 + r)
    let s3 :=
      if !fails then s2
      else if s2.flag Reg.SRM_CTRL 1 then (match s2.retireRegion b r with | some t => t | none => kept)
      else kept
    let s4 := { s3 with sram := { s3.sram with bistBank := b, bistRegion := r + 1 } }
    guarded (s.live && s.flag Reg.SRM_CTRL 0) s
      (match s4.nextTest 369 b (r + 1) with | none => s4.cycleEnds | some _ => s4)

/-- BIST_CYCLE_LATE (R661). -/
def execBistCycleLate (s : State) : Host.Outcome State Fault Refusal :=
  guarded (s.live && s.flag Reg.SRM_CTRL 0) s ((s.raise 0xC006).setPromise promiseSramTest false)

/-! ### MARCH_SRAM (R654, R656, R750) -/

/-- MARCH_SRAM_DONE: the march of the operation's bank has run to its end. -/
def execMarchSramDone (op : Nat) (fails : Bool) (s : State) : Host.Outcome State Fault Refusal :=
  let o := s.opSlot op
  let b := bits o.arg0.toNat 8 0
  let s1 := if bit o.arg1.toNat 0 then s else s.zeroBank b
  let s2 := if fails then (s1.setBank b { s1.bankAt b with failed := true }).raise 0xC007 b else s1
  let s3 := s2.setOp op { s2.opSlot op with cursor := 1, progress := bankWords b }
  guarded (s.live && o.code == opMarch && o.state.votes && o.cursor == 0) s s3

end Sys2Proof.Machine
end

