-- ==== Sys2Proof/Machine/Transport.lean ====
section
/-! DEFINITION. Kenmas transport, the commands (07_transport_messages.md, 08_transport_sessions.md; R515, R380, R703 to
R705): keys, opening and ending sessions, received segments and their delivery, and the timers. -/

namespace Sys2Proof.Machine

open Sys2Proof

/-! ### Keys (R266, R267) -/

/-- KEY_INSTALL: GO written to KCT_KEY_INSTALL (R266, R267). -/
def execKeyInstall (value : Word) (s : State) : Host.Outcome State Fault Refusal :=
  let c := bits value.toNat 11 0
  let phase := bit value.toNat 16
  let keep := value &&& 0x0001_0FFF
  let x := s.ctx c
  let old (g : TxSeg) : Bool := g.client == c && g.sequenced && g.dest.isNone && g.hdr.keyPhase == phase
  let held := x.sess.bound && (x.sess.txPhase == phase || (x.sess.replay.any fun r => old r.seg) || s.kct.gcm.any old
    || s.kct.stage11.any old)
  let err (t : State) : State := t.setReg Reg.KCT_KEY_INSTALL (keep ||| 0x4000_0000)
  let t :=
    if held then err s
    else
      match s.unwrap (s.stageBytes (Reg.KCT_KEY_STAGE 0) 10) with
      | (s1, none) => err (s1.raise 0x2009 c)
      | (s1, some b) =>
        (s1.setCtx c (x.setKey phase { valid := true, key := keyOf b, salt := s.reg Reg.KCT_KEY_SALT })).setReg
          Reg.KCT_KEY_INSTALL keep
  commanding2 5 11 (bit value.toNat 31) s t.wrote

/-! ### Opening (R269 to R275, R399) -/

/-- SRC_IP of a Hello, and whether it is an IPv6 address: an IPv4-mapped one counts as IPv4 (R275). -/
def helloIp (b : List Byte) : BitVec 128 := BitVec.ofNat 128 (beAt b 16 16)
def helloV6 (b : List Byte) : Bool := beAt b 16 12 != 0xFFFF

/-- The version chosen for a Hello (R272). -/
def State.helloVersion (s : State) (b : List Byte) : Option Nat :=
  let ok (v : Nat) : Bool := decide (beAt b 1 1 ≤ v ∧ v ≤ beAt b 0 1)
  if ok 3 && decide (3 ≤ s.fld Reg.KCT_CFG 27 24) then some 3
  else if ok 2 && s.flag Reg.KCT_CFG 31 then some 2
  else none

/-- The features accepted (R273). -/
def State.helloFeatures (s : State) (version : Nat) (peer : Bool) (asked : Nat) : Word :=
  BitVec.ofNat 32 ((asked &&& 0b01110) + (if version = 3 ∧ s.flag Reg.KCT_CFG 30 ∧ bit asked 0 then 1 else 0)
    + (if peer && bit asked 4 then 16 else 0))

/-- The HelloAck of an opened session (R248, R273). -/
def State.sendHelloAck (s : State) (c : Nat) (msgId : BitVec 24) : State :=
  let x := s.sess c
  s.sendSeg c tHelloAck 0 msgId stOK 0 true false
    ([BitVec.ofNat 8 x.version, 0] ++ beBytes 2 x.window ++ beBytes 4 x.features.toNat ++ [x.daltik, 2]
      ++ beBytes 2 x.mtu ++ beBytes 4 (s.reg Reg.GLB_ID).toNat ++ beBytes 4 s.boot.serial.toNat)

/-- Open the session of a Hello and send its HelloAck (R269 step 7, R273, R275). -/
def State.openSession (s : State) (w : WaitingHello) : State :=
  let c := w.hdr.client.toNat
  let x := s.ctx c
  let b := w.plain
  let (seq, s1) := s.draw (2 ^ 32)
  let y : Session :=
    { state := .opened, epoch := w.hdr.epoch, version := w.version
      features := s.helloFeatures w.version x.peer (beAt b 4 4)
      daltik := if x.peer then BitVec.ofNat 8 (beAt b 8 1 % 4) else 0
      mtu := min (beAt b 10 2) (s.mtu w.mac), window := s.fld Reg.KCT_CFG 15 0
      ip := helloIp b, v6 := helloV6 b, port := beAt b 12 2, primary := w.mac, current := w.mac
      peerMac := w.peers, ecnEcho := w.ce
      txPhase := w.hdr.keyPhase, firstRx := w.hdr.seq, txNext := seq, txFirst := seq, acked := seq
      rxNext := w.hdr.seq.toNat + 1, rto := s.rtoBase
      rate := min (max (s.fld Reg.KCT_CC_RATE 31 16) (s.fld Reg.KCT_CC_RATE 15 0)) (10 * s.macRate w.mac) * 256 }
  let s2 := (s1.setCtx c { x with sess := y, waiting := none }).resetPolicer c true
  let s3 := s2.setEsess c { s2.esess c with e := s2.fullE c }
  (s3.sendHelloAck c w.hdr.msgId).raise 0x2001 (16 * c + w.hdr.epoch.toNat)

/-- Refuse a Hello (R269): event 0x2004 and a HelloAck with the status and SEQ 0. What R273 gives only a HelloAck with status OK
is open here: the version, WINDOW, the bits of FEATURES and DALTIK that mean something, CREDITS, MTU and CUM_ACK. -/
def State.refuseHello (s : State) (m : Nat) (sa : BitVec 48) (hdr : BaseHeader) (b : List Byte) (status : Nat) : State :=
  let c := hdr.client.toNat
  let (v, s1) := s.draw 256
  let (window, s2) := s1.draw (2 ^ 16)
  let (features, s3) := s2.draw 32
  let (daltik, s4) := s3.draw 4
  let (credits, s5) := s4.draw 256
  let (mtu, s6) := s5.draw (2 ^ 16)
  let (cum, s7) := s6.draw (2 ^ 32)
  let body := [BitVec.ofNat 8 v, 0] ++ beBytes 2 window ++ beBytes 4 features ++ [BitVec.ofNat 8 daltik, BitVec.ofNat 8 credits]
    ++ beBytes 2 mtu ++ beBytes 4 (s.reg Reg.GLB_ID).toNat ++ beBytes 4 s.boot.serial.toNat
  let g : TxSeg :=
    { client := c, epoch := hdr.epoch, ext := 0, sequenced := true
      hdr := { hdr with
        ar := false, rt := false, type := BitVec.ofNat 8 tHelloAck, seq := 0, cumAck := BitVec.ofNat 32 cum, sack := 0
        ecnEcho := false, segIndex := 0, last := true, status := BitVec.ofNat 8 status
        payloadLen := BitVec.ofNat 16 body.length, credit := 0 }
      plain := body, box := none, cls := s.classOf c tHelloAck, retx := false
      dest := some { mac := m, da := sa, ip := helloIp b, v6 := helloV6 b, port := beAt b 12 2 } }
  ({ s7 with kct := { s7.kct with gcm := s7.kct.gcm ++ [g] } }).raise 0x2004 (16 * c + hdr.epoch.toNat) status

/-- The checks of steps 5 and 6 (R269, R754): the refusing status, or the version. -/
def State.helloCheck (s : State) (m : Nat) (hdr : BaseHeader) (b : List Byte) : Except Nat Nat :=
  let x := s.ctx hdr.client.toNat
  if !x.enable || (x.sess.initiator && x.sess.bound) || decide (beAt b 2 1 ≠ bitNat x.peer) || !s.hasIp m (helloV6 b)
      || (s.boot.stage == .limited && !x.manager) then .error stAuthFail
  else match s.helloVersion b with
    | some v => .ok v
    | none => .error stVersionUnsupported

/-- A duplicate Hello of a session whose opening waits (R270): it is discarded, but for where it came from and its CE mark
(R194, R301). -/
def State.waitingHello (s : State) (c m : Nat) (sa : BitVec 48) (ce : Bool) (w : WaitingHello) : State :=
  (s.setCtx c { s.ctx c with
    waiting := some { w with peers := tabSet (fun _ => none) w.peers m (some sa), ce := w.ce || ce } }).count Reg.KCT_RX_DUP

/-- A duplicate Hello of an open or closing session (R194, R270, R284, R301): the HelloAck again, or an Ack. -/
def State.repeatedHello (s : State) (c m : Nat) (sa : BitVec 48) (ce : Bool) (hdr : BaseHeader) : State :=
  let x := s.sess c
  let s1 := s.setSess c { x with peerMac := tabSet (fun _ => none) x.peerMac m (some sa), ecnEcho := x.ecnEcho || ce }
  if x.helloAcked then (s1.count Reg.KCT_RX_DUP).sendAck c
  else (s1.countKey c hdr.keyPhase false).retransmit c x.txFirst

/-- A verified Hello of sound form (R269 steps 2 to 7, R270, R271); `ce` is its CE mark. Every Hello that verifies counts under
R284 but one that R287 discards as a duplicate. -/
def State.takeHello (s : State) (m : Nat) (sa : BitVec 48) (ce : Bool) (hdr : BaseHeader) (b : List Byte) : State :=
  let c := hdr.client.toNat
  let x := s.ctx c
  let waits := match x.waiting with | some w => w.hdr.epoch == hdr.epoch && w.hdr.seq == hdr.seq | none => false
  let k := x.key hdr.keyPhase
  if waits then
    (match x.waiting with
     | some w => (s.waitingHello c m sa ce w).countKey c hdr.keyPhase false
     | none => s)
  else if x.sess.live && !x.sess.initiator && x.sess.epoch == hdr.epoch && x.sess.firstRx == hdr.seq then
    s.repeatedHello c m sa ce hdr
  else if k.used.getLsbD hdr.epoch.toNat then
    ((s.count Reg.KCT_HELLO_REPLAY).raise 0x2005 (16 * c + hdr.epoch.toNat)).countKey c hdr.keyPhase false
  else
    let s1 := s.setCtx c (x.setKey hdr.keyPhase { k with used := k.used ||| BitVec.ofNat 16 (2 ^ hdr.epoch.toNat) })
    match s1.helloCheck m hdr b with
    | .error st => (s1.refuseHello m sa hdr b st).countKey c hdr.keyPhase false
    | .ok v =>
      let w : WaitingHello :=
        { hdr := hdr, plain := b, mac := m, peers := tabSet (fun _ => none) [] m (some sa), version := v, ce := ce }
      let s2 := s1.deadSession c
      let s3 :=
        if (s2.ctx c).sweeping then s2.setCtx c { s2.ctx c with waiting := some w } else s2.openSession w
      s3.countKey c hdr.keyPhase false

/-- A Hello's frame: verification and form (R223, R225, R269 step 1, R272). -/
def State.hello (s : State) (m : Nat) (f : EthFrame) (hdr : BaseHeader) (box : Sealed) : State :=
  if f.udpLen ≠ 48 + hdr.payloadLen.toNat then s.count Reg.KCT_RX_MALFORMED
  else if hdr.version ≠ 2 ∧ hdr.version ≠ 3 then s.count Reg.KCT_RX_BADVER
  else if !s.verifies hdr.client.toNat false hdr box hdr.seq.toNat then (s.cryCount 5 1).count Reg.KCT_RX_AUTHFAIL
  else if hdr.segIndex ≠ 0 ∨ !hdr.last ∨ hdr.payloadLen ≠ 32 ∨ hdr.channel ≠ 0 ∨ 1 < beAt box.plain 2 1 then
    ((s.cryCount 5 1).count Reg.KCT_RX_MALFORMED).countKey hdr.client.toNat hdr.keyPhase false
  else (s.cryCount 5 1).takeHello m f.sa (match f.ip with | some h => h.ce | none => false) hdr box.plain

/-- KCT messages are answered: in Ready and in Limited, while a warm reset drains too (R107, R121, R124). Before that a KCT frame
stays in the receive buffer (DESIGN CHOICE, log 201). -/
def Boot.answers (b : Boot) : Bool := b.stage == .ready || b.stage == .limited

/-- The next KCT frame of a MAC's port, where it came on that MAC and is of a kind that `p` names (R216). -/
def kctRow (mac : Nat) (p : Nat → Bool) (f : State → EthFrame → BaseHeader → Sealed → State) (s : State) :
    Host.Outcome State Fault Refusal :=
  match s.takeKct mac with
  | none => .next s
  | some (e, t) =>
    match e.frame.body with
    | .kct hdr box => needing 5 (p hdr.type.toNat && s.boot.answers) s (f t e.frame hdr box)
    | _ => .next s

/-- HELLO (R269). -/
def execHello (mac : Nat) (s : State) : Host.Outcome State Fault Refusal :=
  kctRow mac (· == tHello) (fun t f hdr box => t.hello mac f hdr box) s

/-- SESSION_OPEN_DEFERRED: the old session's handling has ended and the waiting session opens (R271, R399). -/
def execSessionOpenDeferred (client : BitVec 12) (s : State) : Host.Outcome State Fault Refusal :=
  let c := client.toNat
  match (s.ctx c).waiting with
  | none => .next s
  | some w => needing 5 (!(s.ctx c).sweeping && !(s.sess c).bound) s (s.openSession w)

/-! ### Delivery (R257 to R261, R287 to R290) -/

/-- How the segments at the head of a channel stand: more are awaited, a whole message, or a message to discard. -/
inductive Assembly where
  | wait
  | whole (l : List RxSeg)
  | broken (l : List RxSeg) (reason : Nat)
  deriving DecidableEq, Repr

/-- Follow a message's segments along the channel (R257, R259, R260); every sequence below `next` has been received. A message to
discard comes with the reason of its ErrorResp: a 129th segment exceeds the size of any message. -/
def assemble (next : Nat) (acc : List RxSeg) : List RxSeg → Assembly
  | [] => .wait
  | g :: r =>
    let same := match acc.head? with | some a => a.hdr.msgId == g.hdr.msgId | none => true
    if acc.length = 128 ∧ same = true then (if g.ext < next then .broken (acc ++ [g]) 6 else .wait)
    else if g.hdr.segIndex.toNat ≠ acc.length ∨ !same then
      if g.ext < next then .broken (if same then acc ++ [g] else acc) 4 else .wait
    else if g.hdr.last then .whole (acc ++ [g])
    else if g.plain.length % 64 ≠ 0 then .broken (acc ++ [g]) 4
    else assemble next (acc ++ [g]) r

/-- Mark received segments as done. -/
def markDone (l : List RxSeg) (held : List RxSeg) : List RxSeg :=
  held.map fun g => if l.any (·.ext == g.ext) then { g with done := true, plain := [] } else g

/-- The body of the EvacAck that answers an EvacData: REGION, and PAGE without its reserved bits (R226, R255). -/
def evacAckBody (b : List Byte) : List Byte := b.take 2 ++ [0, 0] ++ beBytes 8 (beAt b 4 8 % 2 ^ 34)

/-- A delivered request passes stage 3 (R701 to R705): it is answered, or enters the pipeline with its colour. -/
def State.intoPipeline (s : State) (m : InMsg) : State :=
  let busy (t : State) (us : Nat) : State :=
    if m.type = tEvacData then
      t.reply m.client m.epoch tEvacAck m.msgId stBusy (evacAckBody m.body)
    else t.complete m.client m.epoch m.msgId stBusy us
  match s.stage3 m.client m.type m.body with
  | some us => busy s us
  | none =>
    let b := policeSize m.type m.body
    let exempt := isEviction m.type || (m.type != tEvacData && bits m.credit.toNat 15 14 == 1)
    match s.police m.client b exempt with
    | (s1, .red) => busy s1 (s.redInfo m.client b)
    | (s1, col) =>
      { s1 with kct := { s1.kct with delivered := s1.kct.delivered ++ [{ m with yellow := col == .yellow }] } }

/-- Deliver one whole message (R230, R243, R289, R726). -/
def State.deliver (s : State) (c : Nat) (l : List RxSeg) : State :=
  match l.head? with
  | none => s
  | some g =>
    let x := s.sess c
    let body := l.flatMap (·.plain)
    let t := g.hdr.type.toNat
    let m : InMsg :=
      { client := c, epoch := x.epoch, type := t, msgId := g.hdr.msgId, credit := g.hdr.credit
        status := g.hdr.status.toNat, body := body, yellow := false }
    match parseError x g.hdr.channel.toNat t (decide (1 < l.length)) g.hdr.credit body with
    | some (reason, detail) => s.errorResp c x.epoch g.hdr.msgId t reason detail
    | none =>
      if isRequest t then (s.wakeEvent 5).intoPipeline m
      else { s with kct := { s.kct with delivered := s.kct.delivered ++ [m] } }

/-- Deliver what a channel has ready, in order; the first argument bounds the messages (R260, R289). -/
def State.deliverChan (c ch : Nat) : Nat → State → State
  | 0, s => s
  | n + 1, s =>
    let x := s.sess c
    let l := x.rxHeld.filter fun g => !g.done && g.hdr.channel.toNat == ch
    match l.head? with
    | none => s
    | some g =>
      let put (t : State) (d : List RxSeg) : State :=
        let y := t.sess c
        t.setSess c { y with rxHeld := markDone d y.rxHeld }
      let dropId (t : State) (id : Option (BitVec 24)) : State :=
        let y := t.sess c
        t.setSess c { y with discard := tabSet (fun _ => none) y.discard ch id }
      if x.rxNext ≤ g.ext then s
      else if g.hdr.segIndex ≠ 0 ∧ tabGet (fun _ => none) x.discard ch = some g.hdr.msgId then
        State.deliverChan c ch n ((dropId (put s [g]) (if g.hdr.last then none else some g.hdr.msgId)))
      else
        match assemble x.rxNext [] l with
        | .wait => s
        | .whole d => State.deliverChan c ch n ((dropId (put s d) none).deliver c d)
        | .broken d reason =>
          let h := d.head?.getD g
          let isLast := match d.getLast? with | some z => z.hdr.last | none => true
          State.deliverChan c ch n
            ((dropId (put s d) (if isLast then none else some h.hdr.msgId)).errorResp c x.epoch h.hdr.msgId
              h.hdr.type.toNat reason 0)

/-- The next sequence not received, from `next` on, of those held. -/
def advance : Nat → Nat → List RxSeg → Nat
  | 0, next, _ => next
  | n + 1, next, l => if l.any (·.ext == next) then advance n (next + 1) l else next

/-- Segments that no longer need to be remembered are dropped. -/
def trimHeld (next : Nat) (l : List RxSeg) : List RxSeg := l.filter fun g => !(g.done && decide (g.ext < next))

/-- Deliver what is ready on every channel of a session. -/
def State.deliverAll (s : State) (c : Nat) : State :=
  let n := (s.sess c).rxHeld.length
  let s1 := [0, 1, 2, 3].foldl (fun t ch => State.deliverChan c ch n t) s
  let x := s1.sess c
  s1.setSess c { x with rxHeld := trimHeld x.rxNext x.rxHeld }

/-- Enter an accepted segment; one that transport control takes on arrival is done at once (R287, R289). -/
def State.holdSeg (s : State) (c ext : Nat) (hdr : BaseHeader) (plain : List Byte) (done : Bool) : State :=
  let x := s.sess c
  let held := insertBy (·.ext) { ext := ext, hdr := hdr, plain := if done then [] else plain, done := done } x.rxHeld
  s.setSess c { x with rxHeld := held, rxNext := advance held.length x.rxNext held, unacked := x.unacked + 1 }

/-- A dropped segment is counted; one that reached a GCM engine is counted there too (R223, R524). -/
def State.dropSeg (s : State) (r : Nat) : State :=
  (if r = Reg.KCT_RX_MALFORMED ∨ r = Reg.KCT_RX_BADVER then s else s.cryCount 5 1).count r

/-- Message bytes of a session that wait in reassembly. -/
def Session.heldBytes (x : Session) : Nat := (x.rxHeld.map (·.plain.length)).sum

/-- ACK_COUNT (R290). -/
def State.ackCount (s : State) : Nat := s.fld Reg.KCT_ACK_CFG 31 24

/-- A Nak for the first missing sequence (R248, R292). -/
def State.sendNak (s : State) (c reason : Nat) : State :=
  s.sendSeg c tNak 0 0 0 0 true false (beBytes 4 ((s.sess c).rxNext % 2 ^ 32) ++ [BitVec.ofNat 8 reason, 0, 0, 0])

/-- What sequenced segments have in common (R287, R290, R292): dropped, a duplicate, beyond the window, without room for
reassembly, or accepted and taken by `act`; an Ack goes at once for AR, a duplicate, a segment beyond a gap, or ACK_COUNT. -/
def State.sequenced (s : State) (m : Nat) (f : EthFrame) (hdr : BaseHeader) (box : Sealed) (done : Bool)
    (act : State → Nat → State) : State :=
  let c := s.ctxOf hdr box
  match s.checkSeg c f hdr box with
  | .drop r => s.dropSeg r
  | .good ext =>
    let s := s.cryCount 5 1
    let x := s.sess c
    if x.opening then s.count Reg.KCT_RX_NOSESSION
    else if ext < x.rxNext ∨ x.rxHeld.any (·.ext == ext) then
      ((s.verified c m f hdr false).count Reg.KCT_RX_DUP).sendAck c
    else if x.rxNext - 1 + x.window < ext then (s.verified c m f hdr true).count Reg.KCT_RX_WINDOW
    else
      let s1 := s.verified c m f hdr true
      if !done && decide (Config.reassembly < x.heldBytes + box.plain.length) then s1.sendNak c 2
      else
        let s2 := s1.holdSeg c ext hdr box.plain done
        let full := decide (s.ackCount ≤ (s2.sess c).unacked)
        let s3 := if hdr.ar || decide (x.rxNext < ext) || full then s2.sendAck c else s2
        (act s3 c).deliverAll c

/-- SEGMENT_RECEIVE (R287): every sequenced segment but Hello and Close, and a HelloAck that answers no Hello of ours. -/
def execSegmentReceive (mac : Nat) (s : State) : Host.Outcome State Fault Refusal :=
  kctRow mac (fun t => !isControl t && t != tHello && t != tClose && t != tHelloAck)
    (fun t f hdr box => t.sequenced mac f hdr box false (fun u _ => u)) s

/-! ### Ack, Keepalive, Nak (R278, R281, R290 to R292) -/

/-- Why an Ack, Keepalive or Nak is answered ErrorResp: a channel other than 0, a length other than its header's, or a reserved
REASON (R230, R243, R248). -/
def controlError (hdr : BaseHeader) (b : List Byte) : Option (Nat × Nat) :=
  if hdr.channel ≠ 0 then some (2, 0)
  else if hdr.segIndex ≠ 0 ∨ !hdr.last ∨ b.length ≠ (if hdr.type.toNat = tNak then 8 else 0) then some (3, 0)
  else if hdr.type.toNat = tNak ∧ beAt b 4 1 ≠ 1 ∧ beAt b 4 1 ≠ 2 then some (5, 4)
  else none

/-- A control segment: refused unless its count exceeds every count accepted, and otherwise taken by `act`. -/
def State.control (s : State) (m : Nat) (f : EthFrame) (hdr : BaseHeader) (box : Sealed) (act : State → Nat → State) :
    State :=
  let c := s.ctxOf hdr box
  match s.checkSeg c f hdr box with
  | .drop r => s.dropSeg r
  | .good ext =>
    let s := s.cryCount 5 1
    let x := s.sess c
    if x.opening then s.count Reg.KCT_RX_NOSESSION
    else if ext < x.ctrlRx then s.verified c m f hdr false
    else
      let s1 := s.verified c m f hdr true
      let s2 := s1.setSess c { s1.sess c with ctrlRx := ext + 1 }
      match controlError hdr box.plain with
      | some (reason, detail) => s2.errorResp c hdr.epoch hdr.msgId hdr.type.toNat reason detail
      | none => act (if hdr.ar then s2.sendAck c else s2) c

/-- ACK_RECEIVE (R281). -/
def execAckReceive (mac : Nat) (s : State) : Host.Outcome State Fault Refusal :=
  kctRow mac (· == tAck) (fun t f hdr box => t.control mac f hdr box (fun u _ => u)) s

/-- KEEPALIVE_RECEIVE (R291). -/
def execKeepaliveReceive (mac : Nat) (s : State) : Host.Outcome State Fault Refusal :=
  kctRow mac (· == tKeepalive) (fun t f hdr box => t.control mac f hdr box (fun u _ => u)) s

/-- A Nak: the named segment again, unless it is acknowledged or was retransmitted within RTO_BASE (R292). -/
def State.takeNak (s : State) (c : Nat) (b : List Byte) : State :=
  let s1 := s.count Reg.KCT_RX_NAK
  let x := s1.sess c
  match x.replay.find? fun r => r.seg.hdr.seq.toNat == beAt b 0 4 with
  | some r => if r.sent && !r.sacked && s1.retxAllowed r then s1.retransmit c r.seg.ext else s1
  | none => s1

/-- NAK_RECEIVE (R292). -/
def execNakReceive (mac : Nat) (s : State) : Host.Outcome State Fault Refusal :=
  kctRow mac (· == tNak) (fun t f hdr box => t.control mac f hdr box (fun u c => u.takeNak c box.plain)) s

/-! ### Closing (R302, R304) -/

/-- Every request of a session that has been delivered is complete (R302 step 1). -/
def State.answeredAll (s : State) (c : Nat) : Bool :=
  let e := (s.sess c).epoch
  !(s.kct.delivered.any fun m => m.client == c) && !(s.mgmt.jobs.any fun j => j.client == c && j.epoch == e.toNat)
    && !(s.coh.flights.any fun f => f.client == c && f.epoch == e && f.stage != .ackWait)
    && !(s.coh.bulks.any fun b => b.client == c && b.epoch == e)

/-- The device's own Close goes once the delivered requests are complete (R302 step 2). -/
def State.closeBack (s : State) (c : Nat) : State :=
  let x := s.sess c
  if x.closeGot && s.answeredAll c then
    let t := s.sendClose c 0
    t.setSess c { t.sess c with closeReason := x.closeReason }
  else s

/-- A Close arrives (R302). -/
def State.takeClose (s : State) (c reason : Nat) : State :=
  let x := s.sess c
  if x.closeGot then s
  else
    let s1 := s.setSess c { x with
      state := .closing, closeGot := true, closeReason := if x.closeSent then x.closeReason else reason }
    s1.closeBack c

/-- CLOSE_RECEIVE (R302). -/
def execCloseReceive (mac : Nat) (s : State) : Host.Outcome State Fault Refusal :=
  kctRow mac (· == tClose) (fun t f hdr box =>
    t.sequenced mac f hdr box true (fun u c =>
      if hdr.channel ≠ 0 then u.errorResp c hdr.epoch hdr.msgId tClose 2 0
      else if box.plain.length ≠ 4 ∨ hdr.segIndex ≠ 0 ∨ !hdr.last then u.errorResp c hdr.epoch hdr.msgId tClose 3 0
      else if 5 < beAt box.plain 0 1 then u.errorResp c hdr.epoch hdr.msgId tClose 5 0
      else u.takeClose c (beAt box.plain 0 1))) s

/-- All segments of a session are acknowledged, and the Close that it has received as well (R302). -/
def State.drained (s : State) (c : Nat) : Bool :=
  (s.sess c).replay.isEmpty && !(s.kct.gcm.any (·.client == c)) && !(s.kct.stage11.any (·.client == c))
    && (s.esess c).queue.isEmpty && (!(s.sess c).closeGot || (s.sess c).unacked == 0)

/-- SESSION_END: a closing session's segments are all acknowledged, or with `timeout` DEAD_TIME has passed (R302). The
device's own Close is sent first where the delivered requests have only now completed. -/
def execSessionEnd (client : BitVec 12) (timeout : Bool) (s : State) : Host.Outcome State Fault Refusal :=
  let c := client.toNat
  let x := s.sess c
  let done := timeout || (x.closeSent && s.answeredAll c && s.drained c)
  guarded (s.up 5 && x.state == .closing) s
    (if done then (s.raise 0x2002 x.closeReason).sessionGone c .none else s.closeBack c)

/-- SESS_CTRL_CLOSE (R304): Close with REASON 5. -/
def execSessCtrlClose (client : BitVec 12) (s : State) : Host.Outcome State Fault Refusal :=
  commanding 5 true s (s.sendClose client.toNat 5).wrote

/-- SESS_CTRL_SWITCH (R282). -/
def execSessCtrlSwitch (client : BitVec 12) (s : State) : Host.Outcome State Fault Refusal :=
  let c := client.toNat
  let x := s.ctx c
  commanding 5 true s
    (if x.sess.live && (x.key (!x.sess.txPhase)).valid then s.movePhase c (!x.sess.txPhase) else s).wrote

/-! ### Timers (R284, R290, R292, R294 to R298) -/

/-- ACK_SEND (R290). -/
def execAckSend (client : BitVec 12) (s : State) : Host.Outcome State Fault Refusal :=
  let c := client.toNat
  guarded (s.up 5 && (s.sess c).live && decide (0 < (s.sess c).unacked)) s (s.sendAck c)

/-- NAK_DELAY_EXPIRE (R292). -/
def execNakDelayExpire (client : BitVec 12) (s : State) : Host.Outcome State Fault Refusal :=
  let c := client.toNat
  let x := s.sess c
  guarded (s.up 5 && x.live && x.rxHeld.any fun g => decide (x.rxNext < g.ext)) s
    (s.sendNak c 1)

/-- The oldest unacknowledged sequenced segment that has been sent (R294), or has been held back for want of a destination
(DESIGN CHOICE, log 37). -/
def Session.oldest (x : Session) : Option Replay := x.replay.find? fun r => (r.sent || r.held) && !r.sacked

/-- RETX_MAX (R295). -/
def State.retxMax (s : State) : Nat := s.fld Reg.KCT_DEAD 31 24

/-- RETRANSMIT_TIMEOUT (R294, R295). -/
def execRetransmitTimeout (client : BitVec 12) (s : State) : Host.Outcome State Fault Refusal :=
  let c := client.toNat
  let x := s.sess c
  match x.oldest with
  | none => .next s
  | some r =>
    guarded (s.up 5 && x.bound) s
      (if s.retxMax ≤ r.count then s.deadSession c
       else
         let s1 := s.retransmit c r.seg.ext
         let y := s1.sess c
         s1.setSess c { y with rto := min (2 * y.rto) s.rtoMax })

/-- DEAD_TIME_EXPIRE (R295). -/
def execDeadTimeExpire (client : BitVec 12) (s : State) : Host.Outcome State Fault Refusal :=
  let c := client.toNat
  guarded (s.up 5 && (s.sess c).bound && (s.sess c).oldest.isSome) s (s.deadSession c)

/-- KEEPALIVE_TIMER (R297). -/
def execKeepaliveTimer (client : BitVec 12) (s : State) : Host.Outcome State Fault Refusal :=
  let c := client.toNat
  guarded (s.up 5 && (s.sess c).live && s.fld Reg.KCT_KEEPALIVE 15 0 != 0) s
    (s.sendSeg c tKeepalive 0 0 0 0 true true [])

/-- REKEY_GRACE_EXPIRE (R284). -/
def execRekeyGraceExpire (client : BitVec 12) (s : State) : Host.Outcome State Fault Refusal :=
  let c := client.toNat
  guarded (s.up 5 && (s.sess c).live && (s.sess c).rekeyDue) s ((s.sendClose c 3).raise 0x2008 (s.sessId c))

/-- RATE_INCREASE (R298): the end of an RTT. -/
def execRateIncrease (client : BitVec 12) (s : State) : Host.Outcome State Fault Refusal :=
  let c := client.toNat
  let x := s.sess c
  let r := min (x.rate + s.fld Reg.KCT_CC_CFG 15 0 * 256) (10 * s.macRate x.current * 256)
  guarded (s.up 5 && x.live) s
    (s.setSess c { x with rate := if x.waited && !x.lowered then r else x.rate, waited := false, lowered := false })

/-- SNOOP_TIMEOUT (R380): a client with an open session has not answered a request's snoop. -/
def execSnoopTimeout (flight : Nat) (client : BitVec 12) (s : State) : Host.Outcome State Fault Refusal :=
  let c := client.toNat
  match s.flight? flight with
  | none => .next s
  | some f =>
    guarded (s.up 5 && s.up 7 && (s.sess c).live && f.snoops.any fun x => x.client == c && x.result.isNone && !x.wbWait) s
      ((s.raise 0x5004 c).deadSession c)

/-! ### The GCM engines (R222, R284, R515) -/

/-- GCM engines that can take a segment (R514, R516). -/
def State.gcmEngines (s : State) : List Nat :=
  (List.range 12).filter fun k => !s.flag Reg.CRY_GCM_OOS k && (!s.drowsy || s.flag Reg.CRY_DROWSY_KEEP k)

/-- A segment leaves its engine verified: sealed, counted, and handed to stage 11. -/
def State.gcmDone (s : State) (g : TxSeg) : State :=
  let h := { g with box := some (s.sealSeg g) }
  ((s.cryCount 4 1).countKey g.client g.hdr.keyPhase true).place h

/-- GCM_SEGMENT_VERIFY (R515): the next segment built is encrypted by an engine and verified there; `fails` are the engines
whose verification failed, in order. After three of them, or all that can take a segment, it is not sent and its session is
dead. -/
def execGcmSegmentVerify (fails : List Nat) (s : State) : Host.Outcome State Fault Refusal :=
  match s.kct.gcm with
  | [] => .next s
  | g :: rest =>
    let s1 := { s with kct := { s.kct with gcm := rest } }
    let s2 := (fails.take 3).foldl (fun t k => (t.engineFail (12 + k)).cryCount 6 1) s1
    let here := (s.sess g.client).bound && (s.sess g.client).epoch == g.epoch
    needing 11 (s.up 5 && fails.Nodup && (fails.take 3).all s.gcmEngines.contains) s
      (if fails.length < min 3 s.gcmEngines.length then s2.gcmDone g
       else
         let s3 := s2.raise 0x800A g.client
         if here && g.dest.isNone then s3.deadSession g.client else s3)

end Sys2Proof.Machine
end

