-- ==== Sys2Proof/Machine/OpSlots.lean ====
section
/-! DEFINITION. Operation slots (R161 to R173, R748 to R756): starting, admission, suspension, cancelling and how operations
end. -/

namespace Sys2Proof.Machine

open Sys2Proof

/-! ### The Start check (R168, R322, R748, R749) -/

/-- An argument of an operation. -/
def OpSlot.arg (o : OpSlot) (i : Nat) : Word := if i = 0 then o.arg0 else if i = 1 then o.arg1 else if i = 2 then o.arg2 else o.arg3

/-- RETIRE's kind. -/
def OpSlot.kind (o : OpSlot) : Nat := bits o.arg0.toNat 1 0

/-- The bits that R749 names in each argument. -/
def OpSlot.named (o : OpSlot) : List Word :=
  if o.code = opEvacuate then [0xFFFFFFFF, 0x00130FFF, 0xFF, 0]
  else if o.code = opMigrate then [0xFFFFF, 0xFFFFFFFF, 3, 0xFFFFFFFF]
  else if o.code = opThin ∨ o.code = opDrain then [7, 0, 0, 0]
  else if o.code = opRekey then [0xFFFF, 0xFFF, 0, 0]
  else if o.code = opErase then [0xFFFF, 0, 0, 0]
  else if o.code = opMarch then [0x1FF, 1, 0, 0]
  else if o.code = opScrub then [0xFF, 0xFFFF, 0, 0]
  else if o.code = opRetrain then [0xF, 0, 0, 0]
  else if o.code = opRetire then
    (if o.kind = 1 then [3, 0x37F7, 0, 0] else if o.kind = 2 then [3, 0x00FF01FF, 0, 0] else [3, 0xFFFFFFFF, 0xF, 0])
  else if o.code = opResize then [0xFFFF, 0xFFFFFFFF, 3, 0]
  else [0xFFFF, 7, 0, 0]

/-- Operations that name a region of this device. -/
def OpSlot.namesRegion (o : OpSlot) : Bool :=
  [opEvacuate, opMigrate, opRekey, opErase, opResize, opImport].contains o.code

/-- Slot index of RETIRE kind 0, bank and region of kind 2, peer entry of IMPORT_REGION. -/
def OpSlot.slotIndex (o : OpSlot) : Nat := o.arg1.toNat + bits o.arg2.toNat 3 0 * 2 ^ 32
def OpSlot.sramRegion (o : OpSlot) : Nat × Nat := (bits o.arg1.toNat 8 0, bits o.arg1.toNat 23 16)
def OpSlot.peerEntry (o : OpSlot) : Nat := bits o.arg1.toNat 2 0

/-- The client ID of an evacuation's session, and its window. -/
def OpSlot.evacClient (o : OpSlot) : Nat := bits o.arg1.toNat 11 0
def OpSlot.evacWindow (o : OpSlot) : Nat := if o.arg2 = 0 then 32 else bits o.arg2.toNat 7 0

/-- The argument whose value is out of the range of R749, or names something absent (R748). -/
def State.badValue (s : State) (o : OpSlot) : Option Nat :=
  let r := s.region o.region
  let stand := bits o.arg0.toNat 2 0
  if o.namesRegion && (!r.valid || r.state != 0) then some 0
  else if o.code = opEvacuate then
    (if bits o.arg1.toNat 17 16 = 3 then some 1 else if 128 < o.arg2.toNat then some 2 else none)
  else if o.code = opMigrate then
    (if bits o.arg0.toNat 19 16 < 3 ∨ 5 < bits o.arg0.toNat 19 16 then some 0
     else if r.pageCount ≤ o.migrateFirst then some 1
     else if r.pageCount < o.migrateFirst + o.arg3.toNat then some 3
     else none)
  else if o.code = opThin ∨ o.code = opDrain then (if (s.stand stand).present then none else some 0)
  else if o.code = opMarch then (if 368 ≤ bits o.arg0.toNat 8 0 then some 0 else none)
  else if o.code = opScrub then
    (if o.scrubStands.any fun k => !(s.stand k).present then some 0
     else if (List.range 16).any fun n => bit o.arg1.toNat n && !s.chanList.contains n then some 1
     else none)
  else if o.code = opRetrain then (if s.chanList.contains (bits o.arg0.toNat 3 0) then none else some 0)
  else if o.code = opRetire then
    (if o.kind = 3 then some 0
     else if o.kind = 0 then (if s.slotExists o.slotIndex then none else some 1)
     else if o.kind = 1 then
       let (k, n, _) := o.retireBank
       (if (s.stand k).present && s.chanList.contains n then none else some 1)
     else
       let (b, q) := o.sramRegion
       (if 368 ≤ b ∨ bankRegions b ≤ q then some 1 else none))
  else if o.code = opImport then (if s.flag (Reg.MGT_PEER_CFG o.peerEntry) 31 then none else some 1)
  else if o.code = opResize then (if o.newCount = 0 ∨ o.newCount = r.pageCount then some 1 else none)
  else none

/-- The first argument that the Start check rejects (R748). -/
def State.badArg (s : State) (o : OpSlot) : Option Nat :=
  match (List.range 4).find? fun i => o.arg i &&& ~~~(o.named.getD i 0) != 0 with
  | some i => some i
  | none => s.badValue o

/-- What a Start fails with: result and detail (R168, R322). -/
def State.startCheck (s : State) (o : OpSlot) (who : Option Nat) : Option (Nat × Nat) :=
  if o.code = 0 ∨ 12 < o.code then some (rcBadCode, 0)
  else
    match s.badArg o with
    | some i => some (rcBadArgument, i)
    | none =>
      let may := match who with | some c => (s.grantOf c o.region).any (·.2.manager) | none => false
      if o.namesRegion && !may then some (rcNotPermitted, 0) else none

/-- Start: PROGRESS, TOTAL and RESULT cleared, OWNER set, and Queued or Failed (R163, R168, R169). -/
def State.opStart (s : State) (i : Nat) (who : Option Nat) : State :=
  let o := s.opSlot i
  let used := if o.code = opDrain then (s.stand (bits o.arg0.toNat 2 0)).used else 0
  let o1 : OpSlot :=
    { code := o.code, arg0 := o.arg0, arg1 := o.arg1, arg2 := o.arg2, arg3 := o.arg3, state := .queued
      ownerValid := who.isSome, ownerClient := who.getD 0
      ownerEpoch := match who with | some c => (s.sess c).epoch.toNat | none => 0
      order := s.mgmt.nextOrder, cursor := used }
  let s1 := s.setOp i o1
  let s2 := { s1 with mgmt := { s1.mgmt with nextOrder := s.mgmt.nextOrder + 1 } }
  match s.startCheck o who with
  | none => s2
  | some (result, detail) => (s2.setOp i { o1 with state := .failed, result := result, detail := detail }).raise 0x020A i

/-! ### What an operation holds while it runs, and what Cancel leaves (R163, R164, R721, R750) -/

/-- Votes that an operation holds on its stands. -/
def State.opHold (s : State) (o : OpSlot) : State :=
  if o.code = opThin ∨ o.code = opDrain then
    s.setStand (bits o.arg0.toNat 2 0) { s.stand (bits o.arg0.toNat 2 0) with opVote := true }
  else if o.code = opScrub then
    o.scrubStands.foldl (fun t k => t.setStand k { t.stand k with opVote := true }) s
  else s

/-- The entry of the retired list that RETIRE of kind 0 or 1 adds. -/
def OpSlot.retireEntry (o : OpSlot) : RetireEntry :=
  if o.kind = 0 then .group (o.slotIndex / 16 * 16) else .bank o.retireBank.1 o.retireBank.2.1 o.retireBank.2.2

/-- An entry of the retired list is removed, and the slots that it alone marked are free again (R750). -/
def State.unretire (s : State) (e : RetireEntry) : State :=
  let s1 := { s with tier := { s.tier with retired := s.tier.retired.erase e } }
  let back := s1.tier.marked.filter fun x => !s1.slotRetired x
  let s2 := { s1 with tier := { s1.tier with marked := s1.tier.marked.filter fun x => s1.slotRetired x } }
  s2.freeSlots back

/-- The states of a channel as RETRAIN_CHANNEL keeps them. -/
def chanCode : ChanState → Nat
  | .off => 0
  | .training => 1
  | .ready => 2
  | .recover => 3
  | .failed => 4
def chanOfCode (n : Nat) : ChanState :=
  if n = 0 then .off else if n = 1 then .training else if n = 2 then .ready else if n = 3 then .recover else .failed

/-- A channel back in service brings its ranks to the states of their stands (R555, R721). -/
def State.restoreRanks (s : State) (n : Nat) : State :=
  let s1 := s.wakeRanks n
  s1.presentStands.foldl (fun t k => if (t.stand k).power = 2 then t.enterSelfRefresh n k else t) s1

/-- A training pass is given up: its results are discarded and the channel returns to its state before Start (R750). -/
def State.dropPass (s : State) (n before : Nat) : State :=
  let c := s.chan n
  let clear := (List.range 8).foldl (fun t k => tabSet (fun _ => []) t (24 + k) []) c.settings
  (s.setChan n { c with
    settings := clear, trainHeld := false, state := if c.state = .failed then .failed else chanOfCode before }).setFld (Reg.DRC_TRAIN_STATUS n) 31 31 0

/-- What a cancelled operation takes back (R750). -/
def State.cancelEffects (s : State) (i : Nat) : State :=
  let o := s.opSlot i
  if !o.begun then s
  else if o.code = opDrain then
    s.setStand (bits o.arg0.toNat 2 0) { s.stand (bits o.arg0.toNat 2 0) with draining := false }
  else if o.code = opRetrain then s.dropPass (bits o.arg0.toNat 3 0) o.cursor
  else if o.code = opRetire then (if o.kind ≤ 1 ∧ o.cursor = 1 then s.unretire o.retireEntry else s)
  else if o.code = opResize then
    s.resizeUndo i
  else if o.code = opImport then
    let c := s.fld (Reg.MGT_PEER_CFG o.peerEntry) 27 16
    (if (s.sess c).initiator && (s.sess c).opening then s.sessionGone c .none
     else if (s.sess c).initiator then s.sendClose c 5
     else s)
  else s

/-- A slot becomes Cancelled. -/
def State.opCancelled (s : State) (i : Nat) : State :=
  let s1 := s.cancelEffects i
  ((s1.opRelease (s1.opSlot i)).setOp i { s1.opSlot i with state := .cancelled, result := rcCancelled, detail := 0 }).notifyOp i

/-! ### Slot commands (R167) -/

/-- A command written to a slot by a session, or by none. -/
def State.slotCommand (s : State) (i cmd : Nat) (who : Option Nat) : State :=
  let o := s.opSlot i
  let to_ (x : OpState) : State := s.setOp i { o with state := x, rejected := false }
  let reject := s.setOp i { o with rejected := true }
  if cmd = 1 then (if o.state = .idle ∨ o.state.terminal then s.opStart i who else reject)
  else if cmd = 2 then
    (if o.state = .queued then to_ .suspended else if o.state = .running then to_ .suspending else reject)
  else if cmd = 3 then (if o.state = .suspended then to_ .queued else reject)
  else if cmd = 4 then
    (if o.state = .queued then (to_ .queued).opCancelled i
     else if o.state = .running ∨ o.state = .suspending then to_ .cancelling
     else if o.state = .suspended then (to_ .cancelling).opHold o
     else if o.state.terminal then to_ .idle
     else reject)
  else reject

/-- The session of a client ID, where it is live. -/
def State.whoIs (s : State) (c : Nat) : Option Nat := if (s.sess c).live then some c else none

/-- OP_START. -/
def execOpStart (op : Nat) (client : BitVec 12) (s : State) : Host.Outcome State Fault Refusal :=
  guarded s.live s (s.slotCommand op 1 (s.whoIs client.toNat)).wrote

/-- OP_SUSPEND. -/
def execOpSuspend (op : Nat) (s : State) : Host.Outcome State Fault Refusal := guarded s.live s (s.slotCommand op 2 none).wrote

/-- OP_RESUME. -/
def execOpResume (op : Nat) (s : State) : Host.Outcome State Fault Refusal := guarded s.live s (s.slotCommand op 3 none).wrote

/-- OP_CANCEL. -/
def execOpCancel (op : Nat) (s : State) : Host.Outcome State Fault Refusal := guarded s.live s (s.slotCommand op 4 none).wrote

/-! ### OpCommand (R145, R150, R172, R173, R254) -/

/-- Messages of the management channel. -/
def isMgmt (m : InMsg) : Bool := m.type == tMgmtRead || m.type == tMgmtWrite || m.type == tOpCommand

/-- The next management message, and the state without it; none while another is being executed (R147). -/
def State.takeMgmt (s : State) : Option (InMsg × State) :=
  if s.mgmt.jobs.isEmpty then
    (takeFirst isMgmt s.kct.delivered).map fun (m, l) => (m, { s with kct := { s.kct with delivered := l } })
  else none

/-- A session without the manager right sends a management message (R145). -/
def State.denied (s : State) (c : Nat) : State := (s.count Reg.MGT_ACC_DENIED).raise 0x020B (s.sessId c)

/-- The management lock is held by another session (R150). -/
def State.lockedOut (s : State) (c : Nat) (epoch : BitVec 4) : Bool :=
  s.flag Reg.MGT_MGR_LOCK 31 && !s.namesSess Reg.MGT_MGR_LOCK c epoch

/-- An OpStatus about a slot. -/
def State.sendOpStatus (s : State) (m : InMsg) (slot status : Nat) : State :=
  s.reply m.client m.epoch tOpStatus m.msgId status ((s.opSlot slot).status slot)

/-- A refused OpCommand's OpStatus (R173): about the slot that it names, or, where it names none, with zeros (DEDUCED, log 140). -/
def State.refuseOp (s : State) (m : InMsg) (slot status : Nat) : State :=
  if slot < 32 then s.sendOpStatus m slot status
  else s.reply m.client m.epoch tOpStatus m.msgId status (BitVec.ofNat 8 slot :: List.replicate 15 0)

/-- The command of an OpCommand: as much of its byte as MGT_OP_CMD holds (R165, R172). -/
def opCmd (m : InMsg) : Nat := beAt m.body 1 1 % 16

/-- An OpCommand is carried out on a slot: code and arguments where the slot takes them (R166), with fresh parity (R144), then the
command. -/
def State.opMessage (s : State) (m : InMsg) (i : Nat) : State :=
  let o := s.opSlot i
  let w (k : Nat) : Word := BitVec.ofNat 32 (beAt m.body (4 + 4 * k) 4)
  let cmd := opCmd m
  let free := o.state == .idle || o.state.terminal
  let s1 :=
    if free then
      let t := s.setOp i { o with code := beAt m.body 3 1, arg0 := w 0, arg1 := w 1, arg2 := w 2, arg3 := w 3 }
      { t with mgmt := { t.mgmt with
        parityBad := t.mgmt.parityBad.filter fun a => !decide (0x006040 + 0x40 * i ≤ a ∧ a < 0x006054 + 0x40 * i) } }
    else s
  let s2 := (s1.slotCommand i cmd (some m.client)).sendOpStatus m i stOK
  if free && cmd == 1 && bit (beAt m.body 2 1) 0 then
    let s3 := s2.setOp i { s2.opSlot i with notify := some (m.client, m.msgId) }
    if (s3.opSlot i).state.terminal then s3.notifyOp i else s3
  else s2

/-- OP_COMMAND: the next management message is an OpCommand. -/
def execOpCommand (s : State) : Host.Outcome State Fault Refusal :=
  match s.takeMgmt with
  | none => .next s
  | some (m, t) =>
    let slot := beAt m.body 0 1
    let t1 := t.setReg Reg.MGT_BATCH_COUNT (t.reg Reg.MGT_BATCH_COUNT + 1)
    let u :=
      if !(t.ctx m.client).manager then (t.denied m.client).refuseOp m slot stAccessDenied
      else if t.lockedOut m.client m.epoch then t.refuseOp m slot stAccessDenied
      else if slot < 32 then t1.opMessage m slot
      else if slot = 255 ∧ opCmd m = 1 then
        (match opSlots.find? fun i => (t.opSlot i).state == .idle with
         | some i => t1.opMessage m i
         | none => t1.refuseOp m slot stBusy)
      else t.errorResp m.client m.epoch m.msgId tOpCommand 5 0
    guarded (s.live && m.type == tOpCommand) s u

/-! ### Admission (R162, R163, R322, R451, R518, R522, R656, R749, R752, R756) -/

/-- The engine of an operation has room (R162). -/
def State.engineRoom (s : State) (o : OpSlot) : Bool :=
  let l := (opSlots.map s.opSlot).filter fun x => x.state == .running && opEngine x.code == opEngine o.code
  if opEngine o.code = 0 then decide (l.length < 4)
  else if opEngine o.code ≤ 2 then decide (l.length < 2)
  else !l.any fun x => (s.opDomains x).any fun d => (s.opDomains o).contains d

/-- No operation that holds its keys has a conflicting one (R163). -/
def State.keysFree (s : State) (i : Nat) : Bool :=
  opSlots.all fun j =>
    j == i || !(s.opSlot j).state.holds
      || !(s.opKeys (s.opSlot j)).any fun a => (s.opKeys (s.opSlot i)).any fun b => a.conflicts b

/-- The engine's block accepts new work (R141): TIER, CRY, SRM, or the DRCs of the operation's channels. -/
def State.engineOn (s : State) (o : OpSlot) : Bool :=
  match opEngine o.code with
  | 0 => s.enabled 0x600000
  | 1 => s.enabled 0x800000
  | 2 => s.enabled 0xC00000
  | _ => (s.opDomains o).all fun d => s.enabled (0xA00000 + 0x10000 * (d - 13))

/-- A Queued operation can become Running. -/
def State.admissible (s : State) (i : Nat) : Bool :=
  (s.opSlot i).state == .queued && s.engineRoom (s.opSlot i) && s.engineOn (s.opSlot i) && s.keysFree i

/-- A plot lies in the bitmap area, in a descriptor array or in the new run of a resize. -/
def State.metaPlot (s : State) (p : Nat) : Bool :=
  let (b, n) := s.bitmapArea
  decide (b ≤ p ∧ p < b + n)
    || (s.pipe.regions.any fun e => e.2.valid && decide (e.2.descBase / 256 ≤ p ∧ p < e.2.descBase / 256 + descPlots e.2.pageCount))
    || (opSlots.any fun i =>
      let o := s.opSlot i
      match o.run with | some q => decide (q ≤ p ∧ p < q + descPlots o.newCount) | none => false)

/-- A stand holds the bitmap area or a descriptor array (R451). -/
def State.metaStand (s : State) (k : Nat) : Bool :=
  s.bitmapArea.1 / 2 ^ 25 == k || s.pipe.regions.any fun e => e.2.valid && slotStand e.2.descBase == k

/-- The session of an evacuation: opened by its peer, open, with EVAC (R756). -/
def State.evacSession (s : State) (c : Nat) : Bool :=
  let x := s.sess c
  (s.ctx c).peer && x.state == .opened && !x.initiator && x.feature fEvac

/-- The descriptors that a RESIZE_REGION writes or releases (R752). -/
def State.resizeTotal (s : State) (o : OpSlot) : Nat :=
  let n := (s.region o.region).pageCount
  if o.newCount < n then n - o.newCount
  else if o.newCount ≤ 2048 * descPlots n then o.newCount - n
  else o.newCount

/-- What stops an operation as it is admitted: result and detail. -/
def State.admitError (s : State) (o : OpSlot) : Option (Nat × Nat) :=
  let r := s.region o.region
  let enabled := [opEvacuate, opResize, opImport].contains o.code && (r.enable || r.cachedPages != 0)
  let new := bits o.arg1.toNat 11 0
  if (s.opDomains o).any s.domFailed then some (rcDomainFailed, 0)
  else if enabled then some (rcBadArgument, 0)
  else if o.code = opEvacuate ∧ !s.evacSession o.evacClient then some (rcPeerUnreachable, 0)
  else if o.code = opDrain ∧ s.metaStand (bits o.arg0.toNat 2 0) then some (rcBadArgument, 0)
  else if o.code = opErase ∧ s.keyRefs r.keySlot ≠ 1 then some (rcBadArgument, 0)
  else if o.code = opMarch ∧ !([ownNone, ownSpare, ownMgt].contains (s.bankAt (bits o.arg0.toNat 8 0)).owner) then
    some (rcNotPermitted, 0)
  else if o.code = opRekey then
    if !(s.keySlot new).loaded || new == r.keySlot then some (rcBadArgument, 1)
    else
      match s.rekeyOf o.region with
      | some (_, v) => if v.new = new then none else some (rcBadArgument, 1)
      | none =>
        if s.keyRefs new != 0 || s.rekeyHeld new then some (rcBadArgument, 1)
        else if (List.range 16).all fun k => (s.rekey k).valid then some (rcNoSpace, 0)
        else none
  else none

/-- Plots and single slots that the allocator holds in a stand are given up (R451). -/
def State.closeStand (s : State) (k : Nat) : State :=
  let mine := (s.tier.reserve.flatMap (·.2)).filter fun x => slotStand x == k
  let s1 := { s with tier := { s.tier with
    opened := tabMap (fun _ => none) (fun _ p => p.bind fun x => if x / 2 ^ 25 = k then none else some x) s.tier.opened
    reserve := tabMap (fun _ => []) (fun _ l => l.filter fun x => slotStand x != k) s.tier.reserve } }
  s1.freeSlots mine

/-- The first free rekey record takes a region's rekey (R518). -/
def State.newRekey (s : State) (region old new : Nat) : State :=
  match (List.range 16).find? fun k => !(s.rekey k).valid with
  | some k => s.setRekey k { valid := true, region := region, old := old, new := new, mark := 0 }
  | none => s

/-- TOTAL of an operation as it becomes Running (R749). -/
def State.opTotal (s : State) (o : OpSlot) : Nat :=
  let r := s.region o.region
  let stand := bits o.arg0.toNat 2 0
  if o.code = opEvacuate ∨ o.code = opRekey ∨ o.code = opErase then r.pageCount
  else if o.code = opMigrate then s.migrateCount o
  else if o.code = opThin then (s.stand stand).plots
  else if o.code = opMarch then bankWords (bits o.arg0.toNat 8 0)
  else if o.code = opScrub then s.scrubTotal o
  else if o.code = opRetrain then 8
  else if o.code = opDrain then o.cursor
  else if o.code = opResize then s.resizeTotal o
  else 0

/-- What becoming Running for the first time sets up. -/
def State.opBegin (s : State) (i : Nat) : State :=
  let o := s.opSlot i
  let n := bits o.arg0.toNat 3 0
  let stand := bits o.arg0.toNat 2 0
  let new := bits o.arg1.toNat 11 0
  let s1 := s.setOp i { o with begun := true, total := s.opTotal o }
  if o.code = opRekey then
    (match s.rekeyOf o.region with
     | some (_, v) => s1.setOp i { s1.opSlot i with progress := v.mark }
     | none => s1.newRekey o.region (s.region o.region).keySlot new)
  else if o.code = opRetrain then
    (s1.setOp i { s1.opSlot i with cursor := chanCode (s.chan n).state }).startPass n s.fpNow 0
  else if o.code = opDrain then
    (s1.setStand stand { s1.stand stand with draining := true }).closeStand stand
  else s1

/-- OP_ADMIT: a Queued operation that its engine and its keys allow becomes Running, or fails as it begins. -/
def execOpAdmit (op : Nat) (s : State) : Host.Outcome State Fault Refusal :=
  let o := s.opSlot op
  let first := !opSlots.any fun j => decide ((s.opSlot j).order < o.order) && s.admissible j
  let s1 := (s.setOp op { o with state := .running }).opHold o
  let t :=
    if o.begun then s1
    else
      match s.admitError o with
      | some (result, detail) => s1.opFail op result detail
      | none => s1.opBegin op
  guarded (s.live && s.admissible op && first) s t

/-! ### Suspend points, ends and clean-up (R167, R750) -/

/-- A move of the operation is under way. -/
def State.opMoving (s : State) (i : Nat) : Bool := s.tier.moves.any fun m => m.op == some i

/-- OP_SUSPEND_POINT. -/
def execOpSuspendPoint (op : Nat) (s : State) : Host.Outcome State Fault Refusal :=
  let o := s.opSlot op
  let at_ :=
    if o.code = opEvacuate then o.sent.isEmpty
    else if o.code = opErase then decide (1 ≤ o.cursor)
    else if o.code = opMarch ∨ o.code = opRetrain then false
    else if o.code = opRetire then o.kind != 2 && !s.opMoving op
    else if o.code = opResize then o.progress % 2048 == 0
    else !s.opMoving op
  guarded (s.live && o.state == .suspending && at_) s ((s.opRelease o).setOp op { o with state := .suspended })

/-- Done, with result 0x15 and the count where pages were uncorrectable. -/
def State.opEnds (s : State) (i ue detail : Nat) : State :=
  if 0 < ue then s.opDone' i rcUncorrectable ue else s.opDone' i rcSuccess detail

/-- A page that a drain or a thinning can still move. -/
def State.movableIn (s : State) (k : Nat) (sparse : Bool) (d : Desc) : Bool :=
  d.movable && !d.poison && slotStand d.priSlot == k && (!sparse || !(s.sparsePlots d).isEmpty)

/-- A slot lies in what a RETIRE of kind 0 or 1 names. -/
def State.retireCovers (s : State) (o : OpSlot) (x : Nat) : Bool :=
  match o.retireEntry with
  | .group g => x / 16 == g / 16
  | .bank k n b =>
    let p := s.linePlace (4 * x)
    slotStand x == k && s.slotChan x == n && 4 * p.bg + p.bank == b

/-- The session that an evacuation used is closed, unless another slot names it (R756). -/
def State.evacClose (s : State) (i : Nat) : State :=
  let c := (s.opSlot i).evacClient
  if opSlots.any fun j => j != i && (s.opSlot j).code == opEvacuate && (s.opSlot j).state.active && (s.opSlot j).evacClient == c then s
  else s.sendClose c 0

/-- The rekey of a region ends (R520). -/
def State.rekeyEnds (s : State) (region : Nat) : State :=
  match s.rekeyOf region with
  | some (rec, v) => (s.setRegion region { s.region region with keySlot := v.new }).setRekey rec {}
  | none => s

/-- OP_FINISHED. -/
def execOpFinished (op : Nat) (s : State) : Host.Outcome State Fault Refusal :=
  let o := s.opSlot op
  let r := s.region o.region
  let stand := bits o.arg0.toNat 2 0
  let n := bits o.arg0.toNat 3 0
  let (ok, t) : Bool × State :=
    if o.code = opEvacuate then
      (decide (r.pageCount ≤ o.cursor) && o.sent.isEmpty && o.again.isEmpty, (s.evacClose op).opEnds op o.bad 0)
    else if o.code = opMigrate then (decide (s.migrateCount o ≤ o.cursor) && !s.opMoving op, s.opEnds op o.ue o.bad)
    else if o.code = opThin then
      (!s.opMoving op && (o.bad == 1 || (s.findAny (s.movableIn stand true)).isNone),
       (s.setOp op { o with progress := o.total }).opEnds op o.ue 0)
    else if o.code = opRekey then
      (match s.rekeyOf o.region with
       | some (_, v) => (decide (r.pageCount ≤ v.mark), (s.rekeyEnds o.region).opEnds op o.bad 0)
       | none => (false, s))
    else if o.code = opErase then (decide (r.pageCount < o.cursor), s.opEnds op 0 0)
    else if o.code = opMarch then (o.cursor == 1, s.opEnds op 0 0)
    else if o.code = opScrub then (decide (s.scrubTotal o ≤ o.cursor), s.opEnds op 0 0)
    else if o.code = opRetrain then
      (decide (8 ≤ o.progress) && !s.trainActive n,
       ((((s.setChan n { s.chan n with state := .ready }).restoreRanks n).rescale).pump n).opEnds op 0 0)
    else if o.code = opRetire then
      (if o.kind = 2 then (o.cursor == 1, s.opEnds op 0 0)
       else
         (o.cursor == 1 && !s.opMoving op
            && (s.findAny fun d => d.movable && !d.poison && s.coversSlot (s.retireCovers o) d).isNone,
          s.opEnds op o.ue 0))
    else if o.code = opDrain then
      ((s.stand stand).used == s.standRetired stand && !s.opMoving op, (s.raise 0x6007 stand).opEnds op 0 0)
    else if o.code = opResize then (decide (o.total ≤ o.cursor), s.opEnds op 0 0)
    else (false, s)
  guarded (s.live && o.begun && (o.state == .running || o.state == .suspending) && ok) s t

/-- The session that an import opened, by its context. -/
def State.importCtx (s : State) (o : OpSlot) : Nat := s.fld (Reg.MGT_PEER_CFG o.peerEntry) 27 16

/-- The import's session has failed: gone without the source's Close with REASON 0, or closed with another one (R755). -/
def State.importLost (s : State) (o : OpSlot) : Bool :=
  let x := s.sess (s.importCtx o)
  decide (1 ≤ o.cursor) && !(x.closeGot && x.closeReason == 0) && (!x.initiator || !x.bound || x.closeGot || x.closeSent)

/-- What stops an operation as it runs: result and detail. -/
def State.runError (s : State) (i : Nat) : Option (Nat × Nat) :=
  let o := s.opSlot i
  let r := s.region o.region
  let stand := bits o.arg0.toNat 2 0
  let stuck := fun (d : Desc) => d.movable && d.poison && slotStand d.priSlot == stand
  if (s.opDomains o).any s.domFailed then some (rcDomainFailed, 0)
  else if o.namesRegion && (!r.valid || r.state != 0) then some (rcBadArgument, 0)
  else if o.code = opEvacuate ∧ !s.evacSession o.evacClient then some (rcPeerUnreachable, 0)
  else if o.code = opImport ∧ s.importLost o then some (rcPeerUnreachable, 0)
  else if o.code = opDrain ∧ !s.opMoving i ∧ (s.findAny (s.movableIn stand false)).isNone ∧ (s.findAny stuck).isSome then
    some (rcUncorrectable,
      (s.readyRegions.map fun q => ((List.range (s.region q).pageCount).filter fun p => stuck (s.descPeek q p)).length).sum)
  else none

/-- OP_ERROR. -/
def execOpError (op : Nat) (s : State) : Host.Outcome State Fault Refusal :=
  let o := s.opSlot op
  let x := s.sess (s.importCtx o)
  match s.runError op with
  | none => .next s
  | some (result, detail) =>
    let s1 := if o.code = opImport ∧ result = rcPeerUnreachable then
        (s.setFld (Reg.MGT_PEER_STATUS o.peerEntry) 31 28 3).raise 0x020D o.peerEntry x.closeReason
      else s
    let s2 := if o.code = opResize then s1.cancelEffects op else s1
    guarded (s.live && o.begun && o.state.votes) s (s2.opFail op result detail)

/-- OP_CLEANUP_DONE. -/
def execOpCleanupDone (op : Nat) (s : State) : Host.Outcome State Fault Refusal :=
  let o := s.opSlot op
  let n := bits o.arg0.toNat 3 0
  let ok :=
    if o.code = opMarch then o.cursor == 1
    else if o.code = opRetrain then (s.chan n).trainHeld || !s.trainActive n
    else if o.code = opEvacuate then o.sent.isEmpty || !s.evacSession o.evacClient
    else !s.opMoving op
  guarded (s.live && o.state == .cancelling && ok) s (s.opCancelled op)

end Sys2Proof.Machine
end

