-- ==== Sys2Proof/Machine/Fleet.lean ====
section
/-! DEFINITION. Evacuation and import (R494, R495, R754 to R760). -/

namespace Sys2Proof.Machine

open Sys2Proof

/-! ### The import's session (R754, R755) -/

/-- SRC_IP that a MAC sends in a Hello to an address (R194, R248). -/
def State.helloSrc (s : State) (m : Nat) (v6 : Bool) (dst : BitVec 128) : Nat :=
  if v6 then (s.srcIp m true dst).toNat else 0xFFFF * 2 ^ 32 + (s.ipv4 m).toNat

/-- The MAC of a peer entry, and whether its address is an IPv6 one. -/
def State.peerMacNo (s : State) (p : Nat) : Nat := s.fld (Reg.MGT_PEER_CFG p) 30 28
def State.peerV6 (s : State) (p : Nat) : Bool := (s.addr128 (Reg.MGT_PEER_IP p 0)).toNat / 2 ^ 32 != 0xFFFF

/-- Open a session to a peer entry: its context's key slot of phase 0, the next epoch and a random sequence (R754). The Hello is
none of the messages that draw an ID from the session's counter (R227), and the manual does not say which ID it carries: a free
value. -/
def State.openPeer (s : State) (p : Nat) : State :=
  let cfg := Reg.MGT_PEER_CFG p
  let c := s.fld cfg 27 16
  let m := s.peerMacNo p
  let ip := s.addr128 (Reg.MGT_PEER_IP p 0)
  let v6 := s.peerV6 p
  let port := s.fld (Reg.MGT_PEER_PORT p) 15 0
  let epoch := (s.fld (Reg.MGT_PEER_STATUS p) 27 24 + 1) % 16
  let (seq, s1) := s.draw (2 ^ 32)
  let x : Session :=
    { initiator := true, opening := true, remote := s.fld cfg 11 0, epoch := BitVec.ofNat 4 epoch, version := 3
      mtu := s.mtu m, window := s.fld Reg.KCT_CFG 15 0, ip := ip, v6 := v6, port := if port = 0 then 48800 else port
      primary := m, current := m, txPhase := false, txNext := seq, txFirst := seq, acked := seq, rto := s.rtoBase
      rate := min (max (s.fld Reg.KCT_CC_RATE 31 16) (s.fld Reg.KCT_CC_RATE 15 0)) (10 * s.macRate m) * 256 }
  let s2 := s1.setCtx c { s1.ctx c with sess := x }
  let s3 := s2.setEsess c { s2.esess c with e := s2.fullE c }
  let (id, s4) := s3.draw (2 ^ 24)
  let body := [3, 2, 1, 0] ++ beBytes 4 0x12 ++ [3, 0] ++ beBytes 2 (s.mtu m) ++ beBytes 2 (s.kctPort m) ++ [0, 0]
    ++ beBytes 16 (s.helloSrc m v6 ip)
  (s4.sendSeg c tHello 0 (BitVec.ofNat 24 id) stOK 0 true false body).setReg (Reg.MGT_PEER_STATUS p) (BitVec.ofNat 32 (2 ^ 28 + epoch * 2 ^ 24))

/-- An import whose session cannot be had (R755). -/
def State.importFail (s : State) (op cause : Nat) : State :=
  let p := (s.opSlot op).peerEntry
  ((s.setFld (Reg.MGT_PEER_STATUS p) 31 28 3).raise 0x020D p cause).opFail op rcPeerUnreachable 0

/-- IMPORT_OPEN (R191, R754): a MAC without an address of the peer's IP version carries no session. -/
def execImportOpen (op : Nat) (s : State) : Host.Outcome State Fault Refusal :=
  let o := s.opSlot op
  let c := s.importCtx o
  let x := s.ctx c
  let p := o.peerEntry
  let t :=
    if !x.enable || !x.peer || !x.key0.valid || x.sess.bound || x.sweeping || !s.hasIp (s.peerMacNo p) (s.peerV6 p) then
      s.importFail op 0
    else (s.setOp op { o with cursor := 1 }).openPeer o.peerEntry
  needing 5 (o.working opImport && o.begun && o.cursor == 0) s t

/-- The import that opened a context's session. -/
def State.importOf (s : State) (c : Nat) : Option Nat :=
  opSlots.find? fun i =>
    let o := s.opSlot i
    o.code == opImport && o.state.active && o.cursor == 1 && s.importCtx o == c

/-- The HelloAck of a session that is opening: accepted with EVAC, the session is open; else the import fails (R755). -/
def State.takeHelloAck (s : State) (c ext : Nat) (hdr : BaseHeader) (b : List Byte) : State :=
  let x := s.sess c
  let features := beAt b 4 4
  let daltik := beAt b 8 1 % 4
  let y := { x with
    state := .opened, opening := false, version := beAt b 0 1, window := beAt b 2 2
    features := BitVec.ofNat 32 features, daltik := BitVec.ofNat 8 daltik, mtu := min x.mtu (beAt b 10 2)
    firstRx := hdr.seq, rxNext := ext + 1, helloAcked := true, unacked := 1 }
  let op := s.importOf c
  if hdr.status.toNat ≠ stOK then
    let s1 := s.sessionGone c .none
    match op with
    | some i => s1.importFail i hdr.status.toNat
    | none => s1
  else
    let s1 := s.setSess c y
    let s2 := if hdr.ar then s1.sendAck c else s1
    match op with
    | none => s2.sendClose c 0
    | some i =>
      let p := (s.opSlot i).peerEntry
      if !bit features fEvac then (s2.sendClose c 0).importFail i stOK
      else
        (s2.setReg (Reg.MGT_PEER_STATUS p) (BitVec.ofNat 32 (2 * 2 ^ 28 + x.epoch.toNat * 2 ^ 24 + beAt b 0 1 % 16 * 2 ^ 20
          + daltik * 2 ^ 16 + features % 32))).raise 0x020C p (beAt b 0 1)

/-- HELLO_ACK_RECEIVE: the HelloAck of a session that opens here; one that answers no Hello of ours takes no place in the channel's
order and is answered ErrorResp as it arrives (R230). -/
def execHelloAckReceive (mac : Nat) (s : State) : Host.Outcome State Fault Refusal :=
  kctRow mac (· == tHelloAck) (fun t f hdr box =>
    let c := t.ctxOf hdr box
    let x := t.sess c
    if x.initiator && x.opening then
      match t.checkSeg c f hdr box with
      | .drop r => t.dropSeg r
      | .good ext => ((t.cryCount 5 1).verified c mac f hdr true).takeHelloAck c ext hdr box.plain
    else t.sequenced mac f hdr box true (fun u k =>
      u.errorResp k hdr.epoch hdr.msgId tHelloAck (if hdr.channel ≠ 0 then 2 else 7) 0)) s

/-- IMPORT_CLOSE: the source has closed with REASON 0 and every EvacData has been answered. -/
def execImportClose (op : Nat) (s : State) : Host.Outcome State Fault Refusal :=
  let o := s.opSlot op
  let c := s.importCtx o
  let x := s.sess c
  let done := x.initiator && x.closeGot && x.closeReason == 0
    && !s.kct.delivered.any fun m => m.client == c && m.type == tEvacData
  let s1 := s.setFld (Reg.MGT_PEER_STATUS o.peerEntry) 31 28 0
  guarded (s.live && o.code == opImport && o.cursor == 1 && (o.state == .running || o.state == .suspending) && done) s
    (s1.opDone' op rcSuccess 0)

/-! ### Sending a page (R757) -/

/-- A page as EvacData carries it: FORMAT, DICT_CLASS, POISON and the payload. -/
structure EvacForm where
  format : Nat
  dict : Nat := 0
  poison : Bool := false
  payload : List Byte := []
  deriving DecidableEq, Repr

/-- What a page that cannot be read is sent as. -/
abbrev evacPoison : EvacForm := { format := 3, poison := true }

/-- The bytes of an EvacData (R255). -/
def EvacForm.message (f : EvacForm) (region page : Nat) (stale : Bool) : List Byte :=
  beBytes 2 region ++ [BitVec.ofNat 8 f.format, BitVec.ofNat 8 f.dict] ++ beBytes 8 page
    ++ beBytes 2 (if f.format = 1 ∨ f.format = 2 then f.payload.length else 0)
    ++ [BitVec.ofNat 8 (bitNat f.poison + 2 * bitNat stale), 0] ++ f.payload

/-- A stream decoded in a demand lane for an evacuation, with its second try (R485). -/
def State.evacDecode (s : State) (format dict lane : Nat) (fault again : Bool) (detail : Nat) (st : List Byte) :
    State × Option (List Byte) :=
  let page := s.decode format dict st
  let s1 := s.cmpCount 10 1
  match (if fault then none else page), (if again then none else page) with
  | some p, _ => (s1, some p)
  | none, some p => (((s1.laneFail (16 + lane)).cmpCount 11 1).raise 0x7004 lane, some p)
  | none, none => ((s1.cmpCount 12 1).raise 0x7003 detail, none)

/-- The lanes as operands of an evacuation command. -/
structure EvacLanes where
  lane : Nat
  dlane : Nat
  stream : List Byte
  fault : Bool
  dfault : Bool
  again : Bool
  deriving DecidableEq, Repr

/-- The lanes can work on a page: the demand lane on a stream, after requests and promotions, and the compression lane where one is
in service, after the write path's pages (R471, R484). -/
def State.lanesReady (s : State) (stream : Bool) (l : EvacLanes) : Bool :=
  let promoting := (s.tier.moves.filter fun m => m.kind == .promoteC && m.newDesc.isNone && !m.src.isGroup).length
  (!stream || (s.dLanes.contains l.dlane && s.up (laneDom l.dlane) && decide (s.decoding false + promoting < s.dLanes.length)))
    && (s.cLanes.isEmpty || (s.nextLane == some l.lane && s.up (laneDom l.lane) && !s.pageWaits))

/-- A page transcoded for its peer: version 2 class 0, or version 1 class 0; raw where its stream fails verify or is too
long; none where no lane produces such a stream (R472, R478, R480, R494). -/
def State.transcoded (s : State) (v : Nat) (region : Nat) (l : EvacLanes) (page : List Byte) : State × Option EvacForm :=
  let s := if s.cLanes.isEmpty then s else s.cmpCount 0 1
  let raw : EvacForm := { format := 0, payload := page }
  if s.cLanes.isEmpty then (s.raise 0x7008, some raw)
  else if s.fld Reg.CMP_RAW_THRESHOLD 11 0 < l.stream.length then (s.cmpCount 3 1, some raw)
  else if l.fault || !s.verifyOk v 0 l.stream page then
    ((((s.cmpCount 4 1).raise 0x7001 (l.lane * 65536 + region)).laneFail l.lane), some raw)
  else if !s.modeRight v 0 l.stream then (s, none)
  else ((s.cmpCount 2 1).cmpCount 1 l.stream.length, some { format := v, payload := l.stream })

/-- A stream as its peer takes it (R757 steps 4 to 6). -/
def State.evacStream (s : State) (o : OpSlot) (x : Session) (d : Desc) (raw : Bool) (page : Nat) (l : EvacLanes)
    (st : List Byte) : State × Option EvacForm :=
  let xfmt := bits o.arg1.toNat 17 16
  let takes (v : Nat) : Bool := bit x.daltik.toNat (v - 1)
  let asRaw := raw || xfmt == 2 || x.daltik == 0
  if !asRaw && xfmt == 0 && takes d.format && (d.format == 1 || d.dict == 0 || bit o.arg1.toNat 20) then
    (s, some { format := d.format, dict := d.dict, payload := st })
  else
    match s.evacDecode d.format d.dict l.dlane l.dfault l.again (pageDetail o.region page) st with
    | (t, none) => (t.poisonPage o.region page, some evacPoison)
    | (t, some p) =>
      if asRaw then (t, some { format := 0, payload := p })
      else t.transcoded (if takes 2 && xfmt == 0 then 2 else 1) o.region l p

/-- A stored page read under master 6 and formed for its peer. -/
def State.evacStored (s : State) (o : OpSlot) (x : Session) (d : Desc) (raw : Bool) (page : Nat) (l : EvacLanes)
    (k1 k2 : BitVec 256) (errs : List ReadErrs) : State × Option EvacForm :=
  if !s.chainWhole d then (s.raise 0x6006 (pageDetail o.region page), some evacPoison)
  else
    let n := d.priCount + d.offCount
    let (s1, copy, bad) := s.readLines 6 (s.pageLines d) errs
    if bad ≠ 0 then (if 2 ≤ bad then s1.poisonPage o.region page else s1, some evacPoison)
    else if d.isGroup then
      match s1.groupRead 6 k1 k2 o.region page (s.pageLines d) copy errs 0 with
      | (s2, none) => (s2.poisonPage o.region page, some evacPoison)
      | (s2, some p) => (s2.cryCount 1 64, some { format := 0, payload := p })
    else
      (s1.cryCount 1 n).evacStream o x d raw page l
        (decryptStream k1 k2 o.region page d.priCount d.compLen (copyBodies n copy))

/-- An operation passes a page that is not sent. -/
def State.evacSkip (s : State) (op : Nat) (again : Bool) : State :=
  let o := s.opSlot op
  s.setOp op { o with
    cursor := if again then o.cursor else o.cursor + 1, again := if again then o.again.tail else o.again
    progress := o.progress + 1 }

/-- An EvacData goes out. -/
def State.evacOut (s : State) (op page : Nat) (again : Bool) (d : Desc) (raw : Bool) (f : EvacForm) : State :=
  let o := s.opSlot op
  let c := o.evacClient
  let (id, s1) := s.drawMsgId c
  let s2 := s1.sendMsg c tEvacData id stOK (f.message (bits o.arg0.toNat 31 16) page d.stale)
  s2.setOp op { o with
    cursor := if again then o.cursor else o.cursor + 1, again := if again then o.again.tail else o.again
    sent := o.sent ++ [(page, id, raw)] }

/-- A page is sent on its locked descriptor (R757). -/
def State.evacPage (s : State) (op page : Nat) (again raw : Bool) (d : Desc) (l : EvacLanes) (errs : List ReadErrs) : State :=
  let o := s.opSlot op
  let x := s.sess o.evacClient
  let out (t : State) (f : EvacForm) : State := t.evacOut op page again d raw f
  if d.tier = 0 then s.evacSkip op again
  else if d.poison then out s evacPoison
  else if d.tier = 1 then out s { format := 3 }
  else if d.tier = 2 then out s { format := 4, payload := leBytes 8 d.patternOf }
  else
    let k := slotStand d.priSlot
    if !s.standServes k then s.useStand k
    else if !s.canRead 6 (s.pageLines d) then s
    else if !d.isGroup && !s.lanesReady true l then (s.stallLanes s.dLanes).stallLanes s.cLanes
    else
      match s.pageKeys o.region page with
      | none => (s.emptySlot o.region).opFail op rcInternalFault 0
      | some (k1, k2) =>
        match s.evacStored o x d raw page l k1 k2 errs with
        | (t, some f) => out t f
        | (_, none) => s

/-- EVAC_SEND: a page to be sent again, or the next page, as far as WINDOW allows. The lanes are those that decode and
compress it where R494 asks for it. -/
def execEvacSend (op lane dlane : Nat) (stream : List Byte) (fault dfault again : Bool) (errs : List ReadErrs) (s : State) :
    Host.Outcome State Fault Refusal :=
  let o := s.opSlot op
  let r := o.region
  let head := o.again.head?
  let page := match head with | some a => a.1 | none => o.cursor
  let raw := match head with | some a => a.2 | none => false
  let l : EvacLanes := { lane := lane, dlane := dlane, stream := stream, fault := fault, dfault := dfault, again := again }
  let go := o.working opEvacuate && o.begun && s.evacSession o.evacClient && decide (o.sent.length < o.evacWindow)
    && decide (page < (s.region r).pageCount) && !s.boot.brace && !s.boot.draining && !s.tracked r page
  needing 8 go s
    (s.agent (agentOp op) r page 3 (errs.headD ReadErrs.none) (fun t d => t.evacPage op page head.isSome raw d l (errs.drop 1))
      (fun t _ => t.evacOut op page head.isSome {} raw evacPoison))

/-! ### Storing a page (R495, R758) -/

/-- What storing a received page gives: the page is stored, has to wait for room in the channels' queues, or is refused. -/
inductive Kept where
  | stored (s : State)
  | wait
  | refused (s : State) (status : Nat)

/-- A received page's descriptor (R334, R758). -/
def State.evacDesc (s : State) (d : Desc) (stale : Bool) : Desc :=
  { d with poison := false, stale := stale, warmth := 0, epoch := s.tier.epoch }

/-- A page's new descriptor installed and its old slots released. -/
def State.evacCommit (s : State) (region page : Nat) (d new : Desc) (stale : Bool) : State :=
  let old := if d.stored && !(new.priSlot == d.priSlot && new.stored) then s.slotsOf d else []
  (s.putDesc region page (s.evacDesc (d.relocate new) stale)).release region page d old

/-- A page encrypted into lines of a group. -/
def State.evacGroup (s : State) (region page : Nat) (d new : Desc) (x : Nat) (stale : Bool) (enc : List (XUnit × List Byte)) : Kept :=
  match s.postWrites 6 (groupWrites x (enc.map fun e => (e.2, crc8Bytes e.1.plain))) with
  | none => .wait
  | some t => .stored (t.evacCommit region page d new stale)

/-- A page stored as it is: in its own Canopy group, or in a new group (R422). -/
def State.evacPlain (s : State) (region page : Nat) (d : Desc) (raw stale : Bool) (k1 k2 : BitVec 256) (engine : Nat)
    (ok again : Bool) (content : List Byte) : Kept :=
  let dl := d.leaving (s.region region)
  match s.encryptUnits k1 k2 region page engine ok again (lineUnits content) with
  | (t, none) => .refused (t.raise 0x8002 (pageDetail region page)) stInternalFault
  | (t, some enc) =>
    if d.tier = 3 then t.evacGroup region page d d d.priSlot stale enc
    else
      match t.takeGroup 0 (openWrite 0) with
      | (_, none) => .refused t.noSpace stNoSpace
      | (u, some x) => u.evacGroup region page d (dl.inGroup (if raw then 4 else 3) raw x) x stale enc

/-- A page stored as a stream. -/
def State.evacExtent (s : State) (region page lane : Nat) (d : Desc) (stale : Bool) (k1 k2 : BitVec 256) (engine : Nat)
    (ok again : Bool) (stream : List Byte) (p0 p o v c : Nat) : Kept :=
  let dl := d.leaving (s.region region)
  match s.encryptUnits k1 k2 region page engine ok again (streamUnits stream p o) with
  | (t, none) => .refused (t.raise 0x8002 (pageDetail region page)) stInternalFault
  | (t, some enc) =>
    match t.takeExtent (1 + lane) p0 p o (openWrite (1 + lane)) with
    | (_, none) => .refused t.noSpace stNoSpace
    | (u, some sl) =>
      let bodies := (List.range sl.length).map fun i => slotBytes p sl i ((enc.map (·.2)).getD i [])
      match u.postWrites 6 (slotWrites sl bodies) with
      | none => .wait
      | some w => .stored ((w.evacCommit region page d (dl.inExtent 4 sl p stream.length v c) stale).learnMean c (p + o))

/-- A page that is not to be compressed (R422). -/
def State.evacCanopy (s : State) (region : Nat) (d : Desc) : Bool :=
  let r := s.region region
  d.tier == 3 || (d.leaving r).pinned || r.pinned || bit (s.policyWord r.policy 3).toNat 1

/-- A received page's plaintext stored as a whole-page write; `given` is a stream received in the version and class that the
region writes (R422, R495, R758). -/
def State.evacWhole (s : State) (region page : Nat) (d : Desc) (stale : Bool) (l : EvacLanes) (engine : Nat) (ok retry : Bool)
    (given : Option (List Byte)) (recompress : Bool) (content : List Byte) : Kept :=
  let r := s.region region
  let dl := d.leaving r
  let s1 := if recompress then (s.cmpCount 0 1).cmpCount 15 1 else s.cmpCount 0 1
  if given.isNone && isZeroPage content then .stored ((s1.cmpCount 5 1).evacCommit region page d dl.zero stale)
  else if given.isNone && r.patternOk && isPatternPage content then
    .stored ((s1.cmpCount 6 1).evacCommit region page d (dl.pattern (leNat (content.take 8))) stale)
  else
    match s.pageKeys region page with
    | none => .refused (s.emptySlot region) stAccessDenied
    | some (k1, k2) =>
      if s.evacCanopy region d then s1.evacPlain region page d false stale k1 k2 engine ok retry content
      else
        match given with
        | some st =>
          let (s2, v, c) := s1.writeClass region
          let p0 := s2.predict d c
          let (p, o) := extentShape p0 st.length
          s2.evacExtent region page l.lane d stale k1 k2 engine ok retry st p0 p o v c
        | none =>
          if s1.cLanes.isEmpty then (s1.raise 0x7008).evacPlain region page d true stale k1 k2 engine ok retry content
          else
          let (_, v, c) := s1.writeClass region
          if !s1.laneWrites v c content l.stream l.fault then .wait
          else match s1.laneStream region l.lane d content l.stream l.fault with
          | (s2, some (.extent p0 p o _ v c _)) => s2.evacExtent region page l.lane d stale k1 k2 engine ok retry l.stream p0 p o v c
          | (s2, _) => s2.evacPlain region page d true stale k1 k2 engine ok retry content

/-- A received EvacData on its locked descriptor. -/
def State.evacKeep (s : State) (region page : Nat) (d : Desc) (b : List Byte) (l : EvacLanes) (engine : Nat) (ok retry : Bool) :
    Kept :=
  let format := beAt b 2 1
  let cls := beAt b 3 1
  let flags := beAt b 14 1
  let stale := bit flags 1
  let payload := b.drop 16
  let old := if d.stored then s.slotsOf d else []
  if bit flags 0 then
    .stored ((s.putDesc region page { s.evacDesc ((d.leaving (s.region region)).bare 0) stale with poison := true }).release
      region page d old)
  else if format = 0 then s.evacWhole region page d stale l engine ok retry none false payload
  else if format = 3 then s.evacWhole region page d stale l engine ok retry none false (List.replicate 4096 0)
  else if format = 4 then
    s.evacWhole region page d stale l engine ok retry none false ((List.replicate 512 (payload.take 8)).flatten)
  else
    match s.evacDecode format cls l.dlane l.dfault l.again (pageDetail region page) payload with
    | (t, none) => .refused t stUncorrectable
    | (t, some p) =>
      let (_, v, c) := t.writeClass region
      if v = format ∧ c = cls then t.evacWhole region page d stale l engine ok retry (some payload) false p
      else t.evacWhole region page d stale l engine ok retry none true p

/-- The statuses that an EvacAck carries (R251). -/
def evacStatuses : List Nat := [stOK, stOutOfRange, stUncorrectable, stNoSpace, stBusy, stInternalFault]

/-- The EvacAck of an EvacData (R255); InternalFault stands for a status that no EvacAck carries (R251; DEDUCED, log 203). -/
def State.evacAck (s : State) (m : InMsg) (status : Nat) : State :=
  s.reply m.client m.epoch tEvacAck m.msgId (if evacStatuses.contains status then status else stInternalFault) (evacAckBody m.body)

/-- The state without a delivered message. -/
def State.dropMsg (s : State) (m : InMsg) : State :=
  { s with kct := { s.kct with delivered := s.kct.delivered.erase m } }

/-- EVAC_DATA: the next EvacData is stored and answered; `crc` is a CRC-32C failure on its way (R15). -/
def execEvacData (lane dlane : Nat) (stream : List Byte) (fault dfault again : Bool) (engine : Nat) (ok retry crc : Bool)
    (errs : ReadErrs) (s : State) : Host.Outcome State Fault Refusal :=
  match s.kct.delivered.find? (·.type == tEvacData) with
  | none => .next s
  | some m =>
    let region := beAt m.body 0 2
    let page := beAt m.body 4 8 % 2 ^ 34
    let l : EvacLanes := { lane := lane, dlane := dlane, stream := stream, fault := fault, dfault := dfault, again := again }
    if crc then guarded s.live s (((s.crcFail 4).dropMsg m).evacAck m stInternalFault) else
    match opSlots.find? fun i =>
        let o := s.opSlot i
        o.code == opImport && o.region == region && o.begun && o.state.active && s.importCtx o == m.client with
    | none => guarded s.live s ((s.dropMsg m).evacAck m stOutOfRange)
    | some op =>
      if (s.opSlot op).state ≠ .running then guarded s.live s ((s.dropMsg m).evacAck m stBusy)
      else if (s.region region).pageCount ≤ page then guarded s.live s ((s.dropMsg m).evacAck m stOutOfRange)
      else
        let go (t : State) (_ : Desc) : State :=
          let t1 := t.restoreTransit region page
          match t1.evacKeep region page (t1.descNow region page) m.body l engine ok retry with
          | .stored u => ((u.opProgress op 1).dropMsg m).evacAck m stOK
          | .wait => s
          | .refused u st => (u.dropMsg m).evacAck m st
        let stream := beAt m.body 2 1 == 1 || beAt m.body 2 1 == 2
        let may := !s.boot.brace && !s.tracked region page && s.lanesReady stream l && s.engineFree engine
        if stream && s.domFailed 9 && s.domFailed 10 then guarded s.live s ((s.dropMsg m).evacAck m stDomainFailed)
        else if s.up 11 then
          needing 8 may s (s.agent (agentOp op) region page 3 errs go (fun t _ => (t.dropMsg m).evacAck m stUncorrectable))
        else .next (s.stall 11)

/-! ### Answers (R759) -/

/-- The source acts on an EvacAck. -/
def State.evacAnswer (s : State) (op page : Nat) (raw : Bool) (status : Nat) : State :=
  let o := s.opSlot op
  let o1 := { o with sent := o.sent.filter fun x => x.1 != page }
  let counted (bad : Nat) : State := s.setOp op { o1 with progress := o.progress + 1, bad := o.bad + bad }
  if status = stOK then counted 0
  else if status = stBusy then s.setOp op { o1 with again := o.again ++ [(page, raw)] }
  else if status = stUncorrectable ∧ !raw then s.setOp op { o1 with again := o.again ++ [(page, true)] }
  else if status = stNoSpace then (s.setOp op o1).opFail op rcNoSpace 0
  else if status = stOutOfRange then (s.setOp op o1).opFail op rcBadArgument 0
  else counted 1

/-- EVAC_ACK: the next EvacAck. -/
def execEvacAck (s : State) : Host.Outcome State Fault Refusal :=
  match s.kct.delivered.find? (·.type == tEvacAck) with
  | none => .next s
  | some m =>
    let hit := opSlots.findSome? fun i =>
      let o := s.opSlot i
      if o.code == opEvacuate && o.state.active && o.evacClient == m.client then
        (o.sent.find? fun x => x.2.1 == m.msgId).map fun x => (i, x.1, x.2.2)
      else none
    let s1 := s.dropMsg m
    guarded s.live s
      (match hit with
       | some (i, page, raw) => s1.evacAnswer i page raw m.status
       | none => s1)

end Sys2Proof.Machine
end

