-- ==== Sys2Proof/Machine/Views.lean ====
section
/-! DEFINITION. What registers show that have no home of their own: each view is computed from the state when the register is
read, as its register map says. Quantities that only a measurement could give are free values. -/

namespace Sys2Proof.Machine

open Sys2Proof

/-- The low 32 bits of an integer. -/
def word32 (v : Int) : Nat := ofSigned 32 v

/-- The low and high word of a quantity, as an address pair shows them. -/
def halfOf (high : Bool) (v : Nat) : Nat := if high then v >>> 32 else v % 2 ^ 32

/-- The word of bits that a test gives. -/
def maskOf (n : Nat) (f : Nat → Bool) : Nat := ((List.range n).map fun i => bitNat (f i) * 2 ^ i).sum

/-! ### INT (R98) -/

/-- INT_STATUS.PHASE. -/
def Phase.code : Phase → Nat
  | .qualify => 0
  | .seqWait => 1
  | .softStart => 2
  | .pgDelay => 3
  | .running => 4
  | .retryCool => 5
  | .retryDelay => 6
  | .latchedOff => 7
  | .lockout => 8
  | .off => 9
  | .tripHold => 10

/-- INT_STATUS. -/
def Intake.statusWord (i : Intake) : Nat :=
  i.phase.code * 2 ^ 24 + bitNat i.pgOut * 2 ^ 23 + bitNat i.feedWarn * 2 ^ 22 + bitNat i.inLimit * 2 ^ 21
    + bitNat (decide (0 < i.cnt.ftimer)) * 2 ^ 20 + min i.faultCount 15 * 2 ^ 16 + bitNat i.inserted * 2 ^ 15
    + bitNat i.seqIn * 2 ^ 14 + bitNat i.seqOut * 2 ^ 13 + bitNat i.seqTimedOut * 2 ^ 12 + bitNat i.profileErr * 2 ^ 11
    + bitNat i.conservative * 2 ^ 10

/-- The power drawn in 0.1 W. -/
def Intake.power (i : Intake) : Nat := (max 0 (i.activeV.getD 0)).toNat * (max 0 i.cur).toNat / 100000

/-- Milliseconds left of the running portion of the retry timer (R79, R98). -/
def Intake.retryLeft (i : Intake) : Nat :=
  (if i.phase = .retryCool then cfgFld i.cfg Reg.INT_RETRY_CFG 25 16 * 10 else cfgFld i.cfg Reg.INT_RETRY_CFG 15 0) - i.cnt.retry / 1000

/-- Views of the INT block. They show the intake die as it is, while the link is down too: the manual bounds the mirror's age
and does not say what it shows without the link (DESIGN CHOICE, log 190). -/
def State.viewInt (s : State) (a : Nat) : Option Nat :=
  let i := s.intake
  if a = Reg.INT_STATUS then some i.statusWord
  else if a = Reg.INT_FAULT then some i.faults.toNat
  else if a = Reg.INT_CFG_STATUS then
    some ((s.reg a).toNat + 2 ^ 30 * bitNat (match i.linkWrite with | some w => decide (w.addr = Reg.INT_CFG_COMMIT) | none => false))
  else if a = Reg.INT_RETRY_CFG then some ((s.reg a).toNat % 2 ^ 28 + s.fld Reg.INT_RETRY_MAX 3 0 * 2 ^ 28)
  else if a = Reg.INT_LINK_STATUS then
    some (bitNat s.logic.linkUp + 2 * bitNat (s.logic.resendLogic || s.logic.resendIntake))
  else if a = Reg.INT_EVT_HIST_COUNT then some i.hist.length
  else if 0x028080 ≤ a ∧ a < 0x0280C0 then
    some (match i.hist[(a - 0x028080) / 4]? with | some (t, c) => t / 1024 % 65536 * 65536 + c.toNat | none => 0)
  else if a = Reg.INT_FEED_STATUS then
    some (bitNat i.validB * 2 ^ 17 + bitNat i.validA * 2 ^ 16 + (match i.feed with | none => 0 | some .a => 1 | some .b => 2))
  else if a = Reg.INT_BRK_ACC then some (i.curveAcc * 65536 / 10 ^ 12)
  else if a = Reg.INT_I2T_ACC then some (i.i2tAcc / 10 ^ 12)
  else if a = Reg.INT_RETRY_STATUS then
    some (match i.phase with | .retryCool => 2 ^ 30 + i.retryLeft | .retryDelay => 2 ^ 31 + i.retryLeft | _ => 0)
  else if a = Reg.INT_PRESENCE then some (bitNat i.pin0 + 2 * bitNat i.pin1 + 256 * bitNat i.inserted)
  else if a = Reg.INT_TLM_VA then some (word32 (i.feedV .a))
  else if a = Reg.INT_TLM_VB then some (word32 (i.feedV .b))
  else if a = Reg.INT_TLM_VOUT then some (word32 i.vout)
  else if a = Reg.INT_TLM_I then some (word32 i.cur)
  else if a = Reg.INT_TLM_P then some i.power
  else if a = Reg.INT_TLM_TFET then some (word32 i.tFet)
  else if a = Reg.INT_TLM_ENERGY_LO ∨ a = Reg.INT_TLM_ENERGY_HI then
    some (halfOf (a == Reg.INT_TLM_ENERGY_HI) (i.energy / 10 ^ 12))
  else if a = Reg.INT_PROFILE_STATUS then
    some (bitNat (decide (i.profilePairs ≠ 0) && !i.profileErr) * 2 ^ 31 + bitNat i.profileErr * 2 ^ 30 + i.profilePairs)
  else if 0x02C180 ≤ a ∧ a < 0x02C200 then some (tabGet (fun _ => (0 : Word)) i.profile ((a - 0x02C180) / 4)).toNat
  else none

/-! ### GLB, MGT and RAS (R131, R165, R174, R232) -/

/-- MGT_BOOT_STATUS.STAGE. -/
def BootStage.code : BootStage → Nat
  | .reset => 0
  | .start => 1
  | .imageRead => 2
  | .imageVerify => 3
  | .apply => 4
  | .march => 5
  | .discover => 6
  | .train => 7
  | .portsUp => 8
  | .ready => 9
  | .halted => 10
  | .testHold => 11
  | .limited => 12
  | .warmQuiesce => 13

/-- The blocks as RAS_FAULT_SUMMARY numbers them, by base; every DRC is bit 17. -/
def summaryBit (base : Nat) : Nat :=
  if base = 0x000000 then 0 else if base = 0x004000 then 1 else if base = 0x010000 then 2
  else if base = 0x020000 then 3 else if base = 0x028000 then 4 else if base = 0x100000 then 5
  else if base = 0x110000 then 6 else if base = 0x200000 then 7 else if base = 0x300000 then 8
  else if base = 0x310000 then 9 else if base = 0x320000 then 10 else if base = 0x400000 then 11
  else if base = 0x500000 then 12 else if base = 0x600000 then 13 else if base = 0x700000 then 14
  else if base = 0x800000 then 15 else if base = 0x900000 then 16 else if base = 0xC00000 then 18 else 17

/-- RAS_FAULT_SUMMARY. -/
def State.faultSummary (s : State) : Nat :=
  maskOf 19 fun b => fatalEvents.any fun e => summaryBit (blockBase (evtPage e.1 e.2)) == b && s.evtSet e.1 e.2

/-- The entry stored at a ring index (R157). -/
def State.logAt (s : State) (idx : Nat) : Option LogEntry := s.log.ring.find? fun e => e.seq.toNat % 1024 == idx

/-- MGT_SWEEP_STATUS: the sweep and the valid regions it has left. -/
def State.sweepStatus (s : State) : Nat :=
  if s.boot.sweeping then 2 ^ 31 + min 65535 (s.pipe.regions.filter fun e => e.2.valid && decide (s.boot.sweepRegion ≤ e.1)).length
  else 0

/-- Registers of a slot (R165), by offset in it. -/
def OpSlot.view (o : OpSlot) (off : Nat) : Nat :=
  if off = 0x00 then o.code
  else if off = 0x04 then o.arg0.toNat
  else if off = 0x08 then o.arg1.toNat
  else if off = 0x0C then o.arg2.toNat
  else if off = 0x10 then o.arg3.toNat
  else if off = 0x18 then o.stateWord
  else if off = 0x1C then o.progress
  else if off = 0x20 then o.total
  else if off = 0x24 then o.resultWord
  else if off = 0x28 then bitNat o.ownerValid * 2 ^ 31 + o.ownerEpoch * 2 ^ 24 + o.ownerClient
  else 0

/-- Views of GLB, MGT and RAS. -/
def State.viewMgt (s : State) (a : Nat) : Option Nat :=
  let b := s.boot
  if a = Reg.GLB_STRAP then
    some ((if s.logic.strapsSeen then 2 ^ 31 + s.intake.feedMode * 2 ^ 13 + bitNat s.intake.seqFirst * 2 ^ 12 else 0)
      + s.logic.bootSel * 256 + s.logic.shelfId)
  else if 0x006040 ≤ a ∧ a < 0x006840 then some ((s.opSlot ((a - 0x006040) / 0x40)).view ((a - 0x006040) % 0x40))
  else if a = Reg.MGT_OP_SUMMARY then some (maskOf 32 fun i => (s.opSlot i).state != .idle)
  else if a = Reg.MGT_BOOT_STATUS then
    some (bitNat b.slotB * 2 ^ 31 + bitNat b.warm * 2 ^ 30 + bitNat b.degraded * 2 ^ 29
      + (if b.draining then BootStage.warmQuiesce.code else b.stage.code))
  else if a = Reg.MGT_BOOT_ERR then some (b.errCode * 2 ^ 24 + b.errStage * 2 ^ 20 + b.errSlot * 2 ^ 16 + b.errDetail % 65536)
  else if a = Reg.MGT_BOOT_IMG_VER then some b.imgVer.toNat
  else if a = Reg.MGT_RESET_CAUSE then some b.resetCause.toNat
  else if a = Reg.MGT_BOOT_TIME then some b.bootTime
  else if a = Reg.MGT_LG_NEXT then some (bitNat b.lgReady * 2 ^ 31 + b.lgNext)
  else if a = Reg.MGT_LG_SEQ then some b.lgSeq.toNat
  else if a = Reg.MGT_SWEEP_STATUS then some s.sweepStatus
  else if a = Reg.MGT_FLASH_CTRL then
    some (bitNat b.flashOp.isSome * 2 ^ 31 + bitNat b.flashErr * 2 ^ 30 + s.fld Reg.MGT_FLASH_CTRL 9 8 * 256)
  else if a = Reg.RAS_LOG_WSEQ then some s.log.wseq.toNat
  else if a = Reg.RAS_FAULT_SUMMARY then some s.faultSummary
  else if 0x010080 ≤ a ∧ a < 0x0100A0 then
    some (match s.logAt (s.fld Reg.RAS_LOG_SEL 9 0) with | some e => e.words.getD ((a - 0x010080) / 4) 0 | none => 0)
  else none

/-- A promise about time: minutes by which a stand's progress leads its target (R616). -/
def State.scrubLead (s : State) (k : Nat) : Int :=
  let x := s.scrub k
  let total := s.standLines k * s.chanList.length
  let done := (s.chanList.map fun n => tabGet (fun _ => 0) x.cursor n).sum
  if total = 0 then 0
  else (((done * s.scrubPeriod / total : Nat) : Int) - ((s.now - x.startAt : Nat) : Int)) / 60000000000

/-- Views of the scrubber (16). -/
def State.viewScrub (s : State) (a : Nat) : Option Nat :=
  if a = Reg.RAS_SCRUB_STATUS then
    let burst := (List.range 8).find? fun k => (s.scrub k).burst
    some (bitNat s.scrubOn * 2 ^ 31 + bitNat ((List.range 8).any fun k => (s.stand k).scrubVote) * 2 ^ 30 + burst.getD 0 * 2 ^ 24)
  else if 0x012048 ≤ a ∧ a < 0x0120C8 then
    let k := (a - 0x012048) / 0x10
    let x := s.scrub k
    let total := s.standLines k * s.chanList.length
    let done := (s.chanList.map fun n => tabGet (fun _ => 0) x.cursor n).sum
    match (a - 0x012048) % 0x10 with
    | 0 => some ((if total = 0 then 0 else min 65535 (done * 65536 / total)) * 65536 + ofSigned 16 (s.scrubLead k))
    | 4 => some (x.passes * 65536 + x.lastMinutes)
    | 8 => some (x.lastBad * 65536 + x.lastCorrected)
    | _ => none
  else none

/-! ### PRT (06) -/

/-- Views of a port, by port and offset from its base. -/
def State.viewPrt (s : State) (p o : Nat) : Option Nat :=
  let t := s.time
  let mac (i : Nat) := 4 * p + i
  let page := o / 0x1000
  let r := o % 0x1000
  if o = 0x44 then
    some (maskOf 4 (fun i => (s.mac (mac i)).linkUp)
      + 16 * maskOf 4 fun i => s.kct.ctx.any fun e => e.2.sess.bound && e.2.sess.current == mac i)
  else if o = 0x50 then some (s.rxBytes p)
  else if page = 1 ∧ r % 0x20 = 0x04 then
    let l := (r - 0x40) / 0x20
    some (3 * bitNat (!s.laneDown p l && (s.mac (s.laneMac p l)).linkUp))
  else if page = 3 ∧ 0x40 ≤ r ∧ r < 0x50 then some (bitNat (s.anOn (mac ((r - 0x40) / 4))))
  else if page = 2 ∧ r % 0x40 = 0x18 then
    some (3 * bitNat (s.mac (mac ((r - 0x40) / 0x40))).linkUp)
  else if page = 3 ∧ 0x50 ≤ r ∧ r < 0x60 then
    let m := mac ((r - 0x50) / 4)
    some (3 * bitNat (s.anOn m && (s.mac m).linkUp))
  else if 4 ≤ page ∧ page < 8 ∧ 0x84 ≤ r ∧ r ≤ 0x94 then
    let m := s.mac (mac (page - 4))
    if r = 0x84 then some (bitNat m.gw4.resolved + 2 * bitNat m.gw6.resolved)
    else if r < 0x90 then some (halfOf (r == 0x8C) m.gw4.mac.toNat)
    else some (halfOf (r == 0x94) m.gw6.mac.toNat)
  else if page = 9 then
    let i := (r - 0x40) / 0x40
    let k := r % 0x40
    if k = 0x08 ∨ k = 0x0C then some (halfOf (k == 0x0C) (s.sa (mac i) (s.txAn (mac i))).pn)
    else if k = 0x18 then
      some (bitNat (s.mac (mac i)).pnExhausted * 256 + maskOf 8 fun n => (s.sa (mac i) n).valid)
    else none
  else if page = 11 then
    if r = 0x44 then
      some (bitNat t.synced * 2 ^ 31 + bitNat t.parent.isSome * 2 ^ 30 + bitNat t.ppsLocked * 2 ^ 29 + bitNat t.tbSet * 2 ^ 28
        + t.parentMac)
    else if r = 0x48 then some t.ns
    else if r = 0x4C ∨ r = 0x50 then some (halfOf (r == 0x50) t.sec)
    else if r = 0x64 then some (word32 t.offset)
    else if r = 0x68 then some (word32 t.delay)
    else if r = 0x6C then some (word32 t.adj)
    else if r = 0x70 ∨ r = 0x74 then some (match t.parent with | some x => halfOf (r == 0x74) x.identity.toNat | none => 0)
    else if r = 0x88 then some t.ppsInNs
    else if r = 0x8C ∨ r = 0x90 then some (halfOf (r == 0x90) t.ppsInSec)
    else none
  else none

/-! ### KCT (08, 10) -/

/-- KCT_CTX_STATE.state. -/
def SessState.code : SessState → Nat
  | .none => 0
  | .opened => 1
  | .closing => 2
  | .dead => 3

/-- A session as the registers of its context show it: nothing of one that has not begun or has closed (R308). -/
def Session.shown (x : Session) : Session :=
  if x.state == .none && !x.opening then { version := 0, rto := 0, rxNext := 1 } else x

/-- Views of KCT, by offset from its base; the context is KCT_CTX_SEL's (R308). -/
def State.viewKct (s : State) (o : Nat) : Option Nat :=
  let c := s.fld Reg.KCT_CTX_SEL 11 0
  let x := s.ctx c
  let e := x.sess.shown
  if o = 0x64 then some (s.kct.ctx.filter fun k => k.2.sess.state == .opened).length
  else if o = 0x3044 then some (bitNat x.enable * 2 ^ 31 + bitNat x.manager * 2 ^ 30 + bitNat x.peer * 2 ^ 29)
  else if o = 0x3048 then
    some (e.state.code * 2 ^ 28 + e.epoch.toNat * 2 ^ 24 + e.version * 2 ^ 20 + bitNat e.txPhase * 2 ^ 19
      + bitNat x.key1.valid * 2 ^ 18 + bitNat x.key0.valid * 2 ^ 17 + e.features.toNat % 32)
  else if o = 0x304C then some (x.key1.used.toNat * 65536 + x.key0.used.toNat)
  else if o = 0x3050 then some e.rto
  else if o = 0x3054 then some (e.rate / 256)
  else if o = 0x3058 then some ((if e.rtt = 0 then 0 else s.rttMin c) % 65536 * 65536 + e.rtt % 65536)
  else if o = 0x305C then some (e.txNext % 2 ^ 32)
  else if o = 0x3060 then some e.cumAck.toNat
  else if o = 0x3064 then some (e.replay.filter fun r => r.sent && !r.sacked).length
  else if o = 0x5040 then
    some ((s.coh.credits.filter fun k => k.client == c).length % 256 * 2 ^ 24
      + (s.coh.retries.filter fun k => k.client == c).length % 128 * 2 ^ 16 + s.openTrackers c)
  else if o = 0x5044 then some (min x.held (2 ^ 32 - 1))
  else if o = 0x5048 then some (min x.owned (2 ^ 32 - 1))
  else if o = 0x504C then some (bitNat x.sweeping * 2 ^ 31 + bitNat (s.kct.sweepQ.contains c) * 2 ^ 30)
  else none

/-! ### PIPE and COH (09, 10) -/

/-- The chain distance of a grant from its bucket (R321). -/
def grantDist (i : Nat) (g : Grant) : Nat :=
  (i + 65536 - grantBucket g.client g.region % 65536) % 65536

/-- Views of PIPE, by offset. -/
def State.viewPipe (s : State) (o : Nat) : Option Nat :=
  let p := s.pipe
  if o = 0x4C then some (p.regions.filter (·.2.valid)).length
  else if o = 0x1048 then some (bitNat p.rgnBusy * 2 ^ 31 + p.rgnCode)
  else if o = 0x2048 then some (p.gntIndex * 256 + p.gntCode)
  else if o = 0x204C then some (p.grants.filter (·.2.valid)).length
  else if o = 0x2050 then
    some (p.grants.foldl (fun m e => if e.2.valid then max m (min 31 (grantDist e.1 e.2)) else m) 0)
  else if o = 0x3050 then some (bitNat p.dscBusy * 2 ^ 31 + p.dscCode)
  else if o = 0x4044 then
    some (bitNat p.flushing * 2 ^ 31
      + (p.cache.filter fun e => match e.2 with | some d => d.dirty | none => false).length % 2 ^ 22)
  else if o = 0x4048 then
    some ((p.cache.filter fun e => e.2.isSome && s.dcPinned (e.1 / 2 ^ 34) (e.1 % 2 ^ 34)).length % 2 ^ 22)
  else none

/-- Views of COH, by offset. -/
def State.viewCoh (s : State) (o : Nat) : Option Nat :=
  if o = 0x4C then
    some ((8192 - s.sharedUsed) * 65536 + (s.coh.flights.filter fun f => f.trk != .none).length % 2 ^ 15)
  else if o = 0x50 then some (s.coh.credits.length % 65536 * 65536 + s.coh.retries.length % 65536)
  else if o = 0x104C then
    some (bitNat s.coh.sgMember * 2 ^ 24 + (s.members (s.fld Reg.COH_SG_SEL 9 0)).length * 256 + s.coh.sgCode)
  else if o = 0x2040 then
    some (match s.coh.sweep with
      | some x => 2 ^ 31 + bitNat x.wide * 2 ^ 30 + x.epoch.toNat * 2 ^ 24 + x.client
      | none => 0)
  else if o = 0x2044 then some s.kct.sweepQ.length
  else if o = 0x2048 then some (match s.coh.sweep with | some x => min (s.ctx x.client).held (2 ^ 32 - 1) | none => 0)
  else none

/-! ### TIER (11) -/

/-- Views of TIER, by offset. -/
def State.viewTier (s : State) (o : Nat) : Option Nat :=
  let t := s.tier
  let k := (o - 0x1040) / 0x20 % 8
  let x := s.stand k
  if o = 0x48 then some (t.epoch % 65536)
  else if o = 0x58 then
    some (bitNat t.pressure * 2 ^ 31 + bitNat (t.stopped && !s.moverOn) * 2 ^ 30 + maskOf 8 fun j => (s.stand j).draining)
  else if o = 0x5C then some t.channels
  else if o = 0x60 ∨ o = 0x64 then some (halfOf (o == 0x64) t.marked.length)
  else if 0x1040 ≤ o ∧ o < 0x1140 then
    match o % 0x20 with
    | 0x04 =>
      some (bitNat x.present * 2 ^ 31 + bitNat x.draining * 2 ^ 30 + bitNat (x.present && s.metaStand k) * 2 ^ 29 + x.power)
    | 0x08 => some x.plots
    | 0x0C => some (halfOf false x.used)
    | 0x10 => some (halfOf true x.used)
    | 0x14 => some x.freePlots
    | 0x18 => some x.canopy
    | _ => none
  else if 0x1140 ≤ o ∧ o < 0x1160 then some (s.standRetired ((o - 0x1140) / 4))
  else if o = 0x304C then some (bitNat s.scanOn * 2 ^ 31 + t.scanRegion)
  else if o = 0x3054 then some t.promos.length
  else if o = 0x3058 then
    let w := if t.batch0.writing then t.batch0 else t.batch1
    some (bitNat (t.batch0.writing || t.batch1.writing) * 2 ^ 31 + w.stand * 2 ^ 24
      + (match s.openBatch with | some i => (s.batch i).slots % 65536 | none => 0))
  else if o = 0x4044 then some (bitNat (t.thinning && s.thinOn) * 2 ^ 31 + t.thinStand * 2 ^ 24 + t.thinFreed)
  else none

/-! ### CMP, CRY and MREG (12, 13, 18) -/

/-- Views of CMP, by offset. -/
def State.viewCmp (s : State) (o : Nat) : Option Nat :=
  if o = 0x54 then some (maskOf 16 fun k => s.coh.flights.any fun f => f.stage == .compress && f.lane == some k)
  else if o = 0x1048 then some (bitNat s.cmp.unloading.isSome * 2 ^ 31 + s.cmp.clsCode)
  else if 0x2040 ≤ o ∧ o < 0x2140 then
    let c := (o - 0x2040) / 0x10
    let k := s.classOf? c
    match o % 0x10 with
    | 0x00 =>
      some (if c = 0 then 2 ^ 31
        else bitNat k.loaded * 2 ^ 31 + bitNat k.codes.isSome * 2 ^ 30 + bitNat k.dict.isSome * 2 ^ 29
          + bitNat (s.classInUse c) * 2 ^ 28)
    | 0x04 => some k.crc.toNat
    | 0x08 => some (halfOf false k.pages)
    | _ => some (halfOf true k.pages)
  else if 0x3040 ≤ o ∧ o < 0x3080 then some (tabGet (fun _ => 1024) s.cmp.mean ((o - 0x3040) / 4))
  else none

/-- Views of CRY, by offset. -/
def State.viewCry (s : State) (o : Nat) : Option Nat :=
  if o = 0x44 then
    some (bitNat s.cry.valid * 2 ^ 31 + bitNat s.cry.provisioned * 2 ^ 30 + bitNat s.cry.pufErr * 2 ^ 29)
  else if o = 0x1054 then some (s.cry.slots.filter (·.2.loaded)).length
  else if 0x2040 ≤ o ∧ o < 0x2140 then
    let r := s.rekey ((o - 0x2040) / 0x10)
    match o % 0x10 with
    | 0x00 => some (bitNat r.valid * 2 ^ 31 + r.region)
    | 0x04 => some (r.new * 65536 + r.old)
    | 0x08 => some (halfOf false r.mark)
    | _ => some (halfOf true r.mark)
  else none

/-- Views of MREG, by offset. -/
def State.viewMreg (s : State) (o : Nat) : Option Nat :=
  let m := s.mreg
  if o = 0x4C then some (s.dNow / 100)
  else if o = 0x50 then some (s.dFull / 100)
  else if o = 0x54 then some (m.dAdmit / 100)
  else if o = 0x58 then some m.scale
  else if o = 0x5C then some (maskOf 16 (fun n => (s.chan n).state == .failed) * 65536 + s.goodChans.length)
  else if o = 0x10C4 then
    some (bitNat m.err * 2 ^ 31 + bitNat m.next.isSome * 2 ^ 30 + bitNat m.provisional * 2 ^ 29 + m.lastG % 65536)
  else if 0x2040 ≤ o ∧ o < 0x2100 then
    let k := (o - 0x2040) / 0x10
    match o % 0x10 with
    | 0x00 => some (s.xbarLimit k)
    | 0x04 => some (s.chanLimit k)
    | 0x08 => some (tabGet (fun _ => 0) m.counts k)
    | _ =>
      some (bitNat (s.demotedMasters.contains k) * 2 ^ 31
        + maskOf 16 fun n => ((s.chan n).port.any fun r => r.master == k && r.held) || s.coh.flights.any fun f => f.master == k && f.held.any (·.1 == n))
  else none

/-! ### DRC (14, 15, 16) -/

/-- DRCn_POP of a DIMM. -/
def Dimm.word (d : Dimm) : Nat :=
  if d.present then
    2 ^ 31 + (if d.ranks = 4 then 2 else d.ranks - 1) * 2 ^ 28 + bitNat d.x8 * 2 ^ 24 + d.density * 2 ^ 20 + bitNat d.rfm * 2 ^ 19
      + bitNat d.drfm * 2 ^ 18 + d.rate
  else 0

/-- A rank's state in DRCn_RANK_STATE. -/
def State.rankCode (s : State) (n r : Nat) : Nat :=
  let d := (s.chan n).dimm (r / 4)
  let x := s.rank n r
  let k := s.stand r
  if !d.present || d.ranks ≤ r % 4 then 6
  else if k.power = 3 then 3
  else if k.exiting then 5
  else if x.selfRefresh then (if k.entering then 4 else 2)
  else if x.powerDown && (s.pwr.current == 1 || s.pwr.current == 2) then 1
  else if k.entering then 4
  else 0

/-- The combining table entry that DRCn_CET_SEL selects. -/
def State.cetSel (s : State) (n : Nat) : Option Cet := tabGet (fun _ => none) (s.chan n).cet (s.fld (Reg.DRC_CET_SEL n) 5 0)

/-- Views of a DRAM channel, by channel and offset. -/
def State.viewDrc (s : State) (n o : Nat) : Option Nat :=
  let c := s.chan n
  let d := c.dimm0
  if n ≠ 0 ∧ (o = 0x1040 ∨ o = 0x1044 ∨ o = 0x1088 ∨ o = 0x108C) then some (s.reg (0xA00000 + o)).toNat
  else if o = 0x44 then some ((if c.state = .ready ∧ !c.alert.isEmpty then 3 else chanCode c.state) * 2 ^ 28)
  else if o = 0x48 then some c.dimm0.word
  else if o = 0x4C then some c.dimm1.word
  else if o = 0x54 then
    some (if d.present then d.density * 65536 + d.slotBits * 256 + (d.slotBits + 6 + d.rowBits) else 0)
  else if 0xA4 ≤ o ∧ o < 0xC4 then
    let g := (o - 0xA4) / 4
    let r := s.fld (Reg.DRC_CE_BANK_SEL n) 2 0
    some ((List.range 4).map fun b => min 255 (tabGet (fun _ => 0) c.ceBank (32 * r + 4 * g + b)) * 256 ^ b).sum
  else if o = 0xDC then
    some (bitNat (s.scrubOn && s.chanList.contains n) * 2 ^ 31 + bitNat ((List.range 8).any fun k => (s.scrub k).burst) * 2 ^ 30
      + ((List.range 8).find? fun k => (s.scrub k).burst).getD 0 * 2 ^ 24)
  else if o = 0x107C then some ((List.range 8).map fun r => s.rankCode n r * 16 ^ r).sum
  else if o = 0x104C then
    some ((s.reg (Reg.DRC_TRAIN_CFG n)).toNat % 2 ^ 31 + bitNat s.dram.training.isSome * 2 ^ 31)
  else if o = 0x3058 then
    some ((s.reg (Reg.DRC_NRR_CFG n)).toNat % 256 + 256 * bitNat (d.present && !d.drfm))
  else if o = 0x3060 then some ((List.range 8).map fun r => min 15 (s.rank n r).owed * 16 ^ r).sum
  else if o = 0x3064 then some (c.subB.queue.length * 65536 + c.subA.queue.length)
  else if o = 0x3068 then some (2 * bitNat c.subB.drain + bitNat c.subA.drain)
  else if 0x4104 ≤ o ∧ o ≤ 0x4110 then
    match s.cetSel n with
    | none => some 0
    | some e =>
      if o = 0x4104 then
        some (2 ^ 31 + bitNat e.sticky * 2 ^ 30 + bitNat e.ue * 2 ^ 29 + e.rank * 2 ^ 24 + e.line * 256 + e.word * 16)
      else if o = 0x4108 then some e.slot
      else if o = 0x410C then
        some (bitNat e.pos2.isSome * 2 ^ 31 + e.pos2.getD 0 * 2 ^ 24 + bitNat e.pos1.isSome * 2 ^ 23 + e.pos1.getD 0 * 2 ^ 16
          + min 65535 e.count)
      else some (e.latest % 65536 * 65536 + e.first % 65536)
  else none

/-! ### SRM (17) -/

/-- Views of SRM, by offset. -/
def State.viewSrm (s : State) (o : Nat) : Option Nat :=
  if o = 0x48 then some (s.sram.bistBank * 65536 + s.sram.bistRegion)
  else if o = 0x54 then some (maskOf 8 s.retained)
  else if o = 0x58 then
    some ((List.range 8).map fun g =>
      (match (s.dom (29 + g)).state with | .up => 3 | .poweringDown => 3 | .retention => 1 | _ => 0) * 4 ^ g).sum
  else if o = 0x5C then some s.sram.remaps.length
  else if 0x1040 ≤ o ∧ o < 0x1600 then
    let k := s.bankAt ((o - 0x1040) / 4)
    some (bitNat k.lock * 2 ^ 31 + bitNat k.notest * 2 ^ 30 + k.index * 65536 + k.owner)
  else if 0x2040 ≤ o ∧ o < 0x2600 then
    let b := (o - 0x2040) / 4
    let k := s.bankAt b
    some (bitNat k.busy * 2 ^ 31 + bitNat k.failed * 2 ^ 30 + bitNat (bankLarge b) * 2 ^ 29 + bankGroup b * 2 ^ 24
      + (s.sram.remaps.filter fun r => r.bank == b).length)
  else if 0x4040 ≤ o ∧ o < 0x4240 then
    match s.sram.remaps[(o - 0x4040) / 8]? with
    | some r =>
      some (if o % 8 = 0 then 2 ^ 31 + r.bank * 65536 + r.region else r.toBank * 65536 + r.toRegion)
    | none => some 0
  else none

/-! ### EGR and ING (19) -/

/-- The eligible times in the future, in 1/16 ns from now, that an EGR instance keeps on its wheel (R691). -/
def State.wheelTimes (s : State) (p : Nat) : List Nat :=
  let sess := s.egr.sess.filterMap fun e =>
    let d : Int := e.2.e - 16 * (s.now : Int)
    if macPort (s.sess e.1).current = p ∧ 0 < d then some d.toNat else none
  let shp := s.egr.shapers.filterMap fun e =>
    let m := e.1 / 8
    let t := s.tokens m (e.1 % 8)
    if macPort m = p ∧ t < 0 ∧ s.clsRate m (e.1 % 8) ≠ 0 then some (t.natAbs * 16 / s.clsRate m (e.1 % 8)) else none
  sess ++ shp

/-- Views of EGR, by port and offset. -/
def State.viewEgr (s : State) (p o : Nat) : Option Nat :=
  let c := s.egrSel
  let e := s.esess c
  let fine := 16 * 8192
  let coarse := 16 * 8388608
  if o = 0x48 then some (s.qmemLevel p % 2 ^ 23)
  else if o = 0x4C then
    let l := s.wheelTimes p
    some ((l.filter fun t => decide (fine < t ∧ t ≤ coarse)).length % 65536 * 65536
      + (l.filter fun t => decide (t ≤ fine)).length % 65536)
  else if o = 0x50 then some ((s.wheelTimes p).filter fun t => decide (coarse < t)).length
  else if o = 0x1040 then some (s.reg (Reg.EGR_SESS_SEL 0)).toNat
  else if o = 0x1044 then some e.cls.toNat
  else if o = 0x1048 then some e.shape.toNat
  else if o = 0x104C then
    some (bitNat (decide (s.unsent c ≠ 0)) * 2 ^ 31 + bitNat (decide (e.e ≤ 16 * (s.now : Int))) * 2 ^ 30
      + macPort (s.sess c).current * 2 ^ 28 + macIdx (s.sess c).current * 2 ^ 24 + s.unsent c % 2 ^ 23)
  else if o = 0x1050 then some (word32 ((e.e - 16 * (s.now : Int)) / 128))
  else if 0x20C0 ≤ o ∧ o < 0x2140 then
    some (word32 (s.tokens (4 * p + (o - 0x20C0) / 0x20) ((o - 0x20C0) % 0x20 / 4) / 8000))
  else if 0x70D0 ≤ o ∧ o < 0x70E0 then some (s.mac (4 * p + (o - 0x70D0) / 4)).paused.toNat
  else none

/-- Views of ING, by offset. -/
def State.viewIng (s : State) (o : Nat) : Option Nat :=
  let c := s.fld Reg.ING_SESS_SEL 11 0
  let e := s.refill c
  if o = 0x2044 then some (s.esess c).ing.toNat
  else if o = 0x2048 then some (e.tc / 8000)
  else if o = 0x204C then some (e.tp / 8000)
  else if o = 0x2050 then some (min e.red (2 ^ 32 - 1))
  else none

/-! ### PWR (20) -/

/-- PWR_DOM_STATE. -/
def State.domCode (s : State) (d : Nat) : Nat :=
  if d = 0 then 2
  else
    match (s.dom d).state with
    | .off => 0
    | .poweringUp => 1
    | .up => if s.inHyst d then 3 else 2
    | .poweringDown => 4
    | .retention => 5
    | .failed => 6

/-- The clock of a domain's blocks is gated: not in Active but for AP4 of an entry, and not while they have work (R724, R730). -/
def State.clockOff (s : State) (d : Nat) : Bool :=
  (s.dom d).clockGated && !(s.pwr.current == 0 && s.pwr.ap < 4) && !s.work' d

/-- Views of PWR, by offset. -/
def State.viewPwr (s : State) (o : Nat) : Option Nat :=
  if o = 0x44 then
    some (bitNat s.pwr.entering.isSome * 2 ^ 31 + bitNat s.pwr.exiting.isSome * 2 ^ 30
      + bitNat (allDoms.any fun d => !s.inSet s.pwr.current d && (s.dom d).state == .up) * 2 ^ 29
      + s.effective * 2 ^ 24 + s.pwr.ap * 2 ^ 16 + s.pwr.current)
  else if 0x1040 ≤ o ∧ o < 0x10D4 then
    let d := (o - 0x1040) / 4
    some (s.mgrVotes d * 2 ^ 24 + s.hwVotes d)
  else if 0x1100 ≤ o ∧ o < 0x1194 then
    let d := (o - 0x1100) / 4
    some (s.domCode d * 2 ^ 28 + bitNat (s.clockOff d) * 2 ^ 27 + (s.dom d).retries)
  else if 0x3040 ≤ o ∧ o < 0x3060 then
    let k := (o - 0x3040) / 4
    some (s.fld (Reg.PWR_STAND_VOTE k) 31 24 * 2 ^ 24 + s.standVotes k)
  else if 0x30C0 ≤ o ∧ o < 0x30D0 then
    some (halfOf (o % 8 == 4) ((if o < 0x30C8 then s.pwr.dormantNs else s.pwr.drowsyNs) / 1000000))
  else none

/-! ### The common page header (R138) -/

/-- Views of the common page header: PAGE_CTRL of later pages shows page 0's ENABLE and SOFT_RESET; PAGE_STATUS; EVT_ENABLE
with the Fatal bits at 1 (R154); EVT_FIRST while a bit is set. -/
def State.viewHeader (s : State) (a : Nat) : Option Nat :=
  let p := pageBase a
  let b := blockBase a
  match a % 0x1000 with
  | 0x00C => some (s.fld (p + 0x00C) 2 2 * 4 + s.fld (b + 0x00C) 1 0)
  | 0x010 =>
    some (bitNat (s.flag (b + 0x00C) 1) * 2 ^ 31 + bitNat (s.blockIdle b) * 2 ^ 30
      + bitNat (s.domFailed (regDomain (p + 0x040))) * 2 ^ 29)
  | 0x018 => some ((s.reg a).toNat ||| maskOf 32 fun i => fatalEvents.any fun e => evtPage e.1 e.2 == p && evtBit e.1 == i)
  | 0x01C => some 0
  | 0x020 => some (if s.reg (p + 0x014) = 0 then 0 else (s.reg a).toNat)
  | _ => none

/-- What a register shows that is not kept in it. -/
def State.view (s : State) (a : Nat) : Option Nat :=
  if a % 0x1000 < 0x40 then s.viewHeader a
  else
    match pageOf a with
    | none => none
    | some (b, i, _) =>
      let o := a - b.base - i * b.stride
      if b.code = 0x05 then s.viewInt a
      else if b.code = 0x04 then s.viewPwr o
      else if b.code = 0x03 then (s.viewMgt a).orElse fun _ => s.viewScrub a
      else if b.code ≤ 0x02 then s.viewMgt a
      else if b.code = 0x10 then s.viewPrt i o
      else if b.code = 0x20 then s.viewKct o
      else if b.code = 0x30 then s.viewEgr i o
      else if b.code = 0x32 then s.viewIng o
      else if b.code = 0x40 then s.viewPipe o
      else if b.code = 0x50 then s.viewCoh o
      else if b.code = 0x60 then s.viewTier o
      else if b.code = 0x70 then s.viewCmp o
      else if b.code = 0x80 then s.viewCry o
      else if b.code = 0x90 then s.viewMreg o
      else if b.code = 0xA0 then s.viewDrc i o
      else s.viewSrm o

/-- Fields of a port that only a measurement gives, as width and lowest bit (R219): the signals and signal to noise ratio of a lane
that is powered and whose link is not up, the PRBS errors of a lane that checks a pattern, a remote fault of a MAC whose link is
down, and the FEC ability of a partner that has negotiated. Elsewhere they read 0, as at reset (DESIGN CHOICE, log 199). -/
def State.portFree (s : State) (p o : Nat) : List (Nat × Nat) :=
  let l := (o - 0x1040) / 0x20
  let m := 4 * p + (o % 0x1000 - 0x40) / 0x40
  let n := 4 * p + (o % 0x1000 - 0x50) / 4
  if 0x1040 ≤ o ∧ o < 0x1140 then
    if s.laneDown p l || !s.boot.portsOn then []
    else
      match o % 0x20 with
      | 0x04 => if (s.mac (s.laneMac p l)).linkUp then [] else [(2, 0)]
      | 0x0C => [(32, 0)]
      | 0x14 | 0x18 => if s.fld (Reg.PRT_LANE_PRBS p l) 1 0 = 0 then [] else [(32, 0)]
      | _ => []
  else if 0x2040 ≤ o ∧ o < 0x2140 then
    if o % 0x40 = 0x18 ∧ s.macOn m ∧ !(s.mac m).linkUp then [(1, 2)] else []
  else if 0x3050 ≤ o ∧ o < 0x3060 then (if s.anOn n && (s.mac n).linkUp then [(1, 2)] else [])
  else []

/-- A request's page or unit waits for an XTS engine or is in one. -/
def State.xtsWork (s : State) : Bool := s.coh.flights.any fun f => f.stage == .read || f.stage == .check

/-- Fields that only a measurement gives, as width and lowest bit: which demand lanes hold the pages to be decompressed and which
engines the units and segments in work, the lines scrubbed in the last millisecond while the scrubber runs, and the counters of time
and of retried accesses: QUEUE_FULL_CYCLES of DRC_CNT, BUSY, HOLD and REDIRECTED of SRM_CNT. -/
def State.measured (s : State) (a : Nat) : List (Nat × Nat) :=
    match pageOf a with
    | none => []
    | some (b, i, _) =>
      let o := a - b.base - i * b.stride
      if b.code = 0x70 then (if o = 0x54 ∧ s.coh.flights.any (·.stage == .decode) then [(16, 16)] else [])
      else if b.code = 0x80 then
        (if o = 0x80 then (if s.xtsWork then [(12, 0)] else []) ++ (if s.kct.gcm.isEmpty then [] else [(12, 16)]) else [])
      else if b.code = 0xA0 then
        (if o = 0xDC then (if s.scrubOn then [(16, 0)] else []) else if 0x40B8 ≤ o ∧ o < 0x40C0 then [(32, 0)] else [])
      else if b.code = 0xC0 then
        (if (0x5040 ≤ o ∧ o < 0x5050) ∨ (0x5070 ≤ o ∧ o < 0x5078) then [(32, 0)] else [])
      else []

/-- The fields of a register that a read shows as free values: the measured ones, D_ADMIT, which is undefined until its
first admission check (R682), and the record at which a running training phase is (R595). -/
def State.freeFields (s : State) (a : Nat) : List (Nat × Nat) :=
  if a = Reg.MREG_D_ADMIT then (if s.mreg.checked then [] else [(16, 0)])
  else if 0xA00000 ≤ a ∧ a < 0xB00000 ∧ a % 0x10000 = 0x1048 then
    (if (s.reg a).getLsbD 31 && !(s.chan ((a - 0xA00000) / 0x10000)).trainHeld then [(9, 0)] else [])
  else if 0x100000 ≤ a ∧ a < 0x120000 then s.portFree ((a - 0x100000) / 0x10000) (a % 0x10000)
  else s.measured a

/-- A read's free fields. -/
def State.measure (s : State) (v : Nat) : List (Nat × Nat) → State × Nat
  | [] => (s, v)
  | (n, lo) :: r =>
    let (x, t) := s.draw (2 ^ n)
    t.measure (v + x * 2 ^ lo) r

end Sys2Proof.Machine
end

