-- ==== Sys2Proof/Machine/Boot.lean ====
section
/-! DEFINITION. Start-up and the resets of the logic die (04_startup.md; R655, R561 to R565, R571): boot stages but for the
image's (which Image.lean holds), the warm reset with its sweep, the last-gasp record, the flash window and the fuses. -/

namespace Sys2Proof.Machine

open Sys2Proof

/-! ### Stages -/

/-- The sequencer enters a stage. -/
def State.toStage (s : State) (st : BootStage) : State := { s with boot := { s.boot with stage := st } }

/-- The number of a boot stage in MGT_BOOT_ERR. -/
def BootStage.number : BootStage → Nat
  | .start => 1
  | .imageRead => 2
  | .imageVerify => 3
  | .apply => 4
  | .march => 5
  | .discover => 6
  | .train => 7
  | .portsUp => 8
  | _ => 0

/-- MGT_BOOT_ERR records an error of the present stage (R131). -/
def State.bootErr (s : State) (code detail : Nat) : State :=
  { s with boot := { s.boot with
    errCode := code, errStage := s.boot.stage.number, errSlot := bitNat s.boot.slotB, errDetail := detail } }

/-- The present stage has failed for good (R117, R121). -/
def State.bootFail (s : State) (code detail : Nat) : State :=
  let t := s.bootErr code detail
  { t with boot := { t.boot with failed := true } }

/-- A failure that leads to Limited: of the march, discovery or training stage, with LIMITED_OK or under R125. -/
def Boot.limitable (b : Boot) : Bool :=
  (b.stage == .march || b.stage == .discover || b.stage == .train) && (b.limitedOk || b.errCode == 0x0C)

/-! ### Release from reset and stage 1 (R38, R39, R42, R100 to R105) -/

/-- The logic and SRAM dies leave reset: straps sampled, the core and SRAM PLLs enabled, the time base from 0, stage 1. -/
def State.leaveReset (s : State) (bootSel : BitVec 2) (shelf : BitVec 6) : State :=
  let s1 := { s with
    logic := { s.logic with on := true, sysRst := false, thermTrip := false, bootSel := bootSel.toNat, shelfId := shelf.toNat }
    boot := { s.boot with stage := .start, porAt := s.now, resetCause := s.boot.nextCause }
    intake := { s.intake with vrmFault := false } }
  (s1.enablePll .core).enablePll .sram

/-- POR_RELEASE (R100, R104). -/
def execPorRelease (bootSel : BitVec 2) (shelf : BitVec 6) (s : State) : Host.Outcome State Fault Refusal :=
  guarded (s.intake.vstby && s.intake.pgOut && !s.logic.on) s (s.leaveReset bootSel shelf)

/-- The board's regulators have failed: PG_OUT falls, FAULT_N is asserted and the cool-down of R79 runs (R101). -/
def State.vrmFail (s : State) (code : Nat) : State :=
  let s1 := s.dropPg causeVrm
  (s1.setIntake { s1.intake with
    vrmFault := true, passFet := false, enhancing := false, inLimit := false
    phase := if s1.intake.phase.latched then s1.intake.phase else .retryCool
    cnt := { s1.intake.cnt with ftimer := 0, pg := 0, gateOff := 0, belowTen := none, retry := 0 } }).intakeEvent code

/-- VRM_PG_TIMEOUT (R101). -/
def execVrmPgTimeout (s : State) : Host.Outcome State Fault Refusal :=
  guarded (s.intake.vstby && s.intake.pgOut && !s.logic.on) s (s.vrmFail 0x0519)

/-- VRM_PG_LOST (R102): event 0x051A, and R101 but for its own event 0x0519, which tells of the start (DEDUCED, log 189). -/
def execVrmPgLost (s : State) : Host.Outcome State Fault Refusal :=
  guarded (s.intake.vstby && s.intake.pgOut && s.logic.on) s (s.vrmFail 0x051A)

/-- SYS_RST_ASSERT (R103, R104, R506): the dies are held in reset, and what they kept is lost. -/
def execSysRstAssert (s : State) : Host.Outcome State Fault Refusal :=
  let s1 := s.powerOn causeSysRst
  guarded (s.logic.on && !s.logic.sysRst) s { s1 with logic := { s1.logic with on := true, sysRst := true } }

/-- SYS_RST_RELEASE (R38, R103). -/
def execSysRstRelease (bootSel : BitVec 2) (shelf : BitVec 6) (s : State) : Host.Outcome State Fault Refusal :=
  let s1 := s.leaveReset bootSel shelf
  guarded (s.logic.on && s.logic.sysRst) s s1

/-- BOOT_START: the key store's banks are locked and the wrap key is formed; BOOT_SEL may select test hold (R39, R47, R105,
R497, R643). -/
def execBootStart (pufOk : Bool) (s : State) : Host.Outcome State Fault Refusal :=
  let s1 := allBanks.foldl (fun t b =>
    if (t.bankAt b).owner = 0x0E then t.setBank b { t.bankAt b with lock := true } else t) s
  let s2 := s1.deriveKey pufOk
  let t :=
    if s.logic.bootSel = 3 then (s2.raise 0x020E).toStage .testHold
    else if s.logic.bootSel = 2 then s2.toStage .testHold
    else s2.toStage .imageRead
  guarded (s.live && s.boot.stage == .start && s.pll .core == .locked) s t

/-! ### What a reset of every block outside D0 leaves (04, What each reset keeps; R114, R124) -/

/-- A register that a reset of every block outside D0 keeps: those of D0 and of SRM, and those that describe where data
lies, the saved training and the DIMMs' power (R125, R452, R594, R663). -/
def keptReg (a : Nat) : Bool :=
  match pageOf a with
  | none => false
  | some (b, i, _) =>
    let o := a - b.base - i * b.stride
    decide (b.code ≤ 5) || b.code == 0xC0 || a == Reg.PIPE_DESC_STANDS || a == Reg.TIER_BITMAP_CFG
      || (b.code == 0x60 && (List.range 8).any fun k => a == Reg.TIER_STAND_CFG k)
      || (b.code == 0xA0 && (decide (0x1050 ≤ o ∧ o < 0x105C) || o == 0x106C || o == 0x1070 || o == 0x108C))

/-- Registers after such a reset; only a warm one clears LOCK (R142). The throttle cap stays the one in force. -/
def State.resetRegs (s : State) (warm : Bool) : State :=
  let f (a : Nat) (v : Word) : Word :=
    if a % 0x1000 = 0x00C then
      (if keptReg a then (if warm then putBits v 2 2 0 else v)
       else if warm then resetOf a else putBits (resetOf a) 2 2 (bits v.toNat 2 2))
    else if keptReg a then v
    else resetOf a
  let t := { s with regs := tabMap resetOf f s.regs }
  t.setFld (Reg.DRC_FP_STATUS 0) 5 4 (s.fld Reg.GLB_THROTTLE_STATUS 5 4)

/-- What a context keeps: its flags, keys, F_SEQ counters and holdings (R263, R362). -/
def Ctx.kept (x : Ctx) : Ctx :=
  { enable := x.enable, manager := x.manager, peer := x.peer, key0 := x.key0, key1 := x.key1, fseq0 := x.fseq0
    fseq1 := x.fseq1, held := x.held, owned := x.owned }

/-- What a channel keeps: that it is Failed (R555), its DIMMs, its saved training and which ranks are in self-refresh (R125). -/
def Chan.kept (c : Chan) : Chan :=
  { state := if c.state = .failed then .failed else .off, dimm0 := c.dimm0, dimm1 := c.dimm1, excluded := c.excluded
    settings := c.settings, dckOff := c.dckOff
    ranks := tabMap (fun _ => {}) (fun _ r => { selfRefresh := r.selfRefresh, dqShift := r.dqShift, point := r.point }) c.ranks }

/-- What a stand keeps. -/
def Stand.kept (x : Stand) : Stand :=
  { present := x.present, plots := x.plots, power := x.power, used := x.used, freePlots := x.freePlots, canopy := x.canopy }

/-- Every block outside D0 is reset, but for what the table of resets keeps. -/
def State.resetBlocks (s : State) (warm : Bool) : State :=
  let t := s.resetRegs warm
  { t with
    ports := { sas := t.ports.sas }
    time := { t.time with
      synced := false, good := 0, parent := none, parentMac := 0, syncWait := none, delayReq := none, ppsOut := false, ppsLocked := false }
    kct := { ctx := tabMap (fun _ => {}) (fun _ x => x.kept) t.kct.ctx }
    egr := {}
    thermal := t.thermal
    cry := { t.cry with fails := [], burning := false, pufErr := t.cry.pufErr }
    pipe := { regions := t.pipe.regions, grants := t.pipe.grants }
    coh := { groups := t.coh.groups, nextId := t.coh.nextId }
    tier :=
      { channels := t.tier.channels, stands := tabMap (fun _ => {}) (fun _ x => x.kept) t.tier.stands
        bitmaps := t.tier.bitmaps, inited := t.tier.inited, rebuild := t.tier.rebuild, saved := t.tier.saved, epoch := t.tier.epoch
        retired := t.tier.retired, marked := t.tier.marked }
    cmp := { classes := t.cmp.classes }
    mreg := {}
    sram := { t.sram with winWait := none }
    dram := { t.dram with chans := tabMap (fun _ => {}) (fun _ c => c.kept) t.dram.chans }
    logic := { t.logic with faultWire := t.anyFatal || t.logic.linkLost } }

/-! ### Stage 5: the march (R118, R654, R655) -/

/-- The march visits a bank: in a warm reset not those of retained groups (R124). -/
def State.marches (s : State) (b : Nat) : Bool :=
  decide (b < 368) && (s.boot.march == 1 || s.boot.march == 2) && !(s.boot.warm && s.retained (bankGroup b))

/-- The spare bank that takes the place of a failing one (R655). -/
def State.spareFor (s : State) (b : Nat) : Option Nat :=
  let ok (c : Nat) : Bool := bankLarge c == bankLarge b && (s.bankAt c).owner == ownSpare && !(s.bankAt c).failed
  match allBanks.find? fun c => ok c && bankGroup c == bankGroup b with
  | some c => some c
  | none => allBanks.find? ok

/-- A failing bank gives its owner and INDEX to a spare, or the stage fails. -/
def State.replaceBank (s : State) (b : Nat) : State :=
  let k := s.bankAt b
  if bankGroup b = 0 then s.bootFail 0x08 b
  else if k.owner = ownSpare ∨ k.owner = ownNone then s
  else
    match s.spareFor b with
    | none => s.bootFail 0x08 b
    | some c =>
      let s1 := ((s.setBank c { s.bankAt c with owner := k.owner, index := k.index, lock := k.lock }).setBank b
        { k with owner := ownNone, index := 0, lock := false }).zeroBank c
      let more := if s.retained (bankGroup b) then s1.sram.extra ||| BitVec.ofNat 8 (2 ^ bankGroup c) else s1.sram.extra
      ({ s1 with
        sram := { s1.sram with extra := more }
        boot := { s1.boot with degraded := true } }).raise 0xC001 (b * 65536 + c)

/-- BOOT_MARCH_DONE: `failed` are the banks that the march of every bank not excluded finds failing (R118, R655). -/
def execBootMarchDone (failed : List Nat) (s : State) : Host.Outcome State Fault Refusal :=
  let bad := (allBanks.filter fun b => failed.contains b && s.marches b && !(s.bankAt b).failed)
  let zeroed := s.boot.march == 2 && !s.boot.warm
  let s1 := if zeroed then { s with sram := { s.sram with words := [] } } else s
  let s2 := bad.foldl (fun t b => t.setBank b { t.bankAt b with failed := true }) s1
  let s3 := bad.foldl (fun t b => if t.boot.failed then t else t.replaceBank b) s2
  guarded (s.live && s.boot.stage == .march && !s.boot.failed) s
    (if s3.boot.failed then s3 else { s3 with boot := { s3.boot with stage := .discover, discovered := false } })

/-! ### Stage 6: discovery (R120, R122, R125, R527, R561 to R564) -/

/-- A report as the channel keeps it. -/
def dimmOf : Option SpdReport → Dimm
  | none => {}
  | some r =>
    { present := true, ranks := r.ranks, x8 := r.x8, density := r.density, rfm := r.rfm, drfm := r.drfm, rate := r.rate
      kindOk := r.kindOk, bin := r.bin }

/-- What rule 4 of R527 compares. -/
def Dimm.alike (a b : Dimm) : Bool :=
  a.kindOk == b.kindOk && a.x8 == b.x8 && a.density == b.density && a.ranks == b.ranks && a.bin == b.bin

/-- R525 supports the DIMM. -/
def Dimm.supported (d : Dimm) : Bool :=
  d.kindOk && (d.ranks == 1 || d.ranks == 2 || d.ranks == 4) && decide (d.density ≤ 2)

/-- The first rule of R527 that a population breaks: rule code, channel and slot. `pop` gives each channel's two DIMMs. -/
def popFault (pop : Nat → Dimm × Dimm) : Option (Nat × Nat × Nat) :=
  let has (n : Nat) : Bool := (pop n).1.present || (pop n).2.present
  let l := (List.range 16).filter has
  let first := pop (l.headD 0)
  let at_ (code slot : Nat) (bad : Nat → Bool) : Option (Nat × Nat × Nat) := (l.find? bad).map fun n => (code, n, slot)
  let odd := l.any fun n => n % 2 == 1
  let rule1 :=
    if l = (List.range 8).map (2 * ·) ∨ l = List.range 16 then none
    else
      let want := if odd then List.range 16 else (List.range 8).map (2 * ·)
      (want.find? fun n => !has n).map fun n => (1, n, 0)
  let twice (code : Nat) (bad : Dimm → Dimm → Bool) : Option (Nat × Nat × Nat) :=
    (l.find? fun n => bad (pop n).1 first.1 || bad (pop n).2 first.2).map fun n =>
      (code, n, if bad (pop n).1 first.1 then 0 else 1)
  ((((rule1.orElse fun _ => at_ 2 1 fun n => (pop n).2.present && !(pop n).1.present).orElse fun _ =>
    twice 3 fun d _ => d.present && !d.supported).orElse fun _ =>
    twice 4 fun d e => d.present && e.present && !d.alike e).orElse fun _ =>
    (if l.any fun n => (pop n).2.present then at_ 5 1 fun n => !(pop n).2.present else none)).orElse fun _ =>
    twice 6 fun d _ => d.present && decide (d.rate < 3200)

/-- MGT_BOOT_EXCLUDE names a channel. -/
def State.leftOut (s : State) (n : Nat) : Bool := s.flag Reg.MGT_BOOT_EXCLUDE n

/-- The population that the channels' records show, without the channels left out. -/
def State.population (s : State) (n : Nat) : Dimm × Dimm :=
  if s.leftOut n then ({}, {}) else ((s.chan n).dimm0, (s.chan n).dimm1)

/-- MAX_POINT of a population (R530, R563). -/
def maxPoint (l : List Dimm) (two : Bool) : Nat :=
  let p := if l.all fun d => decide (6000 ≤ d.rate) then 0 else if l.all fun d => decide (4800 ≤ d.rate) then 1 else 2
  if two then max p 1 else p

/-- The channels, stands and MAX_POINT of the population that discovery has found (R404, R527, R563). -/
def State.populate (s : State) : State :=
  let l := (List.range 16).filter fun n => (s.population n).1.present
  let first := s.population (l.headD 0)
  let dimms := (l.map fun n => (s.population n).1) ++ ((l.map fun n => (s.population n).2).filter (·.present))
  let s1 := (List.range 16).foldl (fun t n => t.setChan n { t.chan n with excluded := s.leftOut n }) s
  let s2 := { s1 with
    tier := { s1.tier with channels := l.length }
    boot := { s1.boot with degraded := s.boot.degraded || s.reg Reg.MGT_BOOT_EXCLUDE != 0 } }
  let s3 := (List.range 8).foldl (fun t k =>
    let d := if k < 4 then first.1 else first.2
    let plots := l.length * 2 ^ (d.slotBits + d.rowBits - 2)
    if d.present ∧ k % 4 < d.ranks then
      t.setStand k { present := true, plots := plots, freePlots := plots, power := 3 }
    else t.setStand k {}) s2
  s3.setFld (Reg.DRC_FP_STATUS 0) 9 8 (maxPoint dimms first.2.present)

/-- Field by field the larger of two timing words of page 2; of the RAA limits (k = 6) the smaller. -/
def timingMerge (k : Nat) (a b : Word) : Word :=
  let w := if k < 4 then 8 else 16
  let pick (x y : Nat) : Nat := if k = 6 then min x y else max x y
  BitVec.ofNat 32 (((List.range (32 / w)).map fun i =>
    pick (bits a.toNat (w * i + w - 1) (w * i)) (bits b.toNat (w * i + w - 1) (w * i)) * 2 ^ (w * i)).sum)

/-- A channel's timing registers and DRCn_T_SPD, loaded from the SPD of its DIMMs (R556, R561). -/
def State.loadTiming (s : State) (n : Nat) (a b : Option SpdReport) : State :=
  (List.range 7).foldl (fun t k =>
    let v :=
      match a, b with
      | some x, some y => timingMerge k (x.timing.getD k 0) (y.timing.getD k 0)
      | some x, none => x.timing.getD k 0
      | none, some y => y.timing.getD k 0
      | none, none => 0
    (t.setReg (0xA02040 + 0x10000 * n + 4 * k) v).setReg (Reg.DRC_T_SPD n k) v) s

/-- The DRAM settings of the image: the registers of the channels that software writes, but for PAGE_CTRL. -/
def State.dramSettings (s : State) : Tab Word :=
  s.regs.filter fun e =>
    match pageOf e.1 with
    | some (b, _, _) =>
      b.code == 0xA0 && (match regDef e.1 with | some d => d.access == .rw || d.access == .rwl | none => false)
        && decide (0x40 ≤ e.1 % 0x1000) && !decide (0x2000 ≤ e.1 % 0x10000 ∧ e.1 % 0x10000 < 0x3000)
    | none => false

/-- The DIMMs of a bus in HID order (R558): channel and slot. -/
def busOrder (k : Nat) : List (Nat × Nat) := (List.range 8).map fun h => (4 * k + h / 2, h % 2)

/-- The DIMM is present, not left out, and its slot position has not been switched off (R594). -/
def State.dimmWanted (s : State) (x : Nat × Nat) : Bool :=
  let d := s.population x.1
  (if x.2 = 0 then d.1 else d.2).present && !s.flag (Reg.DRC_DIMM_OFF_STATUS 0) x.2

/-- The DIMM's PMIC has reported power good. -/
def State.pmicGood (s : State) (x : Nat × Nat) : Bool := s.flag (Reg.DRC_PMIC_STATUS x.1 x.2) 30

/-- The next PMIC of a bus is enabled: the first in HID order that is not, once those before it are (R564). -/
def State.enableNext (s : State) (k : Nat) : State :=
  match (busOrder k).find? fun x => s.dimmWanted x && !s.flag (Reg.DRC_PMIC_STATUS x.1 x.2) 31 with
  | some x => (s.sideband x.1 x.2 sbPmic).setFld (Reg.DRC_PMIC_STATUS x.1 x.2) 31 31 1
  | none => s

/-- Every PMIC has reported power good: stage 7 begins. -/
def State.pmicsDone (s : State) : State :=
  if (List.range 16).all fun n => [0, 1].all fun q => !s.dimmWanted (n, q) || s.pmicGood (n, q) then s.toStage .train else s

/-- The generators of a channel are seeded from the entropy source (R546). -/
def State.seed (s : State) (n : Nat) : State :=
  let (a, s1) := s.draw (2 ^ 32 - 1)
  let (b, s2) := s1.draw (2 ^ 32 - 1)
  let c := s2.chan n
  s2.setChan n { c with
    subA := { c.subA with lfsr := BitVec.ofNat 32 (a + 1) }
    subB := { c.subB with lfsr := BitVec.ofNat 32 (b + 1) } }

/-! ### The boot store and the last-gasp area (R108, R128, R130) -/

/-- A byte of the boot store; erased bytes read 0xFF. -/
def State.flashAt (s : State) (a : Nat) : Byte := tabGet (fun _ => 0xFF) s.boot.flash a

/-- `n` bytes of the boot store. -/
def State.flashBytes (s : State) (a n : Nat) : List Byte := (List.range n).map fun i => s.flashAt (a + i)

/-- Bytes of the boot store replaced. -/
def State.setFlash (s : State) (a : Nat) (l : List Byte) : State :=
  let f := (List.range l.length).foldl (fun t i => tabSet (fun _ => 0xFF) t (a + i) (l.getD i 0)) s.boot.flash
  { s with boot := { s.boot with flash := f } }

/-- A page program clears bits and sets none. -/
def State.programFlash (s : State) (a : Nat) (l : List Byte) : State :=
  s.setFlash a ((List.range l.length).map fun i => s.flashAt (a + i) &&& l.getD i 0)

/-- The boot store without the bytes of a range. -/
def State.eraseFlash (s : State) (a n : Nat) : State :=
  { s with boot := { s.boot with flash := s.boot.flash.filter fun e => !decide (a ≤ e.1 ∧ e.1 < a + n) } }

/-- The address of a record position. -/
def lgAddr (pos : Nat) : Nat := 0x800000 + 256 * pos

/-- The position holds no programmed byte. -/
def State.lgErased (s : State) (pos : Nat) : Bool :=
  !s.boot.flash.any fun e => decide (lgAddr pos ≤ e.1 ∧ e.1 < lgAddr pos + 256)

/-- The sequence number of a valid record. -/
def State.lgRecord (s : State) (pos : Nat) : Option Nat :=
  if s.lgErased pos then none
  else
    let r := s.flashBytes (lgAddr pos) 256
    if beAt r 0 4 = 0x4C475352 ∧ crc32c (r.take 252) = BitVec.ofNat 32 (beAt r 252 4) then some (beAt r 4 4) else none

/-- The first of the 16 positions ahead that is not erased. -/
def State.lgBlocked (s : State) : Option Nat :=
  ((List.range 16).map fun i => (s.boot.lgNext + i) % 1024).find? fun p => !s.lgErased p

/-- AREA_READY follows the 16 positions ahead (R128). -/
def State.lgJudge (s : State) : State := { s with boot := { s.boot with lgReady := s.lgBlocked.isNone } }

/-- The scan of the area (R130). -/
def State.lgScan (s : State) : State :=
  let best := (List.range 1024).foldl (fun acc p =>
    match s.lgRecord p, acc with
    | some q, some (_, m) => if m < q then some (p, q) else acc
    | some q, none => some (p, q)
    | none, _ => acc) (none : Option (Nat × Nat))
  match best with
  | some (p, q) => { s with boot := { s.boot with lgNext := (p + 1) % 1024, lgSeq := BitVec.ofNat 32 q } }
  | none => { s with boot := { s.boot with lgNext := 0, lgSeq := 0 } }

/-- Stage 8 begins, or Limited: the ports are enabled and the last-gasp area is scanned (R105, R121, R128, R130). The manual does
not say when in boot the scan runs (DESIGN CHOICE, log 191). -/
def State.portsStart (s : State) (st : BootStage) : State :=
  let t := s.lgScan.lgJudge
  { t with boot := { t.boot with stage := st, portsOn := true } }

/-! ### Stage 7's end -/

/-- A stage 7 that ends: channels Ready, but for those that are Failed (R555), the effective point in force, and the admission check (R571, R678). -/
def State.trained (s : State) : State :=
  let s1 := s.chanList.foldl (fun t n =>
    let c := t.chan n
    let u := t.setChan n { c with state := if c.state = .failed then .failed else .ready, trainAgain := false, trainHeld := false }
    (List.range 8).foldl (fun u k => u.setRank n k { u.rank n k with point := s.fpEffective }) u) s
  let s2 := s1.setFld (Reg.DRC_FP_STATUS 0) 1 0 s1.fpEffective
  s2.bootAdmission.portsStart .portsUp

/-- The saved training is restored and the stands leave self-refresh (R125). -/
def State.restoreTraining (s : State) : State :=
  let s1 := s.chanList.foldl (fun t n =>
    (t.presentStands.filter fun k => (t.stand k).power == 2).foldl (fun u k => u.exitSelfRefresh n k) (t.seed n)) s
  let s2 := s1.presentStands.foldl (fun t k =>
    if (t.stand k).power = 2 then t.setStand k { t.stand k with power := 0, lastUse := t.now } else t) s1
  s2.trained

/-- The population that an earlier discovery saved, without the channels that it left out (R125). -/
def State.savedPopulation (s : State) (n : Nat) : Dimm × Dimm :=
  if (s.chan n).excluded then ({}, {}) else ((s.chan n).dimm0, (s.chan n).dimm1)

/-- What discovery finds differs from what was saved before the warm reset (R125). -/
def State.changed (s old : State) : Bool :=
  old.boot.mismatch || (List.range 16).any (fun n => s.population n != old.savedPopulation n)
    || s.dram.training != old.boot.savedTraining || s.dramSettings != old.boot.savedDrc

/-- Discovery's end with a population that holds. -/
def State.discoverEnd (s old : State) : State :=
  if s.boot.warm && !s.boot.retrain then
    (if s.changed old then
       (({ s with boot := { s.boot with mismatch := true } }).bootFail 0x0C 0)
     else s.restoreTraining)
  else
    let s1 := s.populate
    let s2 := { s1 with boot := { s1.boot with discovered := true, savedTraining := s1.dram.training, savedDrc := s1.dramSettings } }
    ((List.range 4).foldl (fun t k => t.enableNext k) s2).pmicsDone

/-- The records of the channels after a report of each DIMM, numbered 2 × channel + slot. -/
def State.recordDimms (s : State) (l : List (Option SpdReport)) : State :=
  (List.range 16).foldl (fun t n =>
    if s.leftOut n then t.setChan n { t.chan n with dimm0 := {}, dimm1 := {} }
    else
      let a := l.getD (2 * n) none
      let b := l.getD (2 * n + 1) none
      let again := ([a, b].map fun r => match r with | some x => x.rereads | none => 0).sum
      (t.setChan n { t.chan n with dimm0 := dimmOf a, dimm1 := dimmOf b }).setReg (Reg.DRC_DISC_STATUS n)
        (BitVec.ofNat 32 (2 ^ 31 + min 255 again * 256 + 2 * bitNat b.isSome + bitNat a.isSome))) s

/-- The transfers of discovery: each bus addresses its eight hubs in open-drain mode, broadcasts SETAASA, and reads the SPD and the
PMIC of each DIMM that answers by I3C (R560, R561). -/
def State.busScan (s : State) (l : List (Option SpdReport)) : State :=
  (List.range 4).foldl (fun t k =>
    let s1 := (busOrder k).foldl (fun u x => u.emit (.sideband k false (sbHub + hostId x.1 x.2))) t
    let s2 := s1.emit (.setaasa k)
    let s3 := { s2 with dram := { s2.dram with i3c := true } }
    (busOrder k).foldl (fun u x =>
      if (l.getD (2 * x.1 + x.2) none).isSome then (u.sideband x.1 x.2 sbHub).sideband x.1 x.2 sbPmic else u) s3) s

/-- DIMM_DISCOVERY: what each slot's hub and PMIC give, by 2 × channel + slot; none for an empty slot (R120, R561, R562). -/
def execDimmDiscovery (l : List (Option SpdReport)) (s : State) : Host.Outcome State Fault Refusal :=
  let s1 := (s.recordDimms l).busScan l
  let silent (n : Nat) : Bool :=
    !s.leftOut n && [2 * n, 2 * n + 1].any fun i => match l.getD i none with | some r => !r.answers | none => false
  let t :=
    if (List.range 16).any silent then
      s1.bootFail 0x09 (((List.range 16).map fun n => bitNat (silent n) * 2 ^ n).sum)
    else
      match popFault s1.population with
      | some (code, n, slot) =>
        ((s1.setReg (Reg.DRC_POP_STATUS n) (BitVec.ofNat 32 (slot * 256 + code))).raiseAt 0xA005 n (code * 256 + slot) 0).bootFail
          0x0A (2 ^ n)
      | none =>
        let s2 := (List.range 16).foldl (fun u n =>
          if (s1.population n).1.present then
            (u.loadTiming n (l.getD (2 * n) none) (l.getD (2 * n + 1) none)).setReg (Reg.DRC_POP_STATUS n) 0
          else u) s1
        s2.discoverEnd s
  guarded (s.live && s.boot.stage == .discover && !s.boot.failed && !s.boot.discovered) s t

/-- PMIC_POWER_GOOD (R564). -/
def execPmicPowerGood (chan q : Nat) (s : State) : Host.Outcome State Fault Refusal :=
  let s1 := s.setFld (Reg.DRC_PMIC_STATUS chan q) 30 30 1
  guarded (s.live && s.boot.stage == .discover && s.boot.discovered && !s.boot.failed
      && s.flag (Reg.DRC_PMIC_STATUS chan q) 31 && !s.pmicGood (chan, q)) s
    ((s1.enableNext (chan / 4)).pmicsDone)

/-- PMIC_GOOD_TIMEOUT (R564). -/
def execPmicGoodTimeout (chan q : Nat) (s : State) : Host.Outcome State Fault Refusal :=
  guarded (s.live && s.boot.stage == .discover && s.boot.discovered && !s.boot.failed
      && s.flag (Reg.DRC_PMIC_STATUS chan q) 31 && !s.pmicGood (chan, q)) s
    (s.bootFail 0x09 (2 ^ chan))

/-! ### Stage 7: training (R119, R565, R571) -/

/-- CHANNEL_RESET_RELEASE: the channel's DRAM is initialised, its generators are seeded and training starts at MAX_POINT. -/
def execChannelResetRelease (chan : Nat) (s : State) : Host.Outcome State Fault Refusal :=
  let good := [0, 1].all fun q => !s.dimmWanted (chan, q) || s.pmicGood (chan, q)
  let s1 := s.seed chan
  let s2 := s1.setChan chan { s1.chan chan with trainAgain := false, ranks := [] }
  guarded (s.live && s.boot.stage == .train && !s.boot.failed && s.chanList.contains chan
      && (s.chan chan).state == .off && good) s
    (s2.startPass chan s2.fpMax 0)

/-- Every channel's training has ended. -/
def State.trainingEnded (s : State) : Bool :=
  s.chanList.all fun n => (s.chan n).state != .off && !s.trainActive n

/-- TRAINING_COMPLETE: the results are saved, or the stage fails for the channels that failed twice (R119, R571). -/
def execTrainingComplete (s : State) : Host.Outcome State Fault Refusal :=
  let bad := s.chanList.filter fun n => s.flag (Reg.DRC_TRAIN_STATUS n) 29
  let s1 := s.presentStands.foldl (fun t k =>
    if t.flag (Reg.DRC_DIMM_OFF_STATUS 0) (k / 4) then t else t.setStand k { t.stand k with power := 0, lastUse := t.now }) s
  let s2 := { s1 with boot := { s1.boot with mismatch := false } }
  guarded (s.live && s.boot.stage == .train && !s.boot.failed && s.trainingEnded) s
    (if bad.isEmpty then s2.trained else s.bootFail 0x0B (bad.map (2 ^ ·)).sum)

/-! ### The last-gasp area (R88, R89, R108, R128 to R130) -/

/-- The cause code of a record. -/
def WarnCause.code : WarnCause → Nat
  | .none => 0
  | .early => 1
  | .trip => 2
  | .removal => 3

/-- Writes in flight: requests that change data and have not been answered. -/
def State.writesInFlight (s : State) : Nat := (s.coh.flights.filter fun f => changesData f.type && f.stage != .ackWait).length

/-- BRACE_ENTRY (R88, R735): the brace frame has arrived. -/
def execBraceEntry (s : State) : Host.Outcome State Fault Refusal :=
  let i := s.intake
  let note : BraceNote :=
    { cause := i.warnCause.code, status := BitVec.ofNat 32 i.statusWord, faults := i.faults
      feedA := BitVec.ofNat 32 (ofSigned 32 (i.feedV .a)), feedB := BitVec.ofNat 32 (ofSigned 32 (i.feedV .b))
      vout := BitVec.ofNat 32 (ofSigned 32 i.vout), cur := BitVec.ofNat 32 (ofSigned 32 i.cur), inFlight := s.writesInFlight }
  let s1 := { s with boot := { s.boot with brace := true, braceEnd := false, note := note, lgWriting := true } }
  guarded (s.live && s.logic.linkUp && i.braceSent && !s.boot.brace) s (s1.abandonEntry 3)

/-- The record of R129, at the time it is written. -/
def State.lgImage (s : State) : List Byte :=
  let n := s.boot.note
  let codes := (s.log.ring.reverse.take 32).map fun e => e.code.toNat
  let b := beBytes 4 0x4C475352 ++ beBytes 4 (s.boot.lgSeq + 1).toNat ++ beBytes 8 s.time.nanos
    ++ beBytes 4 (bitNat s.time.tbSet * 2 ^ 31 + n.cause)
    ++ beBytes 2 n.status.toNat ++ beBytes 2 n.faults.toNat
    ++ beBytes 4 n.feedA.toNat ++ beBytes 4 n.feedB.toNat ++ beBytes 4 n.vout.toNat ++ beBytes 4 n.cur.toNat
    ++ beBytes 4 n.inFlight ++ beBytes 4 s.writesInFlight ++ beBytes 4 s.boot.imgVer.toNat
    ++ (List.range 32).flatMap (fun i => beBytes 2 (codes.getD i 0)) ++ List.replicate 136 0
  b ++ beBytes 4 (crc32c b).toNat

/-- LAST_GASP_WRITTEN (R89, R91, R128). -/
def execLastGaspWritten (s : State) : Host.Outcome State Fault Refusal :=
  let s1 := s.programFlash (lgAddr s.boot.lgNext) s.lgImage
  let s2 := { s1 with boot := { s1.boot with
    lgSeq := s.boot.lgSeq + 1, lgNext := (s.boot.lgNext + 1) % 1024, lgWriting := false
    brace := s.boot.brace && !s.boot.braceEnd, braceEnd := false } }
  guarded (s.live && s.boot.lgWriting) s ((s2.raise 0x0207 (s.boot.lgSeq + 1).toNat).lgJudge)

/-- LAST_GASP_ERASE: the sector of the first position ahead that is not erased has been erased, or could not be (R128). -/
def execLastGaspErase (ok : Bool) (s : State) : Host.Outcome State Fault Refusal :=
  match s.lgBlocked with
  | none => .next s
  | some p =>
    guarded (s.live && s.boot.portsOn) s
      (if ok then (s.eraseFlash (lgAddr (p / 16 * 16)) 4096).lgJudge else (s.lgJudge).raise 0x0208)

/-! ### Stage 8 and Ready (R106, R128, R130, R412, R415) -/

/-- The clearing at stage 8 (R415): reloaded after a warm reset; otherwise the bitmap area is taken, and the descriptor arrays
of regions that a reset has kept. -/
def State.setUpClearing (s : State) : State :=
  if s.boot.warm && !s.boot.retrain then
    { s with tier := { s.tier with saved := false, reloading := s.tier.saved, ready := true } }.judgePressure
  else
    let (p, n) := s.bitmapArea
    let s1 := if (s.stand (p / 2 ^ 25)).present then s.takePlots p n else s
    let s2 := s1.pipe.regions.foldl (fun t e =>
      if e.2.valid && t.plotExists (e.2.descBase / 256) then t.takePlots (e.2.descBase / 256) (descPlots e.2.pageCount) else t) s1
    { s2 with tier := { s2.tier with ready := true } }.judgePressure

/-- BOOT_READY (R106, R126, R130). -/
def execBootReady (s : State) : Host.Outcome State Fault Refusal :=
  let s1 := s.setUpClearing
  let s2 :=
    if s.boot.warm && !s.boot.retrain then s1
    else s1.presentStands.foldl (fun t k => t.setScrub k { startAt := s.now }) s1
  let s3 := { s2 with boot := { s2.boot with
    stage := .ready, bootTime := (s.now - s.boot.porAt) / 1000 % 2 ^ 32, retrain := false
    sweeping := s.boot.warm, sweepRegion := 0, sweepPage := 0 } }
  guarded (s.live && s.boot.stage == .portsUp && !s.boot.failed) s (s3.raise 0x0201)

/-- BOOT_HALT (R117, R121). -/
def execBootHalt (s : State) : Host.Outcome State Fault Refusal :=
  guarded (s.live && s.boot.failed && !s.boot.limitable) s
    (({ s with boot := { s.boot with stage := .halted, failed := false } }).raise 0x0203)

/-- LIMITED_ENTRY (R121, R125). -/
def execLimitedEntry (s : State) : Host.Outcome State Fault Refusal :=
  guarded (s.live && s.boot.failed && s.boot.limitable) s
    ((({ s with boot := { s.boot with failedStage := s.boot.stage, failed := false } }).portsStart .limited).raise 0x0204)

/-- DRAM contents are lost: every page, the bitmaps and the retired list with them (R125, R627). -/
def State.dramLost (s : State) : State :=
  { s with
    dram := { s.dram with bytes := [], marks := [] }
    tier := { s.tier with bitmaps := [], inited := [], rebuild := [], saved := false, retired := [], marked := [] }
    pipe := { s.pipe with
      regions := tabMap (fun _ => {}) (fun _ r => { r with pagesStored := 0, slotsHeld := 0, cachedPages := 0 }) s.pipe.regions }
    kct := { s.kct with ctx := tabMap (fun _ => {}) (fun _ x => { x with held := 0, owned := 0 }) s.kct.ctx }
    cmp := { s.cmp with classes := tabMap (fun _ => {}) (fun _ c => { c with pages := 0 }) s.cmp.classes } }

/-- Boot resumes at the failed stage without the channels left out (R122, R125). -/
def State.resumeBoot (s : State) : State :=
  let out := s.reg Reg.MGT_BOOT_EXCLUDE
  let s1 := { s with boot := { s.boot with
    stage := s.boot.failedStage, discovered := false, degraded := s.boot.degraded || out != 0 } }
  if s.boot.mismatch = true ∧ s.boot.retrain = false then
    let s2 := s1.dramLost
    { s2 with
      boot := { s2.boot with retrain := true }
      dram := { s2.dram with chans := tabMap (fun _ => {}) (fun _ c => { c with state := .off, settings := [], ranks := [] }) s2.dram.chans } }
  else if s.boot.failedStage = .train then
    let s2 := (List.range 16).foldl (fun t n => if s.leftOut n then t.setChan n { t.chan n with state := .off } else t) s1.populate
    s2.chanList.foldl (fun t n =>
      (t.setChan n { t.chan n with trainAgain := false, ranks := [] }).startPass n s2.fpMax 0) s2
  else s1

/-- BOOT_CONTINUE: CONTINUE is written (R122). -/
def execBootContinue (s : State) : Host.Outcome State Fault Refusal :=
  let known := s.boot.failedStage == .discover || s.boot.failedStage == .train
  let t :=
    match if known then popFault s.population else none with
    | some (_, n, _) =>
      { s with boot := { s.boot with
        errCode := 0x0A, errStage := s.boot.failedStage.number, errSlot := bitNat s.boot.slotB, errDetail := 2 ^ n } }
    | none => s.resumeBoot
  guarded s.live s (if s.boot.stage == .limited && !s.boot.draining then t.wrote else s.wrote)

/-! ### Warm reset (R123 to R127, R170, R353, R737) -/

/-- A warm reset starts (R104, R123, R124 step 1, R737). -/
def State.startWarm (s : State) (cause : Word) : State :=
  let s1 := s.abandonEntry 2
  let s2 := { s1 with
    pwr := { s1.pwr with entering := none, ap := 0, exiting := none, wakeAfter := false, offWait := false }
    boot := { s1.boot with draining := true, autoWarm := false, resetCause := cause, sweeping := false } }
  s2.raise 0x0205

/-- A warm reset can start: none is under way, and stage 1 is behind, since boot then runs from stage 2 (R123, R124) and test hold
stops the sequencer for good (R39) (DEDUCED, log 192). -/
def State.warmable (s : State) : Bool :=
  s.live && !s.boot.draining && s.boot.stage != .reset && s.boot.stage != .start && s.boot.stage != .testHold

/-- WARM_RESET: a write of MGT_RESET_CTRL, or a Fatal event under AUTO_WARM (R123). -/
def execWarmReset (auto : Bool) (value : Word) (s : State) : Host.Outcome State Fault Refusal :=
  if auto then guarded (s.warmable && s.boot.autoWarm) s (s.startWarm causeAutoWarm)
  else
    let keyed := bits value.toNat 31 16 == 0x5752 && bit value.toNat 0
    guarded s.live s (if keyed && s.warmable then (s.startWarm causeWarm).wrote else s.wrote)

/-- Close with REASON 4 leaves at once on a live session (R124 step 3, R304). -/
def State.closeNow (s : State) (c : Nat) : State :=
  match s.sessDest c with
  | none => s
  | some d =>
    let (id, s1) := s.drawMsgId c
    let s2 := s1.sendSeg c tClose 0 id 0 0 true false [4, 0, 0, 0] (some d)
    match s2.kct.gcm.getLast? with
    | some g => s2.emit (s2.onWire d.mac g.cls (.seg d.mac (s2.txHeaders d.mac g.cls d) (s2.sealSeg g)))
    | none => s2

/-- What the work that the reset cuts off had taken and not given to a page goes back to the clearing. -/
def State.returnSlots (s : State) : State :=
  let s1 := s.tier.moves.foldl (fun t m => t.undoMove m false) s
  let s2 := s1.coh.flights.foldl (fun t f => t.freeSlots f.slots) s1
  let s3 := s2.tier.releases.foldl State.released s2
  s3.tier.reserve.foldl (fun t e => t.freeSlots e.2) s3

/-- Every stand enters self-refresh once its accepted writes have issued (R124 step 4, R551). -/
def State.allSelfRefresh (s : State) : State :=
  let s1 := s.chanList.foldl (fun t n =>
    if (t.chan n).state = .failed then t
    else
      (t.presentStands.filter fun k => decide ((t.stand k).power ≤ 1) || (t.stand k).exiting).foldl (fun u k => u.enterSelfRefresh n k)
        (t.flushWrites n fun _ => true)) s
  s1.presentStands.foldl (fun t k =>
    if (t.stand k).power = 3 then t else t.setStand k { t.stand k with power := 2, entering := false, exiting := false, sreDone := [] }) s1

/-- Every slot that is not Idle or terminal becomes Failed (R170). -/
def State.abortOps (s : State) : State :=
  opSlots.foldl (fun t i =>
    if (t.opSlot i).state.active then
      (if (t.opSlot i).code = opResize then t.cancelEffects i else t).opFail i rcResetAborted 0
    else t) s

/-- WARM_DRAIN_END: step 1 has finished, or WARM_DRAIN has passed (R124). -/
def execWarmDrainEnd (timeout : Bool) (s : State) : Host.Outcome State Fault Refusal :=
  let drained := s.writesInFlight == 0 && s.tier.moves.isEmpty && !s.coh.flights.any fun f => f.snoops.any fun x => x.result.isNone
  let s1 := s.returnSlots
  let s2 := s1.liveClients.foldl (fun t c => t.closeNow c) s1
  let s3 := s1.liveClients.foldl (fun t c => t.releaseHolds c (t.sess c).epoch) s2
  let s4 := (s3.abortOps.saveAll).allSelfRefresh
  let s5 := s4.resetBlocks true
  let s6 := (List.range 8).foldl (fun t g => if t.retained g then t else t.loseGroup g) s5
  let doms := tabMap (fun _ => {}) (fun _ x => if x.state = .failed then {} else { x with again := false, implicit := false }) s6.pwr.doms
  let s7 := { s6 with
    pwr := { s6.pwr with doms := doms }
    mgmt := { s6.mgmt with jobs := [], latches := [] }
    scrubs := tabMap (fun _ => {}) (fun _ x => { x with burst := false }) s6.scrubs
    boot := { s6.boot with
      stage := .imageRead, warm := true, draining := false, triedOther := false, failed := false, polling := false
      section_ := 0, record := 0, offset := 0, discovered := false, retrain := false, portsOn := false, autoWarm := false
      mismatch := false } }
  guarded (s.live && s.boot.draining && (drained || timeout)) s s7

/-- The warm-reset sweep's next descriptor. -/
def State.warmNext (s : State) : Option (Nat × Nat) :=
  s.pipe.regions.findSome? fun e =>
    let p := if e.1 = s.boot.sweepRegion then s.boot.sweepPage else 0
    if e.2.valid && decide (s.boot.sweepRegion ≤ e.1) && decide (p < e.2.pageCount) then some (e.1, p) else none

/-- The sweep has passed a descriptor. -/
def State.sweptPast (s : State) (region page : Nat) : State :=
  { s with boot := { s.boot with sweepRegion := region, sweepPage := page + 1 } }

/-- WARM_SWEEP_DESCRIPTOR (R126, R354). -/
def execWarmSweepDescriptor (errs : ReadErrs) (s : State) : Host.Outcome State Fault Refusal :=
  match s.warmNext with
  | none => .next s
  | some (region, page) =>
    guarded (s.live && s.boot.sweeping && s.boot.stage == .ready) s
      (s.agent agentWarm region page 11 errs
        (fun t _ => (t.lockHandling region page).sweptPast region page)
        (fun t _ => t.sweptPast region page))

/-- WARM_SWEEP_DONE (R127). -/
def execWarmSweepDone (s : State) : Host.Outcome State Fault Refusal :=
  guarded (s.live && s.boot.sweeping && s.warmNext.isNone) s
    (({ s with boot := { s.boot with sweeping := false } }).raise 0x0206)

/-! ### The flash window and the fuses (R110, R116) -/

/-- The device has booted from a slot, or is applying it. -/
def Boot.fromSlot (b : Boot) : Bool :=
  !(b.stage == .reset || b.stage == .start || b.stage == .imageRead || b.stage == .testHold || b.stage == .halted)

/-- A program or erase of `n` bytes from `a` touches the booted slot or the last-gasp area (R110). -/
def Boot.flashGuarded (b : Boot) (a n : Nat) : Bool :=
  let touches (lo hi : Nat) : Bool := decide (a < hi ∧ lo < a + n)
  touches 0x800000 0x840000
    || (b.fromSlot && (if b.slotB then touches 0x400000 0x800000 else touches 0x000000 0x400000))

/-- The flash window starts an operation: 0 read, 1 program, 2 erase. -/
def State.flashStart (s : State) (op : Nat) : State :=
  let a := s.fld Reg.MGT_FLASH_ADDR 23 0
  let base := if op = 1 then a / 256 * 256 else if op = 2 then a / 4096 * 4096 else a
  if s.boot.flashOp.isSome || (op != 0 && s.boot.flashGuarded base (if op = 1 then 256 else 4096)) then s.wrote stAccessDenied
  else
    (({ s with boot := { s.boot with flashOp := some { op := op, addr := base }, flashErr := false } }).setReg Reg.MGT_FLASH_CTRL
      (BitVec.ofNat 32 (op * 256))).wrote

/-- FLASH_READ, FLASH_PROGRAM and FLASH_ERASE: GO is written with the operation (R110, R131). -/
def execFlashRead (s : State) : Host.Outcome State Fault Refusal := guarded s.live s (s.flashStart 0)
def execFlashProgram (s : State) : Host.Outcome State Fault Refusal := guarded s.live s (s.flashStart 1)
def execFlashErase (s : State) : Host.Outcome State Fault Refusal := guarded s.live s (s.flashStart 2)

/-- The data window: word i holds bytes 4i to 4i + 3 of the page, the first in its most significant byte. -/
def State.flashWindow (s : State) : List Byte := (List.range 64).flatMap fun i => beBytes 4 (s.reg (Reg.MGT_FLASH_DATA i)).toNat

/-- `n` free bytes. -/
def State.freeBytes (s : State) (n : Nat) : List Byte × State :=
  (List.range n).foldl (fun (acc : List Byte × State) _ =>
    let (v, t) := acc.2.draw 256
    (acc.1 ++ [BitVec.ofNat 8 v], t)) ([], s)

/-- FLASH_OP_DONE: the boot store has finished; what a failed operation leaves is free. A program takes the data window as it is
now, and not as it was when GO was written, which the manual does not settle (DESIGN CHOICE, log 193). -/
def execFlashOpDone (ok : Bool) (s : State) : Host.Outcome State Fault Refusal :=
  match s.boot.flashOp with
  | none => .next s
  | some o =>
    let s1 :=
      if o.op = 0 then
        let (l, t) := if ok then (s.flashBytes o.addr 256, s) else s.freeBytes 256
        (List.range 64).foldl (fun u i => u.setReg (Reg.MGT_FLASH_DATA i) (BitVec.ofNat 32 (beAt l (4 * i) 4))) t
      else if ok then (if o.op = 1 then s.programFlash o.addr s.flashWindow else s.eraseFlash o.addr 4096)
      else
        let (l, t) := s.freeBytes (if o.op = 1 then 256 else 4096)
        t.setFlash o.addr l
    guarded s.live s { s1 with boot := { s1.boot with flashOp := none, flashErr := !ok } }

/-- FUSE_PROG: the fused rollback level rises, within the unlock window (R50, R116). -/
def execFuseProg (value : Word) (s : State) : Host.Outcome State Fault Refusal :=
  guarded s.live s
    (if s.unlocked then
       ({ s with boot := { s.boot with rollback := max s.boot.rollback (bits value.toNat 7 0) } }).wrote
     else s.wrote stAccessDenied)

end Sys2Proof.Machine
end

