-- ==== Sys2Proof/Machine/Thermal.lean ====
section
/-! DEFINITION. Temperature sensors and the throttle table (22_electrical.md). -/

namespace Sys2Proof.Machine

open Sys2Proof

/-- The built-in throttle table (R769). -/
def builtinTable : List ThrottleRec := [⟨125, 3, 1, 0⟩, ⟨140, 3, 2, 1⟩]

/-- The throttle table in force. -/
def State.throttleTable (s : State) : List ThrottleRec := s.thermal.table.getD builtinTable

/-- The active record + 1, the cap and the core clock in force, as GLB_THROTTLE_STATUS shows them. -/
def State.throttleActive (s : State) : Nat := s.fld Reg.GLB_THROTTLE_STATUS 11 8
def State.throttleCore (s : State) : Nat := s.fld Reg.GLB_THROTTLE_STATUS 1 0

/-- The active record + 1 at a temperature `t` in 0.25 °C, after `old` (R770): the highest whose THRESH has been reached and
not since left. -/
def nextActive (l : List ThrottleRec) (old : Nat) (t : Int) : Nat :=
  (List.range l.length).foldl (fun acc j =>
    let r := l.getD j ⟨0, 0, 0, 0⟩
    if decide (4 * (r.thresh : Int) ≤ t) || (decide (j < old) && decide (4 * ((r.thresh : Int) - r.hyst) < t)) then j + 1 else acc) 0

/-- A reading as the temperature registers hold it. -/
def tempWord (t : Int) : Word := BitVec.ofNat 32 (2 ^ 31 + ofSigned 16 t)

/-- The temperature that a register holds, if it is valid. -/
def State.tempOf (s : State) (a : Nat) : Option Int := if s.flag a 31 then some (signed 16 (s.fld a 15 0)) else none

/-- The table's record for a junction temperature takes effect: the core clock and the DRAM cap that it directs (R20, R770,
R771), and event 0x0101 where the active record has changed. Records below `held` have been reached before. -/
def State.throttle (s : State) (held : Nat) (t : Int) : State :=
  let old := s.throttleActive
  let new := nextActive s.throttleTable held t
  let r := if new = 0 then (⟨0, 0, 0, 0⟩ : ThrottleRec) else s.throttleTable.getD (new - 1) ⟨0, 0, 0, 0⟩
  let v := bitNat s.thermal.table.isSome * 2 ^ 31 + new * 2 ^ 8 + r.dram * 2 ^ 4 + r.core
  let s1 := (s.setReg Reg.GLB_THROTTLE_STATUS (BitVec.ofNat 32 v)).setFld (Reg.DRC_FP_STATUS 0) 5 4 r.dram
  let s2 := if new = old then s1 else s1.raise 0x0101 (old * 256 + new)
  if r.core = s.throttleCore then s2 else { s2 with thermal := { s2.thermal with relock := true } }

/-- CONDITIONS of the promise: the junction within its range and no clock monitor's bit (R634, R772). -/
def State.conditions (s : State) : State :=
  s.setPromise promiseConditions (!s.thermal.outside && s.reg Reg.RAS_CLK_MON_STATUS == 0)

/-- The junction temperature has been taken (R765, R770, R772). -/
def State.junction (s : State) (t : Int) : State :=
  let out := decide (600 < t ∨ t < -160)
  let top := match s.tempOf Reg.GLB_TEMP_MAX with | some m => decide (m < t) | none => true
  let s1 := s.setReg Reg.GLB_TEMP (tempWord t)
  let s2 := if top then s1.setReg Reg.GLB_TEMP_MAX (tempWord t) else s1
  let s3 := if out && !s.thermal.outside then s2.raise 0x0102 else s2
  (({ s3 with thermal := { s3.thermal with outside := out } }).conditions).throttle s.throttleActive t

/-- A throttle table takes the place of the one in force and is judged at once at the junction temperature last taken; DESIGN CHOICE:
no record of the new table has been reached before (log 208). -/
def State.loadThrottle (s : State) (l : List ThrottleRec) : State :=
  let s1 := { s with thermal := { s.thermal with table := some l } }
  match s.tempOf Reg.GLB_TEMP with
  | some t => s1.throttle 0 t
  | none => s1.setFld Reg.GLB_THROTTLE_STATUS 31 31 1

/-- THERMAL_SAMPLE: the ten sensors are read, in 0.25 °C (R765). -/
def execThermalSample (readings : List Int) (s : State) : Host.Outcome State Fault Refusal :=
  let s1 := (List.range 10).foldl (fun t i =>
    t.setReg (Reg.GLB_TEMP_SENSOR i)
      (if s.thermal.invalid.getLsbD i then BitVec.ofNat 32 (ofSigned 16 (readings.getD i 0)) else tempWord (readings.getD i 0))) s
  let good := (List.range 10).filter fun i => !s.thermal.invalid.getLsbD i
  let t :=
    match good with
    | [] => s1.setFld Reg.GLB_TEMP 31 31 0
    | i :: r => s1.junction (r.foldl (fun m j => max m (readings.getD j 0)) (readings.getD i 0))
  guarded (s.live && readings.length == 10) s t

/-- SENSOR_INVALID (R765). -/
def execSensorInvalid (sensor : Nat) (s : State) : Host.Outcome State Fault Refusal :=
  let s1 := { s with thermal := { s.thermal with invalid := s.thermal.invalid ||| BitVec.ofNat 10 (2 ^ sensor) } }
  guarded (s.live && !s.thermal.invalid.getLsbD sensor) s
    ((s1.setFld (Reg.GLB_TEMP_SENSOR sensor) 31 31 0).raise 0x0103 sensor)

/-- CORE_CLOCK_RELOCK: the core PLL runs at its new clock and the core island resumes (R771). -/
def execCoreClockRelock (s : State) : Host.Outcome State Fault Refusal :=
  guarded (s.live && s.thermal.relock) s { s with thermal := { s.thermal with relock := false } }

end Sys2Proof.Machine
end

