-- ==== Sys2Proof/Machine/TimeSync.lean ====
section
/-! DEFINITION. PTP, PPS and the setting of the time base (R206 to R212, R777). -/

namespace Sys2Proof.Machine

open Sys2Proof

/-- The time base moved by a signed number of nanoseconds. -/
def TimeBase.shift (t : TimeBase) (d : Int) : TimeBase :=
  let n := ((t.nanos : Int) + d).toNat
  { t with sec := n / 1000000000, ns := n % 1000000000 }

/-- PTP_PPS_OUT may be driven: OUT_EN is 1, and SYNCED or OUT_WHEN_UNSYNC with it (R211). -/
def State.ppsDriven (s : State) : Bool :=
  s.flag (Reg.PRT_PPS_CFG 0) 31 && (s.time.synced || s.flag (Reg.PRT_PPS_CFG 0) 30)

/-- PTP_PPS_OUT is held low where it may not be driven (R211). -/
def State.gatePps (s : State) : State := { s with time := { s.time with ppsOut := s.time.ppsOut && s.ppsDriven } }

/-- SYNCED is lost, with event 0x1009 (R208). -/
def State.unsync (s : State) : State :=
  if s.time.synced then ({ s with time := { s.time with synced := false, good := 0 } }).gatePps.raiseAt 0x1009 0 0 0 else s

/-- Step or adjust the time base by a measured offset: how far it runs ahead (R208). The rate chosen is open. -/
def State.steer (s : State) (offset : Int) : State :=
  if (s.reg (Reg.PRT_PTP_STEP_NS 0)).toNat < offset.natAbs then
    ({ s with time := s.time.shift (-offset) }).unsync.rephase
  else
    let (a, s1) := s.draw (2 ^ 32)
    { s1 with time := { s1.time with adj := signed 32 a } }

/-- The discipline of R208: SYNCED is set with event 0x1008 after 16 consecutive offsets within LOCK_NS. -/
def State.discipline (s : State) (offset : Int) : State :=
  let stepped := decide ((s.reg (Reg.PRT_PTP_STEP_NS 0)).toNat < offset.natAbs)
  let s1 := ({ s with time := { s.time with offset := offset } }).steer offset
  let good := if stepped then 0
    else if offset.natAbs ≤ (s.reg (Reg.PRT_PTP_LOCK_NS 0)).toNat then s1.time.good + 1 else 0
  let s2 := { s1 with time := { s1.time with good := good } }
  if 16 ≤ good ∧ s2.time.synced = false then
    ({ s2 with time := { s2.time with synced := true, tbSet := true } }).raiseAt 0x1008 0 0 0
  else s2

/-- Dataset comparison, most significant criterion first, lower better (R207). -/
def datasetLt : List Nat → List Nat → Bool
  | [], [] => false
  | [], _ => true
  | _, [] => false
  | a :: as, b :: bs => if a < b then true else if b < a then false else datasetLt as bs

/-- An Announce makes its sender the chosen time transmitter if it is the better one, or renews it (R207). -/
def State.takeAnnounce (s : State) (m : Nat) (a : Announce) : State :=
  let take := match s.time.parent with
    | none => true
    | some p => p.identity == a.identity || datasetLt a.dataset p.dataset
  let same := match s.time.parent with | some p => p.identity == a.identity | none => false
  if take then
    { s with time := { s.time with
        parent := some a, parentMac := m, syncWait := if same then s.time.syncWait else none,
        good := if same then s.time.good else 0 } }
  else s

/-- The receive and transmit corrections of a MAC, signed (R209). -/
def State.rxLat (s : State) (m : Nat) : Int := signed 16 (s.fld (Reg.PRT_TS_LAT (macPort m) (macIdx m)) 15 0)
def State.txLat (s : State) (m : Nat) : Int := signed 16 (s.fld (Reg.PRT_TS_LAT (macPort m) (macIdx m)) 31 16)

/-- A complete Sync: origin time and receive time give the offset (R206, R208). -/
def State.takeSync (s : State) (t rx : Int) : State :=
  ({ s with time := { s.time with t21 := rx - t, syncWait := none } }).discipline (rx - t - s.time.delay)

/-- A message on MAC `m` from the clock `src` is the chosen time transmitter's (R206, R207). -/
def State.fromParent (s : State) (m : Nat) (src : DWord) : Bool :=
  s.time.parentMac == m && (match s.time.parent with | some a => a.identity == src | none => false)

/-- One PTP message that MAC `m` received when the time base stood at `at_` (R206, R209, R777). -/
def State.takePtp (s : State) (m at_ : Nat) (msg : PtpMsg) : State :=
  match msg with
  | .announce a => s.takeAnnounce m a
  | .sync src q two t =>
    if !s.fromParent m src then s
    else if two then { s with time := { s.time with syncWait := some (q, (at_ : Int) + s.rxLat m) } }
    else s.takeSync t ((at_ : Int) + s.rxLat m)
  | .followUp src q t =>
    match s.time.syncWait with
    | some (q', rx) => if s.fromParent m src && q == q' then s.takeSync t rx else s
    | none => s
  | .delayResp src req q t li =>
    match s.time.delayReq with
    | some (q', t3) =>
      if s.fromParent m src && req == Config.clockIdentity && q == q' then
        { s with time := { s.time with
            delay := (s.time.t21 + (t - t3)) / 2, delayReq := none, logInterval := li } }
      else s
    | none => s
  | .other => s

/-- PTP is carried as PTP_CFG names it (R206). -/
def State.ptpTransportOk (s : State) (f : EthFrame) : Bool :=
  match s.fld (Reg.PRT_PTP_CFG 0) 9 8 with
  | 0 => f.etherType == 0x88F7
  | 1 => f.etherType == 0x0800
  | _ => f.etherType == 0x86DD

/-- PTP runs on a MAC: EN is 1 and MAC_MASK names it (R207). -/
def State.ptpOn (s : State) (m : Nat) : Bool :=
  s.flag (Reg.PRT_PTP_CFG 0) 16 && bit (s.fld (Reg.PRT_PTP_CFG 0) 7 0) m

/-- A time transmitter on a MAC on which PTP no longer runs is no longer chosen (R207). -/
def State.judgeParent (s : State) : State :=
  if s.ptpOn s.time.parentMac then s
  else { s with time := { s.time with parent := none, syncWait := none, delayReq := none } }

/-- PTP_MESSAGE (R206, R207): the next queued PTP message of a MAC. -/
def execPtpMessage (mac : Nat) (s : State) : Host.Outcome State Fault Refusal :=
  match s.takeRx mac (fun b => match b with | .ptp .. => true | _ => false) with
  | some (e, s1) =>
    match e.frame.body with
    | .ptp dom msg =>
      .next (if s.ptpOn mac && s.fld (Reg.PRT_PTP_CFG 0) 31 24 == dom && s.ptpTransportOk e.frame then
          s1.takePtp mac e.at_ msg else s1)
    | _ => .next s
  | none => .next s

/-- How PTP is carried: over UDP, as `some` of whether over IPv6 (R206). -/
def State.ptpUdp (s : State) : Option Bool :=
  match s.fld (Reg.PRT_PTP_CFG 0) 9 8 with
  | 0 => none
  | 1 => some false
  | _ => some true

/-- A Delay_Req of the device on a MAC: its IP header, to the group of IEEE 1588, where UDP carries it, and its frame's length
(R206). -/
def State.delayReqFrame (s : State) (m : Nat) : Option IpTx × Nat :=
  match s.ptpUdp with
  | none => (none, 62)
  | some v6 =>
    let dst : BitVec 128 := if v6 then 0xFF0E0000000000000000000000000181 else 0xE0000181
    (some (s.ownIp m v6 dst), if v6 then 110 else 90)

/-- DELAY_REQ_SEND (R206, R207): on the MAC where the chosen time transmitter is heard; UDP needs an address of its version. -/
def execDelayReqSend (s : State) : Host.Outcome State Fault Refusal :=
  let m := s.time.parentMac
  let ready := match s.ptpUdp with | none => true | some v6 => s.hasIp m v6
  guarded (s.time.parent.isSome && s.ptpOn m && s.txOk m && ready) s
    (let q := s.time.delaySeq
     let s1 := { s with time := { s.time with
       delayReq := some (q, (s.time.nanos : Int) + s.txLat m), delaySeq := (q + 1) % 2 ^ 16 } }
     let (ip, len) := s.delayReqFrame m
     s1.sendOwn m len (.delayReq m q Config.clockIdentity ip))

/-- PTP_TIMEOUT (R208). -/
def execPtpTimeout (s : State) : Host.Outcome State Fault Refusal :=
  guarded (s.live && s.time.synced) s s.unsync

/-- The time staged in SET_SEC and SET_NS (R210). -/
def State.setTime (s : State) : Nat :=
  ((s.reg (Reg.PRT_PTP_SET_SEC_LO 0)).toNat + 2 ^ 32 * s.fld (Reg.PRT_PTP_SET_SEC_HI 0) 15 0) * 1000000000
    + (s.reg (Reg.PRT_PTP_SET_NS 0)).toNat

/-- PTP_SET (R210): refused while SYNCED is 1. -/
def execPtpSet (value : Word) (s : State) : Host.Outcome State Fault Refusal :=
  guarded (s.live && bit value.toNat 0 && !s.time.synced) s
    (({ s with time := { s.time with
        sec := s.setTime / 1000000000, ns := s.setTime % 1000000000, frac := 0, tbSet := true } }).rephase)

/-- PPS_OUT_SECOND (R211). -/
def execPpsOutSecond (s : State) : Host.Outcome State Fault Refusal :=
  guarded s.live s
    { s with time := { s.time with ppsOut := s.ppsDriven } }

/-- PPS_OUT_FALL (R211). -/
def execPpsOutFall (s : State) : Host.Outcome State Fault Refusal :=
  guarded s.live s { s with time := { s.time with ppsOut := false } }

/-- PPS_IN_EDGE (R212): the edge is timestamped and, in IN_MODE 2 without a time transmitter, disciplines the time base. -/
def execPpsInEdge (s : State) : Host.Outcome State Fault Refusal :=
  let mode := s.fld (Reg.PRT_PPS_CFG 0) 29 28
  guarded (s.live && (mode == 1 || mode == 2)) s
    (let s1 := { s with time := { s.time with ppsInSec := s.time.sec, ppsInNs := s.time.ns } }
     if mode = 2 ∧ s.time.parent = none then
       let off : Int := if s.time.ns < 500000000 then s.time.ns else (s.time.ns : Int) - 1000000000
       let s2 := s1.steer off
       { s2 with time := { s2.time with ppsLocked := decide (off.natAbs ≤ (s.reg (Reg.PRT_PTP_LOCK_NS 0)).toNat) } }
     else s1)

/-- PPS_IN_MISSING (R212). -/
def execPpsInMissing (s : State) : Host.Outcome State Fault Refusal :=
  guarded (s.live && s.fld (Reg.PRT_PPS_CFG 0) 29 28 == 2) s
    (({ s with time := { s.time with ppsLocked := false } }).raiseAt 0x100D 0 0 0)

end Sys2Proof.Machine
end

