-- ==== Sys2Proof/Machine/RegWrite.lean ====
section
/-! DEFINITION. Access to the register space (R132 to R144, R150, R166, R778): what a read of a register shows and what a write
to it does. A register that is a command of its own is written through that command's meaning. -/

namespace Sys2Proof.Machine

open Sys2Proof

/-! ### Registers (R132 to R134, R138) -/

/-- The address is a register of a block (R132, R133). -/
def implemented (a : Nat) : Bool :=
  a % 4 == 0 && (if a % 0x1000 < 0x40 then (pageOf a).isSome else (regDef a).isSome)

/-- The access type of a register of the common page header, PAGE_CTRL and PAGE_PARITY by their writable fields (R138). -/
def headerAccess (a : Nat) : Access :=
  match a % 0x1000 with
  | 0x00C => .rw
  | 0x014 => .w1c
  | 0x018 => .rw
  | 0x01C => .wo
  | 0x024 => .rc
  | 0x030 => .w1c
  | _ => .ro

/-- The access type of a register; RO where there is none. -/
def accessOf (a : Nat) : Access :=
  if a % 0x1000 < 0x40 then headerAccess a else match regDef a with | some d => d.access | none => .ro

/-! ### Reading (R134 to R136) -/

/-- Rows of the register maps that hold the low words of pairs, and the counter arrays, whose even registers are low words. -/
def pairRows : List Nat := [
  0x02C058, 0x101054, 0x102040, 0x102048, 0x102050, 0x104040, 0x104088, 0x104090, 0x109048, 0x109050, 0x10B058, 0x10B070,
  0x02005C, 0x303044, 0x306040, 0x403044, 0x404050, 0x404058, 0x404060, 0x600060, 0x60104C, 0x702048, 0x802048, 0x903040,
  0x903048, 0x903050, 0xC03048]

def counterRows : List Nat := [0x10D040, 0x405040, 0x503040, 0x605040, 0x704040, 0x803040, 0xA04040, 0xC05040, 0x323040, 0x023080]

/-- Nanosecond registers, whose read latches both seconds words that follow (R209, R212, R697). -/
def nanoRows : List Nat := [0x10B048, 0x10B088, 0x303058, 0x303070]

/-- The registers that a read of register `a` latches (R136). -/
def latchedBy (a : Nat) : List Nat :=
  if a % 0x1000 < 0x40 then (if a % 0x1000 = 0x028 then [a + 4] else [])
  else
    match regDef a with
    | none => []
    | some d =>
      if nanoRows.contains d.base then [a + 4, a + 8]
      else if pairRows.contains d.base || (counterRows.contains d.base && (a - d.base) % 8 == 0) then [a + 4]
      else if a = Reg.PRT_PTP_TIME_SEC_LO 0 ∨ a = Reg.PRT_PPS_IN_SEC_LO 0 ∨ d.base = 0x30305C ∨ d.base = 0x303074 then [a + 4]
      else []

/-- What a register shows, and the state that its measured fields leave (R134). -/
def State.shown (s : State) (a : Nat) : State × Nat :=
  if accessOf a = .wo then (s, 0)
  else
    let v := match s.view a with | some v => v | none => (s.reg a).toNat
    let (t, w) := s.measure v (s.freeFields a)
    (t, w % 2 ^ 32)

/-- An RC register is cleared by its read; two show counts that lie elsewhere (R608, R712). -/
def State.clearRead (s : State) (a : Nat) : State :=
  let o := a % 0x10000
  if a = Reg.ING_SESS_RED then
    let c := s.fld Reg.ING_SESS_SEL 11 0
    s.setEsess c { s.esess c with red := 0 }
  else if 0xA00000 ≤ a ∧ a < 0xB00000 ∧ 0xA4 ≤ o ∧ o < 0xC4 then
    let n := (a - 0xA00000) / 0x10000
    let base := 32 * s.fld (Reg.DRC_CE_BANK_SEL n) 2 0 + (o - 0xA4)
    s.setChan n { s.chan n with ceBank := (List.range 4).foldl (fun t b => tabSet (fun _ => 0) t (base + b) 0) (s.chan n).ceBank }
  else s.setReg a 0

/-- The state with a latch set, or emptied. -/
def State.setLatch (s : State) (a : Nat) (v : Option Word) : State :=
  { s with mgmt := { s.mgmt with latches := tabSet (fun _ => none) s.mgmt.latches a v } }

/-- A read of a register: its value, a latched word returning the latch once, and what the read changes (R134, R136). -/
def State.readReg (s : State) (a : Nat) : State × Word :=
  match tabGet (fun _ => none) s.mgmt.latches a with
  | some w => (s.setLatch a none, w)
  | none =>
    let (s1, v) := s.shown a
    let s2 := (latchedBy a).foldl (fun t h =>
      let (u, w) := t.shown h
      u.setLatch h (some (BitVec.ofNat 32 w))) s1
    (if accessOf a = .rc then s2.clearRead a else s2, BitVec.ofNat 32 v)

/-! ### Ranges and refusals (R135, R139, R778) -/

/-- A field of a write is within its range: a field that takes its reset value always is, a command code too (R778). -/
def fieldOk (a : Nat) (v : Word) (f : FieldRange) : Bool :=
  let x := bits v.toNat f.hi f.lo
  (decide (f.min ≤ x ∧ x ≤ f.max) && x % f.mul == 0) || x == bits (resetOf a).toNat f.hi f.lo

/-- Every field of a write is within its range (R778). -/
def rangesOk (a : Nat) (v : Word) : Bool :=
  match regDef a with
  | some d => d.ranges.all (fieldOk a v)
  | none => true

/-- A reserved command code: the window's CODE becomes OutOfRange, unless its command is still at work (R778). -/
def State.reservedCode (s : State) (a : Nat) : State :=
  if a = Reg.PIPE_RGN_CMD then (if s.pipe.rgnBusy then s else { s with pipe := { s.pipe with rgnCode := stOutOfRange } })
  else if a = Reg.PIPE_GNT_CMD then { s with pipe := { s.pipe with gntCode := stOutOfRange } }
  else if a = Reg.PIPE_DSC_CMD then (if s.pipe.dscBusy then s else { s with pipe := { s.pipe with dscCode := stOutOfRange } })
  else if a = Reg.COH_SG_CMD then { s with coh := { s.coh with sgCode := stOutOfRange } }
  else if a = Reg.CMP_CLS_CMD then (if s.cmp.unloading.isSome then s else { s with cmp := { s.cmp with clsCode := stOutOfRange } })
  else if a = Reg.CRY_KS_CMD then s.setReg Reg.CRY_KS_STATUS (BitVec.ofNat 32 stOutOfRange)
  else if a = Reg.ING_PROF_CMD then s.setReg Reg.ING_PROF_STATUS (BitVec.ofNat 32 stOutOfRange)
  else if a = Reg.SRM_WIN_CMD then
    (if s.sram.winWait.isSome then s else s.setReg Reg.SRM_WIN_STATUS (BitVec.ofNat 32 stOutOfRange))
  else s

/-- Registers of DRC0 and EGR0 that the other instances only show (R595, R711). -/
def copyOnly (a : Nat) : Bool :=
  (0x311040 ≤ a && a < 0x31104C)
    || (0xA10000 ≤ a && a < 0xB00000 && (a % 0x10000 == 0x1040 || a % 0x10000 == 0x1088))

/-- The fields of the timing registers of DRC page 2, as bits, from their first (R557). -/
def timingFields (a : Nat) : List (Nat × Nat) := if a % 0x1000 < 0x050 then [(31, 24), (23, 16), (15, 8), (7, 0)] else [(31, 16), (15, 0)]

/-- Operations at work name a peer entry (R760). -/
def State.peerHeld (s : State) (p : Nat) : Bool :=
  opSlots.any fun i =>
    let o := s.opSlot i
    o.code == opImport && o.peerEntry == p && !(o.state == .idle || o.state.terminal)

/-- Why a write whose fields are in range is refused: the status, or none (R166, R176, R180, R556, R557, R618, R676, R696,
R747, R760). -/
def State.writeRefused (s : State) (a : Nat) (v : Word) : Option Nat :=
  let port := if a < 0x110000 then 0 else 1
  let o := a % 0x10000
  let den (b : Bool) : Option Nat := if b then some stAccessDenied else none
  if a = Reg.PRT_PORT_CTRL 0 ∨ a = Reg.PRT_PORT_CTRL 1 then den (s.enabled (0x100000 + 0x10000 * port))
  else if 0x100000 ≤ a ∧ a < 0x120000 ∧ 0x3040 ≤ o ∧ o < 0x3050 then
    den (bit v.toNat 0 && s.portMode port != 2 && s.portMode port != 4)
  else if 0xA00000 ≤ a ∧ a < 0xB00000 ∧ o = 0x304C then
    let low := bits v.toNat 21 16
    let high := bits v.toNat 29 24
    den (!(decide (low < high)))
  else if 0xA00000 ≤ a ∧ a < 0xB00000 ∧ 0x2040 ≤ o ∧ o < 0x205C then
    let spd := s.reg (a + 0x40)
    den ((timingFields a).any fun (hi, lo) => decide (bits v.toNat hi lo < bits spd.toNat hi lo))
  else if a = Reg.RAS_SCRUB_CFG then den (decide (1440 < 60 * bits v.toNat 23 16 + 2 * bits v.toNat 7 0))
  else if a = Reg.MREG_BUDGET 10 then (if bits v.toNat 23 0 = 0 then none else some stOutOfRange)
  else if 0x300000 ≤ a ∧ a < 0x320000 ∧ ((0x3040 ≤ o ∧ o < 0x3050) ∨ (0x4040 ≤ o ∧ o < 0x4440)) then
    den (s.gates ((a - 0x300000) / 0x10000)).pending.isSome
  else if 0x007040 ≤ a ∧ a < 0x007140 ∧ (a - 0x007040) % 0x20 < 0x14 then den (s.peerHeld ((a - 0x007040) / 0x20))
  else if 0x006040 ≤ a ∧ a < 0x006840 ∧ (a - 0x006040) % 0x40 < 0x14 then
    let st := (s.opSlot ((a - 0x006040) / 0x40)).state
    den !(st == .idle || st.terminal)
  else none

/-! ### Registers of which a write is a command, or changes more than the register -/

/-- The next state of a command's meaning; the state itself where it stops. -/
def ran (s : State) : Host.Outcome State Fault Refusal → State
  | .next t => t
  | .fault _ => s
  | .refused _ => s

/-- MGT_MGR_LOCK is written by the session of a client that holds the manager right, or by none (R150). -/
def State.lockWrite (s : State) (v : Word) (who : Option Nat) : State :=
  match who with
  | none => s.wrote stAccessDenied
  | some c =>
    let epoch := (s.sess c).epoch
    if !(s.ctx c).manager || s.lockedOut c epoch then s.wrote stAccessDenied
    else if bit v.toNat 31 then
      (if bits v.toNat 11 0 = c then (s.setReg Reg.MGT_MGR_LOCK (BitVec.ofNat 32 (2 ^ 31 + epoch.toNat * 2 ^ 24 + c))).wrote
       else s.wrote stAccessDenied)
    else (s.setReg Reg.MGT_MGR_LOCK 0).wrote

/-- A field of an operation slot is written (R165 to R167). -/
def State.slotWrite (s : State) (i off : Nat) (v : Word) (who : Option Nat) : State :=
  let o := s.opSlot i
  if off = 0x14 then s.slotCommand i (bits v.toNat 3 0) who
  else if off = 0x00 then s.setOp i { o with code := bits v.toNat 7 0 }
  else if off = 0x04 then s.setOp i { o with arg0 := v }
  else if off = 0x08 then s.setOp i { o with arg1 := v }
  else if off = 0x0C then s.setOp i { o with arg2 := v }
  else s.setOp i { o with arg3 := v }

/-- KCT_CTX_CFG is written: clearing ENABLE closes the context's session (R265, R304, R308). -/
def State.ctxWrite (s : State) (v : Word) : State :=
  let c := s.fld Reg.KCT_CTX_SEL 11 0
  let x := s.ctx c
  let s1 := s.setCtx c { x with enable := bit v.toNat 31, manager := bit v.toNat 30, peer := bit v.toNat 29 }
  if x.enable && !bit v.toNat 31 then s1.sendClose c 5 else s1

/-- What a plain register's new value brings with it. -/
def State.afterWrite (s : State) (a : Nat) (old : Word) : State :=
  let o := a % 0x10000
  let port := if a < 0x110000 then 0 else 1
  let prt := decide (0x100000 ≤ a ∧ a < 0x120000)
  if a = Reg.PRT_PTP_CFG 0 then s.judgeParent
  else if a = Reg.PRT_PPS_CFG 0 then s.gatePps
  else if a = Reg.GLB_CTRL then s.setPromise promiseParity (s.flag Reg.GLB_CTRL 0)
  else if a = Reg.RAS_SCRUB_CFG then (if s.flag Reg.RAS_SCRUB_CFG 31 then s else s.scrubLapse none)
  else if a = Reg.RAS_CLK_MON_STATUS then s.conditions
  else if 0x0100C0 ≤ a ∧ a < 0x0100E0 then
    let i := (a - 0x0100C0) / 4
    { s with log := { s.log with due := tabSet (fun _ => 0) s.log.due i (if s.flag a 31 then s.log.wseq else 0) } }
  else if a = Reg.PWR_AUTO then
    (if s.flag Reg.PWR_AUTO 31 then s else ({ s with pwr := { s.pwr with auto := 0 } }).toEffective 4)
  else if a = Reg.PWR_WAKE_CFG ∨ a = Reg.PWR_ALARM_SEC_LO ∨ a = Reg.PWR_ALARM_SEC_HI then
    { s with pwr := { s.pwr with alarmDone := false } }
  else if a = Reg.SRM_RET_MASK then s.setReg a (s.reg a ||| 3)
  else if a = Reg.PWR_HYST 0 then s.setReg a 0
  else if a = Reg.TIER_AWAKE_LOW then s.judgePressure
  else if a = Reg.EGR_CTRL 0 ∨ a = Reg.EGR_CTRL 1 then s.egr.sess.foldl (fun t e => t.joinRings e.1) s
  else if prt && decide (o = 0x40) then
    (if s.reg a = old then s else (List.range 4).foldl (fun t k => t.linkDown (4 * port + k)) s)
  else if prt && decide (0x9040 ≤ o ∧ o < 0x9140) && (o - 0x9040) % 0x40 == 0 then s.judgePn (4 * port + (o - 0x9040) / 0x40)
  else if prt && decide (0x4000 ≤ o ∧ o < 0x8000) then
    let m := 4 * port + (o / 0x1000 - 4)
    let r := o % 0x1000
    if r = 0x70 then s.setMac m { s.mac m with gw4 := {} }
    else if 0x74 ≤ r ∧ r < 0x84 then s.setMac m { s.mac m with gw6 := {} }
    else s
  else s

/-- A write that is a command of its own, or goes to state that a register only shows: the state that it leaves, with its
status in `lastStatus`; none for a plain register. -/
def State.commandWrite (s : State) (a : Nat) (v : Word) (who : Option Nat) (e : RecordErrs) : Option State :=
  let n := v.toNat
  let go (i : Nat) (x : Host.Outcome State Fault Refusal) : Option State := some (if bit n i then ran s x else s)
  let out (x : Host.Outcome State Fault Refusal) : Option State := some (ran s x)
  let o := a % 0x10000
  if a = Reg.MGT_MGR_LOCK then some (s.lockWrite v who)
  else if a = Reg.MGT_BOOT_CTRL then go 0 (execBootContinue s)
  else if a = Reg.MGT_RESET_CAUSE then some { s with boot := { s.boot with resetCause := s.boot.resetCause &&& ~~~v } }
  else if a = Reg.MGT_RESET_CTRL then out (execWarmReset false v s)
  else if a = Reg.MGT_FLASH_CTRL then
    some (if bits n 9 8 = 3 then s.wrote stOutOfRange
      else if bit n 0 then s.flashStart (bits n 9 8)
      else s.setReg a (v &&& 0x300))
  else if a = Reg.MGT_FUSE_PROG then out (execFuseProg v s)
  else if 0x006040 ≤ a ∧ a < 0x006840 then some (s.slotWrite ((a - 0x006040) / 0x40) ((a - 0x006040) % 0x40) v who)
  else if a = Reg.PWR_REQ then out (execPwrReqWrite v s)
  else if 0x021040 ≤ a ∧ a < 0x0210D4 then out (execPwrVoteWrite false ((a - 0x021040) / 4) v s)
  else if 0x023040 ≤ a ∧ a < 0x023060 then out (execPwrVoteWrite true ((a - 0x023040) / 4) v s)
  else if a = Reg.PRT_PTP_CTRL 0 then
    some (if bit n 0 && s.time.synced then s.wrote stAccessDenied else ran s (execPtpSet v s))
  else if a = Reg.PRT_MS_SA_INSTALL 0 then out (execMsSaInstall 0 v s)
  else if a = Reg.PRT_MS_SA_INSTALL 1 then out (execMsSaInstall 1 v s)
  else if a = Reg.KCT_KEY_INSTALL then out (execKeyInstall v s)
  else if a = Reg.KCT_SESS_CTRL then
    let c := BitVec.ofNat 12 (bits n 11 0)
    let s1 := if bit n 31 then ran s (execSessCtrlClose c s) else s
    some (if bit n 30 then ran s1 (execSessCtrlSwitch c s1) else s1)
  else if a = Reg.KCT_CTX_CFG then some (s.ctxWrite v)
  else if a = Reg.PIPE_RGN_CMD then
    (match n % 8 with
     | 0 => some s
     | 1 => out (execRegionRead s)
     | 2 => out (execRegionCreate e.lost s)
     | 3 => out (execRegionModify e.lost s)
     | 4 => out (execRegionDisable e.lost s)
     | 5 => out (execRegionEnable e.lost s)
     | _ => out (execRegionDestroy e.lost s))
  else if a = Reg.PIPE_GNT_CMD then
    (match n % 8 with
     | 0 => some s
     | 1 => out (execGrantRead s)
     | 2 => out (execGrantAdd e.lost s)
     | 3 => out (execGrantModify e.lost s)
     | _ => out (execGrantRemove e.lost s))
  else if a = Reg.PIPE_DSC_CMD then
    (match n % 4 with
     | 0 => some s
     | 1 => out (execDescRead e.errs s)
     | 2 => out (execDescSetPin e.errs s)
     | _ => out (execDescClearPin e.errs s))
  else if a = Reg.PIPE_DC_CTRL then go 0 (execDcFlush s)
  else if a = Reg.COH_SG_CMD then
    (match n % 8 with
     | 0 => some s
     | 1 => out (execSgRead s)
     | 2 => out (execSgAdd s)
     | 3 => out (execSgRemove s)
     | _ => out (execSgClear s))
  else if 0x601040 ≤ a ∧ a < 0x601140 then out (execTierStandCfgWrite ((a - 0x601040) / 0x20) v s)
  else if a = Reg.TIER_POL_COMMIT then go 0 (execTierPolCommit s)
  else if a = Reg.CMP_CLANE_OOS then out (execClaneReturn v s)
  else if a = Reg.CMP_DLANE_OOS then out (execDlaneReturn v s)
  else if a = Reg.CMP_CLS_CMD then
    (match n % 4 with
     | 0 => some s
     | 1 => out (execClassCommit s)
     | 2 => out (execClassUnload s)
     | _ => out (execClassClearStage s))
  else if a = Reg.CMP_CLS_DATA then out (execClassDataWrite v s)
  else if a = Reg.CRY_DWK_CMD then go 0 (execDwkBurn v s)
  else if a = Reg.CRY_XTS_OOS then out (execXtsEngineReturn false v s)
  else if a = Reg.CRY_GCM_OOS then out (execXtsEngineReturn true v s)
  else if a = Reg.CRY_KS_CMD then
    (match n % 4 with
     | 0 => some s
     | 1 => out (execKeySlotLoad s)
     | 2 => out (execKeySlotZeroise s)
     | _ => out (execKeySlotRead s))
  else if a = Reg.DRC_FP_CTRL 0 then out (execFpTargetWrite v s)
  else if a = Reg.DRC_DIMM_OFF 0 then out (execDimmOff v s)
  else if 0xA00000 ≤ a ∧ a < 0xB00000 ∧ o = 0x4114 then
    let c := (a - 0xA00000) / 0x10000
    let s1 := if bit n 0 then ran s (execCetClearSel c s) else s
    some (if bit n 1 then ran s1 (execCetClearAll c s1) else s1)
  else if 0xC01040 ≤ a ∧ a < 0xC01600 then out (execBankOwnerWrite ((a - 0xC01040) / 4) v s)
  else if a = Reg.SRM_WIN_CMD then
    (match n % 8 with
     | 0 => some s
     | 1 => out (execWinRead e.first e.again e.meet s)
     | 2 => out (execWinWrite e.meet s)
     | 3 => out (execWinAdd e.first e.again e.meet s)
     | 4 => out (execWinSwap e.first e.again e.meet s)
     | 5 => out (execWinSet e.first e.again e.meet s)
     | _ => out (execWinClear e.first e.again e.meet s))
  else if a = Reg.MREG_EFFICIENCY then out (execMregEfficiencyWrite false v s)
  else if a = Reg.MREG_ADMIT_PCT then out (execMregEfficiencyWrite true v s)
  else if a = Reg.MREG_COMMIT then go 0 (execMregCommit s)
  else if a = Reg.EGR_SESS_CLASS 0 then
    let c := s.egrSel
    some ((s.setEsess c { s.esess c with cls := v &&& 0x0007_7777 }).joinRings c)
  else if a = Reg.EGR_SESS_SHAPE 0 then out (execSessShapeWrite v s)
  else if 0x300000 ≤ a ∧ a < 0x320000 ∧ 0x2040 ≤ o ∧ o < 0x20C0 then
    out (execCshpWrite (4 * ((a - 0x300000) / 0x10000) + (o - 0x2040) / 0x20) ((o - 0x2040) % 0x20 / 4) v s)
  else if a = Reg.EGR_GCL_COMMIT 0 then go 0 (execGclCommit 0 v s)
  else if a = Reg.EGR_GCL_COMMIT 1 then go 0 (execGclCommit 1 v s)
  else if a = Reg.ING_SESS_CFG then out (execIngSessCfgWrite v s)
  else if a = Reg.ING_PROF_CMD then (match n % 4 with
     | 0 => some s
     | 1 => out (execIngProfileRead s)
     | _ => out (execIngProfileWrite v s))
  else none

/-! ### The common page header (R138 to R142, R153, R155, R640) -/

/-- PAGE_CTRL is written. -/
def State.pageCtrlWrite (s : State) (a : Nat) (v : Word) : State :=
  let b := blockBase a
  let old := s.reg a
  let lock : Word := (old ||| v) &&& 4
  if a ≠ b + 0x00C then (s.setReg a ((old &&& 3) ||| lock)).wrote
  else if (bit v.toNat 1 && bit old.toNat 0) || (bit v.toNat 0 && !s.usesComplete b) then s.wrote stAccessDenied
  else (s.setReg a (lock ||| ((old ||| v) &&& 2) ||| (v &&& 1))).wrote

/-- The event of an instance whose status bit is bit `i` of a page. -/
def eventAt (a i : Nat) : Option (Nat × Nat) :=
  match pageOf a with
  | some (b, inst, p) =>
    let code := b.code * 256 + 32 * p + i + 1
    if eventTable.any (fun e => e.1 == code) then some (code, inst) else none
  | none => none

/-- EVT_STATUS is written: bits cleared, and the fault wire follows (R26, R153, R155). -/
def State.evtClear (s : State) (a : Nat) (v : Word) : State :=
  let s1 := s.setReg a (s.reg a &&& ~~~v)
  let s2 := if s1.reg a = 0 then s1.setReg (pageBase a + 0x020) 0 else s1
  { s2 with logic := { s2.logic with faultWire := s2.faultReason } }

/-- EVT_FORCE is written: the named events of the page occur, forced (R138, R155). -/
def State.evtForce (s : State) (a : Nat) (v : Word) : State :=
  (List.range 32).foldl (fun t i =>
    if bit v.toNat i then
      match eventAt a i with
      | some (code, inst) => t.occur code inst true false t.time.nanos 0 0
      | none => t
    else t) s

/-- A register of the header is written. -/
def State.headerWrite (s : State) (a : Nat) (v : Word) : State :=
  match a % 0x1000 with
  | 0x00C => s.pageCtrlWrite a v
  | 0x014 => (s.evtClear a v).wrote
  | 0x018 => (s.setReg a v).wrote
  | 0x01C => (s.evtForce a v).wrote
  | 0x030 => (s.setReg a (s.reg a &&& ~~~(v &&& 0x8000_0000))).wrote
  | _ => s.wrote stAccessDenied

/-! ### A write (R134, R135, R139, R144, R166, R778) -/

/-- How a write ends: with a status, waiting for its domain or the link, or waiting for the intake die to answer (R54, R139). -/
inductive WriteEnd where
  | done (status : Nat)
  | waits
  | link
  deriving DecidableEq, Repr

/-- Registers whose write goes over the intake link (R54). -/
def linkReg (a : Nat) : Bool :=
  a == Reg.INT_CTRL || a == Reg.INT_FAULT || a == Reg.INT_UNLOCK || a == Reg.INT_CFG_COMMIT || a == Reg.INT_PROFILE_PROG

/-- A second domain that a register command needs: a wrapped key is unwrapped in D11 (R203, R266). -/
def secondDomain (a : Nat) (v : Word) : Option Nat :=
  if (a = Reg.PRT_MS_SA_INSTALL 0 ∨ a = Reg.PRT_MS_SA_INSTALL 1 ∨ a = Reg.KCT_KEY_INSTALL) ∧ bit v.toNat 31 = true then some 11
  else none

/-- A rewritten register's parity is computed afresh (R144). -/
def State.freshParity (s : State) (a : Nat) : State :=
  { s with mgmt := { s.mgmt with parityBad := s.mgmt.parityBad.filter (· != a) } }

/-- A plain register takes a value, by its access type. -/
def State.plainWrite (s : State) (a : Nat) (v : Word) : State :=
  let m := writeMask a
  let old := s.reg a
  let t :=
    match accessOf a with
    | .w1c => s.setReg a (old &&& ~~~(v &&& m))
    | .w1s => s.setReg a (old ||| (v &&& m))
    | _ => (s.setReg a ((old &&& ~~~m) ||| (v &&& m))).freshParity a
  t.afterWrite a old

/-- A write to a register by a session, or by none: the state, and how it ends. -/
def State.writeReg (s : State) (a : Nat) (v : Word) (who : Option Nat) (e : RecordErrs) : State × WriteEnd :=
  let d := regDomain a
  let e2 := (secondDomain a v).getD d
  if !implemented a then (s, .done stOutOfRange)
  else if a % 0x1000 < 0x40 then
    let t := s.headerWrite a v
    (if accessOf a = .rw ∧ t.mgmt.lastStatus = stOK then t.freshParity a else t, .done t.mgmt.lastStatus)
  else if s.domFailed d || s.domFailed e2 then (s, .done stDomainFailed)
  else if !s.up d then (s.stall d, .waits)
  else if !s.up e2 then (s.stall e2, .waits)
  else if accessOf a = .ro ∨ accessOf a = .rc ∨ copyOnly a ∨ (accessOf a = .rwl ∧ s.pageLocked a) then (s, .done stAccessDenied)
  else if !rangesOk a v then (s.reservedCode a, .done stOutOfRange)
  else
    match s.writeRefused a v with
    | some st =>
      let timing := decide (0xA00000 ≤ a ∧ a < 0xB00000) && a % 0x10000 / 0x1000 == 2
      (if timing then s.raiseAt 0xA006 ((a - 0xA00000) / 0x10000) (a % 0x10000) 0 else s, .done st)
    | none =>
      if linkReg a && s.intake.linkWrite.isSome then (s, .waits)
      else if linkReg a && !s.linkReady then (s, .done stInternalFault)
      else if a = Reg.INT_CFG_COMMIT ∧ bit v.toNat 0 = false then (s, .done stOK)
      else if linkReg a then ((s.linkSend a v).freshParity a, .link)
      else
        match s.wrote.commandWrite a v who e with
        | none => (s.plainWrite a v, .done stOK)
        | some t => (if t.mgmt.lastStatus = stOK ∧ (accessOf a = .rw ∨ accessOf a = .rwl) then t.freshParity a else t, .done t.mgmt.lastStatus)

end Sys2Proof.Machine
end

