-- ==== Sys2Proof/Machine/Mgmt.lean ====
section
/-! DEFINITION. The management plane (05_registers_ops.md): single register writes, the common page header, soft reset, the
parity scan, events and their delivery, management messages and the lock. -/

namespace Sys2Proof.Machine

open Sys2Proof

/-! ### Single writes -/

/-- A write outside a message ends: its status is kept; Retry where it waits for its domain or the intake link. -/
def State.single (s : State) (a : Nat) (v : Word) (who : Option Nat) : State :=
  match s.writeReg a v who RecordErrs.none with
  | (t, .done st) => t.wrote st
  | (t, _) => t.wrote stRetry

/-- REGISTER_WRITE (R134, R135, R166, R778): a write by no session. -/
def execRegisterWrite (addr : BitVec 24) (value : Word) (s : State) : Host.Outcome State Fault Refusal :=
  guarded s.live s (s.single addr.toNat value none)

/-- The PAGE_CTRL register of page 0 of the block that holds an address. -/
def ctrlOf (a : BitVec 24) : Nat := blockBase a.toNat + 0x00C

/-- PAGE_ENABLE (R141, R640). -/
def execPageEnable (addr : BitVec 24) (on : Bool) (s : State) : Host.Outcome State Fault Refusal :=
  guarded s.live s (s.single (ctrlOf addr) (BitVec.ofNat 32 (bitNat on)) none)

/-- PAGE_SOFT_RESET: SOFT_RESET is written 1, and ENABLE as given (R140). -/
def execPageSoftReset (addr : BitVec 24) (enable : Bool) (s : State) : Host.Outcome State Fault Refusal :=
  guarded s.live s (s.single (ctrlOf addr) (BitVec.ofNat 32 (2 + bitNat enable)) none)

/-- PAGE_LOCK: LOCK is written 1, and on page 0 ENABLE as it is (R142). -/
def execPageLock (addr : BitVec 24) (s : State) : Host.Outcome State Fault Refusal :=
  let a := pageBase addr.toNat + 0x00C
  guarded (s.live && (pageOf a).isSome) s (s.setReg a (s.reg a ||| 4)).wrote

/-- EVT_STATUS_CLEAR (R153). -/
def execEvtStatusClear (addr : BitVec 24) (value : Word) (s : State) : Host.Outcome State Fault Refusal :=
  guarded s.live s (s.single (pageBase addr.toNat + 0x014) value none)

/-- EVT_FORCE (R138, R155). -/
def execEvtForce (addr : BitVec 24) (value : Word) (s : State) : Host.Outcome State Fault Refusal :=
  guarded s.live s (s.single (pageBase addr.toNat + 0x01C) value none)

/-- MGR_LOCK: the session of a client writes MGT_MGR_LOCK (R150). -/
def execMgrLock (client : BitVec 12) (value : Word) (s : State) : Host.Outcome State Fault Refusal :=
  guarded s.live s (s.lockWrite value (s.whoIs client.toNat))

/-! ### Soft reset (R140, R551) -/

/-- A register of the block after its soft reset: LOCK, ENABLE and the RW and RWL registers keep their values, and so do the
SPD's timing values, which are their own reset values. -/
def softReg (a : Nat) (v : Word) : Word :=
  if a % 0x1000 = 0x00C then v &&& 5
  else
    match accessOf a with
    | .rw | .rwl => v
    | _ => if 0xA00000 ≤ a ∧ a < 0xB00000 ∧ 0x2080 ≤ a % 0x10000 ∧ a % 0x10000 < 0x209C then v else resetOf a

/-- The block instance that holds a register is the one at a base. -/
def inBlock (base a : Nat) : Bool := blockBase a == base

/-- What a block's soft reset makes of its queues and internal state. Tables that a manager has entered (regions, grants, share
groups, classes, keys, the retired list), the boot sequencer, the power states and what describes where data lies stay. Of INT,
which mirrors the intake die, the latches, the history and the energy count are reset, and what the die does to the feeds and
PG_OUT goes on, a latch-off too (DEDUCED, log 196). -/
def State.softState (s : State) (base : Nat) : State :=
  if base = 0x000000 then { s with thermal := { s.thermal with invalid := 0 } }
  else if base = 0x004000 then
    let t := opSlots.foldl (fun t i => if (t.opSlot i).state.votes then t.opRelease (t.opSlot i) else t) s
    { t with mgmt := { t.mgmt with
      jobs := [], latches := []
      slots := tabMap (fun _ => {}) (fun _ o => { code := o.code, arg0 := o.arg0, arg1 := o.arg1, arg2 := o.arg2, arg3 := o.arg3 })
        t.mgmt.slots } }
  else if base = 0x028000 then s.setIntake { s.intake with faults := 0, hist := [], energy := 0 }
  else if base = 0x010000 then
    { s with log := { s.log with ring := [], wseq := 0, due := [] }, scrubs := [] }
  else if base = 0x100000 then s.loseState 1
  else if base = 0x110000 then s.loseState 2
  else if base = 0x200000 then
    let t := s.liveClients.foldl (fun t c => t.sessionGone c .none) s
    { t with kct := { t.kct with
      ctx := tabMap (fun _ => {}) (fun _ x => { x with waiting := none, sess := {} }) t.kct.ctx
      delivered := [], gcm := [], stage11 := [] } }
  else if base = 0x300000 ∨ base = 0x310000 then
    let p := (base - 0x300000) / 0x10000
    let mine (m : Nat) : Bool := macPort m == p
    let sess := tabMap (fun _ => {}) (fun c x =>
      if mine (s.sess c).current then { x with queue := [], deficit := [], e := 16 * (s.now : Int) } else x) s.egr.sess
    { s with egr := { s.egr with
      sess := sess
      rings := s.egr.rings.filter fun e => !mine (e.1 / 8)
      shapers := s.egr.shapers.filter fun e => !mine (e.1 / 8)
      guards := s.egr.guards.filter fun e => !mine (e.1 / 8)
      overrunAt := s.egr.overrunAt.filter fun e => !mine e.1
      gates := tabSet (fun _ => {}) s.egr.gates p {}
      full := tabSet (fun _ => false) s.egr.full p false } }
  else if base = 0x320000 then
    s.egr.sess.foldl (fun t e => (t.setEsess e.1 { t.esess e.1 with red := 0 }).resetPolicer e.1 true) s
  else if base = 0x400000 then
    { s with pipe := { s.pipe with
      cache := [], useClock := 0, flushing := false, rgnBusy := false, rgnCode := 0, rgnHold := [], gntCode := 0, gntIndex := 0
      dscBusy := false, dscCode := 0, places := [] } }
  else if base = 0x500000 then
    let t := s.coh.flights.foldl (fun t f => t.freeSlots f.slots) s
    { t with coh := { t.coh with
      flights := [], bulks := [], retries := [], credits := [], sgCode := 0, sgMember := false, sweep := none } }
  else if base = 0x600000 then
    let t := s.tier.moves.foldl (fun t m => t.undoMove m false) s
    { t with tier := { t.tier with
      moves := [], picked := [], hints := [], promos := [], captures := [], batch0 := {}, batch1 := {}, scanRegion := 0
      scanPage := 0, stopped := false, noFloor := false, thinning := false } }
  else if base = 0x700000 then
    let t := s.loseState 9
    { t with cmp := { t.cmp with stage := [], unloading := none } }
  else if base = 0x800000 then { s with cry := { s.cry with fails := [] } }
  else if base = 0x900000 then { s with mreg := { s.mreg with counts := [] } }
  else if base = 0xC00000 then { s with sram := { s.sram with bistBank := 0, bistRegion := 0, winWait := none } }
  else if 0xA00000 ≤ base then
    let n := (base - 0xA00000) / 0x10000
    let t := (s.flushWrites n fun _ => true).loseState (13 + n)
    let c := t.chan n
    t.setChan n { c with
      port := [], alert := [], reissued := []
      subA := { c.subA with queue := [], ret := [] }, subB := { c.subB with queue := [], ret := [] } }
  else s

/-- SOFT_RESET_DONE (R140). -/
def execSoftResetDone (addr : BitVec 24) (s : State) : Host.Outcome State Fault Refusal :=
  let base := blockBase addr.toNat
  let s1 := s.softState base
  let f (a : Nat) (v : Word) : Word := if inBlock base a then softReg a v else v
  let s2 := { s1 with regs := tabMap resetOf f s1.regs }
  guarded (s.live && (pageOf base).isSome && s.flag (base + 0x00C) 1) s
    { s2 with logic := { s2.logic with faultWire := s2.faultReason } }

/-! ### The parity scan (R143, R144) -/

/-- PARITY_SCAN: a stored register's bits `flip` have changed since its parity was computed; the scan visits it, and with
`passEnd` has visited every register. -/
def execParityScan (addr : BitVec 24) (flip : Word) (passEnd : Bool) (s : State) : Host.Outcome State Fault Refusal :=
  let a := addr.toNat
  let kept := implemented a && (accessOf a == .rw || accessOf a == .rwl)
  let odd := ((List.range 32).filter fun i => flip.getLsbD i).length % 2 == 1
  let s1 := s.setReg a (s.reg a ^^^ flip)
  let has := s.mgmt.parityBad.contains a
  let bad := has != odd
  let list := if bad then (if has then s.mgmt.parityBad else s.mgmt.parityBad ++ [a]) else s.mgmt.parityBad.filter (· != a)
  let s2 := { s1 with mgmt := { s1.mgmt with parityBad := list } }
  let r := pageBase a + 0x030
  let s3 :=
    if bad then
      (if s2.flag r 31 then s2 else s2.setReg r (BitVec.ofNat 32 (2 ^ 31 + a % 0x1000))).raise 0x0301 a
    else s2
  let s4 := if kept then s3 else s
  guarded (s.live && s.flag Reg.GLB_CTRL 0) s
    (if passEnd then s4.setReg Reg.GLB_PARITY_SCAN (s4.reg Reg.GLB_PARITY_SCAN + 1) else s4)

/-! ### Events (R151 to R160) -/

/-- EVENT_RAISE: an event of an instance occurs with its details (R153 to R157). -/
def execEventRaise (code : BitVec 16) (inst : Nat) (detail : DWord) (second : Word) (s : State) :
    Host.Outcome State Fault Refusal :=
  let known := eventTable.any fun e => e.1 == code.toNat
  let insts := match blocks.find? (fun b => b.code == code.toNat / 256) with | some b => b.insts | none => 0
  guarded (s.live && known && decide (inst < insts)) s (s.raiseAt code.toNat inst detail.toNat second.toNat)

/-- Entries of the log from a sequence number on, oldest first. -/
def State.logFrom (s : State) (q : Word) : List LogEntry :=
  s.log.ring.filter fun e => decide ((e.seq - q).toNat < 2 ^ 31)

/-- A session's send window is full (R286). -/
def State.windowFull (s : State) (c : Nat) : Bool :=
  let x := s.sess c
  decide (x.acked + x.window ≤ x.txNext)

/-- An Event message's body (R253). -/
def eventBody (l : List LogEntry) : List Byte :=
  BitVec.ofNat 8 l.length :: (List.replicate 3 (0 : Byte) ++ beBytes 4 (match l with | e :: _ => e.seq.toNat | [] => 0)
    ++ l.flatMap fun e => e.words.flatMap (beBytes 4))

/-- EVENT_DELIVERY: HOLDOFF has passed for a subscription, and the entries due to it are sent, or skipped while its send window is
full (R158 to R160). Entries that follow the message's last are still due. -/
def execEventDelivery (q : Nat) (s : State) : Host.Outcome State Fault Refusal :=
  let a := Reg.RAS_SUB q
  let c := s.fld a 11 0
  let valid := decide (q < 8) && s.flag a 31
  let mine := (s.sess c).live && (s.sess c).epoch.toNat == s.fld a 27 24
  let shut := (s.sess c).closeSent
  let due := (s.logFrom (tabGet (fun _ => 0) s.log.due q)).filter fun e => decide (s.fld a 29 28 ≤ e.sev)
  let l := due.take (s.fld Reg.RAS_DELIVERY_CFG 4 0)
  let upTo (t : State) (w : Word) : State := { t with log := { t.log with due := tabSet (fun _ => 0) t.log.due q w } }
  let t :=
    if !mine then s.clearSub q
    else
      match l.getLast? with
      | none => upTo s s.log.wseq
      | some e =>
        if s.windowFull c then (upTo s s.log.wseq).raise 0x0302 (s.sessId c) c
        else
          let (id, s1) := s.drawMsgId c
          upTo (s1.sendMsg c tEvent id stOK (eventBody l)) (e.seq + 1)
  guarded (s.live && valid && !(mine && shut)) s t

/-! ### Management messages (R145 to R150, R249, R250) -/

/-- The 8-byte records of a message. -/
def recordsOf (b : List Byte) : List (Nat × Nat) :=
  (List.range (beAt b 2 2)).map fun i => (beAt b (4 + 8 * i) 4, beAt b (8 + 8 * i) 4)

/-- The count of a read record. -/
def readCount (v : Nat) : Nat := bits v 6 0

/-- A message as a job. -/
def MgmtJob.start (m : InMsg) : MgmtJob :=
  { client := m.client, epoch := m.epoch.toNat, msgId := m.msgId, write := m.type == tMgmtWrite
    stopOnError := bit (beAt m.body 0 1) 0, todo := recordsOf m.body, answers := [], failed := false }

/-- A job's MgmtResp (R249, R250). -/
def MgmtJob.answer (j : MgmtJob) : List Byte :=
  beBytes 2 j.answers.length ++ List.replicate 2 (0 : Byte) ++ j.answers.flatMap fun (st, vals) => beBytes 4 st ++ vals.flatMap fun v => beBytes 4 v.toNat
def MgmtJob.status (j : MgmtJob) : Nat := match j.answers.find? (fun x => x.1 != stOK) with | some (st, _) => st | none => stOK

/-- A record has ended with a status and values. -/
def MgmtJob.ended (j : MgmtJob) (st : Nat) (vals : List Word) : MgmtJob :=
  { j with todo := j.todo.tail, answers := j.answers ++ [(st, vals)], failed := j.failed || st != stOK, waitLink := false }

/-- MGT_BATCH_ERR counts a failed record. -/
def State.batchErr (s : State) (st : Nat) : State := if st = stOK then s else s.count Reg.MGT_BATCH_ERR

/-- The registers of a read record, in order: their values, or the status of the first that cannot be read; the domain that one
of them waits for. -/
def State.readAll (s : State) (a : Nat) : Nat → List Word → State × Except (Option Nat) (List Word)
  | 0, acc => (s, .ok acc.reverse)
  | n + 1, acc =>
    let d := regDomain a
    if !implemented a then (s, .error (some stOutOfRange))
    else if decide (0x40 ≤ a % 0x1000) && s.domFailed d then (s, .error (some stDomainFailed))
    else if decide (0x40 ≤ a % 0x1000) && !s.up d then (s.stall d, .error none)
    else
      let (t, w) := s.readReg a
      t.readAll (a + 4) n (w :: acc)

/-- The registers of a read record can all be read without waiting, up to the first that cannot be read at all; otherwise the domain
that the record waits for. -/
def State.readWaits (s : State) (a : Nat) : Nat → Option Nat
  | 0 => none
  | n + 1 =>
    let d := regDomain a
    if !implemented a ∨ (0x40 ≤ a % 0x1000 ∧ s.domFailed d = true) then none
    else if 0x40 ≤ a % 0x1000 ∧ s.up d = false then some d
    else s.readWaits (a + 4) n

/-- One record is executed: the state and the job, and whether it goes on to the next (R139, R147, R148). -/
def State.doRecord (s : State) (j : MgmtJob) (e : RecordErrs) : State × MgmtJob × Bool :=
  match j.todo with
  | [] => (s, j, false)
  | (a, v) :: _ =>
    let fin (t : State) (st : Nat) (vals : List Word) : State × MgmtJob × Bool := (t.batchErr st, j.ended st vals, true)
    if j.failed && j.stopOnError then (s, j.ended stRetry [], true)
    else if j.waitLink then (if s.intake.linkWrite.isSome then (s, j, false) else fin s s.mgmt.lastStatus [])
    else if j.write then
      match s.writeReg a (BitVec.ofNat 32 v) (some j.client) e with
      | (t, .done st) => fin t st []
      | (t, .waits) => (t, j, false)
      | (t, .link) => (t, { j with waitLink := true }, false)
    else if readCount v = 0 ∨ 64 < readCount v then fin s stOutOfRange []
    else
      match s.readWaits a (readCount v) with
      | some d => (s.stall d, j, false)
      | none =>
        match s.readAll a (readCount v) [] with
        | (t, .ok vals) => fin t stOK vals
        | (t, .error st) => fin t (st.getD stRetry) []

/-- The records of a job, one after another, until one waits or all have been executed; a write record that starts a window command
takes the next of the reported errors. -/
def State.doRecords (s : State) (j : MgmtJob) : Nat → List RecordErrs → State × MgmtJob
  | 0, _ => (s, j)
  | n + 1, l =>
    match s.doRecord j (l.headD RecordErrs.none) with
    | (t, k, true) => t.doRecords k n l.tail
    | (t, k, false) => (t, k)

/-- The front job runs on: it waits, or is answered. A job whose session a record has ended is gone. -/
def State.runJob (s : State) (j : MgmtJob) (l : List RecordErrs) : State :=
  let (t, k) := s.doRecords j (j.todo.length + 1) l
  let lives := (t.sess j.client).bound && (t.sess j.client).epoch.toNat == j.epoch
  if !t.live || !lives then { t with mgmt := { t.mgmt with jobs := [] } }
  else if k.todo.isEmpty then
    ({ t with mgmt := { t.mgmt with jobs := [] } }).reply k.client (BitVec.ofNat 4 k.epoch) tMgmtResp k.msgId k.status k.answer
  else { t with mgmt := { t.mgmt with jobs := [k] } }

/-- A message is refused as a whole (R250). -/
def State.refuseBatch (s : State) (m : InMsg) (st : Nat) : State := s.reply m.client m.epoch tMgmtResp m.msgId st [0, 0, 0, 0]

/-- A management message is taken, or the one that waits is continued (R145 to R147, R150). -/
def State.batch' (s : State) (type : Nat) (l : List RecordErrs) : State :=
  match s.mgmt.jobs with
  | j :: _ => if j.write == (type == tMgmtWrite) then s.runJob j l else s
  | [] =>
    match s.takeMgmt with
    | none => s
    | some (m, t) =>
      if m.type != type then s
      else
        let j := MgmtJob.start m
        let regs := (j.todo.map fun r => readCount r.2).sum
        if !(t.ctx m.client).manager then (t.denied m.client).refuseBatch m stAccessDenied
        else if j.write && t.lockedOut m.client m.epoch then t.refuseBatch m stAccessDenied
        else if 256 < j.todo.length ∨ (j.write = false ∧ 512 < regs) then t.refuseBatch m stOutOfRange
        else (t.setReg Reg.MGT_BATCH_COUNT (t.reg Reg.MGT_BATCH_COUNT + 1)).runJob j l

/-- MGMT_READ. -/
def execMgmtRead (s : State) : Host.Outcome State Fault Refusal := guarded s.live s (s.batch' tMgmtRead [])

/-- MGMT_WRITE: `errs` are what the window commands that its records start meet, record by record. -/
def execMgmtWrite (errs : List RecordErrs) (s : State) : Host.Outcome State Fault Refusal :=
  guarded s.live s (s.batch' tMgmtWrite errs)

end Sys2Proof.Machine
end

