-- ==== Sys2Proof/Machine/Image.lean ====
section
/-! DEFINITION. The configuration image (04_startup.md, R105 to R116): choosing a slot, checking it and applying its sections and
tables. -/

namespace Sys2Proof.Machine

open Sys2Proof

/-! ### The image in the boot store (R108, R111, R112) -/

/-- The address of a slot. -/
def slotBase (b : Bool) : Nat := if b then 0x400000 else 0

/-- `n` bytes at an offset of a slot as a number. -/
def State.slotWord (s : State) (b : Bool) (o n : Nat) : Nat := beNat (s.flashBytes (slotBase b + o) n)

/-- A slot's header can be read: MAGIC and FORMAT match (R113, R114). -/
def State.readable (s : State) (b : Bool) : Bool := s.slotWord b 0 4 == 0x53594231 && s.slotWord b 4 2 == 1

/-- IMAGE_LEN fits the slot and leaves room for the header and the signature. -/
def State.lengthOk (s : State) (b : Bool) : Bool := decide (352 ≤ s.slotWord b 8 4 ∧ s.slotWord b 8 4 ≤ 0x400000)

/-- SECTIONS and READ_CFG hold values that R111 gives them. A header with others is none that FORMAT 1 allows, and its slot counts
as not readable (DEDUCED, log 194). -/
def State.headerOk (s : State) (b : Bool) : Bool :=
  let n := s.slotWord b 6 2
  let clock := s.slotWord b 0x17 1
  decide (1 ≤ n ∧ n ≤ 1024) && [0x03, 0x0B, 0x3B, 0x6B, 0x13, 0x3C, 0x6C].contains (s.slotWord b 0x14 1)
    && (s.slotWord b 0x15 1 == 3 || s.slotWord b 0x15 1 == 4) && decide (12 ≤ clock ∧ clock ≤ 100)

/-- Data lines of a read command. -/
def spiLanes (cmd : Nat) : Nat := if cmd = 0x3B ∨ cmd = 0x3C then 2 else if cmd = 0x6B ∨ cmd = 0x6C then 4 else 1

/-- The read of an image behind its header (R109): as READ_CFG names it, or, where BOOT_SEL allows single-bit reads only and it
names others, by the plain read of as many address bytes, without dummy cycles (DESIGN CHOICE, log 195). -/
def State.imageRead (s : State) (b : Bool) : Emit :=
  let cmd := s.slotWord b 0x14 1
  let n := s.slotWord b 0x15 1
  let sck := s.slotWord b 0x17 1
  let a := slotBase b + 256
  let len := s.slotWord b 8 4 - 256
  if s.logic.bootSel = 1 ∧ spiLanes cmd ≠ 1 then .spiRead (if n = 3 then 0x03 else 0x13) n 0 1 sck a len
  else .spiRead cmd n (s.slotWord b 0x16 1) (spiLanes cmd) sck a len

/-- The read of a slot's header (R109). -/
def headerRead (b : Bool) : Emit := .spiRead 0x03 3 0 1 25 (slotBase b) 256

/-- A section: type, target, and where its body lies in the slot. -/
structure Section where
  type : Nat
  target : Nat
  at_ : Nat
  len : Nat
  deriving DecidableEq, Repr

/-- The section whose header lies at an offset of a slot. -/
def State.sectionAt (s : State) (b : Bool) (o : Nat) : Section :=
  { type := s.slotWord b o 1, target := s.slotWord b (o + 8) 4, at_ := o + 16, len := s.slotWord b (o + 4) 4 }

/-- The offset of the section after one. -/
def Section.next (x : Section) : Nat := x.at_ + (x.len + 15) / 16 * 16

/-- The body of a section. -/
def State.body (s : State) (b : Bool) (x : Section) : List Byte := s.flashBytes (slotBase b + x.at_) x.len

/-- The first of `n` sections from an offset that does not lie before `limit` or whose CRC does not match. -/
def State.badSection (s : State) (b : Bool) (limit : Nat) : (n i o : Nat) → Option Nat
  | 0, _, _ => none
  | n + 1, i, o =>
    let x := s.sectionAt b o
    if limit < o + 16 ∨ limit < x.at_ + x.len ∨ (crc32c (s.body b x)).toNat ≠ s.slotWord b (o + 12) 4 then some i
    else s.badSection b limit n (i + 1) x.next

/-- Why a slot is not valid: code and detail of MGT_BOOT_ERR (R113, R131). -/
def State.slotFault (s : State) (b : Bool) : Option (Nat × Nat) :=
  let len := s.slotWord b 8 4
  let pub := s.flashBytes (slotBase b + 0x40) 96
  let h := Config.sha384 pub
  let known := (h == s.boot.keyHash0 && !s.boot.revoked0) || (h == s.boot.keyHash1 && !s.boot.revoked1)
  if !s.readable b || !s.lengthOk b || !s.headerOk b then some (0x01, 0)
  else if !known then some (0x02, 0)
  else if !Config.ecdsaVerify pub (Config.sha384 (s.flashBytes (slotBase b) (len - 96))) (s.flashBytes (slotBase b + (len - 96)) 96) then
    some (0x03, 0)
  else if s.slotWord b 0x10 1 < s.boot.rollback then some (0x04, 0)
  else if 1 < s.slotWord b 0x11 1 then some (0x05, 0)
  else (s.badSection b (len - 96) (s.slotWord b 6 2) 0 256).map fun i => (0x06, i)

/-! ### Choosing and rejecting a slot (R113, R114) -/

/-- A slot is tried from its first section, its image being read (R109). -/
def State.tryImage (s : State) (b : Bool) : State :=
  ({ s with boot := { s.boot with
    stage := .imageVerify, slotB := b, section_ := 0, record := 0, offset := 256, polling := false } }).emit (s.imageRead b)

/-- The slot in hand is rejected: the blocks outside D0 are reset and the other slot is tried, or the boot has failed (R114, R117). -/
def State.rejectSlot (s : State) (code detail : Nat) : State :=
  if s.boot.triedOther then s.bootFail code detail
  else
    let t := ((s.bootErr code detail).resetBlocks false).raise 0x0202
    { t with boot := { t.boot with triedOther := true } }.tryImage (!s.boot.slotB)

/-- IMAGE_HEADERS_READ (R109, R114). -/
def execImageHeadersRead (s : State) : Host.Outcome State Fault Refusal :=
  let r := (s.emit (headerRead false)).emit (headerRead true)
  let t :=
    if !s.readable false && !s.readable true then r.bootFail 0x01 0
    else
      let b := s.readable false && s.readable true && decide (s.slotWord false 0x0C 4 < s.slotWord true 0x0C 4)
      { r with boot := { r.boot with triedOther := false } }.tryImage b
  guarded (s.live && s.boot.stage == .imageRead && !s.boot.failed) s t

/-- IMAGE_VERIFIED (R112 to R114). -/
def execImageVerified (s : State) : Host.Outcome State Fault Refusal :=
  let t :=
    match s.slotFault s.boot.slotB with
    | some (code, detail) => s.rejectSlot code detail
    | none => { s with dram := { s.dram with training := none } }.toStage .apply
  guarded (s.live && s.boot.stage == .imageVerify && !s.boot.failed) s t

/-! ### Tables (R111, R115) -/

/-- How a table ends. -/
inductive TableEnd where
  | accepted
  | refused
  | waits
  deriving DecidableEq, Repr

/-- The records of a body, `n` bytes each. -/
def recordsBy (n : Nat) (b : List Byte) : List (List Byte) := (List.range (b.length / n)).map fun i => (b.drop (n * i)).take n

/-- A table of classes keeps to R492: whole records, classes 1 to 15, none twice, and code tables that R487 accepts. -/
def classTableOk (codes : Bool) (b : List Byte) : Bool :=
  let n := if codes then 160 else 4100
  let l := recordsBy n b
  b.length % n == 0 && (l.map fun r => beAt r 0 1).Nodup
    && l.all fun r => decide (1 ≤ beAt r 0 1 ∧ beAt r 0 1 ≤ 15) && (!codes || codeTableOk (r.drop 3))

/-- The throttle table of a body (R767). -/
def throttleOf (b : List Byte) : List ThrottleRec :=
  (recordsBy 8 b).map fun r => { thresh := beAt r 0 1, hyst := beAt r 1 1, core := beAt r 2 1, dram := beAt r 3 1 }

/-- The slowest core and point that a table asks for at a rising temperature. -/
def askedAt (l : List ThrottleRec) (t : Nat) : Nat × Nat :=
  match (l.filter fun r => decide (r.thresh ≤ t)).getLast? with
  | some r => (r.core, r.dram)
  | none => (0, 0)

/-- A throttle table is accepted (R768). -/
def throttleOk (b : List Byte) : Bool :=
  let l := throttleOf b
  decide (8 ≤ b.length ∧ b.length ≤ 64) && b.length % 8 == 0
    && (recordsBy 8 b).all (fun r => beAt r 4 4 == 0)
    && l.all (fun r => decide (r.thresh ≤ 155 ∧ 1 ≤ r.hyst ∧ r.hyst ≤ 20 ∧ r.core ≤ 2 ∧ r.dram ≤ 2))
    && (l.zip l.tail).all (fun (p, r) => decide (p.thresh < r.thresh ∧ p.core ≤ r.core ∧ p.dram ≤ r.dram))
    && (List.range 161).all fun t =>
      decide ((askedAt builtinTable t).1 ≤ (askedAt l t).1 ∧ (askedAt builtinTable t).2 ≤ (askedAt l t).2)

/-- A record of the training table has no reserved code or bit, and a SWEEP has its ranges (R575, R576). -/
def trainRecOk (r : List Byte) : Bool :=
  let op := beAt r 1 1
  decide (beAt r 0 1 ≤ 7 ∧ 1 ≤ op ∧ op ≤ 5 ∧ beAt r 2 1 < 8 ∧ beAt r 3 1 < 8 ∧ beAt r 12 1 ≤ 3) && beAt r 14 2 == 0
    && (op != 4 || decide (1 ≤ beAt r 4 2 ∧ beAt r 4 2 ≤ 9 ∧ beAt r 6 2 ≤ beAt r 8 2 ∧ 1 ≤ beAt r 10 2))

/-- A training table is accepted (R576). -/
def trainOk (b : List Byte) : Bool :=
  let l := recordsBy 16 b
  let phase (r : List Byte) : Nat := beAt r 0 1
  b.length % 16 == 0 && decide (l.length ≤ 512) && l.all trainRecOk
    && (l.zip l.tail).all (fun (p, r) => decide (phase p ≤ phase r) && (phase p == phase r || beAt p 1 1 == 5))
    && (match l.getLast? with | some r => beAt r 1 1 == 5 | none => true)
    && [1, 2, 3, 4, 5, 6, 7].all fun p => l.any fun r => phase r == p && beAt r 1 1 == 4

/-- The policy table of a body is staged and committed (R429, R430). -/
def State.policyTable (s : State) (b : List Byte) : State × TableEnd :=
  let t := (List.range 64).foldl (fun t i => 
    t.setReg (Reg.TIER_POL (i / 4) (i % 4)) (BitVec.ofNat 32 (beAt b (4 * i) 4) &&& writeMask (Reg.TIER_POL (i / 4) (i % 4)))) s
  let u := ran t (execTierPolCommit t)
  if b.length ≠ 256 then (s, .refused) else (u, if u.flag Reg.TIER_POL_STATUS 31 then .refused else .accepted)

/-- Gate lists as the table gives them are entered in the admin copies and committed (R115, R696). -/
def State.gateTable (s : State) : List (Nat × Nat × List (Nat × Nat)) → State × TableEnd
  | [] => (s, .accepted)
  | (p, base, l) :: r =>
    let s1 := (((s.setReg (Reg.EGR_GCL_ADMIN_BASE_NS p) (BitVec.ofNat 32 (base % 1000000000))).setReg (Reg.EGR_GCL_ADMIN_BASE_SEC_LO p)
      (BitVec.ofNat 32 (base / 1000000000))).setReg (Reg.EGR_GCL_ADMIN_BASE_SEC_HI p)
      (BitVec.ofNat 16 (base / 1000000000 / 2 ^ 32)|>.setWidth 32)).setReg (Reg.EGR_GCL_ADMIN_COUNT p) (BitVec.ofNat 32 l.length)
    let s2 := (List.range l.length).foldl (fun t i =>
      (t.setReg (Reg.EGR_GCL_ADMIN_MASK p i) (BitVec.ofNat 32 (l.getD i (0, 0)).1)).setReg (Reg.EGR_GCL_ADMIN_DUR p i)
        (BitVec.ofNat 32 (l.getD i (0, 0)).2)) s1
    let s3 := ran s2 (execGclCommit p 1 s2)
    if 2 ≤ p ∨ 128 < l.length ∨ (s.gates p).pending.isSome = true ∨ s3.flag (Reg.EGR_GCL_STATUS p) 30 then (s3, .refused)
    else s3.gateTable r

/-- The budget table is staged and committed, provisionally until stage 7 has ended (R678, R681). -/
def State.budgetTable (s : State) (b : List Byte) : State × TableEnd :=
  let w := beAt b 0 4
  let f := beAt b 4 4
  let l := (List.range 12).map fun m => beAt b (8 + 4 * m) 4
  let ok := b.length == 56 && decide (1 ≤ w ∧ w ≤ 1024 ∧ 1 ≤ f ∧ f ≤ 8) && l.all (fun x => decide (x < 2 ^ 24)) && l.getD 10 0 == 0
  let t := (List.range 12).foldl (fun t m => t.setReg (Reg.MREG_BUDGET m) (BitVec.ofNat 32 (l.getD m 0)))
    ((s.setReg Reg.MREG_WINDOW (BitVec.ofNat 32 w)).setReg Reg.MREG_CHAN_FACTOR (BitVec.ofNat 32 f))
  if ok then
    ({ t with mreg := { t.mreg with next := some (w, f, l), provisional := true, lastG := tableSum l / max w 1 / 100 } }, .accepted)
  else (s, .refused)

/-- A record of the manager bootstrap table: client, phase, peer, salt and wrapped key (R268). -/
def bootClient (r : List Byte) : Nat := beAt r 0 2 % 4096
def bootPhase (r : List Byte) : Bool := bit (beAt r 2 1) 0

/-- The keys of the manager bootstrap's records, unwrapped in order; none where one does not unwrap (R266, R268). -/
def State.bootKeys (s : State) : List (List Byte) → State × Option (List (List Byte × List Byte))
  | [] => (s, some [])
  | r :: l =>
    match s.unwrap (r.drop 8) with
    | (t, none) => (t.raise 0x2009 (bootClient r), none)
    | (t, some k) =>
      match t.bootKeys l with
      | (u, some m) => (u, some ((r, k) :: m))
      | (u, none) => (u, none)

/-- A record's key and flags are applied (R268). -/
def State.bootInstall (s : State) (r k : List Byte) : State :=
  let c := bootClient r
  let x := (s.ctx c).setKey (bootPhase r) { valid := true, key := keyOf k, salt := BitVec.ofNat 32 (beAt r 4 4) }
  s.setCtx c { x with enable := true, manager := true, peer := bit (beAt r 2 1) 1 }

/-- The manager bootstrap's records are applied, all of them or none (R268). -/
def State.bootstrap (s : State) (l : List (List Byte)) : State × TableEnd :=
  match s.bootKeys l with
  | (t, some m) => (m.foldl (fun u e => u.bootInstall e.1 e.2) t, .accepted)
  | (t, none) => (t, .refused)

/-- The manager bootstrap table (R268). -/
def State.bootTable (s : State) (b : List Byte) : State × TableEnd :=
  let l := recordsBy 48 b
  if b.length % 48 ≠ 0 ∨ 64 < l.length ∨ !(l.map fun r => (bootClient r, bootPhase r)).Nodup then (s, .refused) else s.bootstrap l

/-- The domain of the block that takes a table. -/
def tableDomain (id : Nat) : Nat := if id ≤ 2 then 9 else if id = 3 then 8 else if id = 6 then 6 else if id = 7 then 12 else if id = 8 then 5 else 0

/-- A class whose staged code table breaks R487 is refused its commit (R487, R489). -/
def State.badCodes (s : State) (b : List Byte) : State :=
  match (recordsBy 160 b).find? fun r => decide (1 ≤ beAt r 0 1 ∧ beAt r 0 1 ≤ 15) && !codeTableOk (r.drop 3) with
  | some r => if b.length % 160 = 0 then s.raise 0x7005 (beAt r 0 1 * 256 + stOutOfRange) else s
  | none => s

/-- A TABLE section is staged or committed (R111, R115). Classes are committed at the end of the stage (R492). -/
def State.imageTable (s : State) (id : Nat) (b : List Byte) : State × TableEnd :=
  let d := tableDomain id
  let ok (x : Bool) (t : State) : State × TableEnd := if x then (t, .accepted) else (s, .refused)
  if s.domFailed d then (s, .refused)
  else if !s.up d then (s.stall d, .waits)
  else
    match id with
    | 1 => (s.badCodes b, if classTableOk true b then .accepted else .refused)
    | 2 => ok (classTableOk false b) s
    | 3 => s.policyTable b
    | 4 => ok (throttleOk b) (s.loadThrottle (throttleOf b))
    | 5 => ok (trainOk b) { s with dram := { s.dram with training := some (recordsBy 16 b) } }
    | 6 => (match Config.gateLists b with | some l => s.gateTable l | none => (s, .refused))
    | 7 => s.budgetTable b
    | 8 => s.bootTable b
    | _ => (s, .refused)

/-- Every section of an image from an offset. -/
def State.sections (s : State) (b : Bool) : (n o : Nat) → List Section
  | 0, _ => []
  | n + 1, o => s.sectionAt b o :: s.sections b n (s.sectionAt b o).next

/-- The part that the image stages for a class (R492): codes or dictionary; the last where several tables name the class. -/
def State.imagePart (s : State) (codes : Bool) (c : Nat) : Option (List Byte) :=
  let b := s.boot.slotB
  let l := (s.sections b (s.slotWord b 6 2) 256).filter fun x => x.type == 3 && x.target == (if codes then 1 else 2)
  let rs := l.flatMap fun x => recordsBy (if codes then 160 else 4100) (s.body b x)
  ((rs.filter fun r => beAt r 0 1 == c).getLast?).map fun r => if codes then r.drop 3 else r.drop 4

/-- The end of the apply stage: the staged classes are committed, one already Loaded being compared (R492, R493). -/
def State.imageClasses (s : State) : State :=
  (List.range 16).foldl (fun t c =>
    let codes := s.imagePart true c
    let dict := s.imagePart false c
    if codes.isNone && dict.isNone then t
    else if (t.classOf? c).loaded then
      (if classCrc codes dict = (t.classOf? c).crc then t else t.raise 0x7007 c)
    else (t.commitClass c codes dict).1) s

/-! ### Applying the sections (R115, R116) -/

/-- How a step of the apply stage ends. -/
inductive ApplyEnd where
  | goes
  | waits
  | fails
  | ends
  deriving DecidableEq, Repr

/-- The next record of the section is due. -/
def State.nextRecord (s : State) : State := { s with boot := { s.boot with record := s.boot.record + 1, polling := false } }

/-- The section has been applied. -/
def State.nextSection (s : State) (x : Section) : State :=
  { s with boot := { s.boot with section_ := s.boot.section_ + 1, record := 0, offset := x.next, polling := false } }

/-- A REG_WRITE record: any outcome but OK is an apply failure (R115, R135); a write over the link waits for its answer (R54). -/
def State.applyWrite (s : State) (a v : Nat) : State × ApplyEnd :=
  if s.boot.polling then
    (if s.intake.linkWrite.isSome then (s, .waits) else if s.mgmt.lastStatus = stOK then (s.nextRecord, .goes) else (s, .fails))
  else
    match s.writeReg a (BitVec.ofNat 32 v) none RecordErrs.none with
    | (t, .done st) => if st = stOK then (t.nextRecord, .goes) else (t, .fails)
    | (t, .waits) => (t, .waits)
    | (t, .link) => ({ t with boot := { t.boot with polling := true } }, .waits)

/-- A REG_POLL record: the register is read, and read again until the masked value is the one awaited (R115). -/
def State.applyPoll (s : State) (a mask value : Nat) : State × ApplyEnd :=
  match s.readWaits a 1 with
  | some d => (s.stall d, .waits)
  | none =>
    match s.readAll a 1 [] with
    | (t, .ok l) =>
      if (l.headD 0) &&& BitVec.ofNat 32 mask = BitVec.ofNat 32 value then (t.nextRecord, .goes)
      else ({ t with boot := { t.boot with polling := true } }, .waits)
    | (t, .error _) => (t, .fails)

/-- One record, table or end of a section, or the end of the image. The section after a provisioning waits for its end (R498). -/
def State.applyStep (s : State) : State × ApplyEnd :=
  let b := s.boot.slotB
  let x := s.sectionAt b s.boot.offset
  let w (i : Nat) : Nat := s.slotWord b (x.at_ + i) 4
  if s.slotWord b 6 2 ≤ s.boot.section_ then (s, .ends)
  else if s.cry.burning ∧ s.boot.record = 0 then (s, .waits)
  else if x.type = 1 ∧ x.len % 8 = 0 then
    (if x.len ≤ 8 * s.boot.record then (s.nextSection x, .goes)
     else s.applyWrite (w (8 * s.boot.record)) (w (8 * s.boot.record + 4)))
  else if x.type = 2 ∧ x.len % 16 = 0 then
    (if x.len ≤ 16 * s.boot.record then (s.nextSection x, .goes)
     else s.applyPoll (w (16 * s.boot.record)) (w (16 * s.boot.record + 4)) (w (16 * s.boot.record + 8)))
  else if x.type = 3 then
    match s.imageTable x.target (s.body b x) with
    | (t, .accepted) => (t.nextSection x, .goes)
    | (t, .refused) => (t, .fails)
    | (t, .waits) => (t, .waits)
  else (s, .fails)

/-- The image is applied: its classes are committed and stage 5 begins (R105, R106). -/
def State.applied (s : State) : State :=
  let b := s.boot.slotB
  let t := s.imageClasses
  let flags := s.slotWord b 0x12 2
  { t with boot := { t.boot with
    stage := .march, imgVer := BitVec.ofNat 32 (s.slotWord b 0x0C 4), march := bits flags 1 0, limitedOk := bit flags 2 } }

/-- The sections from the cursor on, until one waits, fails or the image ends. -/
def State.applyRun (s : State) : Nat → State
  | 0 => s
  | n + 1 =>
    match s.applyStep with
    | (t, .goes) => t.applyRun n
    | (t, .waits) => t
    | (t, .fails) => t.rejectSlot 0x07 s.boot.section_
    | (t, .ends) => if t.cry.burning then t else t.applied

/-- IMAGE_APPLY: the sections are applied in order, from where the stage last waited (R115). -/
def execImageApply (s : State) : Host.Outcome State Fault Refusal :=
  guarded (s.live && s.boot.stage == .apply && !s.boot.failed) s
    (s.applyRun (s.slotWord s.boot.slotB 8 4 + 2))

/-- REG_POLL_TIMEOUT: the REG_POLL record that waits has waited its timeout (R115). -/
def execRegPollTimeout (s : State) : Host.Outcome State Fault Refusal :=
  let x := s.sectionAt s.boot.slotB s.boot.offset
  guarded (s.live && s.boot.stage == .apply && !s.boot.failed && s.boot.polling && x.type == 2) s
    (s.rejectSlot 0x07 s.boot.section_)

end Sys2Proof.Machine
end

