-- ==== Sys2Proof/Machine/Resize.lean ====
section
/-! DEFINITION. RESIZE_REGION and RETIRE (R625, R660, R752, R753). -/

namespace Sys2Proof.Machine

open Sys2Proof

/-! ### RESIZE_REGION (R752) -/

/-- One descriptor more is written or released. -/
def State.resizeNext (s : State) (op : Nat) : State :=
  let o := s.opSlot op
  s.setOp op { o with cursor := o.cursor + 1, progress := o.progress + 1 }

/-- The lines of a descriptor array copied as they lie to a new run from plot `p`, read and written under master 11. -/
def State.copyArray (s : State) (base p n : Nat) : State :=
  (List.range ((n + 1) / 2)).foldl (fun t i =>
    let la := 4 * base + i
    let to_ := 4 * (256 * p) + i
    let (l, m) := t.lineNow la
    let u := (t.chargeMem 11 (t.slotChan (la / 4)) 1).chargeMem 11 (t.slotChan (to_ / 4)) 1
    let v := (u.count64 (Reg.DRC_CNT (u.slotChan (la / 4)) 0) 1).count64 (Reg.DRC_CNT (u.slotChan (to_ / 4)) 1) 1
    (v.settle to_).setLine to_ l { m with tag := none }) s

/-- A region's array moves to the run from plot `p` with `n` pages: every descriptor copied, the rest cleared, and the old
run released. -/
def State.moveArray (s : State) (region p n : Nat) : State :=
  let r := s.region region
  let hi := 65536 * (p + descPlots n)
  let s1 := s.clearRange 11 (65536 * p) hi
  let s2 := s1.copyArray r.descBase p r.pageCount
  let s3 := s2.setRegion region { r with descBase := 256 * p, pageCount := n }
  s3.freePlots (r.descBase / 256) (descPlots r.pageCount)

/-- A step of a grow beyond the region's run: the run is taken at the first, and the array moves at the last. -/
def State.growBeyond (s : State) (op : Nat) : State :=
  let o := s.opSlot op
  let taken :=
    match o.run with
    | some p => some (p, s)
    | none => (s.arrayRun (descPlots o.newCount)).map fun p =>
        (p, (s.takePlots p (descPlots o.newCount)).setOp op { o with run := some p })
  match taken with
  | none => s.opFail op rcNoSpace 0
  | some (p, t) =>
    let u := t.resizeNext op
    if o.total ≤ o.cursor + 1 then (u.moveArray o.region p o.newCount).setOp op { u.opSlot op with run := none } else u

/-- The last page of a shrinking region leaves it. -/
def State.shrinkOne (s : State) (op page : Nat) (d : Desc) : State :=
  let o := s.opSlot op
  let slots := if d.stored then s.slotsOf d else []
  let s1 := (s.putDesc o.region page {}).setDc o.region page none
  let s2 := (s1.storeDesc 11 o.region page {}).release o.region page d slots
  let r := s2.region o.region
  let s3 := (s2.setRegion o.region { r with pageCount := page }).resizeNext op
  if page = o.newCount then
    let old := o.newCount + o.total
    s3.freePlots (r.descBase / 256 + descPlots page) (descPlots old - descPlots page)
  else s3

/-- RESIZE_REGION_STEP: one descriptor of the operation. -/
def execResizeRegionStep (op : Nat) (errs : ReadErrs) (s : State) : Host.Outcome State Fault Refusal :=
  let o := s.opSlot op
  let r := s.region o.region
  let n := r.pageCount
  let go := o.working opResize && o.begun && decide (o.cursor < o.total) && !s.boot.brace && !s.boot.draining
  if o.newCount < n then
    needing 8 (go && !s.tracked o.region (n - 1)) s
      (s.agent (agentOp op) o.region (n - 1) 11 errs (fun t d => t.shrinkOne op (n - 1) d) (fun t _ => t.shrinkOne op (n - 1) {}))
  else
    let t :=
      if o.newCount ≤ 2048 * descPlots n then
        let u := (s.storeDesc 11 o.region (n + o.cursor) {}).resizeNext op
        if o.total ≤ o.cursor + 1 then u.setRegion o.region { u.region o.region with pageCount := o.newCount } else u
      else s.growBeyond op
    needing 8 (go && s.memoryOpen (slotStand r.descBase)) s t

/-! ### RETIRE (R625, R660, R753) -/

/-- The slots that a RETIRE of kind 0 or 1 names. -/
def State.coveredSlots (s : State) (o : OpSlot) : List Nat :=
  match o.retireEntry with
  | .group g => (groupSlots g).filter s.slotExists
  | .bank k _ _ => ((List.range (256 * (s.stand k).plots)).map (k * 2 ^ 33 + ·)).filter (s.retireCovers o)

/-- A covered slot that is free, or kept in reserve, is marked in use for good. -/
def State.markCovered (s : State) (x : Nat) : State :=
  if !(s.bitmap (x / 256)).getLsbD (x % 256) then (s.takeSlots x 1).keepMarked x
  else if s.tier.reserve.any fun e => e.2.contains x then
    let t := { s with tier := { s.tier with
      reserve := tabMap (fun _ => []) (fun _ l => l.filter (· != x)) s.tier.reserve } }
    t.keepMarked x
  else s

/-- Pages that hold a covered slot. -/
def State.coveringPages (s : State) (o : OpSlot) : Nat :=
  (s.readyRegions.map fun r =>
    ((List.range (s.region r).pageCount).filter fun p => s.coversSlot (s.retireCovers o) (s.descPeek r p)).length).sum

/-- The first step of a RETIRE of kind 0 or 1: the entry is added and the free covered slots are marked. -/
def State.retireEntry (s : State) (op : Nat) : State :=
  let o := s.opSlot op
  let l := s.coveredSlots o
  if 4096 ≤ s.tier.retired.length then s.opFail op rcNoSpace 0
  else if l.any fun x => s.metaPlot (x / 256) then s.opFail op rcBadArgument 1
  else
    let s1 := { s with tier := { s.tier with retired := s.tier.retired ++ [o.retireEntry] } }
    let s2 := l.foldl (fun t x => t.markCovered x) s1
    s2.setOp op { o with cursor := 1, total := s.coveringPages o }

/-- RETIRE of kind 2 retires its region of SRAM. -/
def State.retireSram (s : State) (op : Nat) : State :=
  let o := s.opSlot op
  match s.retireRegion o.sramRegion.1 o.sramRegion.2 with
  | some t => t.setOp op { o with cursor := 1, progress := 512, total := 512 }
  | none => s.opFail op rcNoSpace 0

/-- A page that holds a covered slot moves to a stand of the same role (R753). -/
def State.retireMove (s : State) (op region page : Nat) (d : Desc) (errs : List ReadErrs) : State :=
  if !d.movable || d.poison || !s.coversSlot (s.retireCovers (s.opSlot op)) d then s
  else
    let role := s.role (slotStand d.priSlot)
    match s.bestStand fun j => s.role j == role && decide (d.slotsHeld ≤ s.freeOf j) with
    | none => s.opFail op rcNoSpace 0
    | some j => s.relocateFor op 4 j [] .retire region page d errs (fun u => u.opFail op rcNoSpace 0)

/-- RETIRE_STEP: the first step, or the move of a page. -/
def execRetireStep (op region page : Nat) (errs : List ReadErrs) (s : State) : Host.Outcome State Fault Refusal :=
  let o := s.opSlot op
  let go := o.working opRetire && o.begun && !s.boot.brace && !s.boot.draining
  if o.kind = 2 then needing (29 + bankGroup o.sramRegion.1) (s.up 8 && go && o.cursor == 0) s (s.retireSram op)
  else if o.cursor = 0 then needing 8 go s (s.retireEntry op)
  else
    needing 8 (go && s.moverOn && !s.dcPinned region page && (s.moveOf region page).isNone) s
      (s.agent agentMover region page 3 (errs.headD ReadErrs.none) (fun t d => t.retireMove op region page d (errs.drop 1)) (fun t _ => t))

end Sys2Proof.Machine
end

