-- ==== Sys2Proof/Machine/Dispatch.lean ====
section
/-! DEFINITION. What each command does to everything but the queue of waiting commands: one arm per row of the
opcode table, one direct call of its meaning. -/

namespace Sys2Proof.Machine

open Sys2Proof

def exec (i : Instr) (s : State) : Host.Outcome State Fault Refusal :=
  match i with
  | .intakeLinkFrame dir frame => Sys2Proof.Machine.execIntakeLinkFrame dir frame s
  | .logicLinkTimeout => Sys2Proof.Machine.execLogicLinkTimeout s
  | .intakeLinkTimeout => Sys2Proof.Machine.execIntakeLinkTimeout s
  | .faultWireAssert => Sys2Proof.Machine.execFaultWireAssert s
  | .thermalTrip => Sys2Proof.Machine.execThermalTrip s
  | .vstbyRise => Sys2Proof.Machine.execVstbyRise s
  | .vstbyFall => Sys2Proof.Machine.execVstbyFall s
  | .intakeStrapSample first mode => Sys2Proof.Machine.execIntakeStrapSample first mode s
  | .pllLock pll => Sys2Proof.Machine.execPllLock pll s
  | .pllLockTimeout pll => Sys2Proof.Machine.execPllLockTimeout pll s
  | .tapReset trst => Sys2Proof.Machine.execTapReset trst s
  | .tapInstruction instr trst => Sys2Proof.Machine.execTapInstruction instr trst s
  | .intUnlock value => Sys2Proof.Machine.execIntUnlock value s
  | .intProfileProg value => Sys2Proof.Machine.execIntProfileProg value s
  | .profileWordProgrammed => Sys2Proof.Machine.execProfileWordProgrammed s
  | .intCfgCommit value => Sys2Proof.Machine.execIntCfgCommit value s
  | .intLinkWriteAck => Sys2Proof.Machine.execIntLinkWriteAck s
  | .intEvtHistDelivery => Sys2Proof.Machine.execIntEvtHistDelivery s
  | .plausibilityFault => Sys2Proof.Machine.execPlausibilityFault s
  | .senseDisagree => Sys2Proof.Machine.execSenseDisagree s
  | .feedValid feed => Sys2Proof.Machine.execFeedValid feed s
  | .feedInvalid feed => Sys2Proof.Machine.execFeedInvalid feed s
  | .feedSwitch => Sys2Proof.Machine.execFeedSwitch s
  | .feedBreakEnd => Sys2Proof.Machine.execFeedBreakEnd s
  | .feedBelowVrst => Sys2Proof.Machine.execFeedBelowVrst s
  | .feedOvervoltage => Sys2Proof.Machine.execFeedOvervoltage s
  | .feedReturn => Sys2Proof.Machine.execFeedReturn s
  | .softStart => Sys2Proof.Machine.execSoftStart s
  | .passFetDrive => Sys2Proof.Machine.execPassFetDrive s
  | .currentLimitEnter => Sys2Proof.Machine.execCurrentLimitEnter s
  | .currentLimitLeave => Sys2Proof.Machine.execCurrentLimitLeave s
  | .ftimerExpired => Sys2Proof.Machine.execFtimerExpired s
  | .pgOutAssert => Sys2Proof.Machine.execPgOutAssert s
  | .curveTrip => Sys2Proof.Machine.execCurveTrip s
  | .i2tTrip => Sys2Proof.Machine.execI2tTrip s
  | .fastTrip => Sys2Proof.Machine.execFastTrip s
  | .fetOvertemp => Sys2Proof.Machine.execFetOvertemp s
  | .retryCoolEnd => Sys2Proof.Machine.execRetryCoolEnd s
  | .retryEnd => Sys2Proof.Machine.execRetryEnd s
  | .intFaultClear value => Sys2Proof.Machine.execIntFaultClear value s
  | .faultCountReset => Sys2Proof.Machine.execFaultCountReset s
  | .shortFet => Sys2Proof.Machine.execShortFet s
  | .openFet => Sys2Proof.Machine.execOpenFet s
  | .removal long short => Sys2Proof.Machine.execRemoval long short s
  | .insertionComplete => Sys2Proof.Machine.execInsertionComplete s
  | .earlyWarning => Sys2Proof.Machine.execEarlyWarning s
  | .braceEntry => Sys2Proof.Machine.execBraceEntry s
  | .lastGaspWritten => Sys2Proof.Machine.execLastGaspWritten s
  | .dipRecovered => Sys2Proof.Machine.execDipRecovered s
  | .seqInAssert => Sys2Proof.Machine.execSeqInAssert s
  | .seqTimeout => Sys2Proof.Machine.execSeqTimeout s
  | .seqOutAssert => Sys2Proof.Machine.execSeqOutAssert s
  | .offReq => Sys2Proof.Machine.execOffReq s
  | .offPassFetOff => Sys2Proof.Machine.execOffPassFetOff s
  | .seqWakeEdge => Sys2Proof.Machine.execSeqWakeEdge s
  | .porRelease bootSel shelf => Sys2Proof.Machine.execPorRelease bootSel shelf s
  | .vrmPgTimeout => Sys2Proof.Machine.execVrmPgTimeout s
  | .vrmPgLost => Sys2Proof.Machine.execVrmPgLost s
  | .sysRstAssert => Sys2Proof.Machine.execSysRstAssert s
  | .sysRstRelease bootSel shelf => Sys2Proof.Machine.execSysRstRelease bootSel shelf s
  | .bootStart pufOk => Sys2Proof.Machine.execBootStart pufOk s
  | .imageHeadersRead => Sys2Proof.Machine.execImageHeadersRead s
  | .imageVerified => Sys2Proof.Machine.execImageVerified s
  | .imageApply => Sys2Proof.Machine.execImageApply s
  | .regPollTimeout => Sys2Proof.Machine.execRegPollTimeout s
  | .bootMarchDone failed => Sys2Proof.Machine.execBootMarchDone failed s
  | .dimmDiscovery reports => Sys2Proof.Machine.execDimmDiscovery reports s
  | .pmicPowerGood chan q => Sys2Proof.Machine.execPmicPowerGood chan q s
  | .pmicGoodTimeout chan q => Sys2Proof.Machine.execPmicGoodTimeout chan q s
  | .channelResetRelease chan => Sys2Proof.Machine.execChannelResetRelease chan s
  | .trainingComplete => Sys2Proof.Machine.execTrainingComplete s
  | .bootReady => Sys2Proof.Machine.execBootReady s
  | .bootHalt => Sys2Proof.Machine.execBootHalt s
  | .limitedEntry => Sys2Proof.Machine.execLimitedEntry s
  | .bootContinue => Sys2Proof.Machine.execBootContinue s
  | .warmReset auto value => Sys2Proof.Machine.execWarmReset auto value s
  | .warmDrainEnd timeout => Sys2Proof.Machine.execWarmDrainEnd timeout s
  | .warmSweepDescriptor errs => Sys2Proof.Machine.execWarmSweepDescriptor errs s
  | .warmSweepDone => Sys2Proof.Machine.execWarmSweepDone s
  | .lastGaspErase ok => Sys2Proof.Machine.execLastGaspErase ok s
  | .flashRead => Sys2Proof.Machine.execFlashRead s
  | .flashProgram => Sys2Proof.Machine.execFlashProgram s
  | .flashErase => Sys2Proof.Machine.execFlashErase s
  | .flashOpDone ok => Sys2Proof.Machine.execFlashOpDone ok s
  | .fuseProg value => Sys2Proof.Machine.execFuseProg value s
  | .registerWrite addr value => Sys2Proof.Machine.execRegisterWrite addr value s
  | .pageEnable addr on => Sys2Proof.Machine.execPageEnable addr on s
  | .pageSoftReset addr enable => Sys2Proof.Machine.execPageSoftReset addr enable s
  | .softResetDone addr => Sys2Proof.Machine.execSoftResetDone addr s
  | .pageLock addr => Sys2Proof.Machine.execPageLock addr s
  | .evtStatusClear addr value => Sys2Proof.Machine.execEvtStatusClear addr value s
  | .evtForce addr value => Sys2Proof.Machine.execEvtForce addr value s
  | .eventRaise code inst detail second => Sys2Proof.Machine.execEventRaise code inst detail second s
  | .eventDelivery subscr => Sys2Proof.Machine.execEventDelivery subscr s
  | .parityScan addr flip passEnd => Sys2Proof.Machine.execParityScan addr flip passEnd s
  | .mgmtRead => Sys2Proof.Machine.execMgmtRead s
  | .mgmtWrite errs => Sys2Proof.Machine.execMgmtWrite errs s
  | .mgrLock client value => Sys2Proof.Machine.execMgrLock client value s
  | .opCommand => Sys2Proof.Machine.execOpCommand s
  | .opStart op client => Sys2Proof.Machine.execOpStart op client s
  | .opSuspend op => Sys2Proof.Machine.execOpSuspend op s
  | .opResume op => Sys2Proof.Machine.execOpResume op s
  | .opCancel op => Sys2Proof.Machine.execOpCancel op s
  | .opAdmit op => Sys2Proof.Machine.execOpAdmit op s
  | .opSuspendPoint op => Sys2Proof.Machine.execOpSuspendPoint op s
  | .opFinished op => Sys2Proof.Machine.execOpFinished op s
  | .opError op => Sys2Proof.Machine.execOpError op s
  | .opCleanupDone op => Sys2Proof.Machine.execOpCleanupDone op s
  | .linkUp mac => Sys2Proof.Machine.execLinkUp mac s
  | .linkDown mac => Sys2Proof.Machine.execLinkDown mac s
  | .failback client => Sys2Proof.Machine.execFailback client s
  | .anTimeout mac => Sys2Proof.Machine.execAnTimeout mac s
  | .fecAlarm mac corrected uncorrected symbols => Sys2Proof.Machine.execFecAlarm mac corrected uncorrected symbols s
  | .frameReceive mac frame => Sys2Proof.Machine.execFrameReceive mac frame s
  | .pfcRepeat mac cls => Sys2Proof.Machine.execPfcRepeat mac cls s
  | .pfcReceive mac => Sys2Proof.Machine.execPfcReceive mac s
  | .pfcPauseExpire mac cls => Sys2Proof.Machine.execPfcPauseExpire mac cls s
  | .arpRequest mac => Sys2Proof.Machine.execArpRequest mac s
  | .neighborSolicitation mac => Sys2Proof.Machine.execNeighborSolicitation mac s
  | .echoRequest mac => Sys2Proof.Machine.execEchoRequest mac s
  | .gatewayResolve mac v6 => Sys2Proof.Machine.execGatewayResolve mac v6 s
  | .msSaInstall port value => Sys2Proof.Machine.execMsSaInstall port value s
  | .ptpMessage mac => Sys2Proof.Machine.execPtpMessage mac s
  | .delayReqSend => Sys2Proof.Machine.execDelayReqSend s
  | .ptpTimeout => Sys2Proof.Machine.execPtpTimeout s
  | .ptpSet value => Sys2Proof.Machine.execPtpSet value s
  | .ppsOutSecond => Sys2Proof.Machine.execPpsOutSecond s
  | .ppsInEdge => Sys2Proof.Machine.execPpsInEdge s
  | .ppsInMissing => Sys2Proof.Machine.execPpsInMissing s
  | .wakeFrameMatch mac frame => Sys2Proof.Machine.execWakeFrameMatch mac frame s
  | .keyInstall value => Sys2Proof.Machine.execKeyInstall value s
  | .hello mac => Sys2Proof.Machine.execHello mac s
  | .sessionOpenDeferred client => Sys2Proof.Machine.execSessionOpenDeferred client s
  | .segmentReceive mac => Sys2Proof.Machine.execSegmentReceive mac s
  | .ackReceive mac => Sys2Proof.Machine.execAckReceive mac s
  | .keepaliveReceive mac => Sys2Proof.Machine.execKeepaliveReceive mac s
  | .nakReceive mac => Sys2Proof.Machine.execNakReceive mac s
  | .closeReceive mac => Sys2Proof.Machine.execCloseReceive mac s
  | .sessionEnd client timeout => Sys2Proof.Machine.execSessionEnd client timeout s
  | .ackSend client => Sys2Proof.Machine.execAckSend client s
  | .nakDelayExpire client => Sys2Proof.Machine.execNakDelayExpire client s
  | .retransmitTimeout client => Sys2Proof.Machine.execRetransmitTimeout client s
  | .deadTimeExpire client => Sys2Proof.Machine.execDeadTimeExpire client s
  | .keepaliveTimer client => Sys2Proof.Machine.execKeepaliveTimer client s
  | .rekeyGraceExpire client => Sys2Proof.Machine.execRekeyGraceExpire client s
  | .rateIncrease client => Sys2Proof.Machine.execRateIncrease client s
  | .sessCtrlClose client => Sys2Proof.Machine.execSessCtrlClose client s
  | .sessCtrlSwitch client => Sys2Proof.Machine.execSessCtrlSwitch client s
  | .readShared client msgId crc => Sys2Proof.Machine.execReadShared client msgId crc s
  | .readOwn client msgId crc => Sys2Proof.Machine.execReadOwn client msgId crc s
  | .upgrade client msgId crc => Sys2Proof.Machine.execUpgrade client msgId crc s
  | .readCurrent client msgId crc => Sys2Proof.Machine.execReadCurrent client msgId crc s
  | .writeThrough client msgId crc => Sys2Proof.Machine.execWriteThrough client msgId crc s
  | .writeBackDirty client msgId crc => Sys2Proof.Machine.execWriteBackDirty client msgId crc s
  | .evictClean client msgId crc => Sys2Proof.Machine.execEvictClean client msgId crc s
  | .atomic client msgId crc => Sys2Proof.Machine.execAtomic client msgId crc s
  | .readBulk client msgId crc => Sys2Proof.Machine.execReadBulk client msgId crc s
  | .writeBulk client msgId crc => Sys2Proof.Machine.execWriteBulk client msgId crc s
  | .bulkCompletion client msgId crc => Sys2Proof.Machine.execBulkCompletion client msgId crc s
  | .hint client msgId crc => Sys2Proof.Machine.execHint client msgId crc s
  | .hintPage errs => Sys2Proof.Machine.execHintPage errs s
  | .descriptorFetchDone flight errs => Sys2Proof.Machine.execDescriptorFetchDone flight errs s
  | .cacheWayUnpinned flight => Sys2Proof.Machine.execCacheWayUnpinned flight s
  | .trackerFree flight => Sys2Proof.Machine.execTrackerFree flight s
  | .creditExpire client tag => Sys2Proof.Machine.execCreditExpire client tag s
  | .pageQueueAdvance region page => Sys2Proof.Machine.execPageQueueAdvance region page s
  | .snpResp client msgId => Sys2Proof.Machine.execSnpResp client msgId s
  | .snoopTimeout flight client => Sys2Proof.Machine.execSnoopTimeout flight client s
  | .holderSweepStart => Sys2Proof.Machine.execHolderSweepStart s
  | .holderSweepPage errs => Sys2Proof.Machine.execHolderSweepPage errs s
  | .holderSweepEnd => Sys2Proof.Machine.execHolderSweepEnd s
  | .sgRead => Sys2Proof.Machine.execSgRead s
  | .sgAdd => Sys2Proof.Machine.execSgAdd s
  | .sgRemove => Sys2Proof.Machine.execSgRemove s
  | .sgClear => Sys2Proof.Machine.execSgClear s
  | .regionRead => Sys2Proof.Machine.execRegionRead s
  | .regionCreate lost => Sys2Proof.Machine.execRegionCreate lost s
  | .regionInitDone region => Sys2Proof.Machine.execRegionInitDone region s
  | .regionModify lost => Sys2Proof.Machine.execRegionModify lost s
  | .regionDisable lost => Sys2Proof.Machine.execRegionDisable lost s
  | .regionDisableDrained => Sys2Proof.Machine.execRegionDisableDrained s
  | .regionEnable lost => Sys2Proof.Machine.execRegionEnable lost s
  | .regionDestroy lost => Sys2Proof.Machine.execRegionDestroy lost s
  | .regionReleased => Sys2Proof.Machine.execRegionReleased s
  | .grantRead => Sys2Proof.Machine.execGrantRead s
  | .grantAdd lost => Sys2Proof.Machine.execGrantAdd lost s
  | .grantModify lost => Sys2Proof.Machine.execGrantModify lost s
  | .grantRemove lost => Sys2Proof.Machine.execGrantRemove lost s
  | .descRead errs => Sys2Proof.Machine.execDescRead errs s
  | .descSetPin errs => Sys2Proof.Machine.execDescSetPin errs s
  | .descClearPin errs => Sys2Proof.Machine.execDescClearPin errs s
  | .dcFlush => Sys2Proof.Machine.execDcFlush s
  | .dcFlushDone => Sys2Proof.Machine.execDcFlushDone s
  | .lockTimeout flight => Sys2Proof.Machine.execLockTimeout flight s
  | .compressDone flight lane stream fault crc => Sys2Proof.Machine.execCompressDone flight lane stream fault crc s
  | .xtsUnitCheck flight engine ok again crc => Sys2Proof.Machine.execXtsUnitCheck flight engine ok again crc s
  | .memoryWriteAccept flight chan crc => Sys2Proof.Machine.execMemoryWriteAccept flight chan crc s
  | .writeCommit flight crc => Sys2Proof.Machine.execWriteCommit flight crc s
  | .memoryReadReturn chan sub errs crc => Sys2Proof.Machine.execMemoryReadReturn chan sub errs crc s
  | .decompressDone flight lane fault again crc => Sys2Proof.Machine.execDecompressDone flight lane fault again crc s
  | .handshakeTimeout who stage cleared => Sys2Proof.Machine.execHandshakeTimeout who stage cleared s
  | .clockMonitor island => Sys2Proof.Machine.execClockMonitor island s
  | .dupStateMismatch block => Sys2Proof.Machine.execDupStateMismatch block s
  | .epochAdvance => Sys2Proof.Machine.execEpochAdvance s
  | .scanVisit errs => Sys2Proof.Machine.execScanVisit errs s
  | .scanPassEnd => Sys2Proof.Machine.execScanPassEnd s
  | .moveStart region page errs => Sys2Proof.Machine.execMoveStart region page errs s
  | .moveCommit region page errs => Sys2Proof.Machine.execMoveCommit region page errs s
  | .demoteUnderstory region page lane stream fault engine ok again errs => Sys2Proof.Machine.execDemoteUnderstory region page lane stream fault engine ok again errs s
  | .batchClose => Sys2Proof.Machine.execBatchClose s
  | .batchWrite => Sys2Proof.Machine.execBatchWrite s
  | .promoteCanopy region page lane fault again engine ok retry errs => Sys2Proof.Machine.execPromoteCanopy region page lane fault again engine ok retry errs s
  | .promoHoldExpire stand => Sys2Proof.Machine.execPromoHoldExpire stand s
  | .floorLingerExpire stand => Sys2Proof.Machine.execFloorLingerExpire stand s
  | .moverStop => Sys2Proof.Machine.execMoverStop s
  | .thinningRun region page errs => Sys2Proof.Machine.execThinningRun region page errs s
  | .tierPolCommit => Sys2Proof.Machine.execTierPolCommit s
  | .tierStandCfgWrite stand value => Sys2Proof.Machine.execTierStandCfgWrite stand value s
  | .stretchRebuildDone stretch => Sys2Proof.Machine.execStretchRebuildDone stretch s
  | .standWakeDone stand => Sys2Proof.Machine.execStandWakeDone stand s
  | .claneReturn value => Sys2Proof.Machine.execClaneReturn value s
  | .dlaneReturn value => Sys2Proof.Machine.execDlaneReturn value s
  | .classDataWrite value => Sys2Proof.Machine.execClassDataWrite value s
  | .classCommit => Sys2Proof.Machine.execClassCommit s
  | .classUnload => Sys2Proof.Machine.execClassUnload s
  | .classUnloadDone => Sys2Proof.Machine.execClassUnloadDone s
  | .classClearStage => Sys2Proof.Machine.execClassClearStage s
  | .dwkBurn value => Sys2Proof.Machine.execDwkBurn value s
  | .dwkProvisioned => Sys2Proof.Machine.execDwkProvisioned s
  | .keySlotLoad => Sys2Proof.Machine.execKeySlotLoad s
  | .keySlotZeroise => Sys2Proof.Machine.execKeySlotZeroise s
  | .keySlotRead => Sys2Proof.Machine.execKeySlotRead s
  | .xtsEngineReturn gcm value => Sys2Proof.Machine.execXtsEngineReturn gcm value s
  | .gcmSegmentVerify fails => Sys2Proof.Machine.execGcmSegmentVerify fails s
  | .rekeyPage op engine ok again errs => Sys2Proof.Machine.execRekeyPage op engine ok again errs s
  | .dramCommandIssue chan sub skip => Sys2Proof.Machine.execDramCommandIssue chan sub skip s
  | .entryAged chan sub la => Sys2Proof.Machine.execEntryAged chan sub la s
  | .refreshDue chan rank => Sys2Proof.Machine.execRefreshDue chan rank s
  | .rowIdleExpire chan sub rank bankId => Sys2Proof.Machine.execRowIdleExpire chan sub rank bankId s
  | .parityAlert chan q => Sys2Proof.Machine.execParityAlert chan q s
  | .alertWaitEnd chan => Sys2Proof.Machine.execAlertWaitEnd chan s
  | .fpTargetWrite value => Sys2Proof.Machine.execFpTargetWrite value s
  | .fpChange => Sys2Proof.Machine.execFpChange s
  | .fpChangeDone => Sys2Proof.Machine.execFpChangeDone s
  | .trainingPhaseEnd chan sweeps errs => Sys2Proof.Machine.execTrainingPhaseEnd chan sweeps errs s
  | .phaseLimitExpire chan => Sys2Proof.Machine.execPhaseLimitExpire chan s
  | .recalibrate chan rank drift => Sys2Proof.Machine.execRecalibrate chan rank drift s
  | .sensorPoll chan q temps pmicFault => Sys2Proof.Machine.execSensorPoll chan q temps pmicFault s
  | .sensorUnreadable chan q => Sys2Proof.Machine.execSensorUnreadable chan q s
  | .pdIdleExpire chan rank => Sys2Proof.Machine.execPdIdleExpire chan rank s
  | .selfRefreshEntry stand chan => Sys2Proof.Machine.execSelfRefreshEntry stand chan s
  | .selfRefreshAbort stand => Sys2Proof.Machine.execSelfRefreshAbort stand s
  | .clkStopDelayExpire chan q => Sys2Proof.Machine.execClkStopDelayExpire chan q s
  | .selfRefreshExit stand => Sys2Proof.Machine.execSelfRefreshExit stand s
  | .dimmOff value => Sys2Proof.Machine.execDimmOff value s
  | .scrubLine stand chan errs reread => Sys2Proof.Machine.execScrubLine stand chan errs reread s
  | .scrubTargetReached stand => Sys2Proof.Machine.execScrubTargetReached stand s
  | .scrubLeadReached stand => Sys2Proof.Machine.execScrubLeadReached stand s
  | .scrubPassEnd stand => Sys2Proof.Machine.execScrubPassEnd stand s
  | .scrubPassLate stand => Sys2Proof.Machine.execScrubPassLate stand s
  | .cetClearSel chan => Sys2Proof.Machine.execCetClearSel chan s
  | .cetClearAll chan => Sys2Proof.Machine.execCetClearAll chan s
  | .bankOwnerWrite bank value => Sys2Proof.Machine.execBankOwnerWrite bank value s
  | .bankClearDone bank => Sys2Proof.Machine.execBankClearDone bank s
  | .winRead first again meet => Sys2Proof.Machine.execWinRead first again meet s
  | .winWrite meet => Sys2Proof.Machine.execWinWrite meet s
  | .winAdd first again meet => Sys2Proof.Machine.execWinAdd first again meet s
  | .winSwap first again meet => Sys2Proof.Machine.execWinSwap first again meet s
  | .winSet first again meet => Sys2Proof.Machine.execWinSet first again meet s
  | .winClear first again meet => Sys2Proof.Machine.execWinClear first again meet s
  | .bistRegionTest hits corrected retried fails => Sys2Proof.Machine.execBistRegionTest hits corrected retried fails s
  | .bistCycleLate => Sys2Proof.Machine.execBistCycleLate s
  | .regWindowBoundary => Sys2Proof.Machine.execRegWindowBoundary s
  | .mregCommit => Sys2Proof.Machine.execMregCommit s
  | .mregEfficiencyWrite admission value => Sys2Proof.Machine.execMregEfficiencyWrite admission value s
  | .frameTransmit mac => Sys2Proof.Machine.execFrameTransmit mac s
  | .wheelSlot entity => Sys2Proof.Machine.execWheelSlot entity s
  | .egressQueueRoom client => Sys2Proof.Machine.execEgressQueueRoom client s
  | .sessShapeWrite value => Sys2Proof.Machine.execSessShapeWrite value s
  | .cshpWrite mac cls value => Sys2Proof.Machine.execCshpWrite mac cls value s
  | .gclCommit port value => Sys2Proof.Machine.execGclCommit port value s
  | .gclSwitch port => Sys2Proof.Machine.execGclSwitch port s
  | .yellowAgeExpire client msgId => Sys2Proof.Machine.execYellowAgeExpire client msgId s
  | .ingSessCfgWrite value => Sys2Proof.Machine.execIngSessCfgWrite value s
  | .ingProfileRead => Sys2Proof.Machine.execIngProfileRead s
  | .ingProfileWrite value => Sys2Proof.Machine.execIngProfileWrite value s
  | .pwrReqWrite value => Sys2Proof.Machine.execPwrReqWrite value s
  | .idleDrowsyExpire => Sys2Proof.Machine.execIdleDrowsyExpire s
  | .idleDormantExpire => Sys2Proof.Machine.execIdleDormantExpire s
  | .alarm => Sys2Proof.Machine.execAlarm s
  | .entryQuiesced => Sys2Proof.Machine.execEntryQuiesced s
  | .entrySaved => Sys2Proof.Machine.execEntrySaved s
  | .entryDramDone => Sys2Proof.Machine.execEntryDramDone s
  | .pointOfNoReturn => Sys2Proof.Machine.execPointOfNoReturn s
  | .entryDone => Sys2Proof.Machine.execEntryDone s
  | .entryLimitExpire => Sys2Proof.Machine.execEntryLimitExpire s
  | .offRequest => Sys2Proof.Machine.execOffRequest s
  | .offSessionsEnded timeout => Sys2Proof.Machine.execOffSessionsEnded timeout s
  | .exitWave => Sys2Proof.Machine.execExitWave s
  | .domainPowerUp domain => Sys2Proof.Machine.execDomainPowerUp domain s
  | .domainUp domain pufOk => Sys2Proof.Machine.execDomainUp domain pufOk s
  | .domainWakeTimeout domain => Sys2Proof.Machine.execDomainWakeTimeout domain s
  | .domainHysteresisExpire domain => Sys2Proof.Machine.execDomainHysteresisExpire domain s
  | .domainPowerDownDone domain => Sys2Proof.Machine.execDomainPowerDownDone domain s
  | .pwrVoteWrite toStand index value => Sys2Proof.Machine.execPwrVoteWrite toStand index value s
  | .clockIdleGate domain => Sys2Proof.Machine.execClockIdleGate domain s
  | .thermalSample readings => Sys2Proof.Machine.execThermalSample readings s
  | .sensorInvalid sensor => Sys2Proof.Machine.execSensorInvalid sensor s
  | .coreClockRelock => Sys2Proof.Machine.execCoreClockRelock s
  | .migrateTierPage op errs => Sys2Proof.Machine.execMigrateTierPage op errs s
  | .drainStandMove op region page errs => Sys2Proof.Machine.execDrainStandMove op region page errs s
  | .thinStandMove op region page errs => Sys2Proof.Machine.execThinStandMove op region page errs s
  | .eraseRegionStep op errs => Sys2Proof.Machine.execEraseRegionStep op errs s
  | .resizeRegionStep op errs => Sys2Proof.Machine.execResizeRegionStep op errs s
  | .retireStep op region page errs => Sys2Proof.Machine.execRetireStep op region page errs s
  | .scrubNowLine op errs reread => Sys2Proof.Machine.execScrubNowLine op errs reread s
  | .marchSramDone op fails => Sys2Proof.Machine.execMarchSramDone op fails s
  | .importOpen op => Sys2Proof.Machine.execImportOpen op s
  | .helloAckReceive mac => Sys2Proof.Machine.execHelloAckReceive mac s
  | .evacSend op lane dlane stream fault dfault again errs => Sys2Proof.Machine.execEvacSend op lane dlane stream fault dfault again errs s
  | .evacData lane dlane stream fault dfault again engine ok retry crc errs => Sys2Proof.Machine.execEvacData lane dlane stream fault dfault again engine ok retry crc errs s
  | .evacAck => Sys2Proof.Machine.execEvacAck s
  | .importClose op => Sys2Proof.Machine.execImportClose op s
  | .evaluationTick pathA pathB tFet gateFull seq => Sys2Proof.Machine.execEvaluationTick pathA pathB tFet gateFull seq s
  | .intakeKeepaliveFrame dir => Sys2Proof.Machine.execIntakeKeepaliveFrame dir s
  | .gateListEntryEnd port => Sys2Proof.Machine.execGateListEntryEnd port s
  | .ppsOutFall => Sys2Proof.Machine.execPpsOutFall s
  | .summaryReloadDone bad => Sys2Proof.Machine.execSummaryReloadDone bad s

end Sys2Proof.Machine
end

