-- ==== Sys2Proof/Machine/Idle.lean ====
section
/-! DEFINITION. What an idle step does: ten nanoseconds of the model's clock, and of the time base while the logic die
runs (R210, R777). -/

namespace Sys2Proof.Machine

open Sys2Proof

/-- The time base after ten nanoseconds at its rate adjustment in parts per billion (R210). -/
def TimeBase.tick (t : TimeBase) : TimeBase :=
  let f : Nat := (((t.frac : Int) + 10 * (1000000000 + t.adj)).toNat)
  let n := t.ns + f / 1000000000
  { t with frac := f % 1000000000, ns := n % 1000000000, sec := t.sec + n / 1000000000 }

/-- The counts of time in Dormant and Drowsy after ten nanoseconds (R747). -/
def Pwr.tick (p : Pwr) : Pwr :=
  if p.current = 3 then { p with dormantNs := p.dormantNs + 10 }
  else if p.current = 2 then { p with drowsyNs := p.drowsyNs + 10 }
  else p

/-- Ten nanoseconds pass. -/
def State.idle (s : State) : State :=
  { s with now := s.now + 10, time := if s.live then s.time.tick else s.time, pwr := if s.live then s.pwr.tick else s.pwr }

end Sys2Proof.Machine
end

