-- ==== Sys2Proof/Safety.lean ====
section
/-! DEFINITION. What statements call a completed command, and the invariants that statements speak of. -/

namespace Sys2Proof.Machine

open Sys2Proof

/-- A command runs to a next state. -/
def Completes (c : Instr) (s : State) : Prop := ∃ t, exec c s = .next t

/-- The commands that end a reset of the logic die: release from power-on reset and from SYS_RST_N (R100, R103). -/
def startsLogic (c : Instr) : Bool :=
  match c with
  | .porRelease _ _ => true
  | .sysRstRelease _ _ => true
  | _ => false

/-- The device without VSTBY: of the intake die only the profile fuses hold anything (so no feed, no FET on, PG_OUT
deasserted), and the logic die is unpowered (R35, R36, R49). -/
def State.dark (s : State) : Bool := decide (s.intake = { profile := s.intake.profile, burned := s.intake.burned }) && !s.logic.on

/-- The requests that read or change pages, by message type: the commands with which one is served (R369, R396, R345), `crc` being
the boundary at which a CRC-32C check is to fail, 0 for none. -/
def requestCommands (c : BitVec 12) (i : BitVec 24) (crc : Nat) : List (Nat × Instr) :=
  [(tReadShared, .readShared c i crc), (tReadOwn, .readOwn c i crc), (tUpgrade, .upgrade c i crc), (tReadCurrent, .readCurrent c i crc),
   (tWriteThrough, .writeThrough c i crc), (tWriteBackDirty, .writeBackDirty c i crc), (tEvictClean, .evictClean c i crc),
   (tAtomic, .atomic c i crc), (tReadBulk, .readBulk c i crc), (tWriteBulk, .writeBulk c i crc)]

end Sys2Proof.Machine
end

