-- ==== Sys2Proof/Certificates/Slice0/Obligations.lean ====
section
/-! DEFINITION. The statements for the provers, family by family. Each docstring names the rules of the spec that its
statement rests on; a clause that rests on a choice of the model's names the log entry. -/

open Sys2Proof Sys2Proof.Machine

/-! ### The queue, reset, and what holds of every command -/

/-- A step takes the command at the front of the queue and runs it on the device with the queue's rest. -/
def Obligations.StepRunsFrontCommand : Prop :=
  ∀ (c : Instr) (r : List Instr) (s : State), step { s with pending := c :: r } = exec c { s with pending := r }

/-- On an empty queue a step only lets ten nanoseconds pass: on the model's clock and, where the logic die runs, on the time base and
on the power block's counts of time in Dormant and Drowsy (DESIGN CHOICE, logs 1 and 2). -/
def Obligations.IdleStepOnlyPassesTime : Prop :=
  ∀ s : State, s.pending = [] →
    (s.live = true → step s = .next { s with now := s.now + 10, time := s.time.tick, pwr := s.pwr.tick })
      ∧ (s.live = false → step s = .next { s with now := s.now + 10 })

/-- What the spec gives the machine at reset: nothing powered, the intake die in Qualify, every stored register at the
reset value of its map (where the map gives none, the value of log 8), FAULT_N and PG_OUT deasserted, an empty event log, every operation slot Idle, no page in memory; so both
invariants of this file hold there. -/
def Obligations.ResetStateIsUnpowered : Prop :=
  State.reset.live = false ∧ State.reset.intake.phase = .qualify ∧ State.reset.intake.passFet = false
    ∧ State.reset.intake.pgOut = false ∧ State.reset.faultN = false ∧ State.reset.log.ring = []
    ∧ (∀ a, State.reset.reg a = resetOf a) ∧ (∀ i, tabGet (fun _ => ({} : OpSlot)) State.reset.mgmt.slots i = {})
    ∧ State.reset.dram.bytes = [] ∧ State.reset.pending = [] ∧ State.reset.dark = true

/-- No command stops the device: every command answers a next state in every state. -/
def Obligations.NoCommandStops : Prop := ∀ (c : Instr) (s : State), ∃ t, exec c s = .next t

/-- While the logic die does not run, and no release from power-on reset or from SYS_RST_N waits in the queue, no step
starts it: only those two commands end a reset (R100, R103). -/
def Obligations.OnlyReleasesStartTheLogicDie : Prop :=
  ∀ s t : State, s.live = false → (∀ c ∈ s.pending, startsLogic c = false) → step s = .next t →
    t.live = false ∧ ∀ c ∈ t.pending, startsLogic c = false

/-- Without VSTBY, and with no rise of VSTBY in the queue, the intake die stays off with its FETs off and PG_OUT
deasserted, and the logic die unpowered, whatever commands arrive (R35, R36, R82). -/
def Obligations.NothingRunsWithoutVstby : Prop :=
  ∀ s t : State, s.dark = true → (∀ c ∈ s.pending, c ≠ .vstbyRise) → step s = .next t →
    t.dark = true ∧ ∀ c ∈ t.pending, c ≠ .vstbyRise

/-! ### Sparse tables, registers and memory -/

/-- Every write to a table keeps its canonical form, reads back, and leaves every other key as it was. -/
def Obligations.TablesReadBackAndStayCanonical : Prop :=
  ∀ (d : Nat → Word) (t : Tab Word) (a b : Nat) (v : Word),
    tabGet d (tabSet d t a v) b = (if b = a then v else tabGet d t b) ∧ (tabWf d t = true → tabWf d (tabSet d t a v) = true)

/-- Storing a line of 64 bytes keeps the memory's canonical form; the line and its mark read back, and every byte outside the
line is as it was. -/
def Obligations.LineWritesKeepMemoryCanonical : Prop :=
  ∀ (s : State) (la : Nat) (l : List Byte) (m : LineMark),
    (tabWf (fun _ => 0) s.dram.bytes = true → tabWf (fun _ => 0) (s.setLine la l m).dram.bytes = true)
      ∧ (s.setLine la l m).lineBytes la = (List.range 64).map (fun i => l.getD i 0)
      ∧ (s.setLine la l m).lineMark la = m
      ∧ (∀ a, a < 64 * la ∨ 64 * la + 64 ≤ a →
          tabGet (fun _ => 0) (s.setLine la l m).dram.bytes a = tabGet (fun _ => 0) s.dram.bytes a)
      ∧ (∀ lb, lb ≠ la → (s.setLine la l m).lineMark lb = s.lineMark lb)

/-! ### Package, link and wires (02) -/

/-- The intake link's frames and timeouts, the fault wire and the thermal trip (R23 to R26, R34, R54): under the conditions named,
INTAKE_LINK_FRAME, LOGIC_LINK_TIMEOUT, INTAKE_LINK_TIMEOUT, FAULT_WIRE_ASSERT, THERMAL_TRIP and INTAKE_KEEPALIVE_FRAME complete with
the changes written out. A good frame brings its receiver's link up; the first bad one asks for a resend; the second is counted and
raises 0x0514, and an unsent management write is then answered InternalFault. -/
def Obligations.IntakeLinkAndWireCommands : Prop :=
  ∀ s : State,
    (∀ f, s.live = true → s.intake.vstby = true → linkFrameOk f = true →
      exec (.intakeLinkFrame .toLogic f) s = .next { s with
        logic := { s.logic with linkUp := true, linkLost := false, resendLogic := false,
                                strapsSeen := s.logic.strapsSeen || s.intake.strapped } }) ∧
    (∀ f, s.live = true → s.intake.vstby = true → linkFrameOk f = true →
      exec (.intakeLinkFrame .toIntake f) s = .next { s with
        logic := { s.logic with resendIntake := false }
        intake := { s.intake with linkLost := false } }) ∧
    (∀ f, s.live = true → s.intake.vstby = true → linkFrameOk f = false → s.logic.resendLogic = false →
      exec (.intakeLinkFrame .toLogic f) s = .next { s with
        regs := (s.count Reg.INT_LINK_ERR).regs
        logic := { s.logic with resendLogic := true } }) ∧
    (∀ f, s.live = true → s.intake.vstby = true → linkFrameOk f = false → s.logic.resendIntake = false →
      exec (.intakeLinkFrame .toIntake f) s = .next { s with
        regs := (s.count Reg.INT_LINK_ERR).regs
        logic := { s.logic with resendIntake := true } }) ∧
    (∀ f, s.live = true → s.intake.vstby = true → linkFrameOk f = false → s.logic.resendIntake = true →
      s.logic.linkUp = true →
      ∃ t, exec (.intakeLinkFrame .toIntake f) s = .next t ∧ t.logic.resendIntake = false ∧ t.evtSet 0x0514 0 = true
        ∧ t.intake = { s.intake with linkWrite := if s.intake.unsent then none else s.intake.linkWrite }
        ∧ (s.intake.unsent = true → t.mgmt.lastStatus = stInternalFault)) ∧
    (s.live = true → ∃ t, exec .logicLinkTimeout s = .next t ∧ t.evtSet 0x0515 0 = true ∧ t.logic.linkUp = false
      ∧ t.logic.faultWire = true ∧ t.faultN = true ∧ t.intake = s.intake) ∧
    (s.intake.vstby = true → s.intake.pgOut = true → ∃ t, exec .intakeLinkTimeout s = .next t ∧ t.faultN = true
      ∧ t = { s with intake := { s.intake with linkLost := true } }) ∧
    (s.live = true → s.faultReason = true → ∃ t, exec .faultWireAssert s = .next t ∧ t.faultN = true
      ∧ t = { s with logic := { s.logic with faultWire := true } }) ∧
    (s.logic.on = true → s.intake.pgOut = true → ∃ t, exec .thermalTrip s = .next t ∧ t.live = false
      ∧ t.logic.thermTrip = true ∧ t.faultN = true
      ∧ t.intake = { s.intake with
          pgOut := false, seqOut := false, linkWrite := none, braceSent := false, thermTrip := true
          phase := if s.intake.phase.latched || s.intake.phase.retrying then s.intake.phase else .tripHold }) ∧
    (s.intake.vstby = true → exec (.intakeKeepaliveFrame .toLogic) s = .next { s with out := .linkFrame .toLogic true :: s.out }) ∧
    (s.live = true → exec (.intakeKeepaliveFrame .toIntake) s = .next { s with out := .linkFrame .toIntake true :: s.out })

/-- VSTBY, the intake's straps, the PLLs and the TAP (R35 to R37, R42, R43, R45 to R47, R49): under the conditions named, VSTBY_RISE,
VSTBY_FALL, INTAKE_STRAP_SAMPLE, PLL_LOCK, PLL_LOCK_TIMEOUT, TAP_RESET and TAP_INSTRUCTION complete with the changes written out. The
profile is applied or discarded whole; a fall of VSTBY leaves the fuses and the boot store; FEED_MODE 0b11 is a strap fault; a PLL
that has not locked is tried once more; IDCODE reads 0x1416_0BC7. -/
def Obligations.StandbyStrapPllAndTapCommands : Prop :=
  ∀ s : State,
    (s.intake.vstby = false → ∃ t, exec .vstbyRise s = .next t ∧ t.intake.vstby = true ∧ t.intake.profile = s.intake.profile
      ∧ t = { s with intake := t.intake, regs := t.intake.cfg }
      ∧ (intakeCheck (applyProfile s.intake.profile).1 = none →
          t.intake.cfg = (applyProfile s.intake.profile).1 ∧ t.intake.profilePairs = (applyProfile s.intake.profile).2
            ∧ t.intake.profileErr = false ∧ t.intake.hist = [])
      ∧ (intakeCheck (applyProfile s.intake.profile).1 ≠ none →
          t.intake.cfg = [] ∧ t.intake.profileErr = true ∧ t.intake.hist = [(0, 0x0517#16)])) ∧
    (s.intake.vstby = true → ∃ t, exec .vstbyFall s = .next t ∧ t.dark = true ∧ t.intake.profile = s.intake.profile
      ∧ t.boot.flash = s.boot.flash ∧ t.boot.rollback = s.boot.rollback ∧ t.cry.fuseF = s.cry.fuseF ∧ ∀ a, t.reg a = resetOf a) ∧
    (∀ first mode, s.intake.vstby = true → s.intake.strapped = false → mode ≠ 3#2 →
      exec (.intakeStrapSample first mode) s
        = .next { s with intake := { s.intake with strapped := true, seqFirst := first, feedMode := mode.toNat } }) ∧
    (∀ first, s.intake.vstby = true → s.intake.strapped = false →
      ∃ t, exec (.intakeStrapSample first 3#2) s = .next t ∧ t.intake.faults = s.intake.faults ||| 0x800 ∧ t.faultN = true
        ∧ t.startReady = false) ∧
    (∀ p again, s.live = true → s.pll p = .locking again → exec (.pllLock p) s = .next (s.setPll p .locked)) ∧
    (∀ p, s.live = true → s.pll p = .locking false →
      ∃ t, exec (.pllLockTimeout p) s = .next t ∧ t.pll p = .locking true) ∧
    (∀ b, exec (.tapReset b) s = .next { s with
      logic := { s.logic with trst := s.logic.trst || b, tapInstr := none, tapActive := .idcode } }) ∧
    (∀ i, exec (.tapInstruction i true) s = .next { s with
      logic := { s.logic with trst := true, tapInstr := none, tapActive := .idcode } }) ∧
    (exec (.tapInstruction .idcode false) s = .next { s with
      logic := { s.logic with trst := false, tapInstr := some .idcode, tapActive := .idcode }
      out := .tapData 0x14160BC7 :: s.out }) ∧
    (∀ i, i ≠ .idcode → tapAlways i = true → exec (.tapInstruction i false) s
      = .next { s with logic := { s.logic with trst := false, tapInstr := some i, tapActive := i } }) ∧
    (∀ i, tapAlways i = false → s.logic.on = true → 2 ≤ s.logic.bootSel → exec (.tapInstruction i false) s
      = .next { s with logic := { s.logic with trst := false, tapInstr := some i, tapActive := i } }) ∧
    (∀ i, tapAlways i = false → s.logic.bootSel < 2 → exec (.tapInstruction i false) s
      = .next { s with logic := { s.logic with trst := false, tapInstr := some i } })

/-! ### The intake die (03) -/

/-- The configuration commands of the intake die (R50, R52, R54, R55, R80, R82): under the conditions named, INT_UNLOCK,
INT_PROFILE_PROG, PROFILE_WORD_PROGRAMMED, INT_CFG_COMMIT, INT_LINK_WRITE_ACK, INT_EVT_HIST_DELIVERY and INT_FAULT_CLEAR complete
with the changes written out. A link write acts at the intake die and then waits for its acknowledgement; a staged set takes effect
whole or not at all. That the history is empty after its delivery is log 181. -/
def Obligations.IntakeConfigurationCommands : Prop :=
  ∀ s : State,
    (s.linkReady = true → exec (.intUnlock 0x4E53) s = .next { s with intake := { s.intake with
      unlockUntil := s.intake.ticks + 1000
      linkWrite := some { addr := Reg.INT_UNLOCK, value := 0x4E53, done := true } } }) ∧
    (∀ v, s.linkReady = true → v ≠ 0x4E53 → exec (.intUnlock v) s = .next { s with intake := { s.intake with
      linkWrite := some { addr := Reg.INT_UNLOCK, value := v, done := true } } }) ∧
    (∀ v : Word, s.linkReady = true → s.unlocked = true → s.intake.burning = none →
      s.intake.burned.getLsbD (bits v.toNat 4 0) = false →
      exec (.intProfileProg v) s = .next { s with intake := { s.intake with
        burning := some (bits v.toNat 4 0, s.reg Reg.INT_PROFILE_DATA)
        linkWrite := some { addr := Reg.INT_PROFILE_PROG, value := v, done := true } } }) ∧
    (∀ v : Word, s.linkReady = true → s.unlocked = false ∨ s.intake.burned.getLsbD (bits v.toNat 4 0) = true →
      exec (.intProfileProg v) s = .next { s with intake := { s.intake with
        linkWrite := some { addr := Reg.INT_PROFILE_PROG, value := v, done := true } } }) ∧
    (∀ w v, s.intake.burning = some (w, v) → ∃ t, exec .profileWordProgrammed s = .next t
      ∧ t = { s with intake := { s.intake with
          profile := t.intake.profile, burned := s.intake.burned ||| BitVec.ofNat 32 (2 ^ w), burning := none } }
      ∧ (∀ j, tabGet (fun _ => 0) t.intake.profile j = if j = w then v else tabGet (fun _ => 0) s.intake.profile j)) ∧
    (∀ v : Word, s.linkReady = true → bit v.toNat 0 = true → intakeCheck (stagedCfg s) = none →
      ∃ t, exec (.intCfgCommit v) s = .next t ∧ t.reg Reg.INT_CFG_STATUS = 0
        ∧ t = { s with
            regs := t.regs
            intake := { s.intake with
              cfg := stagedCfg s, linkWrite := some { addr := Reg.INT_CFG_COMMIT, value := v, done := true } } }) ∧
    (∀ (v : Word) (off : Nat), s.linkReady = true → bit v.toNat 0 = true → intakeCheck (stagedCfg s) = some off →
      ∃ t, exec (.intCfgCommit v) s = .next t
        ∧ t.intake = { s.intake with linkWrite := some { addr := Reg.INT_CFG_COMMIT, value := v, done := true } }
        ∧ t.reg Reg.INT_CFG_STATUS = BitVec.ofNat 32 (0x8000_0000 + off % 2 ^ 15) ∧ t.evtSet 0x0516 0 = true) ∧
    (∀ a v, s.live = true → s.intake.linkWrite = some { addr := a, value := v, done := true } → exec .intLinkWriteAck s
      = .next { s with intake := { s.intake with linkWrite := none }, mgmt := { s.mgmt with lastStatus := stOK } }) ∧
    (s.live = true → s.logic.linkUp = true → ∃ t, exec .intEvtHistDelivery s = .next t
      ∧ t.intake = { s.intake with hist := [] } ∧ ∀ e ∈ s.intake.hist, t.evtSet e.2.toNat 0 = true) ∧
    (∀ v : Word, s.linkReady = true → ∃ t, exec (.intFaultClear v) s = .next t
      ∧ t = { s with intake := { s.intake with
          faults := s.intake.faults &&& ~~~(if s.unlocked then v else v &&& ~~~0x040)
          held := t.intake.held, phase := t.intake.phase
          linkWrite := some { addr := Reg.INT_FAULT, value := v, done := true } } })

/-- Sensing and feed selection (R56 to R58, R61 to R65): under the conditions named, EVALUATION_TICK, PLAUSIBILITY_FAULT,
SENSE_DISAGREE, FEED_VALID, FEED_INVALID, FEED_SWITCH, FEED_BREAK_END, FEED_BELOW_VRST, FEED_OVERVOLTAGE and FEED_RETURN complete with
the changes written out. A feed ceases to be valid by filtered undervoltage or overvoltage; a switch breaks before it makes; the loss
of the active feed below V_RST turns the pass FET off, and PG_OUT falls. -/
def Obligations.SensingAndFeedCommands : Prop :=
  ∀ s : State,
    (∀ a b tf g q, s.intake.vstby = true → ∃ t, exec (.evaluationTick a b tf g q) s = .next t
      ∧ t.intake.ticks = s.intake.ticks + 1 ∧ t.intake.pathA = (a :: s.intake.pathA).take 8
      ∧ t.intake.pathB = (b :: s.intake.pathB).take 8 ∧ t.intake.passFet = s.intake.passFet
      ∧ t.intake.cfg = s.intake.cfg ∧ t.intake.profile = s.intake.profile ∧ t.intake.faults = s.intake.faults) ∧
    (∀ n ∈ s.intake.cnt.plaus, s.intake.vstby = true → 500 ≤ n → exec .plausibilityFault s
      = .next (({ s with intake := { s.intake with faults := s.intake.faults ||| 0x400 } }).intakeEvent 0x050C)) ∧
    (∀ n ∈ s.intake.cnt.disagree, s.intake.vstby = true → 500 ≤ n → exec .senseDisagree s
      = .next (({ s with intake := { s.intake with faults := s.intake.faults ||| 0x200 } }).intakeEvent 0x050B)) ∧
    (∀ f, s.intake.strapped = true → s.intake.valid f = false → s.icfg Reg.INT_FEED_TIMES 21 12 * 1000 ≤ s.intake.qualCount f →
      ∃ t, exec (.feedValid f) s = .next t ∧ t = { s with intake := t.intake } ∧ t.intake.valid f = true
        ∧ t.intake.valid (otherFeed f) = s.intake.valid (otherFeed f) ∧ t.intake.passFet = s.intake.passFet
        ∧ (s.intake.isoA = false → s.intake.isoB = false → s.intake.breaking = false → s.intake.permits f = true →
            t.intake.feed ≠ none)) ∧
    (∀ f, s.intake.valid f = true → s.tFilt ≤ s.intake.swCount f ∨ s.tFilt ≤ s.intake.ovCount f →
      exec (.feedInvalid f) s = .next (s.setIntake
        (if s.intake.feed = some f ∧ (s.intake.setValid f false).usable (otherFeed f) = true then
          { s.intake.setValid f false with switchTo := some (otherFeed f) }
        else s.intake.setValid f false))) ∧
    (∀ f, s.intake.switchTo = some f → ∃ t, exec .feedSwitch s = .next t ∧ t.intake.feed = some f
      ∧ t.intake.iso (otherFeed f) = false ∧ t.intake.iso f = s.intake.iso f ∧ t.intake.switchTo = none
      ∧ t.intake.breaking = (s.intake.breaking || s.intake.iso (otherFeed f)) ∧ t.intake.passFet = s.intake.passFet
      ∧ (s.live = true → s.logic.linkUp = true → t.evtSet 0x0501 0 = true)) ∧
    (∀ f, s.intake.feed = some f → s.intake.breaking = true → exec .feedBreakEnd s
      = .next { s with intake := { s.intake.setIso f true with breaking := false } }) ∧
    (s.intake.feed.isSome = true → s.tFilt ≤ s.intake.cnt.rst → ∃ t, exec .feedBelowVrst s = .next t
      ∧ t.intake.pgOut = false ∧ t.intake.passFet = false ∧ t.intake.isoA = false ∧ t.intake.isoB = false
      ∧ t.intake.feed = none ∧ t.intake.validA = false ∧ t.intake.validB = false ∧ t.intake.faultCount = s.intake.faultCount
      ∧ t.intake.feedWarn = s.intake.feedWarn
      ∧ ((s.intake.phase.latched || s.intake.phase.retrying) = false → t.intake.phase = .qualify ∧ t.intake.needSeq = false)
      ∧ ((s.intake.phase.latched || s.intake.phase.retrying) = true → t.intake.phase = s.intake.phase)) ∧
    (∀ f, s.intake.feed = some f → s.tFilt ≤ s.intake.ovCount f →
      (s.intake.setValid f false).usable (otherFeed f) = true → exec .feedOvervoltage s
        = .next { s with intake := { s.intake.setValid f false with switchTo := some (otherFeed f) } }) ∧
    (∀ f, s.intake.feed = some f → s.tFilt ≤ s.intake.ovCount f →
      (s.intake.setValid f false).usable (otherFeed f) = false → ∃ t, exec .feedOvervoltage s = .next t
        ∧ t.intake.pgOut = false ∧ t.intake.passFet = false ∧ t.intake.isoA = false ∧ t.intake.isoB = false
        ∧ t.intake.faults = s.intake.faults ||| 0x001
        ∧ ((s.intake.phase.latched || s.intake.phase.retrying) = false → t.intake.phase = .qualify ∧ t.intake.needSeq = false)) ∧
    (bit (s.icfg Reg.INT_CTRL 31 0) 5 = true → s.intake.feed = some .b → s.intake.usable .a = true →
      s.intake.inLimit = false → s.intake.feedWarn = false →
      exec .feedReturn s = .next { s with intake := { s.intake with switchTo := some .a } })

/-- Soft start, the fault timer and power-good (R67, R68, R70, R71, R72, R93, R96): under the conditions named, SOFT_START,
PASS_FET_DRIVE, CURRENT_LIMIT_ENTER, CURRENT_LIMIT_LEAVE, PG_OUT_ASSERT and SEQ_OUT_ASSERT complete with the changes written out. The
start of the fault timer ends power-good qualification, and with it a tie is deferred with 0x050E; PG_OUT follows qualification that
has held for PG_DELAY, and ends the warning of a trip or removal with the brace. -/
def Obligations.SoftStartAndPowerGoodCommands : Prop :=
  ∀ s : State,
    (∀ f, s.startReady = true → s.intake.feed = some f → exec .softStart s
      = .next { s with intake := { s.intake.setIso f true with enhancing := true, phase := .softStart } }) ∧
    (s.intake.enhancing = true → exec .passFetDrive s
      = .next { s with intake := { s.intake with enhancing := false, passFet := true } }) ∧
    (s.intake.passFet = true → s.intake.inLimit = false → s.intake.pgOut = true ∨ s.intake.cnt.pg = 0 →
      exec .currentLimitEnter s
        = .next { s with intake := { s.intake with inLimit := true, cnt := { s.intake.cnt with ftimer := 0, pg := 0 } } }) ∧
    (s.intake.passFet = true → s.intake.inLimit = false → s.intake.pgOut = false → 0 < s.intake.cnt.pg →
      exec .currentLimitEnter s
        = .next (({ s with intake := { s.intake with
            inLimit := true, cnt := { s.intake.cnt with ftimer := 0, pg := 0 } } }).intakeEvent 0x050E)) ∧
    (s.intake.inLimit = true → exec .currentLimitLeave s
      = .next { s with intake := { s.intake with inLimit := false, cnt := { s.intake.cnt with ftimer := 0 } } }) ∧
    (s.intake.pgOut = false ∨ s.intake.tripWarned = true → s.intake.inLimit = false → s.intake.thermTrip = false →
      s.intake.offPending = false → s.intake.passFet = true → 0 < s.intake.cnt.pg →
      s.icfg Reg.INT_PG_CFG 15 0 * 1000 ≤ s.intake.cnt.pg →
      exec .pgOutAssert s = .next { s with
        intake := { s.intake with
          pgOut := true, phase := .running, feedWarn := false, warnCause := .none, braceSent := false }
        boot := { s.boot with
          brace := s.boot.brace && s.boot.lgWriting, braceEnd := s.boot.brace && s.boot.lgWriting } }) ∧
    (s.intake.pgOut = true → exec .seqOutAssert s = .next { s with intake := { s.intake with seqOut := true } })

/-- The five trips (R68, R75 to R78, R80): where its condition holds, FTIMER_EXPIRED, CURVE_TRIP, I2T_TRIP, FAST_TRIP or FET_OVERTEMP
pulls the gate down, asserts FEED_WARN_N, latches its own cause, counts (up to 15), and starts the retry timer, or latches off at
RETRY_MAX; PG_OUT and the isolation FETs stay. FET_OVERTEMP is stated of a pass FET that is on (log 186). -/
def Obligations.TripsPullTheGateAndLatchTheirCause : Prop :=
  ∀ (s : State) (c : Instr) (cause : Word) (code : Nat),
    (c = .ftimerExpired ∧ cause = 0x004 ∧ code = 0x0505 ∧ s.intake.inLimit = true
        ∧ s.icfg Reg.INT_FTIMER 31 0 * 100 ≤ s.intake.cnt.ftimer
      ∨ c = .curveTrip ∧ cause = 0x008 ∧ code = 0x0506 ∧ s.intake.passFet = true ∧ 1000000000000 ≤ s.intake.curveAcc
      ∨ c = .i2tTrip ∧ cause = 0x010 ∧ code = 0x0507 ∧ s.intake.passFet = true
        ∧ s.icfg Reg.INT_I2T_LIMIT 31 0 * 1000000000000 ≤ s.intake.i2tAcc
      ∨ c = .fastTrip ∧ cause = 0x020 ∧ code = 0x0508 ∧ s.intake.passFet = true
      ∨ c = .fetOvertemp ∧ cause = 0x100 ∧ code = 0x0512 ∧ s.intake.passFet = true ∧ 1000 ≤ s.intake.cnt.hot) →
    ∃ t, exec c s = .next t
      ∧ t.intake.passFet = false ∧ t.intake.feedWarn = true ∧ t.intake.warnCause = .trip
      ∧ t.intake.faults &&& cause = cause ∧ t.intake.faultCount = min 15 (s.intake.faultCount + 1)
      ∧ t.intake.pgOut = s.intake.pgOut ∧ t.intake.isoA = s.intake.isoA ∧ t.intake.isoB = s.intake.isoB
      ∧ t.intake.cfg = s.intake.cfg
      ∧ (s.live = true → s.logic.linkUp = true → t.evtSet code 0 = true)
      ∧ (s.icfg Reg.INT_RETRY_MAX 3 0 ≤ min 15 (s.intake.faultCount + 1) →
          t.intake.phase = .latchedOff ∧ t.intake.faults &&& 0x002 = 0x002 ∧ t.faultN = true)
      ∧ (min 15 (s.intake.faultCount + 1) < s.icfg Reg.INT_RETRY_MAX 3 0 → bit (s.icfg Reg.INT_CTRL 31 0) 4 = true →
          t.intake.phase = .retryCool)

/-- Retry, the FET tests and presence (R79 to R86): under the conditions named, RETRY_COOL_END, RETRY_END, FAULT_COUNT_RESET,
SHORT_FET, OPEN_FET, REMOVAL and INSERTION_COMPLETE complete with the changes written out. A retry starts again without the wait on
SEQ_IN, and not while the FET is at or above T_START; a removal ends a retry or latch-off and never the isolation FETs or PG_OUT. -/
def Obligations.RetryFetAndPresenceCommands : Prop :=
  ∀ s : State,
    (s.intake.phase = .retryCool → s.intake.inserted = true → exec .retryCoolEnd s
      = .next { s with intake := { s.intake with phase := .retryDelay, cnt := { s.intake.cnt with retry := 0 } } }) ∧
    (s.intake.phase = .retryCool → s.intake.inserted = false → exec .retryCoolEnd s
      = .next { s with intake := { s.intake with phase := .qualify, cnt := { s.intake.cnt with retry := 0 } } }) ∧
    (s.intake.phase = .retryDelay → ∃ t, exec .retryEnd s = .next t ∧ t.intake.needSeq = false
      ∧ t = { s with intake := t.intake } ∧ t.intake.passFet = s.intake.passFet
      ∧ (s.intake.thermTrip = true → t.intake.phase = .tripHold)
      ∧ (s.intake.thermTrip = false → t.intake.phase = .softStart ∨ t.intake.phase = .qualify)
      ∧ ((s.icfg Reg.INT_FET_TEMP_CFG 31 16 * 10 : Int) ≤ s.intake.tFet → t.intake.phase ≠ .softStart)) ∧
    (s.intake.pgOut = true → exec .faultCountReset s = .next { s with intake := { s.intake with faultCount := 0 } }) ∧
    (s.intake.passFet = false → 1000 ≤ s.intake.cnt.short → exec .shortFet s
      = .next (({ s with intake := { s.intake with
          isoA := false, isoB := false, breaking := false, enhancing := false, phase := .lockout
          faults := s.intake.faults ||| 0x040 } }).intakeEvent 0x0509)) ∧
    (1000 ≤ s.intake.cnt.gateFull → 0 < s.intake.cnt.openFet → exec .openFet s
      = .next (({ s with intake := { s.intake with faults := s.intake.faults ||| 0x080 } }).intakeEvent 0x050A)) ∧
    (∀ l sh, s.intake.vstby = true → (l && sh) = false → ∃ t, exec (.removal l sh) s = .next t ∧ t.intake.passFet = false
      ∧ t.intake.feedWarn = true ∧ t.intake.warnCause = .removal ∧ t.intake.inLimit = false ∧ t.intake.cnt.ftimer = 0
      ∧ t.intake.inserted = false ∧ t.intake.pin0 = !l ∧ t.intake.pin1 = !sh
      ∧ t.intake.pgOut = s.intake.pgOut ∧ t.intake.isoA = s.intake.isoA ∧ t.intake.isoB = s.intake.isoB
      ∧ (s.intake.phase = .latchedOff → t.intake.faultCount = 0 ∧ t.intake.faults = s.intake.faults &&& ~~~0x002)
      ∧ (s.intake.phase = .retryCool → t.intake.phase = .retryCool ∧ t.intake.faultCount = 0)
      ∧ (s.live = true → s.logic.linkUp = true → t.evtSet 0x0510 0 = true)) ∧
    (s.intake.strapped = true → s.intake.inserted = false → s.intake.phase ≠ .retryCool → ∃ t, exec .insertionComplete s = .next t
      ∧ t.intake.inserted = true ∧ t.intake.pin0 = false ∧ t.intake.pin1 = false ∧ t.intake.passFet = s.intake.passFet
      ∧ t.intake.phase ≠ .off ∧ (s.live = true → s.logic.linkUp = true → t.evtSet 0x0511 0 = true))

/-- Early warning and sequencing (R72, R87, R91, R94 to R97): under the conditions named, EARLY_WARNING, DIP_RECOVERED,
SEQ_IN_ASSERT, SEQ_TIMEOUT, OFF_REQ, OFF_PASS_FET_OFF and SEQ_WAKE_EDGE complete with the changes written out. Brace ends with a dip
that recovers, or with the last-gasp write; OFF_REQ takes PG_OUT and SEQ_OUT away and leaves the pass FET on until Off. -/
def Obligations.WarningAndSequencingCommands : Prop :=
  ∀ s : State,
    (s.intake.feed.isSome = true → s.intake.feedWarn = false → s.tFilt ≤ s.intake.cnt.warn → exec .earlyWarning s
      = .next (({ s with intake := { s.intake with
          feedWarn := true, warnCause := .early, braceSent := true } }).intakeEvent 0x0503)) ∧
    (s.intake.warnCause = .early → s.icfg Reg.INT_FEED_TIMES2 9 0 * 1000 ≤ s.intake.cnt.recov → ∃ t, exec .dipRecovered s = .next t
      ∧ t.intake.feedWarn = false ∧ t.intake.warnCause = .none ∧ t.logic.on = s.logic.on ∧ t.logic.sysRst = s.logic.sysRst
      ∧ t.boot.brace = (s.boot.brace && s.boot.lgWriting) ∧ t.boot.braceEnd = (s.boot.brace && s.boot.lgWriting)
      ∧ (s.live = true → s.logic.linkUp = true → t.evtSet 0x0504 0 = true)) ∧
    (s.intake.vstby = true → 1000 ≤ s.intake.cnt.seqHigh → s.intake.phase = .seqWait → exec .seqInAssert s
      = .next { s with intake := { s.intake with seqIn := true, needSeq := false } }) ∧
    (s.intake.vstby = true → 1000 ≤ s.intake.cnt.seqHigh → s.intake.phase ≠ .seqWait → exec .seqInAssert s
      = .next { s with intake := { s.intake with seqIn := true } }) ∧
    (s.intake.phase = .seqWait → s.intake.needSeq = true → exec .seqTimeout s
      = .next (({ s with intake := { s.intake with needSeq := false, seqTimedOut := true } }).intakeEvent 0x050D)) ∧
    (s.live = true → s.logic.linkUp = true → s.intake.pgOut = true → ∃ t, exec .offReq s = .next t ∧ t.intake.pgOut = false
      ∧ t.intake.seqOut = false ∧ t.intake.offPending = true ∧ t.live = false ∧ t.intake.passFet = s.intake.passFet) ∧
    (s.intake.offPending = true → exec .offPassFetOff s = .next { s with intake := { s.intake with
      offPending := false, passFet := false, enhancing := false, inLimit := false, phase := .off
      cnt := { s.intake.cnt with gateOff := 0, belowTen := none } } }) ∧
    (s.intake.phase = .off → bit (s.icfg Reg.INT_CTRL 31 0) 7 = true → ∃ t, exec .seqWakeEdge s = .next t
      ∧ t.intake.phase ≠ .off ∧ (s.intake.seqFirst = false → t.intake.needSeq = true)
      ∧ t.intake.passFet = s.intake.passFet ∧ t = { s with intake := t.intake })

/-! ### Start-up, image and resets (04) -/

/-- Release, reset and the board's regulators (R38, R100 to R104): under the conditions named, POR_RELEASE, SYS_RST_ASSERT,
SYS_RST_RELEASE, VRM_PG_TIMEOUT and VRM_PG_LOST complete with the changes written out. A reset of the dies keeps the boot store and the
fuses, and the cause is recorded at release. That VRM_PG_LOST raises 0x051A alone is log 189. -/
def Obligations.ReleaseAndResetCommands : Prop :=
  ∀ s : State,
    (∀ b h, s.intake.vstby = true → s.intake.pgOut = true → s.logic.on = false → ∃ t, exec (.porRelease b h) s = .next t
      ∧ t.live = true ∧ t.boot.stage = .start ∧ t.boot.resetCause = s.boot.nextCause ∧ t.logic.bootSel = b.toNat
      ∧ t.logic.shelfId = h.toNat ∧ t.pll .core = .locking false ∧ t.pll .sram = .locking false
      ∧ t.intake = { s.intake with vrmFault := false } ∧ t.boot.flash = s.boot.flash) ∧
    (s.logic.on = true → s.logic.sysRst = false → ∃ t, exec .sysRstAssert s = .next t ∧ t.logic.on = true ∧ t.live = false
      ∧ t.boot.nextCause = 0x08 ∧ t.kct = {} ∧ t.cry.slots = [] ∧ t.boot.flash = s.boot.flash ∧ t.boot.rollback = s.boot.rollback
      ∧ t.cry.fuseF = s.cry.fuseF ∧ t.intake.pgOut = s.intake.pgOut ∧ t.intake.passFet = s.intake.passFet) ∧
    (∀ b h, s.logic.on = true → s.logic.sysRst = true → ∃ t, exec (.sysRstRelease b h) s = .next t ∧ t.live = true
      ∧ t.boot.stage = .start ∧ t.boot.resetCause = s.boot.nextCause ∧ t.logic.bootSel = b.toNat
      ∧ t.logic.shelfId = h.toNat ∧ t.pll .core = .locking false ∧ t.pll .sram = .locking false
      ∧ t.boot.flash = s.boot.flash) ∧
    (s.intake.vstby = true → s.intake.pgOut = true → s.logic.on = false → ∃ t, exec .vrmPgTimeout s = .next t
      ∧ t.intake.pgOut = false ∧ t.faultN = true ∧ t.live = false ∧ t.intake.passFet = false
      ∧ (s.intake.phase.latched = false → t.intake.phase = .retryCool)
      ∧ ∃ e ∈ t.intake.hist, e.2 = 0x0519) ∧
    (s.intake.vstby = true → s.intake.pgOut = true → s.logic.on = true → ∃ t, exec .vrmPgLost s = .next t
      ∧ t.intake.pgOut = false ∧ t.faultN = true ∧ t.live = false ∧ t.intake.passFet = false ∧ t.boot.nextCause = 0x04
      ∧ ∃ e ∈ t.intake.hist, e.2 = 0x051A)

/-- The first boot stages (R39, R105, R109, R112 to R117): while the logic die runs and under the conditions named, BOOT_START,
IMAGE_HEADERS_READ, IMAGE_VERIFIED, IMAGE_APPLY, REG_POLL_TIMEOUT and BOOT_MARCH_DONE complete with the changes written out. The slot
of the higher version is tried first; a slot that fails a check gives way to the other once, and then the boot has failed. -/
def Obligations.BootImageStages : Prop :=
  ∀ s : State, s.live = true →
    (∀ p, s.boot.stage = .start → s.pll .core = .locked → s.logic.bootSel < 2 → ∃ t, exec (.bootStart p) s = .next t
      ∧ t.boot.stage = .imageRead) ∧
    (∀ p, s.boot.stage = .start → s.pll .core = .locked → s.logic.bootSel = 3 → ∃ t, exec (.bootStart p) s = .next t
      ∧ t.boot.stage = .testHold ∧ t.evtSet 0x020E 0 = true) ∧
    (s.boot.stage = .imageRead → s.boot.failed = false → s.readable false = true → s.readable true = true →
      ∃ t, exec .imageHeadersRead s = .next t ∧ t.boot.stage = .imageVerify ∧ t = { s with boot := t.boot, out := t.out }
        ∧ t.out = s.imageRead t.boot.slotB :: headerRead true :: headerRead false :: s.out
        ∧ t.boot.slotB = decide (s.slotWord false 0x0C 4 < s.slotWord true 0x0C 4)) ∧
    (s.boot.stage = .imageRead → s.boot.failed = false → s.readable false = false → s.readable true = false →
      ∃ t, exec .imageHeadersRead s = .next t ∧ t.boot.failed = true ∧ t.boot.errCode = 0x01) ∧
    (s.boot.stage = .imageVerify → s.boot.failed = false → s.slotFault s.boot.slotB = none →
      ∃ t, exec .imageVerified s = .next t ∧ t.boot.stage = .apply ∧ t.regs = s.regs) ∧
    (∀ code detail, s.boot.stage = .imageVerify → s.boot.failed = false → s.slotFault s.boot.slotB = some (code, detail) →
      s.boot.triedOther = true → ∃ t, exec .imageVerified s = .next t ∧ t.boot.failed = true ∧ t.boot.errCode = code
        ∧ t.boot.errDetail = detail) ∧
    (∀ code detail, s.boot.stage = .imageVerify → s.boot.failed = false → s.slotFault s.boot.slotB = some (code, detail) →
      s.boot.triedOther = false → ∃ t, exec .imageVerified s = .next t ∧ t.boot.stage = .imageVerify ∧ t.boot.triedOther = true
        ∧ t.boot.slotB = !s.boot.slotB ∧ t.evtSet 0x0202 0 = true) ∧
    (s.boot.stage = .apply → s.boot.failed = false → s.slotWord s.boot.slotB 6 2 ≤ s.boot.section_ → s.cry.burning = false →
      ∃ t, exec .imageApply s = .next t ∧ t.boot.stage = .march
        ∧ t.boot.imgVer = BitVec.ofNat 32 (s.slotWord s.boot.slotB 0x0C 4)) ∧
    (s.boot.stage = .apply → s.boot.failed = false → s.boot.polling = true → (s.sectionAt s.boot.slotB s.boot.offset).type = 2 →
      s.boot.triedOther = true → ∃ t, exec .regPollTimeout s = .next t ∧ t.boot.failed = true ∧ t.boot.errCode = 0x07
        ∧ t.boot.errDetail = s.boot.section_) ∧
    (s.boot.stage = .march → s.boot.failed = false → s.boot.march ≠ 2 → exec (.bootMarchDone []) s
      = .next { s with boot := { s.boot with stage := .discover, discovered := false } })

/-- The later boot stages (R106, R117, R119 to R122, R527, R561 to R565, R571): while the logic die runs and under the conditions
named, DIMM_DISCOVERY, PMIC_POWER_GOOD, PMIC_GOOD_TIMEOUT, CHANNEL_RESET_RELEASE, TRAINING_COMPLETE, BOOT_READY, BOOT_HALT,
LIMITED_ENTRY and BOOT_CONTINUE complete with the changes written out. -/
def Obligations.BootMemoryStages : Prop :=
  ∀ s : State, s.live = true →
    (∀ l code n slot, s.boot.stage = .discover → s.boot.failed = false → s.boot.discovered = false →
      (∀ r ∈ l, ∀ x, r = some x → x.answers = true) → popFault (s.recordDimms l).population = some (code, n, slot) →
      ∃ t, exec (.dimmDiscovery l) s = .next t ∧ t.boot.failed = true ∧ t.boot.errCode = 0x0A ∧ t.boot.errDetail = 2 ^ n
        ∧ t.evtSet 0xA005 n = true) ∧
    (∀ l, s.boot.stage = .discover → s.boot.failed = false → s.boot.discovered = false → s.boot.warm = false →
      (∀ r ∈ l, ∀ x, r = some x → x.answers = true) → popFault (s.recordDimms l).population = none →
      ∃ t, exec (.dimmDiscovery l) s = .next t ∧ t.boot.discovered = true ∧ t.boot.failed = false) ∧
    (∀ c q, s.boot.stage = .discover → s.boot.failed = false → s.boot.discovered = true →
      s.flag (Reg.DRC_PMIC_STATUS c q) 31 = true → s.pmicGood (c, q) = false →
      (∃ t, exec (.pmicPowerGood c q) s = .next t ∧ t.boot.failed = false ∧ (t.boot.stage = .discover ∨ t.boot.stage = .train))
      ∧ ∃ t, exec (.pmicGoodTimeout c q) s = .next t ∧ t.boot.failed = true ∧ t.boot.errCode = 0x09 ∧ t.boot.errDetail = 2 ^ c) ∧
    (∀ c, s.boot.stage = .train → s.boot.failed = false → s.chanList.contains c = true → (s.chan c).state = .off →
      (∀ q ∈ [0, 1], s.dimmWanted (c, q) = true → s.pmicGood (c, q) = true) →
      ∃ t, exec (.channelResetRelease c) s = .next t ∧ t.fresh = s.fresh + 2 ∧ (t.chan c).state = .training) ∧
    (∀ n, s.boot.stage = .train → s.boot.failed = false → s.trainingEnded = true → n ∈ s.chanList →
      s.flag (Reg.DRC_TRAIN_STATUS n) 29 = true →
      ∃ t, exec .trainingComplete s = .next t ∧ t.boot.failed = true ∧ t.boot.errCode = 0x0B) ∧
    (s.boot.stage = .train → s.boot.failed = false → s.trainingEnded = true →
      (∀ n ∈ s.chanList, s.flag (Reg.DRC_TRAIN_STATUS n) 29 = false) →
      ∃ t, exec .trainingComplete s = .next t ∧ t.boot.stage = .portsUp) ∧
    (s.boot.stage = .portsUp → s.boot.failed = false → ∃ t, exec .bootReady s = .next t ∧ t.boot.stage = .ready
      ∧ t.evtSet 0x0201 0 = true ∧ t.boot.sweeping = s.boot.warm
      ∧ t.boot.bootTime = (s.now - s.boot.porAt) / 1000 % 2 ^ 32) ∧
    (s.boot.failed = true → s.boot.limitable = false → ∃ t, exec .bootHalt s = .next t ∧ t.boot.stage = .halted
      ∧ t.evtSet 0x0203 0 = true) ∧
    (s.boot.failed = true → s.boot.limitable = true → ∃ t, exec .limitedEntry s = .next t ∧ t.boot.stage = .limited
      ∧ t.boot.failedStage = s.boot.stage ∧ t.evtSet 0x0204 0 = true) ∧
    (s.boot.stage = .limited → s.boot.draining = false → s.boot.failedStage = .march →
      ∃ t, exec .bootContinue s = .next t ∧ t.boot.stage = .march ∧ t.mgmt.lastStatus = stOK) ∧
    (∀ code n slot, s.boot.stage = .limited → s.boot.draining = false → s.boot.failedStage = .discover →
      popFault s.population = some (code, n, slot) →
      ∃ t, exec .bootContinue s = .next t ∧ t.boot.stage = .limited ∧ t.boot.errCode = 0x0A ∧ t.boot.errDetail = 2 ^ n
        ∧ t.mgmt.lastStatus = stOK)

/-- Warm reset, brace, the flash window and the rollback fuse (R88, R91, R104, R110, R116, R123, R124, R126 to R128): while the logic
die runs and under the conditions named, WARM_RESET, WARM_DRAIN_END, WARM_SWEEP_DESCRIPTOR, WARM_SWEEP_DONE, BRACE_ENTRY,
LAST_GASP_WRITTEN, LAST_GASP_ERASE, FLASH_READ, FLASH_PROGRAM, FLASH_ERASE, FLASH_OP_DONE and FUSE_PROG complete with the changes
written out. An unkeyed write of MGT_RESET_CTRL does nothing; brace entry starts a record whether or not the area is ready. -/
def Obligations.WarmResetBraceAndFlashCommands : Prop :=
  ∀ s : State, s.live = true →
    (∀ v : Word, bits v.toNat 31 16 = 0x5752 → bit v.toNat 0 = true → s.boot.draining = false → s.boot.stage = .ready →
      ∃ t, exec (.warmReset false v) s = .next t ∧ t.boot.draining = true ∧ t.boot.resetCause = 0x10 ∧ t.evtSet 0x0205 0 = true) ∧
    (∀ v : Word, bits v.toNat 31 16 ≠ 0x5752 → ∃ t, exec (.warmReset false v) s = .next t
      ∧ t = { s with mgmt := { s.mgmt with lastStatus := stOK } }) ∧
    (∀ late, s.boot.draining = true → (late = true ∨ (s.writesInFlight = 0 ∧ s.tier.moves = [] ∧ s.coh.flights = [])) →
      ∃ t, exec (.warmDrainEnd late) s = .next t ∧ t.boot.stage = .imageRead ∧ t.boot.warm = true ∧ t.boot.draining = false
        ∧ t.mgmt.jobs = []) ∧
    (s.boot.sweeping = true → s.warmNext = none → ∃ t, exec .warmSweepDone s = .next t ∧ t.boot.sweeping = false
      ∧ t.evtSet 0x0206 0 = true) ∧
    (∀ errs r p u d, s.boot.sweeping = true → s.boot.stage = .ready → s.warmNext = some (r, p) → s.up (pipeDom r p) = true →
      s.lockWait agentWarm r p = false → (s.dcEntry r p).isSome = true → s.descOf? r p 11 errs = some (u, .ok d) →
      ∃ t, exec (.warmSweepDescriptor errs) s = .next t ∧ t.boot.sweepRegion = r ∧ t.boot.sweepPage = p + 1) ∧
    (s.logic.linkUp = true → s.intake.braceSent = true → s.boot.brace = false → ∃ t, exec .braceEntry s = .next t
      ∧ t.boot.brace = true ∧ t.boot.braceEnd = false ∧ t.boot.lgWriting = true ∧ t.boot.note.faults = s.intake.faults
      ∧ t.intake = s.intake) ∧
    (s.boot.lgWriting = true → ∃ t, exec .lastGaspWritten s = .next t ∧ t.boot.lgWriting = false
      ∧ t.boot.lgNext = (s.boot.lgNext + 1) % 1024 ∧ t.boot.brace = (s.boot.brace && !s.boot.braceEnd)
      ∧ t.evtSet 0x0207 0 = true) ∧
    (∀ p, s.lgBlocked = some p → s.boot.portsOn = true → ∃ t, exec (.lastGaspErase true) s = .next t
      ∧ ∀ a, t.flashAt a = if lgAddr (p / 16 * 16) ≤ a ∧ a < lgAddr (p / 16 * 16) + 4096 then 0xFF else s.flashAt a) ∧
    (s.boot.flashOp = none → ∃ t, exec .flashRead s = .next t ∧ t.mgmt.lastStatus = stOK
      ∧ t.boot.flashOp = some { op := 0, addr := s.fld Reg.MGT_FLASH_ADDR 23 0 }) ∧
    (s.boot.flashOp = none → s.boot.flashGuarded (s.fld Reg.MGT_FLASH_ADDR 23 0 / 256 * 256) 256 = false →
      ∃ t, exec .flashProgram s = .next t ∧ t.mgmt.lastStatus = stOK
        ∧ t.boot.flashOp = some { op := 1, addr := s.fld Reg.MGT_FLASH_ADDR 23 0 / 256 * 256 }) ∧
    (s.boot.flashOp = none → s.boot.flashGuarded (s.fld Reg.MGT_FLASH_ADDR 23 0 / 4096 * 4096) 4096 = false →
      ∃ t, exec .flashErase s = .next t ∧ t.mgmt.lastStatus = stOK
        ∧ t.boot.flashOp = some { op := 2, addr := s.fld Reg.MGT_FLASH_ADDR 23 0 / 4096 * 4096 }) ∧
    (∀ a, s.boot.flashOp = some { op := 2, addr := a } → ∃ t, exec (.flashOpDone true) s = .next t ∧ t.boot.flashOp = none
      ∧ t.boot.flashErr = false
      ∧ ∀ b, t.flashAt b = if a ≤ b ∧ b < a + 4096 then 0xFF else s.flashAt b) ∧
    (∀ v : Word, s.unlocked = true → exec (.fuseProg v) s = .next { s with
      boot := { s.boot with rollback := max s.boot.rollback (bits v.toNat 7 0) }
      mgmt := { s.mgmt with lastStatus := stOK } }) ∧
    (∀ v : Word, s.unlocked = false → exec (.fuseProg v) s = .next { s with mgmt := { s.mgmt with lastStatus := stAccessDenied } })

/-! ### Registers, events and management (05) -/

/-- What raising an event does, in every state (R151, R153 to R157): the status bit is set; a first occurrence that is enabled takes
the next sequence number in the log, which keeps the latest 1,024; a repeat only counts; a Fatal one asserts the fault wire; and no
register changes but the page's status and first-event registers and the repeat count. -/
def Obligations.RaisedEventIsLoggedOnce : Prop :=
  ∀ (s : State) (code inst d1 d2 : Nat),
    (s.raiseAt code inst d1 d2).evtSet code inst = true
      ∧ (s.evtSet code inst = true → s.raiseAt code inst d1 d2 = s.count Reg.RAS_EVT_REPEAT)
      ∧ (s.evtSet code inst = false → s.evtEnabled code inst = false → (s.raiseAt code inst d1 d2).log = s.log)
      ∧ (s.evtSet code inst = false → s.evtEnabled code inst = true →
          ∃ e : LogEntry, e.code = BitVec.ofNat 16 code ∧ e.inst = inst ∧ e.sev = severity code ∧ e.seq = s.log.wseq
            ∧ e.forced = false ∧ e.hist = false ∧ e.detail = BitVec.ofNat 64 d1 ∧ e.detail2 = BitVec.ofNat 32 d2
            ∧ e.time = BitVec.ofNat 64 s.time.nanos ∧ e.tbSet = s.time.tbSet
            ∧ (s.raiseAt code inst d1 d2).log.wseq = s.log.wseq + 1
            ∧ (s.raiseAt code inst d1 d2).log.ring = (s.log.ring ++ [e]).drop (s.log.ring.length + 1 - 1024))
      ∧ (s.evtSet code inst = false → severity code = 3 → (s.raiseAt code inst d1 d2).logic.faultWire = true)
      ∧ (∀ a, a ≠ evtPage code inst + 0x014 → a ≠ evtPage code inst + 0x020 → a ≠ Reg.RAS_EVT_REPEAT →
          (s.raiseAt code inst d1 d2).reg a = s.reg a)
      ∧ s.raiseAt code inst d1 d2 = { s with
          regs := (s.raiseAt code inst d1 d2).regs
          log := (s.raiseAt code inst d1 d2).log
          logic := { s.logic with faultWire := (s.raiseAt code inst d1 d2).logic.faultWire }
          boot := { s.boot with autoWarm := (s.raiseAt code inst d1 d2).boot.autoWarm } }

/-- The event log never holds more than 1,024 entries once it does not: no raised, forced or intake event makes it longer (R157). -/
def Obligations.EventLogStaysWithinRing : Prop :=
  ∀ s : State, s.log.ring.length ≤ 1024 →
    (∀ code inst f h t d1 d2, (s.occur code inst f h t d1 d2).log.ring.length ≤ 1024)
      ∧ (∀ a v, (s.evtForce a v).log.ring.length ≤ 1024)
      ∧ (∀ l, (s.deliverHist l).log.ring.length ≤ 1024)

/-- EVENT_RAISE, EVT_STATUS_CLEAR and EVT_FORCE: an event that the tables hold occurs for an instance that exists, and the manager re-arms it by clearing its
bit (R153). -/
def Obligations.EventsOccurAndRearm : Prop :=
  ∀ (s : State) (code : BitVec 16) (inst : Nat) (b : Block) (d : DWord) (d2 : Word), s.live = true →
    (eventTable.any fun e => e.1 == code.toNat) = true → (blocks.find? fun b => b.code == code.toNat / 256) = some b →
    inst < b.insts →
    (∃ t, exec (.eventRaise code inst d d2) s = .next t ∧ t = s.raiseAt code.toNat inst d.toNat d2.toNat
      ∧ t.evtSet code.toNat inst = true)
    ∧ (∀ addr : BitVec 24, pageBase addr.toNat = evtPage code.toNat inst →
        ∃ t, exec (.evtStatusClear addr (BitVec.ofNat 32 (2 ^ evtBit code.toNat))) s = .next t
          ∧ t.evtSet code.toNat inst = false ∧ t.log = s.log
          ∧ ∀ a, a ≠ evtPage code.toNat inst + 0x014 → a ≠ evtPage code.toNat inst + 0x020 → t.reg a = s.reg a)
    ∧ (∀ addr : BitVec 24, pageBase addr.toNat = evtPage code.toNat inst →
        ∃ t, exec (.evtForce addr (BitVec.ofNat 32 (2 ^ evtBit code.toNat))) s = .next t ∧ t.evtSet code.toNat inst = true)

/-- A refused register write changes nothing and reports why (R133 to R135, R142): OutOfRange at an unimplemented address and for
a field out of range, AccessDenied for RO and RC registers and for an RWL register of a locked page. -/
def Obligations.RefusedRegisterWritesChangeNothing : Prop :=
  ∀ (s : State) (addr : BitVec 24) (v : Word), s.live = true →
    (implemented addr.toNat = false →
      exec (.registerWrite addr v) s = .next { s with mgmt := { s.mgmt with lastStatus := stOutOfRange } })
    ∧ (implemented addr.toNat = true → 0x40 ≤ addr.toNat % 0x1000 → s.up (regDomain addr.toNat) = true →
        s.domFailed (regDomain addr.toNat) = false →
        (accessOf addr.toNat = .ro ∨ accessOf addr.toNat = .rc
          ∨ (accessOf addr.toNat = .rwl ∧ s.pageLocked addr.toNat = true)) →
        exec (.registerWrite addr v) s = .next { s with mgmt := { s.mgmt with lastStatus := stAccessDenied } })
    ∧ (implemented addr.toNat = true → 0x40 ≤ addr.toNat % 0x1000 → s.up (regDomain addr.toNat) = true →
        s.domFailed (regDomain addr.toNat) = false → (accessOf addr.toNat = .rw ∨ accessOf addr.toNat = .w1c) →
        copyOnly addr.toNat = false → rangesOk addr.toNat v = false →
        exec (.registerWrite addr v) s
          = .next { s.reservedCode addr.toNat with mgmt := { s.mgmt with lastStatus := stOutOfRange } })
    ∧ (implemented addr.toNat = true → 0x40 ≤ addr.toNat % 0x1000 → s.domFailed (regDomain addr.toNat) = true →
        exec (.registerWrite addr v) s = .next { s with mgmt := { s.mgmt with lastStatus := stDomainFailed } })

/-- REGISTER_WRITE to RAS_DELIVERY_CFG and to any page's EVT_ENABLE: an accepted write of a plain register leaves the value there (of
the fields that the map gives it) and every other register as it was (R134). -/
def Obligations.AcceptedPlainWritesLandInTheirRegister : Prop :=
  ∀ (s : State) (v : Word), s.live = true → s.domFailed 0 = false →
    (∃ t, exec (.registerWrite (BitVec.ofNat 24 Reg.RAS_DELIVERY_CFG) v) s = .next t
      ∧ (rangesOk Reg.RAS_DELIVERY_CFG v = true →
          t.reg Reg.RAS_DELIVERY_CFG
              = (s.reg Reg.RAS_DELIVERY_CFG &&& ~~~writeMask Reg.RAS_DELIVERY_CFG) ||| (v &&& writeMask Reg.RAS_DELIVERY_CFG)
            ∧ t.mgmt.lastStatus = stOK)
      ∧ (∀ a, a ≠ Reg.RAS_DELIVERY_CFG → t.reg a = s.reg a))
    ∧ (∀ addr : BitVec 24, implemented addr.toNat = true → addr.toNat % 0x1000 = 0x018 →
        ∃ t, exec (.registerWrite addr v) s = .next t ∧ t.reg addr.toNat = v ∧ t.mgmt.lastStatus = stOK
          ∧ ∀ a, a ≠ addr.toNat → t.reg a = s.reg a)

/-- The page header's commands and the management lock (R138, R140, R142 to R144, R150): while the logic die runs and under the
conditions named, PAGE_ENABLE, PAGE_SOFT_RESET, SOFT_RESET_DONE, PAGE_LOCK, PARITY_SCAN and MGR_LOCK complete with the changes written
out. A soft reset with ENABLE 1 is refused; the lock is taken by a session with the manager right and by no other. -/
def Obligations.PageHeaderCommands : Prop :=
  ∀ s : State, s.live = true →
    (∀ addr : BitVec 24, (pageOf (ctrlOf addr)).isSome = true → implemented (ctrlOf addr) = true →
      (ctrlOf addr) % 0x1000 = 0x00C → blockBase (ctrlOf addr) = blockBase addr.toNat →
      (∃ t, exec (.pageEnable addr false) s = .next t ∧ t.flag (ctrlOf addr) 0 = false ∧ t.mgmt.lastStatus = stOK
        ∧ t.flag (ctrlOf addr) 2 = s.flag (ctrlOf addr) 2)
      ∧ (s.flag (ctrlOf addr) 0 = false → ∃ t, exec (.pageSoftReset addr false) s = .next t
          ∧ t.flag (ctrlOf addr) 1 = true ∧ t.mgmt.lastStatus = stOK)
      ∧ (s.flag (ctrlOf addr) 0 = true → ∀ en, ∃ t, exec (.pageSoftReset addr en) s = .next t
          ∧ t.flag (ctrlOf addr) 0 = true ∧ t.flag (ctrlOf addr) 1 = s.flag (ctrlOf addr) 1
          ∧ t.mgmt.lastStatus = stAccessDenied)) ∧
    (∀ addr : BitVec 24, (pageOf (pageBase addr.toNat + 0x00C)).isSome = true → ∃ t, exec (.pageLock addr) s = .next t
      ∧ t.flag (pageBase addr.toNat + 0x00C) 2 = true
      ∧ ∀ a, a ≠ pageBase addr.toNat + 0x00C → t.reg a = s.reg a) ∧
    (∀ addr : BitVec 24, (pageOf (blockBase addr.toNat)).isSome = true → s.flag (blockBase addr.toNat + 0x00C) 1 = true →
      inBlock (blockBase addr.toNat) (blockBase addr.toNat + 0x00C) = true →
      ∃ t, exec (.softResetDone addr) s = .next t ∧ t.flag (blockBase addr.toNat + 0x00C) 1 = false) ∧
    (∀ addr flip, s.flag Reg.GLB_CTRL 0 = true → implemented addr.toNat = true → accessOf addr.toNat = .rw → flip = 1 →
      s.mgmt.parityBad = [] → ∃ t, exec (.parityScan addr flip false) s = .next t ∧ t.mgmt.parityBad = [addr.toNat]
        ∧ t.evtSet 0x0301 0 = true) ∧
    (∀ (c : BitVec 12) (v : Word), (s.sess c.toNat).live = true → (s.ctx c.toNat).manager = true →
      s.flag Reg.MGT_MGR_LOCK 31 = false → bit v.toNat 31 = true →
      bits v.toNat 11 0 = c.toNat → ∃ t, exec (.mgrLock c v) s = .next t ∧ t.mgmt.lastStatus = stOK
        ∧ t.reg Reg.MGT_MGR_LOCK = BitVec.ofNat 32 (2 ^ 31 + (s.sess c.toNat).epoch.toNat * 2 ^ 24 + c.toNat)
        ∧ ∀ a, a ≠ Reg.MGT_MGR_LOCK → t.reg a = s.reg a) ∧
    (∀ (c : BitVec 12) (v : Word), (s.sess c.toNat).live = true →
      (s.ctx c.toNat).manager = false ∨ s.lockedOut c.toNat (s.sess c.toNat).epoch = true →
      exec (.mgrLock c v) s = .next { s with mgmt := { s.mgmt with lastStatus := stAccessDenied } })

/-- Management messages and event delivery (R145 to R147, R150, R158, R159, R172): while the logic die runs and under the conditions
named, MGMT_READ, MGMT_WRITE, OP_COMMAND and EVENT_DELIVERY complete with the changes written out. A session without the manager
right is answered AccessDenied as a whole; a manager's record is executed and answered with its status; a subscription of an ended
session is cleared, and a due entry is sent while the send window has room. -/
def Obligations.ManagementMessageCommands : Prop :=
  ∀ s : State, s.live = true →
    (∀ m t0, s.mgmt.jobs = [] → s.takeMgmt = some (m, t0) → (t0.ctx m.client).manager = false →
      (m.type = tMgmtRead → exec .mgmtRead s = .next ((t0.denied m.client).refuseBatch m stAccessDenied))
      ∧ (∀ e, m.type = tMgmtWrite → exec (.mgmtWrite e) s = .next ((t0.denied m.client).refuseBatch m stAccessDenied))
      ∧ (m.type = tOpCommand → exec .opCommand s
          = .next ((t0.denied m.client).refuseOp m (beAt m.body 0 1) stAccessDenied))) ∧
    (∀ m t0 a, s.mgmt.jobs = [] → s.takeMgmt = some (m, t0) → (t0.ctx m.client).manager = true →
      (t0.sess m.client).bound = true → (t0.sess m.client).epoch = m.epoch → m.type = tMgmtRead →
      recordsOf m.body = [(a, 1)] → implemented a = false →
      ∃ t, exec .mgmtRead s = .next t
        ∧ t = (({ (t0.setReg Reg.MGT_BATCH_COUNT (t0.reg Reg.MGT_BATCH_COUNT + 1)) with
                  mgmt := { t0.mgmt with jobs := [] } }).count Reg.MGT_BATCH_ERR).reply m.client m.epoch tMgmtResp m.msgId stOutOfRange
                (beBytes 2 1 ++ List.replicate 2 (0 : Byte) ++ beBytes 4 stOutOfRange)) ∧
    (∀ m t0 a v, s.mgmt.jobs = [] → s.takeMgmt = some (m, t0) → (t0.ctx m.client).manager = true →
      t0.lockedOut m.client m.epoch = false → (t0.sess m.client).bound = true → (t0.sess m.client).epoch = m.epoch →
      m.type = tMgmtWrite → recordsOf m.body = [(a, v)] → implemented a = true → a % 0x1000 = 0x018 →
      ∃ t u : State, exec (.mgmtWrite []) s = .next t ∧ u.reg a = BitVec.ofNat 32 v ∧ u.mgmt.jobs = []
        ∧ t = u.reply m.client m.epoch tMgmtResp m.msgId stOK (beBytes 2 1 ++ List.replicate 2 (0 : Byte) ++ beBytes 4 stOK)) ∧
    (∀ m t0 i, s.mgmt.jobs = [] → s.takeMgmt = some (m, t0) → (t0.ctx m.client).manager = true →
      t0.lockedOut m.client m.epoch = false → m.type = tOpCommand → beAt m.body 0 1 = i → i < 32 →
      exec .opCommand s
        = .next ((t0.setReg Reg.MGT_BATCH_COUNT (t0.reg Reg.MGT_BATCH_COUNT + 1)).opMessage m i)) ∧
    (∀ q, q < 8 → s.flag (Reg.RAS_SUB q) 31 = true → (s.sess (s.fld (Reg.RAS_SUB q) 11 0)).live = false →
      ∃ t, exec (.eventDelivery q) s = .next t ∧ t.flag (Reg.RAS_SUB q) 31 = false
        ∧ ∀ a, a ≠ Reg.RAS_SUB q → t.reg a = s.reg a) ∧
    (∀ q e, q < 8 → s.flag (Reg.RAS_SUB q) 31 = true → (s.sess (s.fld (Reg.RAS_SUB q) 11 0)).live = true →
      (s.sess (s.fld (Reg.RAS_SUB q) 11 0)).epoch.toNat = s.fld (Reg.RAS_SUB q) 27 24 →
      s.log.ring = [e] → e.seq = tabGet (fun _ => 0) s.log.due q → s.fld (Reg.RAS_SUB q) 29 28 ≤ e.sev →
      1 ≤ s.fld Reg.RAS_DELIVERY_CFG 4 0 → s.windowFull (s.fld (Reg.RAS_SUB q) 11 0) = false →
      (s.sess (s.fld (Reg.RAS_SUB q) 11 0)).closeSent = false →
      ∃ (t u : State) (id : BitVec 24), exec (.eventDelivery q) s = .next t
        ∧ s.drawMsgId (s.fld (Reg.RAS_SUB q) 11 0) = (id, u)
        ∧ t = { (u.sendMsg (s.fld (Reg.RAS_SUB q) 11 0) tEvent id stOK (eventBody [e])) with
                  log := { (u.sendMsg (s.fld (Reg.RAS_SUB q) 11 0) tEvent id stOK (eventBody [e])).log with
                    due := tabSet (fun _ => 0) (u.sendMsg (s.fld (Reg.RAS_SUB q) 11 0) tEvent id stOK (eventBody [e])).log.due q (e.seq + 1) } })

/-! ### Operation slots (05, 21) -/

/-- OP_START, OP_SUSPEND, OP_RESUME and OP_CANCEL drive each slot as R165 to R169 say: while the logic die runs they complete in every
state of the slot with the slot written out, and change no other slot. Of the Cancel of a Queued slot this is stated where its
operation has not begun and no session asked for notice. -/
def Obligations.SlotCommandsFollowTheStateMachine : Prop :=
  ∀ (s : State) (i : Nat) (c : BitVec 12), s.live = true →
    (∃ t, exec (.opSuspend i) s = .next t ∧ t.opSlot i =
        (if (s.opSlot i).state = .queued then { s.opSlot i with state := .suspended, rejected := false }
         else if (s.opSlot i).state = .running then { s.opSlot i with state := .suspending, rejected := false }
         else { s.opSlot i with rejected := true })
      ∧ ∀ j, j ≠ i → t.opSlot j = s.opSlot j)
    ∧ (∃ t, exec (.opResume i) s = .next t ∧ t.opSlot i =
        (if (s.opSlot i).state = .suspended then { s.opSlot i with state := .queued, rejected := false }
         else { s.opSlot i with rejected := true })
      ∧ ∀ j, j ≠ i → t.opSlot j = s.opSlot j)
    ∧ (∃ t, exec (.opCancel i) s = .next t
      ∧ ((s.opSlot i).state = .running ∨ (s.opSlot i).state = .suspending ∨ (s.opSlot i).state = .suspended →
          t.opSlot i = { s.opSlot i with state := .cancelling, rejected := false })
      ∧ ((s.opSlot i).state.terminal = true → t.opSlot i = { s.opSlot i with state := .idle, rejected := false })
      ∧ ((s.opSlot i).state = .idle ∨ (s.opSlot i).state = .cancelling → t.opSlot i = { s.opSlot i with rejected := true })
      ∧ ((s.opSlot i).state = .queued → (s.opSlot i).begun = false → (s.opSlot i).notify = none →
          (t.opSlot i).state = .cancelled ∧ (t.opSlot i).result = rcCancelled)
      ∧ ((s.opSlot i).state ≠ .queued ∨ ((s.opSlot i).begun = false ∧ (s.opSlot i).notify = none) →
          ∀ j, j ≠ i → t.opSlot j = s.opSlot j))
    ∧ ((s.opSlot i).state.active = true → ∃ t, exec (.opStart i c) s = .next t
        ∧ t.opSlot i = { s.opSlot i with rejected := true } ∧ ∀ j, j ≠ i → t.opSlot j = s.opSlot j)
    ∧ ((s.opSlot i).state.active = false → s.startCheck (s.opSlot i) (s.whoIs c.toNat) = none →
        ∃ t, exec (.opStart i c) s = .next t ∧ (t.opSlot i).state = .queued ∧ (t.opSlot i).result = 0
          ∧ (t.opSlot i).progress = 0 ∧ (t.opSlot i).total = 0 ∧ (t.opSlot i).code = (s.opSlot i).code
          ∧ (t.opSlot i).order = s.mgmt.nextOrder ∧ t.mgmt.nextOrder = s.mgmt.nextOrder + 1
          ∧ t.regs = s.regs ∧ ∀ j, j ≠ i → t.opSlot j = s.opSlot j)
    ∧ (∀ r d, (s.opSlot i).state.active = false → s.startCheck (s.opSlot i) (s.whoIs c.toNat) = some (r, d) →
        ∃ t, exec (.opStart i c) s = .next t ∧ (t.opSlot i).state = .failed ∧ (t.opSlot i).result = r
          ∧ (t.opSlot i).detail = d ∧ t.evtSet 0x020A 0 = true ∧ ∀ j, j ≠ i → t.opSlot j = s.opSlot j)

/-- OP_ADMIT, OP_SUSPEND_POINT, OP_FINISHED, OP_ERROR and OP_CLEANUP_DONE (R162 to R170, R750): while the logic die runs, the first
admissible slot that has begun becomes Running again; and of a migration or a scrub, as named, they complete with the slot written
out. -/
def Obligations.SlotEnginesRunAndEnd : Prop :=
  ∀ (s : State) (i : Nat), s.live = true →
    (s.admissible i = true →
      (∀ j ∈ opSlots, ¬((s.opSlot j).order < (s.opSlot i).order ∧ s.admissible j = true)) → (s.opSlot i).begun = true →
      ∃ t, exec (.opAdmit i) s = .next t ∧ t.opSlot i = { s.opSlot i with state := .running }) ∧
    ((s.opSlot i).state = .suspending → (s.opSlot i).code = opMigrate → s.opMoving i = false →
      ∃ t, exec (.opSuspendPoint i) s = .next t ∧ t.opSlot i = { s.opSlot i with state := .suspended }) ∧
    ((s.opSlot i).state = .running → (s.opSlot i).begun = true → (s.opSlot i).code = opScrub → (s.opSlot i).notify = none →
      s.scrubTotal (s.opSlot i) ≤ (s.opSlot i).cursor →
      ∃ t, exec (.opFinished i) s = .next t ∧ (t.opSlot i).state = .done ∧ (t.opSlot i).result = rcSuccess
        ∧ t.evtSet 0x0209 0 = true) ∧
    (∀ r d, (s.opSlot i).state = .running → (s.opSlot i).begun = true → (s.opSlot i).code = opScrub → (s.opSlot i).notify = none →
      s.runError i = some (r, d) →
      ∃ t, exec (.opError i) s = .next t ∧ (t.opSlot i).state = .failed ∧ (t.opSlot i).result = r ∧ (t.opSlot i).detail = d
        ∧ t.evtSet 0x020A 0 = true) ∧
    ((s.opSlot i).state = .cancelling → (s.opSlot i).code = opMigrate → s.opMoving i = false → (s.opSlot i).notify = none →
      ∃ t, exec (.opCleanupDone i) s = .next t ∧ (t.opSlot i).state = .cancelled ∧ (t.opSlot i).result = rcCancelled)

/-! ### Ethernet ports and time (06) -/

/-- LINK_UP, LINK_DOWN, FAILBACK, AN_TIMEOUT, FEC_ALARM, FRAME_RECEIVE, WAKE_FRAME_MATCH, PFC_REPEAT, PFC_RECEIVE and PFC_PAUSE_EXPIRE
(R178 to R184, R188 to R190, R197 to R200, R215, R216): under the conditions named they complete with the changes written out. A frame
with a bad FCS is counted and dropped; a session that fails back keeps its rate within the primary's line rate (R298). -/
def Obligations.LinkAndFrameCommands : Prop :=
  ∀ (s : State) (m : Nat),
    (s.macOn m = true → s.up (portDom (macPort m)) = true → (s.mac m).linkUp = false → s.msOn m = false →
      s.kct.ctx = [] → ∃ t, exec (.linkUp m) s = .next t ∧ (t.mac m).linkUp = true ∧ t.evtSet 0x1001 (macPort m) = true ∧ t.kct.ctx = []) ∧
    (s.live = true → (s.mac m).linkUp = true → exec (.linkDown m) s = .next (s.linkDown m)) ∧
    (s.live = true → (s.mac m).linkUp = true → s.kct.ctx = [] → ∃ t, exec (.linkDown m) s = .next t
      ∧ (t.mac m).linkUp = false ∧ (t.mac m).paused = 0 ∧ (t.mac m).xoff = 0 ∧ (t.mac m).gw4.failures = 0
      ∧ (t.mac m).gw6.failures = 0 ∧ t.evtSet 0x1002 (macPort m) = true
      ∧ ∀ k, k ≠ m → t.mac k = s.mac k) ∧
    (∀ c : BitVec 12, s.up 5 = true → (s.sess c.toNat).live = true → (s.sess c.toNat).current ≠ (s.sess c.toNat).primary →
      s.macUp (s.sess c.toNat).primary = true → s.hasIp (s.sess c.toNat).primary (s.sess c.toNat).v6 = true →
      (s.destMac c.toNat (s.sess c.toNat).primary).isSome = true →
      ∃ t, exec (.failback c) s = .next t ∧ t.evtSet 0x1004 (macPort (s.sess c.toNat).primary) = true
        ∧ t.kct = (s.setSess c.toNat { s.sess c.toNat with current := (s.sess c.toNat).primary, rate := (min (s.sess c.toNat).rate (2560 * s.macRate (s.sess c.toNat).primary)) }).kct) ∧
    (∀ a, s.macOn m = true → s.up (portDom (macPort m)) = true → s.flag (Reg.PRT_AN_CFG (macPort m) (macIdx m)) 0 = true →
      s.ability m = some a → (s.mac m).linkUp = false → ∃ t, exec (.anTimeout m) s = .next t ∧ t.evtSet 0x100C (macPort m) = true
        ∧ t.ports = s.ports ∧ t.out.head? = some (.advertise m a)) ∧
    (∀ c u y, s.macOn m = true → s.up (portDom (macPort m)) = true →
      (s.reg (Reg.PRT_FEC_ALARM (macPort m) (macIdx m))).toNat < u →
      ∃ t, exec (.fecAlarm m c u y) s = .next t ∧ t.evtSet 0x1005 (macPort m) = true ∧ t.ports = s.ports) ∧
    (∀ f : EthFrame, s.macUp m = true → (s.frameWakes && s.wakeMatch m f) = false → f.fcsOk = false →
      exec (.frameReceive m f) s = .next (s.macCount m cRxFcs 1)) ∧
    (∀ (f : EthFrame) (u : State), s.macUp m = true → (s.frameWakes && s.wakeMatch m f) = false → s.rxChecks m f = (u, true) →
      exec (.frameReceive m f) s = .next (u.rxAccept m f)) ∧
    (∀ f : EthFrame, s.macUp m = true → s.frameWakes = true → s.wakeMatch m f = true →
      exec (.wakeFrameMatch m f) s = .next (s.wakeFrame m f)) ∧
    (∀ c, s.macUp m = true → (s.mac m).xoff.getLsbD c = true → s.pfcOn m c = true →
      s.fld (Reg.PRT_PFC_THRESH (macPort m) (macIdx m) c) 15 0 * 1024 < s.rxClassBytes m c →
      ∃ t, exec (.pfcRepeat m c) s = .next t ∧ t.out = .pfc m c 0xFFFF :: s.out ∧ t.ports = s.ports) ∧
    (∀ e u v q, s.takeRx m (fun b => match b with | .macControl op _ _ => op == 0x0101 | _ => false) = some (e, u) →
      e.frame.body = .macControl 0x0101 v q →
      ∃ t, exec (.pfcReceive m) s = .next t ∧ t.ports.rx = u.ports.rx
        ∧ (t.mac m).paused = pfcPaused (BitVec.ofNat 8 (s.fld (Reg.PRT_PFC_CFG (macPort m) (macIdx m)) 7 0)) (u.mac m).paused v q) ∧
    (∀ c, s.live = true → (s.mac m).paused.getLsbD c = true → exec (.pfcPauseExpire m c) s
      = .next (s.setMac m { s.mac m with paused := setMask (s.mac m).paused c false }))

/-- ARP_REQUEST, NEIGHBOR_SOLICITATION, ECHO_REQUEST, GATEWAY_RESOLVE and MS_SA_INSTALL (R192, R193, R195, R203): under the conditions
named they complete with the changes written out. The device answers for its own addresses only, echoes the first request of a second
of its clock and none beyond ECHO_RATE, and raises 0x100E at the third failure of a gateway. -/
def Obligations.NeighbourEchoAndMacsecCommands : Prop :=
  ∀ (s : State) (m : Nat),
    (∀ e u sm sip tip, s.takeRx m (fun b => match b with | .arp req .. => req | _ => false) = some (e, u) →
      e.frame.body = .arp true sm sip tip →
      (s.ipv4 m ≠ 0 → tip = s.ipv4 m →
        exec (.arpRequest m) s = .next ((u.learnGw4 m sip sm).sendOwn m 46 (.arpReply m sm sip)))
      ∧ (tip ≠ s.ipv4 m → exec (.arpRequest m) s = .next (u.learnGw4 m sip sm))) ∧
    (∀ e u target sm src, s.takeRx m (fun b => match b with | .neighSol .. => true | _ => false) = some (e, u) →
      e.frame.body = .neighSol target sm src →
      ((s.ipv6s m).contains target = true →
        exec (.neighborSolicitation m) s = .next ((u.learnGw6 m src sm).sendOwn m 90 (.neighAdv m sm target { v6 := true, src := target, dst := src })))
      ∧ ((s.ipv6s m).contains target = false → exec (.neighborSolicitation m) s = .next (u.learnGw6 m src sm))) ∧
    (∀ e u d h, s.takeRx m (fun b => match b with | .echo _ => true | _ => false) = some (e, u) → e.frame.body = .echo d →
      e.frame.ip = some h →
      ((u.mac m).echoSec ≠ s.now / 1000000000 → 0 < s.fld (Reg.PRT_NEIGH_CFG (macPort m) (macIdx m)) 15 0 →
        exec (.echoRequest m) s
          = .next ((u.setMac m { u.mac m with echoes := 1, echoSec := s.now / 1000000000 }).sendOwn m e.frame.length
              (.echoReply m e.frame.sa d { v6 := h.v6, src := h.dst, dst := h.src })))
      ∧ ((u.mac m).echoSec = s.now / 1000000000 → s.fld (Reg.PRT_NEIGH_CFG (macPort m) (macIdx m)) 15 0 ≤ (u.mac m).echoes →
        exec (.echoRequest m) s = .next (u.macCount m cEchoDrop 1))) ∧
    (s.macUp m = true → s.gwIp4 m ≠ 0 → (s.mac m).gw4.asked = true → (gatewayFail (s.mac m).gw4).failures = 3 →
      ∃ t u, exec (.gatewayResolve m false) s = .next t ∧ t = State.askGateway u m false ∧ u.evtSet 0x100E (macPort m) = true
        ∧ (u.mac m).gw4 = gatewayFail (s.mac m).gw4) ∧
    (∀ (p : Nat) (v : Word), p < 2 → s.thermal.relock = false → s.up 11 = true → s.up (portDom p) = true → bit v.toNat 31 = true →
      (∀ u, s.unwrap (s.stageBytes (Reg.PRT_MS_SA p (bits v.toNat 4 3) (bits v.toNat 2 0)) 10) = (u, none) →
        exec (.msSaInstall p v) s = .next (u.setReg (Reg.PRT_MS_SA_INSTALL p) ((v &&& 0x1F) ||| 0x4000_0000)))
      ∧ (∀ u b, s.unwrap (s.stageBytes (Reg.PRT_MS_SA p (bits v.toNat 4 3) (bits v.toNat 2 0)) 10) = (u, some b) →
        ∃ t, exec (.msSaInstall p v) s = .next t
          ∧ t.sa (4 * p + bits v.toNat 4 3) (bits v.toNat 2 0) = s.stagedSa p (bits v.toNat 4 3) (bits v.toNat 2 0) b
          ∧ t.reg (Reg.PRT_MS_SA_INSTALL p) = v &&& 0x1F))

/-- PTP_MESSAGE, DELAY_REQ_SEND, PTP_TIMEOUT, PTP_SET, PPS_OUT_SECOND, PPS_OUT_FALL, PPS_IN_EDGE and PPS_IN_MISSING (R206 to R212): under
the conditions named they complete with the changes written out. A received message is timed by the time base as it stood at the frame's
arrival; PTP_PPS_OUT falls with SYNCED unless OUT_WHEN_UNSYNC holds it. -/
def Obligations.TimeBaseCommands : Prop :=
  ∀ s : State,
    (∀ (m : Nat) e u dom msg, s.takeRx m (fun b => match b with | .ptp .. => true | _ => false) = some (e, u) →
      e.frame.body = .ptp dom msg →
      (s.flag (Reg.PRT_PTP_CFG 0) 16 = true → bit (s.fld (Reg.PRT_PTP_CFG 0) 7 0) m = true →
        s.fld (Reg.PRT_PTP_CFG 0) 31 24 = dom → s.ptpTransportOk e.frame = true →
        exec (.ptpMessage m) s = .next (u.takePtp m e.at_ msg))
      ∧ (s.ptpTransportOk e.frame = false → exec (.ptpMessage m) s = .next u)) ∧
    (∀ ip len, s.time.parent.isSome = true → s.ptpOn s.time.parentMac = true → s.txOk s.time.parentMac = true →
      (∀ v6, s.ptpUdp = some v6 → s.hasIp s.time.parentMac v6 = true) → s.delayReqFrame s.time.parentMac = (ip, len) →
      ∃ t u, exec .delayReqSend s = .next t
        ∧ t = State.sendOwn u s.time.parentMac len (.delayReq s.time.parentMac s.time.delaySeq Config.clockIdentity ip)
        ∧ u.time.delaySeq = (s.time.delaySeq + 1) % 2 ^ 16
        ∧ u.time.delayReq = some (s.time.delaySeq, (s.time.nanos : Int) + s.txLat s.time.parentMac)) ∧
    (s.live = true → s.time.synced = true → ∃ t, exec .ptpTimeout s = .next t ∧ t.time.synced = false
      ∧ t.evtSet 0x1009 0 = true ∧ (s.flag (Reg.PRT_PPS_CFG 0) 30 = false → t.time.ppsOut = false)) ∧
    (∀ v : Word, s.live = true → bit v.toNat 0 = true → s.time.synced = false → ∃ t, exec (.ptpSet v) s = .next t
      ∧ t.time.tbSet = true ∧ t.time.nanos = s.setTime) ∧
    (s.live = true → ∃ t, exec .ppsOutSecond s = .next t ∧ t = { s with time := { s.time with
      ppsOut := s.flag (Reg.PRT_PPS_CFG 0) 31 && (s.time.synced || s.flag (Reg.PRT_PPS_CFG 0) 30) } }) ∧
    (s.live = true → exec .ppsOutFall s = .next { s with time := { s.time with ppsOut := false } }) ∧
    (s.live = true → s.fld (Reg.PRT_PPS_CFG 0) 29 28 = 1 → exec .ppsInEdge s
      = .next { s with time := { s.time with ppsInSec := s.time.sec, ppsInNs := s.time.ns } }) ∧
    (s.live = true → s.fld (Reg.PRT_PPS_CFG 0) 29 28 = 2 → ∃ t, exec .ppsInMissing s = .next t ∧ t.time.ppsLocked = false
      ∧ t.evtSet 0x100D 0 = true)

/-! ### Messages and sessions (07, 08) -/

/-- KEY_INSTALL, HELLO, SESSION_OPEN_DEFERRED, SEGMENT_RECEIVE, ACK_RECEIVE, KEEPALIVE_RECEIVE, NAK_RECEIVE and CLOSE_RECEIVE (R222,
R223, R225, R266, R267, R269, R271, R281, R287, R291, R292, R302): while no clock relocks and under the conditions named they complete with
the changes written out. The key of the phase in use is not replaced; a dropped segment is counted and changes nothing of its session.
That KCT frames wait for Ready or Limited is the model's choice (log 201). -/
def Obligations.KeyHelloAndSegmentCommands : Prop :=
  ∀ s : State, s.thermal.relock = false → s.up 5 = true →
    (∀ v : Word, s.up 11 = true → bit v.toNat 31 = true → (s.ctx (bits v.toNat 11 0)).sess.bound = true →
      (s.ctx (bits v.toNat 11 0)).sess.txPhase = bit v.toNat 16 → ∃ t, exec (.keyInstall v) s = .next t
        ∧ t.reg Reg.KCT_KEY_INSTALL = (v &&& 0x0001_0FFF) ||| 0x4000_0000 ∧ t.kct = s.kct) ∧
    (∀ (v : Word) u, s.up 11 = true → bit v.toNat 31 = true → (s.ctx (bits v.toNat 11 0)).sess.bound = false →
      s.unwrap (s.stageBytes (Reg.KCT_KEY_STAGE 0) 10) = (u, none) → ∃ t, exec (.keyInstall v) s = .next t
        ∧ t.reg Reg.KCT_KEY_INSTALL = (v &&& 0x0001_0FFF) ||| 0x4000_0000 ∧ t.evtSet 0x2009 0 = true ∧ t.kct = u.kct) ∧
    (∀ (v : Word) u b, s.up 11 = true → bit v.toNat 31 = true → (s.ctx (bits v.toNat 11 0)).sess.bound = false →
      s.unwrap (s.stageBytes (Reg.KCT_KEY_STAGE 0) 10) = (u, some b) → ∃ t, exec (.keyInstall v) s = .next t
        ∧ t.reg Reg.KCT_KEY_INSTALL = v &&& 0x0001_0FFF
        ∧ t.ctx (bits v.toNat 11 0) = (s.ctx (bits v.toNat 11 0)).setKey (bit v.toNat 16)
            { valid := true, key := keyOf b, salt := s.reg Reg.KCT_KEY_SALT }) ∧
    (∀ (c : BitVec 12) w, (s.ctx c.toNat).waiting = some w → (s.ctx c.toNat).sweeping = false →
      (s.ctx c.toNat).sess.bound = false → exec (.sessionOpenDeferred c) s = .next (s.openSession w)) ∧
    (∀ m e u hdr box, s.boot.answers = true → s.takeKct m = some (e, u) → e.frame.body = .kct hdr box →
      (hdr.type.toNat = tHello → exec (.hello m) s = .next (u.hello m e.frame hdr box)) ∧
      (hdr.type.toNat = tHello → e.frame.udpLen = 48 + hdr.payloadLen.toNat → hdr.version = 3 →
        u.verifies hdr.client.toNat false hdr box hdr.seq.toNat = false →
        exec (.hello m) s = .next ((u.cryCount 5 1).count Reg.KCT_RX_AUTHFAIL)) ∧
      (hdr.type.toNat = tReadShared → exec (.segmentReceive m) s
        = .next (u.sequenced m e.frame hdr box false (fun x _ => x))) ∧
      (∀ r, hdr.type.toNat = tReadShared → u.checkSeg (u.ctxOf hdr box) e.frame hdr box = .drop r →
        exec (.segmentReceive m) s = .next (u.dropSeg r)) ∧
      (hdr.type.toNat = tAck → exec (.ackReceive m) s = .next (u.control m e.frame hdr box (fun x _ => x))) ∧
      (hdr.type.toNat = tKeepalive → exec (.keepaliveReceive m) s = .next (u.control m e.frame hdr box (fun x _ => x))) ∧
      (hdr.type.toNat = tNak → exec (.nakReceive m) s
        = .next (u.control m e.frame hdr box (fun x c => x.takeNak c box.plain))) ∧
      (∀ r, hdr.type.toNat = tClose → u.checkSeg (u.ctxOf hdr box) e.frame hdr box = .drop r →
        exec (.closeReceive m) s = .next (u.dropSeg r)) ∧
      (hdr.type.toNat = tClose → hdr.channel = 0 → box.plain.length = 4 → hdr.segIndex = 0 → hdr.last = true →
        beAt box.plain 0 1 ≤ 5 → exec (.closeReceive m) s
          = .next (u.sequenced m e.frame hdr box true (fun x c => x.takeClose c (beAt box.plain 0 1)))))

/-- SESSION_END, ACK_SEND, NAK_DELAY_EXPIRE, RETRANSMIT_TIMEOUT, DEAD_TIME_EXPIRE, KEEPALIVE_TIMER, REKEY_GRACE_EXPIRE, RATE_INCREASE,
SESS_CTRL_CLOSE, SESS_CTRL_SWITCH, SNOOP_TIMEOUT and GCM_SEGMENT_VERIFY (R282, R284, R290, R292, R294 to R298, R302, R304, R380, R515): while
no clock relocks and under the conditions named they complete with the changes written out. -/
def Obligations.SessionTimerAndControlCommands : Prop :=
  ∀ (s : State) (c : BitVec 12), s.thermal.relock = false → s.up 5 = true →
    ((s.sess c.toNat).state = .closing → ∃ t, exec (.sessionEnd c true) s = .next t
      ∧ t = ((s.raise 0x2002 (s.sess c.toNat).closeReason).sessionGone c.toNat .none)) ∧
    ((s.sess c.toNat).state = .opened → exec (.sessionEnd c true) s = .next s) ∧
    ((s.sess c.toNat).live = true → 0 < (s.sess c.toNat).unacked → ∃ t, exec (.ackSend c) s = .next t
      ∧ (t.sess c.toNat).unacked = 0 ∧ (t.sess c.toNat).txNext = (s.sess c.toNat).txNext
      ∧ (t.sess c.toNat).ctrlTx = (s.sess c.toNat).ctrlTx + 1 ∧ t.regs = s.regs ∧ t.dram = s.dram) ∧
    (∀ g, (s.sess c.toNat).live = true → g ∈ (s.sess c.toNat).rxHeld → (s.sess c.toNat).rxNext < g.ext →
      ∃ t, exec (.nakDelayExpire c) s = .next t ∧ (t.sess c.toNat).ctrlTx = (s.sess c.toNat).ctrlTx + 1
        ∧ (t.sess c.toNat).rxHeld = (s.sess c.toNat).rxHeld ∧ t.regs = s.regs) ∧
    (∀ r, (s.sess c.toNat).oldest = some r → (s.sess c.toNat).bound = true → r.count < s.retxMax →
      ∃ t, exec (.retransmitTimeout c) s = .next t
        ∧ (t.sess c.toNat).rto = min (2 * ((s.retransmit c.toNat r.seg.ext).sess c.toNat).rto) s.rtoMax) ∧
    (∀ r, (s.sess c.toNat).oldest = some r → (s.sess c.toNat).bound = true → s.retxMax ≤ r.count →
      exec (.retransmitTimeout c) s = .next (s.deadSession c.toNat)) ∧
    ((s.sess c.toNat).bound = true → (s.sess c.toNat).oldest.isSome = true →
      exec (.deadTimeExpire c) s = .next (s.deadSession c.toNat)) ∧
    ((s.sess c.toNat).live = true → s.fld Reg.KCT_KEEPALIVE 15 0 ≠ 0 → ∃ t, exec (.keepaliveTimer c) s = .next t
      ∧ (t.sess c.toNat).ctrlTx = (s.sess c.toNat).ctrlTx + 1 ∧ (t.sess c.toNat).unacked = (s.sess c.toNat).unacked) ∧
    ((s.sess c.toNat).live = true → (s.sess c.toNat).rekeyDue = true → ∃ t, exec (.rekeyGraceExpire c) s = .next t
      ∧ t.evtSet 0x2008 0 = true ∧ t.kct = (s.sendClose c.toNat 3).kct) ∧
    ((s.sess c.toNat).live = true → (s.sess c.toNat).waited = true → (s.sess c.toNat).lowered = false →
      ∃ t, exec (.rateIncrease c) s = .next t ∧ (t.sess c.toNat).waited = false ∧ (t.sess c.toNat).rate
        = min ((s.sess c.toNat).rate + s.fld Reg.KCT_CC_CFG 15 0 * 256) (10 * s.macRate (s.sess c.toNat).current * 256)) ∧
    ((s.sess c.toNat).live = true → (s.sess c.toNat).closeSent = false → ∃ t, exec (.sessCtrlClose c) s = .next t
      ∧ (t.sess c.toNat).state = .closing ∧ (t.sess c.toNat).closeReason = 5) ∧
    ((s.sess c.toNat).live = true → ((s.ctx c.toNat).key (!(s.sess c.toNat).txPhase)).valid = true →
      ∃ t, exec (.sessCtrlSwitch c) s = .next t ∧ (t.sess c.toNat).txPhase = !(s.sess c.toNat).txPhase
        ∧ t.evtSet 0x2006 0 = true) ∧
    (∀ i f x, s.up 7 = true → s.flight? i = some f → x ∈ f.snoops → x.client = c.toNat → x.result = none → x.wbWait = false →
      (s.sess c.toNat).live = true → exec (.snoopTimeout i c) s = .next ((s.raise 0x5004 c.toNat).deadSession c.toNat)) ∧
    (∀ g rest, s.up 11 = true → s.gcmEngines ≠ [] → s.kct.gcm = g :: rest → exec (.gcmSegmentVerify []) s
      = .next (({ s with kct := { s.kct with gcm := rest } } : State).gcmDone g)) ∧
    (∀ g rest, s.up 11 = true → s.kct.gcm = g :: rest → (s.sess g.client).bound = false →
      (∀ k, k < 3 → s.gcmEngines.contains k = true) →
      ∃ t, exec (.gcmSegmentVerify [0, 1, 2]) s = .next t ∧ t.evtSet 0x800A 0 = true ∧ t.kct.gcm = rest)

/-! ### Egress scheduling and ingress policing (17) -/

/-- GCL_COMMIT, GCL_SWITCH, GATE_LIST_ENTRY_END, FRAME_TRANSMIT, WHEEL_SLOT, EGRESS_QUEUE_ROOM, SESS_SHAPE_WRITE and CSHP_WRITE (R685,
R687, R691, R694, R696, R697): while no clock relocks and under the conditions named they complete with the changes written out. A list
that fails a check, or is committed while another is pending, changes no gate; the switch time of an accepted one is never before the
lead. That the second of these is reported AccessDenied is the model's choice. -/
def Obligations.EgressAndGateCommands : Prop :=
  ∀ (s : State) (p : Nat), s.thermal.relock = false → s.up 6 = true →
    (∀ (v : Word) k x, bit v.toNat 0 = true → (s.gates p).pending = none → s.gclCheck p = some (k, x) →
      ∃ t, exec (.gclCommit p v) s = .next t ∧ t.egr = s.egr ∧ t.evtSet 0x3003 p = true) ∧
    (∀ v : Word, bit v.toNat 0 = true → (s.gates p).pending = none → s.gclCheck p = none →
      ∃ t T, exec (.gclCommit p v) s = .next t ∧ (t.gates p).pending = some T ∧ (t.gates p).pendingList = s.adminList p
        ∧ (t.gates p).oper = (s.gates p).oper
        ∧ s.time.nanos + s.fld (Reg.EGR_SWITCH_LEAD p) 15 0 * 1000 ≤ T) ∧
    (∀ v : Word, bit v.toNat 0 = true → (s.gates p).pending.isSome = true →
      exec (.gclCommit p v) s = .next (s.wrote stAccessDenied)) ∧
    (∀ T, (s.gates p).pending = some T → T ≤ s.time.nanos → ∃ t, exec (.gclSwitch p) s = .next t
      ∧ (t.gates p).pending = none ∧ (t.gates p).oper = (s.gates p).pendingList ∧ (t.gates p).base = T
      ∧ t.evtSet 0x3001 p = true) ∧
    ((s.gates p).oper ≠ [] → ∃ t, exec (.gateListEntryEnd p) s = .next t
      ∧ (t.gates p).mask = gclMask (s.gates p).oper (gclPos (s.gates p).oper (s.gates p).base s.time.nanos).1
      ∧ (t.gates p).oper = (s.gates p).oper) ∧
    (∀ m, s.txOk m = true → s.freeAt m ≤ s.now → exec (.frameTransmit m) s = .next (State.sendFrom m 8 s)) ∧
    (∀ c : BitVec 12, (s.esess c.toNat).e ≤ 16 * (s.now : Int) →
      exec (.wheelSlot (.session c)) s = .next (s.joinRings c.toNat)) ∧
    (∀ m c, (s.shaper m c).tokens < 0 → 0 ≤ s.tokens m c → ∃ t, exec (.wheelSlot (.shaper m c)) s = .next t
      ∧ (t.shaper m c).tokens = s.tokens m c ∧ (t.shaper m c).at_ = s.now) ∧
    (∀ (c : BitVec 12) g r, takeFirst (fun g => g.client == c.toNat) s.kct.stage11 = some (g, r) → s.roomFor g = true →
      ∃ t u : State, exec (.egressQueueRoom c) s = .next t ∧ t = (u.toReplay g).enqueue g ∧ u.kct.stage11 = r ∧ u.kct.ctx = s.kct.ctx) ∧
    (∀ v : Word, bits v.toNat 25 16 ≠ 0 → bits v.toNat 15 0 ≠ 0 → ∃ t u : State, exec (.sessShapeWrite v) s = .next t
      ∧ t = u.joinRings s.egrSel ∧ (u.esess s.egrSel).shape = v &&& 0x03FF_FFFF
      ∧ (bit v.toNat 31 = false → (u.esess s.egrSel).e = 16 * (s.now : Int))) ∧
    (∀ m c (v : Word), bits v.toNat 30 20 ≠ 0 → ∃ t, exec (.cshpWrite m c v) s = .next t
      ∧ t.reg (Reg.EGR_CSHP (macPort m) (macIdx m) c) = v &&& 0x7FF7_FFFF ∧ (t.shaper m c).at_ = s.now
      ∧ (bit v.toNat 31 = false → (t.shaper m c).tokens = 0))

/-- YELLOW_AGE_EXPIRE, ING_SESS_CFG_WRITE, ING_PROFILE_READ and ING_PROFILE_WRITE (R706 to R708, R712): while no clock relocks and under
the conditions named they complete with the changes written out. A profile with PIR 0, CIR above PIR, CBS below 64 or PBS below 65,536 is refused with event 0x3201 and no
profile changes. -/
def Obligations.IngressPolicingCommands : Prop :=
  ∀ s : State, s.thermal.relock = false → s.up 6 = true →
    (∀ (c : BitVec 12) (i : BitVec 24) m, m ∈ s.kct.delivered → m.client = c.toNat → m.msgId = i → m.yellow = true →
      ∃ t, exec (.yellowAgeExpire c i) s = .next t ∧ t.kct.delivered.length = s.kct.delivered.length
        ∧ t.kct.ctx = s.kct.ctx) ∧
    (∀ v : Word, ∃ t, exec (.ingSessCfgWrite v) s = .next t
      ∧ t = (s.setEsess (s.fld Reg.ING_SESS_SEL 11 0)
          { s.esess (s.fld Reg.ING_SESS_SEL 11 0) with ing := v &&& 0x8000_003F }).resetPolicer
          (s.fld Reg.ING_SESS_SEL 11 0) (bit v.toNat 30)) ∧
    (∃ t, exec .ingProfileRead s = .next t ∧ t.egr = s.egr ∧ t.reg Reg.ING_PROF_CIR
        = BitVec.ofNat 32 (tabGet (fun _ => {}) s.egr.profiles (s.fld Reg.ING_PROF_SEL 5 0)).cir
      ∧ t.reg Reg.ING_PROF_STATUS = 0) ∧
    (∀ v : Word, s.stagedProfile.pir = 0 ∨ s.stagedProfile.pir < s.stagedProfile.cir ∨ s.stagedProfile.cbs < 64
        ∨ s.stagedProfile.pbs < 65536 →
      ∃ t, exec (.ingProfileWrite v) s = .next t ∧ t.evtSet 0x3201 0 = true ∧ t.egr = s.egr) ∧
    (∀ v : Word, profileBad s.stagedProfile = false → s.kct.ctx = [] → ∃ t, exec (.ingProfileWrite v) s = .next t
      ∧ tabGet (fun _ => {}) t.egr.profiles (s.fld Reg.ING_PROF_SEL 5 0) = s.stagedProfile
      ∧ t.reg Reg.ING_PROF_STATUS = 0)

/-! ### Requests and coherence (09, 10) -/

/-- READ_SHARED, READ_OWN, UPGRADE, READ_CURRENT, WRITE_THROUGH, WRITE_BACK_DIRTY, EVICT_CLEAN, ATOMIC, READ_BULK, WRITE_BULK and HINT
(R12, R345, R349, R369, R396, R745): while no clock relocks, a request waits behind an earlier one of its session on its page, is served
where its pipeline's domain is Up, at whatever boundary a CRC-32C check is to fail, and is answered DomainFailed where that domain has
failed; a Hint that spends no credit is answered Busy at stage 3 or joins the hint queue. -/
def Obligations.RequestCommandsAreServed : Prop :=
  ∀ (s : State) (c : BitVec 12) (i : BitVec 24), s.thermal.relock = false →
    (∀ crc, ∀ e ∈ requestCommands c i crc, ∀ before m rest, takeMsg c.toNat e.1 i [] s.kct.delivered = some (before, m, rest) →
      (s.up (pipeDom (bodyRegion m.body) (bodyPage m.body)) = true → mayServe before rest m = true →
        exec e.2 s = .next (({ s with kct := { s.kct with delivered := rest } } : State).serve m crc)) ∧
      (s.up (pipeDom (bodyRegion m.body) (bodyPage m.body)) = true → mayServe before rest m = false → exec e.2 s = .next s) ∧
      (s.live = true → s.domFailed (pipeDom (bodyRegion m.body) (bodyPage m.body)) = true → mayServe before rest m = true →
        exec e.2 s = .next (({ s with kct := { s.kct with delivered := rest } } : State).answer m stDomainFailed 0))) ∧
    (∀ before m rest, takeMsg c.toNat tHint i [] s.kct.delivered = some (before, m, rest) →
      s.up (pipeDom (bodyRegion m.body) (bodyPage m.body)) = true → s.up 8 = true → mayServe before rest m = true →
      (∀ us, bits m.credit.toNat 15 14 = 0 → s.stage3 m.client m.type m.body = some us →
        exec (.hint c i 0) s = .next (({ s with kct := { s.kct with delivered := rest } } : State).answer m stBusy us)) ∧
      (s.stage3 m.client m.type m.body = none → bits m.credit.toNat 15 14 = 0 → s.translate m.client tHint m.body = none →
        s.tier.hints.length < 4096 → ∃ t, exec (.hint c i 0) s = .next t ∧ t.tier.hints = s.tier.hints ++
          [{ region := bodyRegion m.body, page := bodyPage m.body, left := bodyLen m.body, cold := beAt m.body 10 1 == 2 }]))

/-- A request takes the answer of the first of the translation checks that fails, in their order (R323), and a request so refused
changes no page and takes no tracker: descriptors, memory, tiering state and the home are as they were. -/
def Obligations.TranslationRefusesAtTheFirstFailedCheck : Prop :=
  ∀ (s : State) (m : InMsg),
    (formatOk m.type m.body = false → s.translate m.client m.type m.body = some (stOutOfRange, 0)) ∧
    (formatOk m.type m.body = true → (s.region (bodyRegion m.body)).valid = false →
      s.translate m.client m.type m.body = some (stUnmapped, 0)) ∧
    (formatOk m.type m.body = true → (s.region (bodyRegion m.body)).valid = true → (s.region (bodyRegion m.body)).enable = true →
      (s.region (bodyRegion m.body)).state = 1 →
      s.translate m.client m.type m.body = some (stBusy, (s.reg Reg.PIPE_INIT_RETRY).toNat)) ∧
    (formatOk m.type m.body = true → (s.region (bodyRegion m.body)).valid = true → (s.region (bodyRegion m.body)).enable = true →
      (s.region (bodyRegion m.body)).state = 0 →
      (s.region (bodyRegion m.body)).pageCount * 4096 < bodyEnd m.type m.body →
      s.translate m.client m.type m.body = some (stOutOfRange, 0)) ∧
    (formatOk m.type m.body = true → (s.region (bodyRegion m.body)).valid = true → (s.region (bodyRegion m.body)).enable = true →
      (s.region (bodyRegion m.body)).state = 0 → bodyOffset m.body < 2 ^ 46 →
      bodyEnd m.type m.body ≤ (s.region (bodyRegion m.body)).pageCount * 4096 → isEviction m.type = false →
      s.grantOf m.client (bodyRegion m.body) = none → s.translate m.client m.type m.body = some (stAccessDenied, 0)) ∧
    (∀ st info, s.stage3 m.client m.type m.body = none → bits m.credit.toNat 15 14 = 0 →
      (s.pipeCount (bodyRegion m.body) (bodyPage m.body) 0).translate m.client m.type m.body = some (st, info) →
      (s.serve m 0).pipe = s.pipe ∧ (s.serve m 0).dram = s.dram ∧ (s.serve m 0).tier = s.tier
        ∧ (s.serve m 0).coh = s.coh ∧ (s.serve m 0).sram = s.sram)

/-- BULK_COMPLETION, DESCRIPTOR_FETCH_DONE, CACHE_WAY_UNPINNED, LOCK_TIMEOUT, TRACKER_FREE, CREDIT_EXPIRE, PAGE_QUEUE_ADVANCE and SNP_RESP
(R9, R262, R327, R352, R354, R363, R367, R376, R390, R391): while no clock relocks and under the conditions named they complete with the
changes written out. An uncorrectable descriptor answers its request Uncorrectable with 0x4003; a lock that a request holds too long is
released with 0x4004 and InternalFault. That a service agent whose turn passes loses it is the model's deduction (log 206). -/
def Obligations.RequestProgressCommands : Prop :=
  ∀ s : State, s.live = true → s.thermal.relock = false →
    (∀ (c : BitVec 12) (i : BitVec 24) (k : Bool) b, s.coh.bulks.find? (fun b => b.client == c.toNat && b.msgId == i
      && b.results.all Option.isSome) = some b → ∃ t, exec (.bulkCompletion c i k) s = .next t
        ∧ t.coh.bulks = s.coh.bulks.filter (·.id != b.id) ∧ t.dram = s.dram ∧ t.pipe = s.pipe) ∧
    (∀ n (e : ReadErrs) f u d w, s.flight? n = some f → f.stage = .fetch → s.up (pipeDom f.region f.page) = true →
      s.standServes (slotStand ((descLine (s.region f.region).descBase f.page).1 / 4)) = true →
      s.chanOpen (s.slotChan ((descLine (s.region f.region).descBase f.page).1 / 4)) = true →
      s.fetchDesc 3 f.region f.page e = (u, .ok d) → u.dcRoom f.region f.page = some w →
      exec (.descriptorFetchDone n e) s
        = .next (w.fetched f.region f.page d)) ∧
    (∀ n (e : ReadErrs) f u st, s.flight? n = some f → f.stage = .fetch → s.up (pipeDom f.region f.page) = true →
      s.standServes (slotStand ((descLine (s.region f.region).descBase f.page).1 / 4)) = true →
      s.chanOpen (s.slotChan ((descLine (s.region f.region).descBase f.page).1 / 4)) = true →
      s.fetchDesc 3 f.region f.page e = (u, .error st) →
      exec (.descriptorFetchDone n e) s
        = .next (((u.raise 0x4003 (pageDetail f.region f.page)).respond f stUncorrectable 0 []).lockFreed f.region f.page)) ∧
    (∀ n f, s.flight? n = some f → f.stage = .way → (s.dcRoom f.region f.page).isSome = true →
      s.up (pipeDom f.region f.page) = true → exec (.cacheWayUnpinned n) s = .next ((s.translate7 f).wakeWaiters f.region f.page .way)) ∧
    (∀ n f, s.flight? n = some f → f.stage = .home → ∃ t u, exec (.lockTimeout n) s = .next t ∧ u.evtSet 0x4004 0 = true
      ∧ t = State.lockFreed (State.respond u f stInternalFault 0 []) f.region f.page) ∧
    (∀ n f p, s.flight? n = some f → f.stage = .lock → s.lockTaken f.region f.page = false → s.firstPlace f.region f.page = some p →
      p.who ≠ agentMover → ∃ t u, exec (.lockTimeout n) s = .next t ∧ u.evtSet 0x4004 0 = true
        ∧ t = State.leavePlace u p.who f.region f.page) ∧
    (∀ n f, s.up 7 = true → s.flight? n = some f → f.stage = .ackWait → s.acknowledged f = true → f.trk ≠ .shared →
      exec (.trackerFree n) s = .next (s.dropFlight f.id)) ∧
    (∀ n f, s.up 7 = true → s.flight? n = some f → f.stage = .ackWait → s.acknowledged f = true → f.trk = .shared →
      exec (.trackerFree n) s = .next ((s.dropFlight f.id).poolFree)) ∧
    (∀ (c tag : BitVec 12) x, s.up 7 = true → s.coh.credits.find? (fun x => x.client == c.toNat && x.tag == tag.toNat) = some x →
      ∃ t u, exec (.creditExpire c tag) s = .next t ∧ t = State.poolFree u ∧ u.evtSet 0x5005 0 = true
        ∧ u.coh.credits = (s.dropCredit x).coh.credits) ∧
    (∀ r p f, s.up 7 = true → s.queueHead r p = some f →
      s.activeOn r p f.id = none → exec (.pageQueueAdvance r p) s = .next (s.activate f)) ∧
    (∀ (c : BitVec 12) (i : BitVec 24) before m rest, s.up 7 = true →
      takeMsg c.toNat tSnpResp i [] s.kct.delivered = some (before, m, rest) → s.coh.flights = [] →
      exec (.snpResp c i) s = .next { s with kct := { s.kct with delivered := rest } }) ∧
    (∀ (c : BitVec 12) (i : BitVec 24) before m rest f x, s.up 7 = true →
      takeMsg c.toNat tSnpResp i [] s.kct.delivered = some (before, m, rest) →
      s.coh.flights = [f] → f.snoops = [x] → x.client = c.toNat → x.msgId = i → x.result = none → x.wbWait = false →
      exec (.snpResp c i) s = .next (({ s with kct := { s.kct with delivered := rest } } : State).snpResp f x m.body))

/-- SG_READ, SG_ADD, SG_REMOVE, SG_CLEAR, HOLDER_SWEEP_START, HOLDER_SWEEP_PAGE and HOLDER_SWEEP_END (R375, R397, R398): while no clock
relocks and under the conditions named they complete with the changes written out. A group takes at most 512 members and gives none up while its
session is open. -/
def Obligations.ShareGroupAndSweepCommands : Prop :=
  ∀ s : State, s.thermal.relock = false → s.up 7 = true →
    (∃ t, exec .sgRead s = .next t ∧ t.coh.sgCode = 0 ∧ t.coh.groups = s.coh.groups
      ∧ t.coh.sgMember = (s.members (s.fld Reg.COH_SG_SEL 9 0)).contains (s.fld Reg.COH_SG_CLIENT 11 0)) ∧
    ((s.members (s.fld Reg.COH_SG_SEL 9 0)).length < 512 → ∃ t, exec .sgAdd s = .next t ∧ t.coh.sgCode = 0
      ∧ t.coh.sgMember = true ∧ t.dram = s.dram) ∧
    (512 ≤ (s.members (s.fld Reg.COH_SG_SEL 9 0)).length → ∃ t, exec .sgAdd s = .next t ∧ t.coh.sgCode = stNoSpace
      ∧ t.coh.groups = s.coh.groups) ∧
    ((s.sess (s.fld Reg.COH_SG_CLIENT 11 0)).live = false → s.coh.sweep = none → ∃ t, exec .sgRemove s = .next t
      ∧ t.coh.sgCode = 0 ∧ t.coh.sgMember = false) ∧
    ((s.sess (s.fld Reg.COH_SG_CLIENT 11 0)).live = true → ∃ t, exec .sgRemove s = .next t
      ∧ t.coh.sgCode = stAccessDenied ∧ t.coh.groups = s.coh.groups) ∧
    ((s.members (s.fld Reg.COH_SG_SEL 9 0)).any (fun c => (s.sess c).live) = false → ∃ t, exec .sgClear s = .next t
      ∧ t.coh.sgCode = 0 ∧ t.members (s.fld Reg.COH_SG_SEL 9 0) = []) ∧
    (∀ c rest, s.kct.sweepQ = c :: rest → s.coh.sweep = none → ∃ t, exec .holderSweepStart s = .next t
      ∧ t.kct.sweepQ = rest ∧ t.coh.sweep = some { client := c, epoch := (s.sess c).epoch }) ∧
    (∀ (e : ReadErrs) x, s.coh.sweep = some x → x.ended = false → (s.ctx x.client).held ≠ 0 → s.sweepNext x = none →
      exec (.holderSweepPage e) s = .next (s.setSweep (some { x with wide := true, ended := true }))) ∧
    (∀ (e : ReadErrs) x y r p, s.coh.sweep = some x → x.ended = false → (s.ctx x.client).held ≠ 0 →
      s.sweepNext x = some (y, r, p) → exec (.holderSweepPage e) s = .next (s.agent agentSweep r p 11 e
        (fun t _ => (t.deadHolder r p x.client).1.setSweep (some { y with stale := y.stale + (t.deadHolder r p x.client).2 }))
        (fun t _ => t.setSweep (some { y with passed := y.passed + 1 })))) ∧
    (∀ x, s.coh.sweep = some x → (s.ctx x.client).held = 0 → ∃ t, exec .holderSweepEnd s = .next t ∧ t.coh.sweep = none
      ∧ t.evtSet 0x5002 0 = true ∧ (t.ctx x.client).held = 0 ∧ (t.ctx x.client).sweeping = false)

/-! ### The manager's windows of the translate stage (09) -/

/-- REGION_READ, REGION_CREATE, REGION_INIT_DONE, REGION_MODIFY, REGION_DISABLE, REGION_DISABLE_DRAINED, REGION_ENABLE, REGION_DESTROY and
REGION_RELEASED (R310 to R317, R649): while no clock relocks and under the conditions named they complete with the changes written out. A
command is refused while BUSY is 1; a region is
created Clearing in the run that the clearing gives, an enabled region is not destroyed, and a command whose write of the table is LOST
ends with Retry. -/
def Obligations.RegionWindowCommands : Prop :=
  ∀ s : State, s.thermal.relock = false → s.up 3 = true →
    (∀ l, ∀ c ∈ ([.regionRead, .regionCreate l, .regionModify l, .regionDisable l, .regionEnable l, .regionDestroy l] : List Instr),
      s.pipe.rgnBusy = true → exec c s = .next (s.wrote stAccessDenied)) ∧
    (∀ c ∈ ([.regionCreate true, .regionModify true, .regionDisable true, .regionEnable true, .regionDestroy true] : List Instr),
      s.pipe.rgnBusy = false → ∃ t, exec c s = .next t ∧ t.pipe.rgnCode = stRetry ∧ t.pipe.rgnBusy = false
        ∧ t.pipe.regions = s.pipe.regions) ∧
    (s.pipe.rgnBusy = false → ∃ t, exec .regionRead s = .next t ∧ t.pipe.regions = s.pipe.regions ∧ t.pipe.rgnCode = 0
      ∧ t.reg (Reg.PIPE_RGN_DATA 0) = BitVec.ofNat 32 ((s.region s.rgnSel).words.getD 0 0)) ∧
    (s.pipe.rgnBusy = false → (s.region s.rgnSel).valid = true → ∃ t, exec (.regionCreate false) s = .next t
      ∧ t.pipe.rgnCode = stAccessDenied ∧ t.pipe.regions = s.pipe.regions) ∧
    (s.pipe.rgnBusy = false → (s.region s.rgnSel).valid = false → s.rgnData.pageCount = 0 ∨ 2 ^ 34 < s.rgnData.pageCount →
      ∃ t, exec (.regionCreate false) s = .next t ∧ t.pipe.rgnCode = stOutOfRange ∧ t.pipe.regions = s.pipe.regions) ∧
    (∀ p, s.pipe.rgnBusy = false → (s.region s.rgnSel).valid = false → 1 ≤ s.rgnData.pageCount → s.rgnData.pageCount ≤ 2 ^ 34 →
      s.rgnData.fieldsOk = true → s.arrayRun (descPlots s.rgnData.pageCount) = some p → ∃ t, exec (.regionCreate false) s = .next t
        ∧ t.pipe.rgnCode = 0 ∧ t.region s.rgnSel = { s.rgnData with valid := true, enable := true, state := 1, descBase := 256 * p }) ∧
    (∀ n, (s.region n).valid = true → (s.region n).state = 1 → s.boot.brace = false → s.boot.stage = .ready →
      s.memoryOpen (slotStand (s.region n).descBase) = true → ∃ t, exec (.regionInitDone n) s = .next t
        ∧ (t.region n).state = 0 ∧ (t.region n).initMark = (s.region n).pageCount ∧ t.evtSet 0x4001 0 = true) ∧
    (s.pipe.rgnBusy = false → (s.region s.rgnSel).valid = false → ∃ t, exec (.regionModify false) s = .next t
      ∧ t.pipe.rgnCode = stUnmapped ∧ t.pipe.regions = s.pipe.regions) ∧
    (s.pipe.rgnBusy = false → (s.region s.rgnSel).valid = true → (s.region s.rgnSel).enable = false →
      (s.region s.rgnSel).cachedPages = 0 → s.rgnData.fieldsOk = true → ∃ t, exec (.regionModify false) s = .next t ∧ t.pipe.rgnCode = 0
        ∧ (t.region s.rgnSel).shareGroup = s.rgnData.shareGroup ∧ (t.region s.rgnSel).policy = s.rgnData.policy
        ∧ (t.region s.rgnSel).pageCount = (s.region s.rgnSel).pageCount
        ∧ (t.region s.rgnSel).descBase = (s.region s.rgnSel).descBase) ∧
    (s.pipe.rgnBusy = false → (s.region s.rgnSel).valid = true → ∃ t, exec (.regionDisable false) s = .next t
      ∧ t.pipe.rgnBusy = true ∧ (t.region s.rgnSel).enable = false ∧ t.pipe.rgnHold = s.translated s.rgnSel) ∧
    (s.pipe.rgnBusy = true → s.pipe.rgnCmd = 4 → s.pipe.rgnHold = [] → exec .regionDisableDrained s = .next (s.rgnEnd stOK)) ∧
    (∀ i, s.pipe.rgnBusy = true → s.pipe.rgnCmd = 4 → i ∈ s.pipe.rgnHold → i ∈ s.translated s.pipe.rgnSel →
      exec .regionDisableDrained s = .next s) ∧
    (s.pipe.rgnBusy = false → (s.region s.rgnSel).valid = true → (s.region s.rgnSel).state ≠ 2 →
      exec (.regionEnable false) s = .next (((s.setRegion s.rgnSel { s.region s.rgnSel with enable := true }).enabledUnder s.rgnSel).rgnEnd stOK)) ∧
    (s.pipe.rgnBusy = false → (s.region s.rgnSel).valid = true → (s.region s.rgnSel).enable = true → ∃ t, exec (.regionDestroy false) s = .next t
      ∧ t.pipe.rgnCode = stAccessDenied ∧ t.pipe.regions = s.pipe.regions) ∧
    (s.pipe.rgnBusy = false → (s.region s.rgnSel).valid = true → (s.region s.rgnSel).enable = false →
      (s.region s.rgnSel).cachedPages = 0 → s.keyHeld (.region s.rgnSel) = false → ∃ t, exec (.regionDestroy false) s = .next t
        ∧ t.pipe.rgnBusy = true ∧ (t.region s.rgnSel).state = 2
        ∧ ∀ i, (t.grantAt i).valid = true → (t.grantAt i).region ≠ s.rgnSel) ∧
    (s.pipe.rgnBusy = true → s.pipe.rgnCmd = 6 → s.memoryOpen (slotStand (s.region s.pipe.rgnSel).descBase) = true →
      ∃ t, exec .regionReleased s = .next t ∧ (t.region s.pipe.rgnSel).valid = false ∧ t.pipe.rgnBusy = false
        ∧ t.evtSet 0x4002 0 = true)

/-- GRANT_READ, GRANT_ADD, GRANT_MODIFY, GRANT_REMOVE, DESC_READ, DESC_SET_PIN, DESC_CLEAR_PIN, DC_FLUSH and DC_FLUSH_DONE (R318 to R321, R353,
R355, R649): while no clock relocks and under the conditions named they complete with the changes written out. A second grant of one client
and region is refused, a grant command whose write of the table is LOST ends with Retry, and a descriptor command of an invalid region or
past its end reads nothing. Of the flush's end this is stated for an empty cache. -/
def Obligations.GrantDescriptorAndFlushCommands : Prop :=
  ∀ s : State, s.thermal.relock = false → s.up 3 = true →
    (∀ c ∈ ([.grantAdd true, .grantModify true, .grantRemove true] : List Instr), ∃ t, exec c s = .next t
      ∧ t.pipe.gntCode = stRetry ∧ t.pipe.grants = s.pipe.grants) ∧
    (∀ i g, s.grantOf s.gntKey.1 s.gntKey.2 = some (i, g) →
      (∃ t, exec .grantRead s = .next t ∧ t.pipe.gntCode = 0 ∧ t.pipe.gntIndex = i ∧ t.pipe.grants = s.pipe.grants) ∧
      (∃ t, exec (.grantAdd false) s = .next t ∧ t.pipe.gntCode = stAccessDenied ∧ t.pipe.grants = s.pipe.grants) ∧
      (∃ t, exec (.grantModify false) s = .next t ∧ t.pipe.gntCode = 0 ∧ t.pipe.gntIndex = i ∧ t.grantAt i = s.gntData g
        ∧ ∀ j, j ≠ i → t.grantAt j = s.grantAt j) ∧
      (∃ t, exec (.grantRemove false) s = .next t ∧ t.pipe.gntCode = 0 ∧ t.grantAt i = { g with valid := false }
        ∧ ∀ j, j ≠ i → t.grantAt j = s.grantAt j)) ∧
    (s.grantOf s.gntKey.1 s.gntKey.2 = none → (s.region s.gntKey.2).valid = false →
      ∀ c ∈ ([.grantRead, .grantAdd false, .grantModify false, .grantRemove false] : List Instr), ∃ t, exec c s = .next t
        ∧ t.pipe.gntCode = stUnmapped ∧ t.pipe.grants = s.pipe.grants) ∧
    (∀ g i, s.grantOf s.gntKey.1 s.gntKey.2 = none → (s.region s.gntKey.2).valid = true →
      s.gntData { valid := true, client := s.gntKey.1, region := s.gntKey.2 } = g → g.first ≤ g.last →
      (s.grantChain 16 (grantBucket s.gntKey.1 s.gntKey.2)).find? (fun i => !(s.grantAt i).valid) = some i →
      ∃ t, exec (.grantAdd false) s = .next t ∧ t.pipe.gntCode = 0 ∧ t.pipe.gntIndex = i
        ∧ t.grantAt i = { g with chained := (s.grantAt i).chained, next := (s.grantAt i).next }
        ∧ ∀ j, j ≠ i → t.grantAt j = s.grantAt j) ∧
    (∀ e : ReadErrs, s.pipe.dscBusy = false → (s.region (s.fld Reg.PIPE_DSC_REGION 15 0)).valid = false →
      ∀ c ∈ ([.descRead e, .descSetPin e, .descClearPin e] : List Instr), exec c s = .next (s.dscEnd stUnmapped)) ∧
    (∀ e : ReadErrs, s.pipe.dscBusy = false → (s.region (s.fld Reg.PIPE_DSC_REGION 15 0)).valid = true →
      (s.region (s.fld Reg.PIPE_DSC_REGION 15 0)).state = 0 →
      (s.region (s.fld Reg.PIPE_DSC_REGION 15 0)).pageCount ≤ (s.reg Reg.PIPE_DSC_PAGE_LO).toNat
        + 2 ^ 32 * s.fld Reg.PIPE_DSC_PAGE_HI 1 0 →
      ∀ c ∈ ([.descRead e, .descSetPin e, .descClearPin e] : List Instr), exec c s = .next (s.dscEnd stOutOfRange)) ∧
    (∀ (e : ReadErrs) (page : Nat) x, page = (s.reg Reg.PIPE_DSC_PAGE_LO).toNat + 2 ^ 32 * s.fld Reg.PIPE_DSC_PAGE_HI 1 0 →
      s.pipe.dscBusy = false → (s.region (s.fld Reg.PIPE_DSC_REGION 15 0)).valid = true →
      (s.region (s.fld Reg.PIPE_DSC_REGION 15 0)).state = 0 → page < (s.region (s.fld Reg.PIPE_DSC_REGION 15 0)).pageCount →
      s.up (pipeDom (s.fld Reg.PIPE_DSC_REGION 15 0) page) = true →
      s.dcEntry (s.fld Reg.PIPE_DSC_REGION 15 0) page = some x →
      s.lockWait agentWindow (s.fld Reg.PIPE_DSC_REGION 15 0) page = false →
      (∃ t u, exec (.descRead e) s = .next t ∧ t = State.leavePlace u agentWindow (s.fld Reg.PIPE_DSC_REGION 15 0) page
        ∧ u.pipe.dscBusy = false ∧ u.pipe.dscCode = 0 ∧ u.dram = s.dram ∧ u.reg (Reg.PIPE_DSC_DATA 0) = BitVec.ofNat 32 (x.desc.words.getD 0 0)) ∧
      (∃ t u, exec (.descSetPin e) s = .next t ∧ u.dram = s.dram
        ∧ t = ((State.pinPage u x.desc true).dscEnd stOK).leavePlace agentWindow (s.fld Reg.PIPE_DSC_REGION 15 0) page) ∧
      (∃ t u, exec (.descClearPin e) s = .next t ∧ u.dram = s.dram
        ∧ t = ((State.pinPage u x.desc false).dscEnd stOK).leavePlace agentWindow (s.fld Reg.PIPE_DSC_REGION 15 0) page)) ∧
    (∃ t, exec .dcFlush s = .next t ∧ t.pipe.flushing = true ∧ t.dram = s.dram) ∧
    (s.pipe.flushing = true → s.pipe.cache = [] → ∃ t, exec .dcFlushDone s = .next t ∧ t.pipe.flushing = false)

/-! ### A request's data (01, 12 to 15) -/

/-- HANDSHAKE_TIMEOUT, MEMORY_READ_RETURN, DECOMPRESS_DONE, COMPRESS_DONE, XTS_UNIT_CHECK, MEMORY_WRITE_ACCEPT and WRITE_COMMIT (R13, R15, R17,
R345, R481, R484, R485, R505, R508, R512, R513, R552, R672, R780): while no clock relocks and under the conditions named they complete with
the changes written out. A handshake that fails its retry, and a CRC-32C failure at any boundary before the memory write, ends the request
InternalFault; a stream that decodes twice to nothing poisons its page; a write over its master's budget is held. -/
def Obligations.RequestDataCommands : Prop :=
  ∀ (s : State) (n : Nat) (f : Flight), s.live = true → s.thermal.relock = false → s.flight? n = some f →
    (∀ k ∈ [6, 7, 8], f.stage = .read → s.stalled f = false →
      exec (.handshakeTimeout (.flight n) k true) s = .next ((s.count Reg.RAS_HS_RETRY_OK).raise 0x0306) ∧
      exec (.handshakeTimeout (.flight n) k false) s
        = .next (((s.count Reg.RAS_HS_FAIL).raise 0x0305 k).abort f stInternalFault)) ∧
    (∀ (c : BitVec 12) (i : BitVec 24) m k, s.deliveredMsg c.toNat i = some m → 2 ≤ k → k ≤ 4 →
      s.up (pipeDom (bodyRegion m.body) (bodyPage m.body)) = true →
      exec (.handshakeTimeout (.message c i) k true) s = .next ((s.count Reg.RAS_HS_RETRY_OK).raise 0x0306)) ∧
    (∀ k, f.stage = .decode → k < 16 → s.dLanes.contains k = true → s.up (laneDom k) = true → f.reads = true →
      s.letsGreen f = false →
      exec (.decompressDone n k false false true) s = .next ((s.cmpCount 10 1).crcAbort f 9) ∧
      (∀ p, s.decode f.loc.format f.loc.dict f.plain = some p →
        exec (.decompressDone n k false false false) s = .next ((s.cmpCount 10 1).decoded f p)) ∧
      (s.decode f.loc.format f.loc.dict f.plain = none →
        exec (.decompressDone n k false false false) s = .next ((((((s.cmpCount 10 1).cmpCount 12 1).poisonRead f).raise
          0x7003 (pageDetail f.region f.page))).abort f stUncorrectable))) ∧
    (∀ k st, f.stage = .compress → k < 16 → s.up (laneDom k) = true → f.laneHeld s = some k →
      s.laneWrites (s.writeClass f.region).2.1 (s.writeClass f.region).2.2 f.plain st false = true →
      exec (.compressDone n k st false true) s = .next (s.crcAbort f 6) ∧
      (isZeroPage f.plain = true → exec (.compressDone n k st false false) s = .next (s.storePlain f f.plain false))) ∧
    (∀ k, f.stage = .check → s.up 11 = true → s.xtsEngines.contains k = true → f.type ≠ tAtomic → s.letsGreen f = false →
      (∀ u r, f.units = u :: r → s.pageKeys f.region f.page = none →
        exec (.xtsUnitCheck n k true false false) s = .next ((s.emptySlot f.region).abort f stAccessDenied)) ∧
      (∀ u v r k1 k2, f.units = u :: v :: r → s.pageKeys f.region f.page = some (k1, k2) →
        exec (.xtsUnitCheck n k true false false) s = .next ((s.cryCount 0 1).putFlight { f with
          units := v :: r
          cipher := f.cipher ++ [(u, xtsEnc k1 k2 (xtsTweak f.region f.page u.slotForm u.ordinal) u.plain)] })) ∧
      (∀ u r k1 k2, f.units = u :: r → s.pageKeys f.region f.page = some (k1, k2) →
        exec (.xtsUnitCheck n k true false true) s = .next ((s.cryCount 0 1).crcAbort f 8) ∧
        exec (.xtsUnitCheck n k false false false) s
          = .next (((((s.cryCount 0 1).cryCount 2 1).engineFail k).raise 0x8002 (pageDetail f.region f.page)).abort f stInternalFault))) ∧
    (∀ c w r, f.stage = .write → f.writes = w :: r → s.slotChan (w.la / 4) = c →
      (s.chanLost c = true → exec (.memoryWriteAccept n c false) s = .next (s.abort { f with writes := [] } stInternalFault)) ∧
      (s.chanLost c = false → s.standServes (slotStand (w.la / 4)) = true → s.chanOpen c = true → s.withinBudget c f.master = false →
        exec (.memoryWriteAccept n c false) s = .next (s.holdWrite f c)) ∧
      (∀ es, es = ((f.writes.filter fun w => s.slotChan (w.la / 4) == c).map fun w =>
          ({ la := w.la, access := .wr, cls := 2, master := f.master, bytes := w.bytes, tag := w.tag } : Entry)) →
        s.chanLost c = false → s.standServes (slotStand (w.la / 4)) = true → s.chanOpen c = true →
        s.withinBudget c f.master = true → s.yields c f.master 2 = false → s.letsGreenAt f c = false → f.held = [] →
        s.fits c 2 es = true → (∀ x ∈ f.writes, s.slotChan (x.la / 4) = c) →
        exec (.memoryWriteAccept n c false) s = .next ((((s.turned c f.master).acceptAll c f.master es).useStand
          (slotStand (w.la / 4))).putFlight { f with writes := [], stage := .commit }))) ∧
    (f.stage = .commit → s.up (pipeDom f.region f.page) = true →
      (f.newDesc = none → exec (.writeCommit n true) s = .next ((s.crcFail 10).abort f stInternalFault)) ∧
      (f.newDesc.isSome = true → exec (.writeCommit n true) s = .next (s.crcAbort f 10)) ∧
      exec (.writeCommit n false) s = .next ((s.commit f).opDone { f with slots := [], newDesc := none, cipher := [], before := none })) ∧
    (∀ c b (e : Entry) r (x : ReadErrs), (s.sub c b).ret = e :: r → e.access = .rd → e.src = some n → e.err1 = none →
      s.mustRetry e x.first = false → f.stage = .read → s.up 11 = true → e.la ∈ f.want →
      exec (.memoryReadReturn c b x true) s
        = .next (((s.setSub c b { s.sub c b with ret := r }).returned c e).crcAbort f 7)
      ∧ exec (.memoryReadReturn c b x false) s = .next (((s.setSub c b { s.sub c b with ret := r }).returned c e).lineBack f e x))

/-! ### Tiering (11) -/

/-- EPOCH_ADVANCE, TIER_POL_COMMIT, SCAN_VISIT, SCAN_PASS_END, HINT_PAGE, MOVER_STOP, PROMO_HOLD_EXPIRE, FLOOR_LINGER_EXPIRE, STAND_WAKE_DONE,
SUMMARY_RELOAD_DONE, STRETCH_REBUILD_DONE and TIER_STAND_CFG_WRITE (R350, R415, R424, R430, R432, R434, R437, R445, R446, R448, R452): while no
clock relocks and under the conditions named they complete with the changes written out. A policy table that breaks the order of its thresholds is refused
whole. -/
def Obligations.TieringStateCommands : Prop :=
  ∀ s : State, s.thermal.relock = false → s.up 8 = true →
    (exec .epochAdvance s = .next { s with tier := { s.tier with epoch := (s.tier.epoch + 1) % 65536 } }) ∧
    (∀ c, (List.range 16).find? (fun c => !(decide (s.fld (Reg.TIER_POL c 2) 15 0 ≤ s.fld (Reg.TIER_POL c 1) 15 0
        ∧ s.fld (Reg.TIER_POL c 1) 15 0 < s.fld (Reg.TIER_POL c 1) 31 16))) = some c →
      ∃ t, exec .tierPolCommit s = .next t ∧ t.tier = s.tier ∧ t.evtSet 0x6005 0 = true
        ∧ t.reg Reg.TIER_POL_STATUS = BitVec.ofNat 32 (2 ^ 31 + c)) ∧
    ((∀ c, c < 16 → s.fld (Reg.TIER_POL c 2) 15 0 ≤ s.fld (Reg.TIER_POL c 1) 15 0
        ∧ s.fld (Reg.TIER_POL c 1) 15 0 < s.fld (Reg.TIER_POL c 1) 31 16) →
      ∃ t, exec .tierPolCommit s = .next t ∧ t.reg Reg.TIER_POL_STATUS = 0
        ∧ ∀ c w, c < 16 → w < 4 → t.policyWord c w = s.reg (Reg.TIER_POL c w)) ∧
    (∀ (e : ReadErrs) r p, s.scanOn = true → s.promoFirst = false → s.batchFirst = false → s.scanNext = some (r, p) →
      s.canRead 4 [(descLine (s.region r).descBase p).1] = true →
      ∃ t u, exec (.scanVisit [e]) s = .next t ∧ u.tier.scanRegion = r ∧ u.tier.scanPage = p + 1
        ∧ (t = u ∨ ∃ d, t = State.scanned u r p d)) ∧
    (s.scanOn = true → s.scanNext = none → ∃ t, exec .scanPassEnd s = .next t ∧ t.tier.scanRegion = 0 ∧ t.tier.scanPage = 0
      ∧ t.tier.scanStart = s.tier.epoch
      ∧ (16384 < (s.tier.epoch + 65536 - s.tier.scanStart) % 65536 → t.evtSet 0x6004 0 = true)) ∧
    (∀ (e : ReadErrs) h r, s.tier.hints = h :: r → (s.region h.region).valid = false →
      exec (.hintPage e) s = .next s.hintNext) ∧
    (∀ (e : ReadErrs) h r, s.tier.hints = h :: r → (s.region h.region).valid = true → (s.region h.region).state = 0 →
      h.page < (s.region h.region).pageCount → exec (.hintPage e) s
        = .next (s.agent agentHint h.region h.page 3 e (fun t d => (t.hinted h d).hintNext) (fun t _ => t.hintNext))) ∧
    (s.flag Reg.TIER_CTRL 0 = false → s.tier.moves = [] → exec .moverStop s
      = .next { s with tier := { s.tier with batch0 := {}, batch1 := {}, picked := [], stopped := true } }) ∧
    (∀ k p, s.moverOn = true → p ∈ s.tier.promos → p.hint = true → slotStand (s.descPeek p.region p.page).priSlot = k →
      s.standServes k = false → exec (.promoHoldExpire k) s = .next (s.useStand k)) ∧
    (∀ k, (s.stand k).tierVote = true → s.standInUse k = false → ∃ t, exec (.floorLingerExpire k) s = .next t
      ∧ (t.stand k).tierVote = false ∧ ∀ j, j ≠ k → t.stand j = s.stand j) ∧
    (∀ k, (s.stand k).exiting = true → s.coh.flights = [] → ∃ t, exec (.standWakeDone k) s = .next t
      ∧ (t.stand k).power = 0 ∧ (t.stand k).exiting = false) ∧
    (∀ l, s.tier.reloading = true → ∃ t u, exec (.summaryReloadDone l) s = .next t ∧ t = State.resumeAllocations u
      ∧ u.tier.reloading = false ∧ ∀ x ∈ l, x ∈ u.tier.rebuild) ∧
    (∀ x, x ∈ s.tier.rebuild → ∃ t, exec (.stretchRebuildDone x) s = .next t ∧ x ∉ t.tier.rebuild) ∧
    (∀ k (v : Word), k < 8 → bits v.toNat 1 0 = 3 → exec (.tierStandCfgWrite k v) s = .next (s.wrote stOutOfRange)) ∧
    (∀ k (v : Word), k < 8 → bits v.toNat 1 0 ≠ 3 → bits v.toNat 1 0 ≠ s.role k → s.keyHeld (.stand k) = true →
      exec (.tierStandCfgWrite k v) s = .next (s.wrote stAccessDenied)) ∧
    (∀ k (v : Word), k < 8 → bits v.toNat 1 0 ≠ 3 → bits v.toNat 1 0 ≠ s.role k → s.keyHeld (.stand k) = false →
      (s.stand k).present = true → (s.stand k).used = s.standRetired k → ∃ t, exec (.tierStandCfgWrite k v) s = .next t
        ∧ t = (((s.setStand k { s.stand k with draining := false }).setReg (Reg.TIER_STAND_CFG k)
            (BitVec.ofNat 32 (bits v.toNat 1 0))).judgePressure).wrote)

/-- MOVE_START, MOVE_COMMIT, DEMOTE_UNDERSTORY, BATCH_CLOSE, BATCH_WRITE and PROMOTE_CANOPY (R336, R433, R436, R438, R440 to R442, R444,
R471): while no clock relocks and under the conditions named they complete with the changes written out. A batch without a Floor stand
waits, and one that is written whole ends with 0x6003. A page whose region has no key is left where it is. -/
def Obligations.MoverCommands : Prop :=
  ∀ s : State, s.thermal.relock = false → s.up 8 = true → s.moverOn = true →
    (∀ r p (e : ReadErrs), (r, p) ∈ s.tier.picked → s.dcPinned r p = false → s.moveOf r p = none →
      s.promoFirst = false → exec (.moveStart r p [e]) s = .next (s.agent agentMover r p 3 e (fun t d => t.beginMove r p d []) (fun t _ => t.dropWork r p))) ∧
    (∀ r p (e : ReadErrs) m u, s.up (pipeDom r p) = true → s.moveOf r p = some m → m.newDesc.isSome = true → m.kind ≠ .batch →
      s.commitMove m e = some u → exec (.moveCommit r p e) s = .next u) ∧
    (∀ r p k st fault e m, s.up 11 = true → s.up (laneDom k) = true → k < 16 → s.moveOf r p = some m → m.kind = .demoteU →
      m.newDesc = none → m.ending = none → s.coh.flights = [] → s.nextLane = some k → s.engineFree e = true →
      s.canRead 4 (s.pageLines m.src) = true →
      (s.pageKeys r p = none → s.laneWrites (s.writeClass r).2.1 (s.writeClass r).2.2 [] st fault = true →
        exec (.demoteUnderstory r p k st fault e true false []) s = .next (((s.emptySlot r).undoMove m false).tierCount 9 1)) ∧
      (∀ k1 k2 u copy v page, s.pageKeys r p = some (k1, k2) → s.laneWrites (s.writeClass r).2.1 (s.writeClass r).2.2
          ((groupPlain k1 k2 r p (s.copyLines (s.slotsOf m.src))).getD []) st fault = true →
        s.readLines 4 (s.pageLines m.src) [] = (u, copy, 0) →
        u.groupRead 4 k1 k2 r p (s.pageLines m.src) copy [] 0 = (v, some page) →
        exec (.demoteUnderstory r p k st fault e true false []) s
          = .next ((v.cryCount 1 64).demoted s m k1 k2 k page st fault e true false))) ∧
    (∀ i, s.openBatch = some i → (s.batch i).moves ≠ [] → exec .batchClose s
      = .next (s.setBatch i { s.batch i with closed := true })) ∧
    (∀ i, [0, 1].find? (fun i => (s.batch i).closed) = some i → s.batchTarget (s.batch i) = none →
      exec .batchWrite s = .next (s.batchNoRoom i)) ∧
    (∀ i k u n, [0, 1].find? (fun i => (s.batch i).closed) = some i → s.batchTarget (s.batch i) = some k → s.standServes k = true →
      (((s.useStand k).batchPlotIn k).setBatch i { s.batch i with stand := k, writing := true }).writeBatch k (s.batch i).moves
        (s.batch i).written = (u, [], n, false) →
      ∃ t, exec .batchWrite s = .next t ∧ t.batch i = {} ∧ t.tier.noFloor = false ∧ t.evtSet 0x6003 0 = true) ∧
    (∀ r p k e m, s.up 11 = true → s.up (laneDom k) = true → k < 16 → s.moveOf r p = some m → m.kind = .promoteC → m.newDesc = none →
      m.ending = none → s.coh.flights = [] → s.dLanes.contains k = true → s.engineFree e = true → s.canRead 4 (s.pageLines m.src) = true →
      s.pageKeys r p = none →
      exec (.promoteCanopy r p k false false e true false []) s = .next (((s.emptySlot r).undoMove m false).tierCount 9 1)) ∧
    (∀ r p k e m k1 k2 u copy, s.up 11 = true → s.up (laneDom k) = true → k < 16 → s.moveOf r p = some m → m.kind = .promoteC →
      m.newDesc = none → m.ending = none → s.coh.flights = [] → s.dLanes.contains k = true → s.engineFree e = true →
      s.canRead 4 (s.pageLines m.src) = true → s.pageKeys r p = some (k1, k2) → s.chainWhole m.src = true → s.readLines 4 (s.pageLines m.src) [] = (u, copy, 0) →
      exec (.promoteCanopy r p k false false e true false []) s = .next (u.promoted s m k1 k2 k false false e true false copy))

/-! ### Compression classes and keys (12, 13) -/

/-- CLANE_RETURN, DLANE_RETURN, CLASS_DATA_WRITE, CLASS_COMMIT, CLASS_UNLOAD, CLASS_UNLOAD_DONE and CLASS_CLEAR_STAGE (R479, R488 to R490, R496,
R779): while no clock relocks and under the conditions named they complete with the changes written out. Class 0 is never loaded or unloaded, and a command
is refused while an unload is BUSY. -/
def Obligations.CompressionClassCommands : Prop :=
  ∀ s : State, s.thermal.relock = false → s.up 9 = true →
    (∀ v : Word, ∃ t, exec (.claneReturn v) s = .next t ∧ t.reg Reg.CMP_CLANE_OOS = s.reg Reg.CMP_CLANE_OOS &&& ~~~v
      ∧ ∀ a, a ≠ Reg.CMP_CLANE_OOS → t.reg a = s.reg a) ∧
    (∀ v : Word, ∃ t, exec (.dlaneReturn v) s = .next t ∧ t.reg Reg.CMP_DLANE_OOS = s.reg Reg.CMP_DLANE_OOS &&& ~~~v
      ∧ ∀ a, a ≠ Reg.CMP_DLANE_OOS → t.reg a = s.reg a) ∧
    (∀ v : Word, 4256 ≤ s.fld Reg.CMP_CLS_PTR 12 0 → exec (.classDataWrite v) s = .next (s.wrote stOutOfRange)) ∧
    (∀ v : Word, s.fld Reg.CMP_CLS_PTR 12 0 < 4256 → ∃ t, exec (.classDataWrite v) s = .next t
      ∧ t.reg Reg.CMP_CLS_PTR = BitVec.ofNat 32 (s.fld Reg.CMP_CLS_PTR 12 0 + 4)
      ∧ (∀ i, i < 4 → tabGet (fun _ => 0) t.cmp.stage (s.fld Reg.CMP_CLS_PTR 12 0 + i) = BitVec.ofNat 8 (v.toNat >>> (8 * i)))
      ∧ ∀ j, j < s.fld Reg.CMP_CLS_PTR 12 0 ∨ s.fld Reg.CMP_CLS_PTR 12 0 + 4 ≤ j →
          tabGet (fun _ => 0) t.cmp.stage j = tabGet (fun _ => 0) s.cmp.stage j) ∧
    (s.cmp.unloading = none → s.fld Reg.CMP_CLS_SEL 3 0 = 0 → ∃ t, exec .classCommit s = .next t
      ∧ t.cmp.clsCode = stAccessDenied ∧ t.cmp.classes = s.cmp.classes ∧ t.evtSet 0x7005 0 = true) ∧
    (∀ codes dict, s.cmp.unloading = none → s.fld Reg.CMP_CLS_SEL 3 0 ≠ 0 → (s.classOf? (s.fld Reg.CMP_CLS_SEL 3 0)).loaded = false →
      s.stagedParts = (some codes, dict) → codeTableOk codes = true → ∃ t, exec .classCommit s = .next t ∧ t.cmp.clsCode = 0
        ∧ (t.classOf? (s.fld Reg.CMP_CLS_SEL 3 0)).loaded = true
        ∧ (t.classOf? (s.fld Reg.CMP_CLS_SEL 3 0)).codes = some codes
        ∧ (t.classOf? (s.fld Reg.CMP_CLS_SEL 3 0)).dict = dict) ∧
    (∀ c, s.cmp.unloading = some c → ∀ k ∈ ([.classCommit, .classUnload, .classClearStage] : List Instr),
      exec k s = .next (s.wrote stAccessDenied)) ∧
    (s.cmp.unloading = none → s.fld Reg.CMP_CLS_SEL 3 0 = 0 → exec .classUnload s = .next (s.clsEnd stAccessDenied)) ∧
    (s.cmp.unloading = none → s.fld Reg.CMP_CLS_SEL 3 0 ≠ 0 → (s.classOf? (s.fld Reg.CMP_CLS_SEL 3 0)).loaded = true →
      s.classNamed (s.fld Reg.CMP_CLS_SEL 3 0) = false → (s.classOf? (s.fld Reg.CMP_CLS_SEL 3 0)).pages = 0 →
      ∃ t, exec .classUnload s = .next t ∧ t.cmp.unloading = some (s.fld Reg.CMP_CLS_SEL 3 0)) ∧
    (∀ c, s.cmp.unloading = some c → s.classInUse c = false → ∃ t, exec .classUnloadDone s = .next t ∧ t.cmp.unloading = none
      ∧ t.classOf? c = {} ∧ t.cmp.clsCode = 0) ∧
    (s.cmp.unloading = none → ∃ t, exec .classClearStage s = .next t ∧ t.cmp.stage = [] ∧ t.reg Reg.CMP_CLS_PTR = 0)

/-- DWK_BURN, DWK_PROVISIONED, KEY_SLOT_LOAD, KEY_SLOT_ZEROISE, KEY_SLOT_READ, XTS_ENGINE_RETURN, REKEY_PAGE and ERASE_REGION_STEP (R498, R500,
R503, R504, R514, R519, R523): while no clock relocks and under the conditions named they complete with the changes written out. F is burned
once; a loaded slot is not overwritten; two equal halves are refused; a slot in use is not zeroised. -/
def Obligations.KeySlotAndEraseCommands : Prop :=
  ∀ s : State, s.thermal.relock = false → s.up 11 = true →
    (∀ v : Word, bit v.toNat 0 = true → s.cry.provisioned = true → exec (.dwkBurn v) s = .next (s.wrote stAccessDenied)) ∧
    (∀ v : Word, bit v.toNat 0 = true → s.cry.provisioned = false → s.cry.burning = false → s.unlocked = true →
      exec (.dwkBurn v) s = .next ({ s with cry := { s.cry with fuseF := s.provKey ^^^ Config.pufValue, burning := true } } : State).wrote) ∧
    (s.cry.burning = true → ∃ t, exec .dwkProvisioned s = .next t ∧ t.cry.provisioned = true ∧ t.cry.valid = true
      ∧ t.evtSet 0x8009 0 = true ∧ t.cry.slots = s.cry.slots) ∧
    ((s.keySlot (s.fld Reg.CRY_KS_SEL 11 0)).loaded = true → ∃ t, exec .keySlotLoad s = .next t ∧ t.cry = s.cry
      ∧ t.reg Reg.CRY_KS_STATUS = BitVec.ofNat 32 stAccessDenied ∧ ∀ w, w < 18 → t.reg (Reg.CRY_KS_STAGE w) = 0) ∧
    (∀ u, (s.keySlot (s.fld Reg.CRY_KS_SEL 11 0)).loaded = false → s.unwrap (s.stageBytes (Reg.CRY_KS_STAGE 0) 18) = (u, none) →
      ∃ t, exec .keySlotLoad s = .next t ∧ t.cry = u.cry ∧ t.reg Reg.CRY_KS_STATUS = BitVec.ofNat 32 stAuthFail) ∧
    (∀ u p, (s.keySlot (s.fld Reg.CRY_KS_SEL 11 0)).loaded = false → s.unwrap (s.stageBytes (Reg.CRY_KS_STAGE 0) 18) = (u, some p) →
      keyOf (p.take 32) = keyOf (p.drop 32) → ∃ t, exec .keySlotLoad s = .next t ∧ t.cry = u.cry
        ∧ t.reg Reg.CRY_KS_STATUS = BitVec.ofNat 32 stOutOfRange) ∧
    (∀ u p, (s.keySlot (s.fld Reg.CRY_KS_SEL 11 0)).loaded = false → s.unwrap (s.stageBytes (Reg.CRY_KS_STAGE 0) 18) = (u, some p) →
      keyOf (p.take 32) ≠ keyOf (p.drop 32) → ∃ t, exec .keySlotLoad s = .next t
        ∧ t.keySlot (s.fld Reg.CRY_KS_SEL 11 0)
          = { loaded := true, k1 := keyOf (p.take 32), k2 := keyOf (p.drop 32), kcv := keyCheck (keyOf (p.take 32)) }
        ∧ t.evtSet 0x8005 0 = true ∧ t.reg Reg.CRY_KS_STATUS = 0) ∧
    (s.keyRefs (s.fld Reg.CRY_KS_SEL 11 0) ≠ 0 → ∃ t, exec .keySlotZeroise s = .next t ∧ t.cry = s.cry
      ∧ t.reg Reg.CRY_KS_STATUS = BitVec.ofNat 32 stAccessDenied) ∧
    (s.keyRefs (s.fld Reg.CRY_KS_SEL 11 0) = 0 → s.rekeyHeld (s.fld Reg.CRY_KS_SEL 11 0) = false → ∃ t, exec .keySlotZeroise s = .next t
      ∧ t.keySlot (s.fld Reg.CRY_KS_SEL 11 0) = {} ∧ t.evtSet 0x8006 0 = true) ∧
    (∃ t, exec .keySlotRead s = .next t ∧ t.cry = s.cry ∧ t.reg Reg.CRY_KS_STATUS = 0
      ∧ t.reg Reg.CRY_KS_KCV = BitVec.ofNat 32 (s.keySlot (s.fld Reg.CRY_KS_SEL 11 0)).kcv) ∧
    (∀ v : Word, ∃ t, exec (.xtsEngineReturn false v) s = .next t ∧ t.reg Reg.CRY_XTS_OOS = s.reg Reg.CRY_XTS_OOS &&& ~~~v
      ∧ t.reg Reg.CRY_GCM_OOS = s.reg Reg.CRY_GCM_OOS) ∧
    (∀ v : Word, ∃ t, exec (.xtsEngineReturn true v) s = .next t ∧ t.reg Reg.CRY_GCM_OOS = s.reg Reg.CRY_GCM_OOS &&& ~~~v
      ∧ t.reg Reg.CRY_XTS_OOS = s.reg Reg.CRY_XTS_OOS) ∧
    (∀ n k e rec v, s.rekeyOf (s.opSlot n).region = some (rec, v) → (s.opSlot n).working opRekey = true →
      v.mark < (s.region (s.opSlot n).region).pageCount → s.boot.brace = false → s.boot.draining = false →
      s.tracked (s.opSlot n).region v.mark = false → s.engineFree k = true →
      ∃ t go, exec (.rekeyPage n k true false [e]) s = .next t
        ∧ t = s.agent (agentOp n) (s.opSlot n).region v.mark 3 e go (fun t _ => t.rekeyNext n rec 1 0)
        ∧ ∀ u d, Desc.stored d = false → go u d = State.rekeyNext u n rec 0 0) ∧
    (∀ n e, (s.opSlot n).cursor = 0 → (s.opSlot n).working opErase = true → s.regionInCrypto (s.opSlot n).region = false →
      exec (.eraseRegionStep n e) s
        = .next ((s.eraseKeys (s.opSlot n).region).setOp n { s.opSlot n with cursor := 1 }))

/-! ### DRAM channels and bandwidth regulation (14, 16) -/

/-- DRAM_COMMAND_ISSUE, ENTRY_AGED, REFRESH_DUE, ROW_IDLE_EXPIRE, PARITY_ALERT and ALERT_WAIT_END (R536, R537, R540, R543, R545, R553,
R554): under the conditions named they complete with the changes written out. A second alert of a DIMM while its first is being
handled fails the channel; an alert of another DIMM waits behind the first. -/
def Obligations.DramChannelCommands : Prop :=
  ∀ (s : State) (n : Nat),
    (∀ b w, b < 2 → s.chanRuns n = true → ((s.drainUpdate n b).work n b)[0]? = some w →
      exec (.dramCommandIssue n b 0) s = .next (((s.drainUpdate n b).issue n b w).pump n)) ∧
    (∀ b k, b < 2 → s.chanRuns n = true → (s.drainUpdate n b).work n b = [] →
      exec (.dramCommandIssue n b k) s = .next (s.drainUpdate n b)) ∧
    (∀ la e, s.chanRuns n = true → e ∈ (s.sub n 0).queue → e.la = la → e.aged = false →
      ∃ t, exec (.entryAged n 0 la) s = .next t ∧ (t.sub n 0).queue.length = (s.sub n 0).queue.length
        ∧ (∃ x ∈ (t.sub n 0).queue, x.la = la ∧ x.aged = true) ∧ t.dram.bytes = s.dram.bytes) ∧
    (∀ r, (s.chan n).state = .ready → s.up (chanDom n) = true → (s.stand r).present = true → (s.rank n r).selfRefresh = false →
      ∃ t, exec (.refreshDue n r) s = .next t ∧ (t.rank n r).owed = (s.rank n r).owed + 1 ∧ (t.rank n r).powerDown = false
        ∧ ((t.rank n r).force = true ↔ (s.rank n r).force = true ∨ s.fld (Reg.DRC_REF_CFG n) 3 0 ≤ (s.rank n r).owed + 1)
        ∧ ((s.rank n r).owed + 1 = s.fld (Reg.DRC_REF_CFG n) 3 0 → t.evtSet 0xA003 n = true)) ∧
    (∀ b r k, b < 2 → k < 32 → s.chanRuns n = true →
      (s.sub n b).queue.any (fun e => s.lineBank e.la == 32 * r + k && s.rowHit (s.sub n b) e) = false →
      exec (.rowIdleExpire n b r k) s = .next (s.closeBank n b (32 * r + k))) ∧
    (∀ q, s.chanRuns n = true → s.flag (Reg.DRC_CTRL n) 0 = true → ((s.chan n).dimm q).present = true →
      q ∉ (s.chan n).alert → (s.chan n).reissued = [] →
      ∃ t, exec (.parityAlert n q) s = .next t ∧ (t.chan n).alert = (s.chan n).alert ++ [q] ∧ t.evtSet 0xA001 n = true
        ∧ (t.chan n).state = .ready ∧ t.dram.bytes = s.dram.bytes) ∧
    (∀ q, s.chanRuns n = true → s.flag (Reg.DRC_CTRL n) 0 = true → ((s.chan n).dimm q).present = true →
      q ∈ (s.chan n).alert → ∃ t u, exec (.parityAlert n q) s = .next t ∧ t = State.failChannel u n
        ∧ u.evtSet 0xA002 n = true) ∧
    (∀ q others, s.chanRuns n = true → (s.chan n).alert = q :: others → ∃ t, exec (.alertWaitEnd n) s = .next t ∧ (t.chan n).alert = others)

/-- MREG_COMMIT, MREG_EFFICIENCY_WRITE and REG_WINDOW_BOUNDARY (R667, R670 to R672, R676 to R680): while no clock relocks and under the
conditions named they complete with the changes written out. A table over the admitted share is refused with 0x9001 and nothing is staged. -/
def Obligations.BandwidthRegulationCommands : Prop :=
  ∀ s : State, s.thermal.relock = false → s.up 12 = true →
    (∀ x, s.mreg.next = some x → exec .mregCommit s = .next (s.wrote stAccessDenied)) ∧
    (s.mreg.next = none → s.mreg.checked = true → s.overAdmission (s.fld Reg.MREG_WINDOW 10 0)
        ((List.range 12).map fun m => if m = 10 then 0 else s.fld (Reg.MREG_BUDGET m) 23 0) = true →
      ∃ t, exec .mregCommit s = .next t ∧ t.mreg.next = none ∧ t.mreg.err = true ∧ t.evtSet 0x9001 0 = true) ∧
    (s.mreg.next = none → s.mreg.checked = true → s.overAdmission (s.fld Reg.MREG_WINDOW 10 0)
        ((List.range 12).map fun m => if m = 10 then 0 else s.fld (Reg.MREG_BUDGET m) 23 0) = false →
      ∃ t, exec .mregCommit s = .next t ∧ t.mreg.err = false ∧ t.mreg.dAdmit = s.dFull
        ∧ t.mreg.next = some (s.fld Reg.MREG_WINDOW 10 0, s.fld Reg.MREG_CHAN_FACTOR 3 0,
            (List.range 12).map fun m => if m = 10 then 0 else s.fld (Reg.MREG_BUDGET m) 23 0)) ∧
    (s.mreg.next = none → s.mreg.checked = false → ∃ t, exec .mregCommit s = .next t ∧ t.mreg.provisional = true
      ∧ t.mreg.next.isSome = true) ∧
    (∀ v : Word, s.pageLocked Reg.MREG_EFFICIENCY = false → bits v.toNat 6 0 < 50 ∨ 90 < bits v.toNat 6 0 →
      exec (.mregEfficiencyWrite false v) s = .next (s.wrote stOutOfRange)) ∧
    (∀ v : Word, s.pageLocked Reg.MREG_EFFICIENCY = false → 50 ≤ bits v.toNat 6 0 → bits v.toNat 6 0 ≤ 90 →
      ∃ t, exec (.mregEfficiencyWrite false v) s = .next t ∧ t.reg Reg.MREG_EFFICIENCY = BitVec.ofNat 32 (bits v.toNat 6 0)) ∧
    (∀ v : Word, s.pageLocked Reg.MREG_ADMIT_PCT = false → 50 ≤ bits v.toNat 6 0 → bits v.toNat 6 0 ≤ 95 →
      ∃ t, exec (.mregEfficiencyWrite true v) s = .next t ∧ t.reg Reg.MREG_ADMIT_PCT = BitVec.ofNat 32 (bits v.toNat 6 0)) ∧
    (∃ t u : State, exec .regWindowBoundary s = .next t ∧ t = u.applyTable.applyScale.pumpAll ∧ u.mreg.counts = []
      ∧ u.dram.bytes = s.dram.bytes)

/-! ### DRAM bring-up, sensors and self-refresh (14) -/

/-- FP_TARGET_WRITE, FP_CHANGE, FP_CHANGE_DONE, TRAINING_PHASE_END, PHASE_LIMIT_EXPIRE and RECALIBRATE (R566, R567, R571 to R574, R577 to
R580, R595): under the conditions named they complete with the changes written out. A running training phase defers a change of the point. -/
def Obligations.OperatingPointAndTrainingCommands : Prop :=
  ∀ (s : State) (n : Nat),
    (∀ v : Word, s.up (chanDom 0) = true → bits v.toNat 1 0 = 3 → exec (.fpTargetWrite v) s = .next (s.wrote stOutOfRange)) ∧
    (∀ v : Word, s.up (chanDom 0) = true → bits v.toNat 1 0 ≠ 3 → ∃ t, exec (.fpTargetWrite v) s = .next t
      ∧ t.reg (Reg.DRC_FP_CTRL 0) = BitVec.ofNat 32 (bits v.toNat 1 0)) ∧
    (s.live = true → s.fpEffective ≠ s.fpNow → s.flag (Reg.DRC_FP_STATUS 0) 31 = false → s.boot.stage = .ready → s.phaseRuns = true →
      exec .fpChange s = .next (s.setFld (Reg.DRC_FP_STATUS 0) 30 30 1)) ∧
    (s.live = true → s.fpEffective ≠ s.fpNow → s.flag (Reg.DRC_FP_STATUS 0) 31 = false → s.boot.stage = .ready → s.phaseRuns = false →
      exec .fpChange s = .next ((s.chanList.foldl (fun t m =>
        if (t.chan m).state = .failed then t
        else ((t.flushWrites m fun _ => true).presentStands.filter fun k => decide (((t.flushWrites m fun _ => true).stand k).power ≤ 1)).foldl
          (fun u k => u.enterSelfRefresh m k) (t.flushWrites m fun _ => true)) s).setFld (Reg.DRC_FP_STATUS 0) 31 30 2)) ∧
    (∀ u : State, s.live = true → s.flag (Reg.DRC_FP_STATUS 0) 31 = true →
      u = ((s.setFld (Reg.DRC_FP_STATUS 0) 31 30 0).setFld (Reg.DRC_FP_STATUS 0) 1 0 s.fpEffective).raise 0xA00A
        (s.fpNow * 256 + s.fpEffective) →
      exec .fpChangeDone s = .next (s.chanList.foldl (fun t m => t.restartPass m s.fpEffective)
        (s.chanList.foldl (fun t m => t.wakeRanks m) u)).rescale.pumpAll) ∧
    (∀ l, s.live = true → s.trains n = true → s.phaseSettings n (s.trainPhase n) (s.trainPoint n) l = none →
      exec (.trainingPhaseEnd n l []) s = .next (s.trainFail n)) ∧
    (∀ l k, s.live = true → s.trains n = true → s.phaseSettings n (s.trainPhase n) (s.trainPoint n) l = some k →
      exec (.trainingPhaseEnd n l []) s
        = .next ((s.setChan n { s.chan n with settings := tabSet (fun _ => []) (s.chan n).settings (24 + s.trainPhase n) k }).phaseDone n)) ∧
    (s.live = true → s.trains n = true →
      exec (.phaseLimitExpire n) s = .next (s.trainFail n)) ∧
    (∀ r x, s.chanRuns n = true → (s.stand r).present = true → (s.rank n r).selfRefresh = false →
      ∃ t, exec (.recalibrate n r x) s = .next t ∧ (t.rank n r).calAt = s.now
        ∧ (t.rank n r).dqShift = (s.rank n r).dqShift + (if s.fld (Reg.DRC_RECAL_CFG n) 7 0 < x.natAbs then x else 0) ∧ ∀ j, j ≠ r → t.rank n j = s.rank n j)

/-- SENSOR_POLL, SENSOR_UNREADABLE, PD_IDLE_EXPIRE, SELF_REFRESH_ENTRY, SELF_REFRESH_ABORT, CLK_STOP_DELAY_EXPIRE, SELF_REFRESH_EXIT and
DIMM_OFF (R581, R584, R586 to R593): under the conditions named they complete with the changes written out. An
unreadable sensor counts as hot. -/
def Obligations.SensorAndSelfRefreshCommands : Prop :=
  ∀ (s : State) (n : Nat),
    (∀ q x l, s.up (chanDom n) = true → ((s.chan n).dimm q).present = true → (s.stand (4 * q)).power ≠ 3 →
      exec (.sensorPoll n q (x :: l) false) s = .next ((s.polled n q).dimmTemp n q (l.foldl max x))) ∧
    (∀ q, s.up (chanDom n) = true → ((s.chan n).dimm q).present = true → (s.stand (4 * q)).power ≠ 3 →
      exec (.sensorPoll n q [] false) s = .next ((s.polled n q).setFld (Reg.DRC_DIMM_TEMP n q) 31 31 0)) ∧
    (∀ q x l, s.up (chanDom n) = true → ((s.chan n).dimm q).present = true → (s.stand (4 * q)).power ≠ 3 →
      s.flag (Reg.DRC_PMIC_STATUS n q) 29 = false →
      exec (.sensorPoll n q (x :: l) true) s = .next (((s.polled n q).dimmTemp n q (l.foldl max x)).pmicFault n q)) ∧
    (∀ q, s.up (chanDom n) = true → ((s.chan n).dimm q).present = true → (s.stand (4 * q)).power ≠ 3 →
      ∃ t, exec (.sensorUnreadable n q) s = .next t ∧ t.evtSet 0xA00D n = true
        ∧ ∀ r, r < 4 → (t.rank n (4 * q + r)).hot = true) ∧
    (∀ r, s.chanRuns n = true → s.pwr.current = 1 ∨ s.pwr.current = 2 → (s.stand r).power ≤ 1 → (s.rank n r).selfRefresh = false →
      s.rankQueued n r = false → (s.sub n 0).openBanks r = [] → (s.sub n 1).openBanks r = [] → (s.rank n r).owed = 0 →
      exec (.pdIdleExpire n r) s = .next (s.setRank n r { s.rank n r with powerDown := true })) ∧
    (∀ k, s.chanRuns n = true → (s.stand k).present = true → (s.stand k).power ≤ 1 → s.standWanted k = false →
      s.boot.stage = .ready → s.sreReady n k = true → n ∈ s.chanList → n ∉ (s.stand k).sreDone →
      ∃ t u, exec (.selfRefreshEntry k n) s = .next t ∧ t = State.entryComplete u k ∧ (u.rank n k).selfRefresh = true
        ∧ (u.rank n k).owed = 0 ∧ (u.stand k).sreDone = (s.stand k).sreDone ++ [n] ∧ (u.stand k).entering = true) ∧
    (∀ k, s.live = true → (s.stand k).entering = true → s.standWanted k = true → ∃ t, exec (.selfRefreshAbort k) s = .next t
      ∧ (t.stand k).entering = false ∧ (t.stand k).sreDone = []) ∧
    (∀ q, s.up (chanDom n) = true → s.flag (Reg.DRC_SR_CFG n) 31 = true → s.flag (Reg.DRC_FP_STATUS 0) 31 = false → q < 2 →
      (∃ r, r < 4 ∧ (s.stand (4 * q + r)).present = true) → q ∉ (s.chan n).dckOff →
      (∀ r, r < 4 → (s.stand (4 * q + r)).present = true → (s.rank n (4 * q + r)).selfRefresh = true) →
      exec (.clkStopDelayExpire n q) s = .next (s.setChan n { s.chan n with dckOff := (s.chan n).dckOff ++ [q] })) ∧
    (∀ k, s.live = true → (s.stand k).present = true → (s.stand k).power = 2 → (s.stand k).exiting = false → s.standWanted k = true →
      (∀ m ∈ s.chanList, s.up (chanDom m) = true) → exec (.selfRefreshExit k) s
        = .next ((s.chanList.foldl (fun t m => t.exitSelfRefresh m k) s).setStand k { s.stand k with exiting := true })) ∧
    (∀ v : Word, s.up (chanDom 0) = true → bit v.toNat 0 = true → s.dimmMayGo 0 = false →
      exec (.dimmOff v) s = .next (s.wrote stAccessDenied)) ∧
    (s.up (chanDom 0) = true → s.dimmMayGo 0 = true → s.flag (Reg.DRC_DIMM_OFF_STATUS 0) 0 = false → (s.stand 0).present = true →
      exec (.dimmOff 1) s = .next (s.dimmGo 0).wrote)

/-! ### RAS, SRAM and thermal (15, 16, 21) -/

/-- CLOCK_MONITOR, DUP_STATE_MISMATCH, CET_CLEAR_SEL, CET_CLEAR_ALL, SCRUB_LINE, SCRUB_TARGET_REACHED, SCRUB_LEAD_REACHED, SCRUB_PASS_END,
SCRUB_PASS_LATE, SCRUB_NOW_LINE, THERMAL_SAMPLE, SENSOR_INVALID and CORE_CLOCK_RELOCK (R19, R617, R619, R623, R629, R630, R634, R726, R727, R745,
R765, R771): under the conditions named they complete with the changes written out. A late pass takes the SCRUB promise
away. -/
def Obligations.MonitorScrubAndThermalCommands : Prop :=
  ∀ s : State, s.live = true →
    (∀ i, i < 20 → ∃ t, exec (.clockMonitor i) s = .next t ∧ t.evtSet 0x0307 0 = true
      ∧ t.flag Reg.RAS_CLK_MON_STATUS i = true ∧ t.flag Reg.RAS_PROMISE_STATUS promiseConditions = false) ∧
    (∀ b, b < 32 → ∃ t, exec (.dupStateMismatch b) s = .next t ∧ t.evtSet 0x0308 0 = true ∧ t.flag Reg.RAS_DUP_STATUS b = true) ∧
    (∀ n, s.up (chanDom n) = true → ∃ t, exec (.cetClearSel n) s = .next t
      ∧ tabGet (fun _ => none) (t.chan n).cet (s.fld (Reg.DRC_CET_SEL n) 5 0) = none
      ∧ ∀ i, i ≠ s.fld (Reg.DRC_CET_SEL n) 5 0 → tabGet (fun _ => none) (t.chan n).cet i = tabGet (fun _ => none) (s.chan n).cet i) ∧
    (∀ n, s.up (chanDom n) = true → ∃ t, exec (.cetClearAll n) s = .next t ∧ (t.chan n).cet = []) ∧
    (∀ k n (e r : ReadErrs), s.scrubOn = true → (s.stand k).present = true → n ∈ s.chanList →
      tabGet (fun _ => 0) (s.scrub k).cursor n < s.standLines k →
      s.canRead 5 [s.scrubAddr k n (tabGet (fun _ => 0) (s.scrub k).cursor n)] = true →
      ∃ t, exec (.scrubLine k n e r) s = .next t
        ∧ tabGet (fun _ => 0) (t.scrub k).cursor n = tabGet (fun _ => 0) (s.scrub k).cursor n + 1) ∧
    (∀ k, s.scrubOn = true → (s.stand k).present = true → (s.stand k).power = 2 → (s.stand k).scrubVote = false → s.effective ≠ 3 →
      ∃ t, exec (.scrubTargetReached k) s = .next t ∧ (t.stand k).scrubVote = true ∧ (t.scrub k).burst = true) ∧
    (∀ k, (s.stand k).scrubVote = true → s.pwr.scrubUp = false → ∃ t, exec (.scrubLeadReached k) s = .next t
      ∧ (t.stand k).scrubVote = false ∧ (t.scrub k).burst = false) ∧
    (∀ k, s.scrubOn = true → k ∈ s.scrubStands →
      (∀ n ∈ s.chanList, s.standLines k ≤ tabGet (fun _ => 0) (s.scrub k).cursor n) →
      ∃ t, exec (.scrubPassEnd k) s = .next t ∧ t.evtSet 0xA016 0 = true ∧ (t.scrub k).passes = ((s.scrub k).passes + 1) % 65536
        ∧ (t.scrub k).cursor = []
        ∧ (t.scrub k).late = if (s.scrub k).late ≠ 2 ∧ s.now ≤ (s.scrub k).startAt + s.scrubPeriod then 0 else min 1 (s.scrub k).late) ∧
    (∀ k, s.flag Reg.RAS_SCRUB_CFG 31 = true → s.boot.stage = .ready → k ∈ s.scrubStands →
      ∃ t, exec (.scrubPassLate k) s = .next t ∧ t.evtSet 0xA017 0 = true ∧ t.flag Reg.RAS_PROMISE_STATUS promiseScrub = false) ∧
    (∀ p (e r : ReadErrs) k n i, (s.opSlot p).working opScrub = true → s.boot.brace = false → s.boot.draining = false →
      s.scrubNth (s.opSlot p) (s.opSlot p).scrubStands (s.opSlot p).cursor = some (k, n, i) → (s.stand k).power = 3 →
      exec (.scrubNowLine p e r) s = .next (s.setOp p { s.opSlot p with
        cursor := (s.opSlot p).cursor + 1, progress := (s.opSlot p).progress + 1 })) ∧
    (∀ l : List Int, l.length = 10 → s.thermal.invalid = 0x3FF → ∃ t, exec (.thermalSample l) s = .next t
      ∧ t.flag Reg.GLB_TEMP 31 = false) ∧
    (∀ (l : List Int), l.length = 10 → s.thermal.invalid = 0 → ∃ t u : State, exec (.thermalSample l) s = .next t
      ∧ t = u.junction ((List.range 10).foldl (fun m j => max m (l.getD j 0)) (l.getD 0 0))
      ∧ ∀ i, i < 10 → u.reg (Reg.GLB_TEMP_SENSOR i) = tempWord (l.getD i 0)) ∧
    (∀ i, i < 10 → s.thermal.invalid.getLsbD i = false → ∃ t, exec (.sensorInvalid i) s = .next t
      ∧ t.thermal.invalid.getLsbD i = true ∧ t.evtSet 0x0103 0 = true ∧ t.flag (Reg.GLB_TEMP_SENSOR i) 31 = false) ∧
    (s.thermal.relock = true → exec .coreClockRelock s = .next { s with thermal := { s.thermal with relock := false } })

/-- BANK_OWNER_WRITE, BANK_CLEAR_DONE, WIN_READ, WIN_WRITE, WIN_ADD, WIN_SWAP, WIN_SET, WIN_CLEAR, BIST_REGION_TEST, BIST_CYCLE_LATE and
MARCH_SRAM_DONE (R641 to R643, R646, R649 to R652, R657 to R661): under the conditions named they complete with the changes written out. The window
reaches only unlocked banks of owner MGT; on a word that is read, each command writes what its name says; a write that meets port
A's is LOST; and a command on a bank that is being cleared waits for it. -/
def Obligations.SramBankAndWindowCommands : Prop :=
  ∀ s : State, s.live = true →
    (∀ b (v : Word), ownerCode (bits v.toNat 7 0) = false → bits v.toNat 7 0 ≠ (bankReset b).owner →
      exec (.bankOwnerWrite b v) s = .next (s.wrote stOutOfRange)) ∧
    (∀ b (v : Word), ownerCode (bits v.toNat 7 0) = true → bits v.toNat 7 0 ≠ (s.bankAt b).owner → (s.bankAt b).lock = true →
      exec (.bankOwnerWrite b v) s = .next (s.wrote stAccessDenied)) ∧
    (∀ b (v : Word), ownerCode (bits v.toNat 7 0) = true → bits v.toNat 7 0 ≠ (s.bankAt b).owner →
      s.ownRefused b (bits v.toNat 7 0) (bits v.toNat 23 16) = false → bit v.toNat 29 = true →
      ∃ t, exec (.bankOwnerWrite b v) s = .next t ∧ (t.bankAt b).owner = bits v.toNat 7 0 ∧ (t.bankAt b).index = bits v.toNat 23 16
        ∧ (t.bankAt b).busy = true ∧ ∀ e ∈ t.sram.words, e.1 / 2 ^ 17 ≠ b) ∧
    (∀ b, (s.bankAt b).busy = true → s.sram.winWait = none → ∃ t, exec (.bankClearDone b) s = .next t ∧ (t.bankAt b).busy = false
      ∧ ∀ c, c ≠ b → t.bankAt c = s.bankAt c) ∧
    (∀ op, (s.bankAt s.winBank).busy = true → s.sram.winWait = some op → ∃ u : State,
      exec (.bankClearDone s.winBank) s = .next (u.winRun s.winBank s.winAddr 0 0 op none) ∧ (u.bankAt s.winBank).busy = false
        ∧ u.sram.winWait = none) ∧
    (∀ x y : BitVec 80, s.sram.winWait = none → 368 ≤ s.winBank ∨ (s.bankAt s.winBank).owner ≠ ownMgt ∨ (s.bankAt s.winBank).lock = true →
      ∀ c ∈ ([.winRead x y none, .winWrite none, .winAdd x y none, .winSwap x y none, .winSet x y none, .winClear x y none] : List Instr),
        exec c s = .next (s.winEnd stAccessDenied)) ∧
    (∀ (b w : Nat) (v : DWord), b = s.winBank → w = s.winAddr → v = s.winData → s.sram.winWait = none → b < 368 →
      (s.bankAt b).owner = ownMgt → (s.bankAt b).lock = false → w < bankWords b → s.up (29 + bankGroup b) = true →
      ((s.bankAt b).busy = true → ∃ t, exec (.winWrite none) s = .next t ∧ t.flag Reg.SRM_WIN_STATUS 31 = true
        ∧ t.sram.winWait = some (.write v) ∧ t.sram.words = s.sram.words) ∧
      ((s.bankAt b).busy = false →
        (∀ (x y : BitVec 80) u r, s.readWord b w x y = (u, .ok r) →
          exec (.winRead x y none) s = .next ((u.setWinData r).winEnd stOK)) ∧
        (∀ (x y : BitVec 80) u k, s.readWord b w x y = (u, .error k) → exec (.winRead x y none) s = .next (u.winEnd k)) ∧
        exec (.winWrite none) s = .next ((s.setWord b w { data := v }).winEnd stOK) ∧
        (∀ x f, exec (.winWrite (some { op := .write x, first := f })) s
          = .next (((s.setWord b w { data := x }).lostWrite b w).winEnd stRetry)) ∧
        (bankLarge b = false → ∀ (x y : BitVec 80) u r, s.readWord b w x y = (u, .ok r) →
          exec (.winAdd x y none) s
            = .next ((((u.setWord b w { data := BitVec.ofNat 64 r + v }).srmCount 8 1).setWinData r).winEnd stOK) ∧
          exec (.winSwap x y none) s = .next ((((u.setWord b w { data := v }).srmCount 8 1).setWinData r).winEnd stOK)) ∧
        (bankLarge b = true → ∀ (x y : BitVec 80) u r, s.readWord b w x y = (u, .ok r) →
          exec (.winSet x y none) s = .next (((u.setWord b w { data := BitVec.ofNat 64 r ||| v }).srmCount 9 1).winEnd stOK) ∧
          exec (.winClear x y none) s
            = .next (((u.setWord b w { data := BitVec.ofNat 64 r &&& ~~~v }).srmCount 9 1).winEnd stOK)))) ∧
    (∀ b r, s.flag Reg.SRM_CTRL 0 = true → s.nextTest 369 s.sram.bistBank s.sram.bistRegion = some (b, r) →
      ∃ t u : State, exec (.bistRegionTest [] 0 0 false) s = .next t ∧ u.sram.bistBank = b ∧ u.sram.bistRegion = r + 1
        ∧ (t = u ∨ t = u.cycleEnds) ∧ u.sram.words = s.sram.words) ∧
    (s.flag Reg.SRM_CTRL 0 = true → s.nextTest 369 s.sram.bistBank s.sram.bistRegion = none →
      exec (.bistRegionTest [] 0 0 false) s = .next s.cycleEnds) ∧
    (s.flag Reg.SRM_CTRL 0 = true → ∃ t, exec .bistCycleLate s = .next t ∧ t.evtSet 0xC006 0 = true
      ∧ t.flag Reg.RAS_PROMISE_STATUS promiseSramTest = false) ∧
    (∀ p, (s.opSlot p).code = opMarch → (s.opSlot p).state = .running → (s.opSlot p).cursor = 0 →
      bit (s.opSlot p).arg1.toNat 0 = true → exec (.marchSramDone p false) s
        = .next (s.setOp p { s.opSlot p with cursor := 1, progress := bankWords (bits (s.opSlot p).arg0.toNat 8 0) }))

/-! ### Power (19, 20) -/

/-- DOMAIN_POWER_UP, DOMAIN_UP, DOMAIN_WAKE_TIMEOUT, DOMAIN_HYSTERESIS_EXPIRE, DOMAIN_POWER_DOWN_DONE, PWR_VOTE_WRITE and CLOCK_IDLE_GATE
(R716, R718, R720, R724, R742 to R745): under the conditions named they complete with the changes written out. A domain that does not report Up in
its limit is tried once more and then has failed. -/
def Obligations.DomainPowerCommands : Prop :=
  ∀ (s : State) (d : Nat), s.live = true →
    (1 ≤ d → d ≤ 36 → (s.dom d).resting = true → s.wanted d = true → s.pwr.exiting = none →
      exec (.domainPowerUp d) s = .next (s.powerUp d)) ∧
    (s.wanted d = false → exec (.domainPowerUp d) s = .next s) ∧
    (∀ ok, (s.dom d).state = .poweringUp → (s.dom d).again = false → (s.dom d).implicit = false →
      ((pllsOf d).all fun p => s.pll p == .locked) = true → exec (.domainUp d ok) s
        = .next (((s.setDom d { s.dom d with state := .up, again := false, implicit := false }).domainReady d ok).resumeDomain d)) ∧
    ((s.dom d).state = .poweringUp → (s.dom d).again = false → ∃ t, exec (.domainWakeTimeout d) s = .next t
      ∧ (t.dom d).state = .poweringUp ∧ (t.dom d).again = true ∧ ∀ e, e ≠ d → t.dom e = s.dom e) ∧
    ((s.dom d).state = .poweringUp → (s.dom d).again = true → exec (.domainWakeTimeout d) s = .next (s.failDomain d 1)) ∧
    (1 ≤ d → d ≤ 36 → s.inHyst d = true → exec (.domainHysteresisExpire d) s = .next (s.dropDomain d)) ∧
    ((s.dom d).state = .poweringDown → ∃ t u, exec (.domainPowerDownDone d) s = .next t ∧ t = State.loseState u d
      ∧ (u.dom d).state = .off ∧ (∀ a, lostReg d a = true → u.reg a = resetOf a)
      ∧ ∀ a, lostReg d a = false → u.reg a = s.reg a) ∧
    (∀ v : Word, 1 ≤ d → d ≤ 36 → s.domFailed d = false → s.chanAbsent d = false → ∃ t, exec (.pwrVoteWrite false d v) s = .next t
      ∧ t.fld (Reg.PWR_VOTE d) 31 24 = bits v.toNat 31 24 ∧ ∀ a, a ≠ Reg.PWR_VOTE d → t.reg a = s.reg a) ∧
    (∀ v : Word, d < 8 → ∃ t, exec (.pwrVoteWrite true d v) s = .next t
      ∧ t.fld (Reg.PWR_STAND_VOTE d) 31 24 = bits v.toNat 31 24) ∧
    (1 ≤ d → d ≤ 28 → s.up d = true → 1 ≤ s.pwr.current → s.work' d = false →
      exec (.clockIdleGate d) s = .next (s.setDom d { s.dom d with clockGated := true }))

/-- PWR_REQ_WRITE, IDLE_DROWSY_EXPIRE, IDLE_DORMANT_EXPIRE, ALARM, ENTRY_QUIESCED, ENTRY_SAVED, ENTRY_DRAM_DONE, POINT_OF_NO_RETURN, ENTRY_DONE,
ENTRY_LIMIT_EXPIRE, OFF_REQUEST, OFF_SESSIONS_ENDED and EXIT_WAVE (R725 to R730, R733, R736, R739, R740): under the conditions named they complete with
the changes written out. -/
def Obligations.PowerStateCommands : Prop :=
  ∀ s : State, s.live = true →
    (∀ v : Word, s.fld Reg.PWR_REQ 2 0 ≠ 4 → 4 < bits v.toNat 2 0 → exec (.pwrReqWrite v) s = .next (s.wrote stOutOfRange)) ∧
    (∀ v : Word, s.fld Reg.PWR_REQ 2 0 ≠ 4 → bits v.toNat 2 0 < s.effective → s.effective ≤ 4 → ∃ t u : State, exec (.pwrReqWrite v) s = .next t
      ∧ t = (u.wakeEvent 4).wrote ∧ u.fld Reg.PWR_REQ 2 0 = bits v.toNat 2 0 ∧ u.reg Reg.PWR_RESULT = 0) ∧
    (s.flag Reg.PWR_AUTO 31 = true → s.pwr.auto < 2 → exec .idleDrowsyExpire s = .next (s.autoDepth 2)) ∧
    (s.flag Reg.PWR_AUTO 31 = true → s.pwr.auto < 3 → exec .idleDormantExpire s = .next (s.autoDepth 3)) ∧
    (s.flag Reg.PWR_WAKE_CFG 1 = true → s.pwr.alarmDone = false →
      (s.reg Reg.PWR_ALARM_SEC_LO).toNat + 2 ^ 32 * s.fld Reg.PWR_ALARM_SEC_HI 15 0 ≤ s.time.sec →
      exec .alarm s = .next (({ s with pwr := { s.pwr with alarmDone := true } } : State).wakeEvent 2)) ∧
    (∀ e, s.pwr.entering = some e → s.pwr.ap = 1 →
      (∀ d ∈ s.dropping e, s.hwVotes d % 512 - 2 * bitNat (s.stateVote d) = 0 ∧ s.mgrVotes d = 0) →
      (e = 3 → ∀ g, g < 8 → s.hwVotes (29 + g) - 2 * bitNat (s.stateVote (29 + g)) - 4 * bitNat (s.depVote g) = 0) →
      exec .entryQuiesced s = .next { s with pwr := { s.pwr with ap := 2 } }) ∧
    (s.pwr.entering = some 2 → s.pwr.ap = 2 → exec .entrySaved s = .next { s with pwr := { s.pwr with ap := 3 } }) ∧
    (s.pwr.entering = some 3 → s.pwr.ap = 2 → ∃ t, exec .entrySaved s = .next t ∧ t.pwr.ap = 3
      ∧ t.tier.saved = true) ∧
    (∀ e, s.pwr.entering = some e → s.pwr.ap = 3 → (e = 2 → s.fpNow = s.fpEffective) →
      (e ≠ 2 → ∀ k ∈ s.presentStands, 2 ≤ (s.stand k).power) →
      exec .entryDramDone s = .next ((s.dropping e).foldl (fun u d => u.setDom d { u.dom d with clockGated := true })
        { s with pwr := { s.pwr with ap := 4 } })) ∧
    (s.pwr.entering = some 2 → s.pwr.ap = 4 →
      exec .pointOfNoReturn s = .next ((s.dropping 2).foldl (fun u d => if (u.dom d).state = .up then u.powerDown d else u)
        { s with pwr := { s.pwr with ap := 5 } })) ∧
    (s.pwr.entering = some 3 → s.pwr.ap = 4 → ∃ t, exec .pointOfNoReturn s = .next t ∧ t.pwr.ap = 5) ∧
    (∀ e, s.pwr.entering = some e → s.pwr.ap = 5 → s.pwr.wakeAfter = false →
      (allDoms.all fun d => s.inSet e d || (s.dom d).resting || (s.dom d).state == .failed) = true →
      ∃ t, exec .entryDone s = .next t ∧ t.pwr.current = e ∧ t.pwr.entering = none ∧ t.evtSet 0x0401 0 = true) ∧
    (∀ e, s.pwr.entering = some e → s.pwr.ap = 1 ∨ s.pwr.ap = 2 → ∃ t, exec .entryLimitExpire s = .next t ∧ t.pwr.entering = none
      ∧ t.reg Reg.PWR_RESULT = 0x80000004 ∧ t.evtSet 0x0402 0 = true ∧ t.evtSet 0x0403 0 = true
      ∧ (s.fld Reg.PWR_REQ 2 0 < e → t.pwr.auto = 0)) ∧
    (s.fld Reg.PWR_REQ 2 0 = 4 → s.pwr.offWait = false → exec .offRequest s = .next (s.liveClients.foldl (fun t c => t.sendClose c 5)
      (({ s with pwr := { s.pwr with offWait := true } } : State).raise 0x0407))) ∧
    (∀ timeout, s.pwr.offWait = true → timeout = true ∨ s.liveClients = [] → s.intake.linkWrite = none →
      ∃ t, exec (.offSessionsEnded timeout) s = .next t ∧ t.pwr.offWait = false
        ∧ t.intake.linkWrite = some { addr := Reg.INT_CTRL, value := s.reg Reg.INT_CTRL ||| 0x40 }) ∧
    (s.pwr.exiting = some 2 → ∃ t, exec .exitWave s = .next t ∧ t.pwr.exiting = some 3
      ∧ t = { (s.waveDoms 2).foldl (fun t d => t.powerUp d) s with
          pwr := { ((s.waveDoms 2).foldl (fun t d => t.powerUp d) s).pwr with exiting := some 3 } }) ∧
    (s.pwr.exiting = some 4 → (allDoms.all fun d => decide (29 ≤ d) || !s.inSet s.effective d || s.chanAbsent d
        || (s.dom d).state == .up || (s.dom d).state == .failed) = true →
      ∃ t, exec .exitWave s = .next t ∧ t.pwr.current = s.effective ∧ t.pwr.exiting = none ∧ t.evtSet 0x0401 0 = true)

/-! ### Relocation, resizing and the fleet (21, 22) -/

/-- THINNING_RUN, DRAIN_STAND_MOVE, THIN_STAND_MOVE, MIGRATE_TIER_PAGE, RESIZE_REGION_STEP and RETIRE_STEP (R449 to R451, R750 to R753):
while no clock relocks and under the conditions named they complete with the changes written out, where an agent that finds its
page's descriptor at once does what `go` says. Each works while its operation is Running and its page is
neither pinned in the cache nor on a move already. -/
def Obligations.RelocationAndResizeCommands : Prop :=
  ∀ (s : State) (p r g : Nat) (e : ReadErrs), s.thermal.relock = false → s.up 8 = true → s.boot.brace = false → s.boot.draining = false →
    (s.thinOn = true → s.dcPinned r g = false → s.moveOf r g = none →
      ∃ t go, exec (.thinningRun r g [e]) s = .next t ∧ t = s.agent agentMover r g 3 e go (fun t _ => t)
        ∧ ∀ u d, Desc.movable d = false → go u d = u) ∧
    (∀ k, k = bits (s.opSlot p).arg0.toNat 2 0 → (s.opSlot p).working opDrain = true → s.moverOn = true → s.dcPinned r g = false →
      s.moveOf r g = none → ∃ t go, exec (.drainStandMove p r g [e]) s = .next t ∧ t = s.agent agentMover r g 3 e go (fun t _ => t)
        ∧ (∀ u d, Desc.movable d = false → go u d = u) ∧ (∀ u d, slotStand (Desc.priSlot d) ≠ k → go u d = u)
        ∧ ∀ u d, Desc.movable d = true → Desc.poison d = false → slotStand (Desc.priSlot d) = k →
          State.bestStand u (fun j => j != k && u.role j == u.role k && decide (d.slotsHeld ≤ u.freeOf j)) = none →
          go u d = u.opFail p rcNoSpace 0) ∧
    ((s.opSlot p).working opThin = true → s.dcPinned r g = false → s.moveOf r g = none →
      ∃ t go, exec (.thinStandMove p r g [e]) s = .next t ∧ t = s.agent agentMover r g 3 e go (fun t _ => t)
        ∧ ∀ u d, Desc.movable d = false → go u d = u) ∧
    ((s.opSlot p).working opMigrate = true → s.moverOn = true → (s.opSlot p).cursor < s.migrateCount (s.opSlot p) →
      s.dcPinned (s.opSlot p).region ((s.opSlot p).migrateFirst + (s.opSlot p).cursor) = false →
      s.moveOf (s.opSlot p).region ((s.opSlot p).migrateFirst + (s.opSlot p).cursor) = none →
      exec (.migrateTierPage p [e]) s = .next (s.agent agentMover (s.opSlot p).region ((s.opSlot p).migrateFirst + (s.opSlot p).cursor) 3 e
        (fun t d => t.migrateStep p (s.opSlot p).region ((s.opSlot p).migrateFirst + (s.opSlot p).cursor)
          (bits (s.opSlot p).arg0.toNat 19 16) d []) (fun t _ => t.migrateNext p 0))) ∧
    (∀ n, n = (s.region (s.opSlot p).region).pageCount → (s.opSlot p).working opResize = true → (s.opSlot p).begun = true →
      (s.opSlot p).cursor < (s.opSlot p).total → (s.opSlot p).newCount < n → s.tracked (s.opSlot p).region (n - 1) = false →
      exec (.resizeRegionStep p e) s = .next (s.agent (agentOp p) (s.opSlot p).region (n - 1) 11 e (fun t d => t.shrinkOne p (n - 1) d)
        (fun t _ => t.shrinkOne p (n - 1) {}))) ∧
    (∀ n, n = (s.region (s.opSlot p).region).pageCount → (s.opSlot p).working opResize = true → (s.opSlot p).begun = true →
      (s.opSlot p).cursor < (s.opSlot p).total → n ≤ (s.opSlot p).newCount → 2048 * descPlots n < (s.opSlot p).newCount →
      s.memoryOpen (slotStand (s.region (s.opSlot p).region).descBase) = true →
      exec (.resizeRegionStep p e) s = .next (s.growBeyond p)) ∧
    ((s.opSlot p).working opRetire = true → (s.opSlot p).begun = true → (s.opSlot p).kind ≠ 2 → (s.opSlot p).cursor = 0 →
      exec (.retireStep p r g [e]) s = .next (s.retireEntry p)) ∧
    ((s.opSlot p).working opRetire = true → (s.opSlot p).begun = true → (s.opSlot p).kind = 2 → (s.opSlot p).cursor = 0 →
      s.up (29 + bankGroup (s.opSlot p).sramRegion.1) = true → exec (.retireStep p r g [e]) s = .next (s.retireSram p)) ∧
    ((s.opSlot p).working opRetire = true → (s.opSlot p).begun = true → (s.opSlot p).kind ≠ 2 → (s.opSlot p).cursor ≠ 0 →
      s.moverOn = true → s.dcPinned r g = false → s.moveOf r g = none →
      exec (.retireStep p r g [e]) s = .next (s.agent agentMover r g 3 e (fun t d => t.retireMove p r g d []) (fun t _ => t)))

/-- IMPORT_OPEN, HELLO_ACK_RECEIVE, EVAC_SEND, EVAC_DATA, EVAC_ACK and IMPORT_CLOSE (R15, R230, R494, R754 to R759): while no clock relocks and
under the conditions named they complete with the changes written out. An import without an installed key fails with PeerUnreachable; an EvacData that no import asked for is
answered OutOfRange, and one outside its region too. -/
def Obligations.FleetCommands : Prop :=
  ∀ (s : State) (p : Nat), s.thermal.relock = false → s.up 5 = true →
    ((s.opSlot p).working opImport = true → (s.opSlot p).begun = true → (s.opSlot p).cursor = 0 →
      (s.ctx (s.importCtx (s.opSlot p))).key0.valid = false → ∃ t u, exec (.importOpen p) s = .next t
        ∧ t = State.opFail u p rcPeerUnreachable 0 ∧ u.evtSet 0x020D 0 = true) ∧
    (∀ x, x = s.ctx (s.importCtx (s.opSlot p)) → (s.opSlot p).working opImport = true → (s.opSlot p).begun = true →
      (s.opSlot p).cursor = 0 → x.enable = true → x.peer = true → x.key0.valid = true → x.sess.bound = false → x.sweeping = false →
      s.hasIp (s.peerMacNo (s.opSlot p).peerEntry) (s.peerV6 (s.opSlot p).peerEntry) = true →
      exec (.importOpen p) s = .next ((s.setOp p { s.opSlot p with cursor := 1 }).openPeer (s.opSlot p).peerEntry)) ∧
    (∀ m e u hdr box, s.boot.answers = true → s.takeKct m = some (e, u) → e.frame.body = .kct hdr box → hdr.type.toNat = tHelloAck →
      ((u.sess (u.ctxOf hdr box)).initiator = false →
        exec (.helloAckReceive m) s = .next (u.sequenced m e.frame hdr box true
          (fun x k => x.errorResp k hdr.epoch hdr.msgId tHelloAck (if hdr.channel ≠ 0 then 2 else 7) 0))) ∧
      (∀ k, (u.sess (u.ctxOf hdr box)).initiator = true → (u.sess (u.ctxOf hdr box)).opening = true →
        u.checkSeg (u.ctxOf hdr box) e.frame hdr box = .drop k → exec (.helloAckReceive m) s = .next (u.dropSeg k)) ∧
      (∀ k, (u.sess (u.ctxOf hdr box)).initiator = true → (u.sess (u.ctxOf hdr box)).opening = true →
        u.checkSeg (u.ctxOf hdr box) e.frame hdr box = .good k → exec (.helloAckReceive m) s
          = .next (((u.cryCount 5 1).verified (u.ctxOf hdr box) m e.frame hdr true).takeHelloAck (u.ctxOf hdr box) k hdr box.plain))) ∧
    (∀ (e : ReadErrs) l r, r = (s.opSlot p).region → s.up 8 = true → (s.opSlot p).working opEvacuate = true → (s.opSlot p).begun = true →
      s.evacSession (s.opSlot p).evacClient = true → (s.opSlot p).sent.length < (s.opSlot p).evacWindow → (s.opSlot p).again = [] →
      (s.opSlot p).cursor < (s.region r).pageCount → s.boot.brace = false → s.boot.draining = false →
      s.tracked r (s.opSlot p).cursor = false →
      l = ({ lane := 0, dlane := 16, stream := [], fault := false, dfault := false, again := false } : EvacLanes) →
      exec (.evacSend p 0 16 [] false false false [e]) s = .next (s.agent (agentOp p) r (s.opSlot p).cursor 3 e
        (fun t d => t.evacPage p (s.opSlot p).cursor false false d l [])
        (fun t _ => t.evacOut p (s.opSlot p).cursor false {} false evacPoison))) ∧
    (∀ (e : ReadErrs) m, s.kct.delivered.find? (·.type == tEvacData) = some m →
      exec (.evacData 0 16 [] false false false 0 true false true e) s = .next (((s.crcFail 4).dropMsg m).evacAck m stInternalFault)) ∧
    (∀ (e : ReadErrs) m, s.kct.delivered.find? (·.type == tEvacData) = some m →
      (∀ i, i < 32 → (s.opSlot i).code ≠ opImport) → exec (.evacData 0 16 [] false false false 0 true false false e) s
        = .next ((s.dropMsg m).evacAck m stOutOfRange)) ∧
    (∀ (e : ReadErrs) m i, s.kct.delivered.find? (·.type == tEvacData) = some m → s.up 8 = true → s.up 11 = true →
      opSlots.find? (fun i => (s.opSlot i).code == opImport && (s.opSlot i).region == beAt m.body 0 2 && (s.opSlot i).begun
        && (s.opSlot i).state.active && s.importCtx (s.opSlot i) == m.client) = some i →
      ((s.opSlot i).state ≠ .running → exec (.evacData 0 16 [] false false false 0 true false false e) s
        = .next ((s.dropMsg m).evacAck m stBusy)) ∧
      ((s.opSlot i).state = .running → (s.region (beAt m.body 0 2)).pageCount ≤ beAt m.body 4 8 % 2 ^ 34 →
        exec (.evacData 0 16 [] false false false 0 true false false e) s = .next ((s.dropMsg m).evacAck m stOutOfRange)) ∧
      ((s.opSlot i).state = .running → beAt m.body 4 8 % 2 ^ 34 < (s.region (beAt m.body 0 2)).pageCount → s.boot.brace = false →
        s.tracked (beAt m.body 0 2) (beAt m.body 4 8 % 2 ^ 34) = false → s.engineFree 0 = true → beAt m.body 2 1 = 3 →
        s.lanesReady false { lane := 0, dlane := 16, stream := [], fault := false, dfault := false, again := false } = true →
        ∃ t go, exec (.evacData 0 16 [] false false false 0 true false false e) s = .next t
          ∧ t = s.agent (agentOp i) (beAt m.body 0 2) (beAt m.body 4 8 % 2 ^ 34) 3 e go (fun t _ => (t.dropMsg m).evacAck m stUncorrectable))) ∧
    (∀ m, s.kct.delivered.find? (·.type == tEvacAck) = some m → (∀ i, i < 32 → (s.opSlot i).code ≠ opEvacuate) →
      exec .evacAck s = .next (s.dropMsg m)) ∧
    (∀ m i page raw, s.kct.delivered.find? (·.type == tEvacAck) = some m →
      opSlots.findSome? (fun i => if (s.opSlot i).code == opEvacuate && (s.opSlot i).state.active && (s.opSlot i).evacClient == m.client then
        ((s.opSlot i).sent.find? fun x => x.2.1 == m.msgId).map fun x => (i, x.1, x.2.2) else none) = some (i, page, raw) →
      exec .evacAck s = .next ((s.dropMsg m).evacAnswer i page raw m.status)) ∧
    ((s.opSlot p).code = opImport → (s.opSlot p).cursor = 1 → (s.opSlot p).state = .running →
      (s.sess (s.importCtx (s.opSlot p))).initiator = true → (s.sess (s.importCtx (s.opSlot p))).closeGot = true →
      (s.sess (s.importCtx (s.opSlot p))).closeReason = 0 →
      (∀ m ∈ s.kct.delivered, m.type = tEvacData → m.client ≠ s.importCtx (s.opSlot p)) → exec (.importClose p) s
        = .next ((s.setFld (Reg.MGT_PEER_STATUS (s.opSlot p).peerEntry) 31 28 0).opDone' p rcSuccess 0))

/-! ### Rules stated whole, and the word code -/

/-- R489, whole: Commit is refused for class 0 or a Loaded class (AccessDenied), and where no part is staged or the staged code
table breaks R487 (OutOfRange); a refused Commit raises 0x7005 and leaves the class as it was; any other loads the class with the
staged parts, and its CRC is the CRC-32C of the codes followed by the dictionary. -/
def Obligations.ClassCommitLoadsOrRefuses : Prop :=
  ∀ (s : State) (c : Nat), s.thermal.relock = false → s.up 9 = true → s.cmp.unloading = none → c = s.fld Reg.CMP_CLS_SEL 3 0 →
    (c = 0 ∨ (s.classOf? c).loaded = true ∨ s.stagedParts = (none, none) ∨ (∃ l, s.stagedParts.1 = some l ∧ codeTableOk l = false) →
      ∃ t, exec .classCommit s = .next t ∧ t.cmp.classes = s.cmp.classes ∧ t.evtSet 0x7005 0 = true
        ∧ (t.cmp.clsCode = stAccessDenied ∧ (c = 0 ∨ (s.classOf? c).loaded = true)
          ∨ t.cmp.clsCode = stOutOfRange
            ∧ (s.stagedParts = (none, none) ∨ ∃ l, s.stagedParts.1 = some l ∧ codeTableOk l = false))) ∧
    (c ≠ 0 → (s.classOf? c).loaded = false → s.stagedParts ≠ (none, none) → (∀ l, s.stagedParts.1 = some l → codeTableOk l = true) →
      ∃ t, exec .classCommit s = .next t ∧ t.cmp.clsCode = stOK ∧ (t.classOf? c).loaded = true
        ∧ (t.classOf? c).codes = s.stagedParts.1 ∧ (t.classOf? c).dict = s.stagedParts.2
        ∧ (t.classOf? c).crc = crc32c (s.stagedParts.1.getD [] ++ s.stagedParts.2.getD [])
        ∧ ∀ d, d ≠ c → t.classOf? d = s.classOf? d)

/-- R599, whole: the poison pattern has DATA 0, TAG 0, CHECK 0x3FFF and P 0; no data word and tag are encoded as it; and it is reported
POISONED, with any one further bit error too. -/
def Obligations.PoisonPatternIsNoCodeword : Prop :=
  wordData poisonWord = 0 ∧ wordTag poisonWord = false ∧ bits poisonWord 13 0 = 0x3FFF ∧ Nat.testBit poisonWord 79 = false
    ∧ (∀ (d : Nat) (tag : Bool), encodeWord d tag ≠ poisonWord)
    ∧ wordStatus poisonWord = .poisoned ∧ ∀ j, j < 80 → wordStatus (poisonWord ^^^ 2 ^ j) = .poisoned

/-- The word code corrects any one or two errored bits among the 80 (R596 to R598): an encoded word reads CLEAN with its data and
tag, and with one or two of its bits inverted the decoder inverts exactly those and gives the encoded word back. -/
def Obligations.WordCodeCorrectsOneAndTwoBitErrors : Prop :=
  ∀ (d : DWord) (tag : Bool) (w : Nat), w = encodeWord d.toNat tag →
    (wordStatus w = .clean ∧ wordData w = d.toNat ∧ wordTag w = tag) ∧
    (∀ i, i < 80 → (∃ l, wordStatus (w ^^^ 2 ^ i) = .corrected l) ∧ fixWord (w ^^^ 2 ^ i) (wordStatus (w ^^^ 2 ^ i)) = w) ∧
    (∀ i j, i < j → j < 80 → (∃ l, wordStatus (w ^^^ 2 ^ i ^^^ 2 ^ j) = .corrected l)
      ∧ fixWord (w ^^^ 2 ^ i ^^^ 2 ^ j) (wordStatus (w ^^^ 2 ^ i ^^^ 2 ^ j)) = w)
end

