-- ==== Sys2Proof/Laws/Tab.lean ====
section
/-! SUPPORT. Laws of the sparse tables: a read after a write, for any table, and the canonical form that every write
keeps. -/

namespace Sys2Proof.Machine

theorem tabGet_tabDel_same {α : Type} (d : Nat → α) (t : Tab α) (a : Nat) : tabGet d (tabDel t a) a = d a := by
  induction t with
  | nil => rfl
  | cons e r ih =>
    obtain ⟨k, v⟩ := e
    by_cases h : k = a
    · simpa [tabDel, h] using ih
    · have h' : a ≠ k := fun x => h x.symm
      simpa [tabDel, h, tabGet, h'] using ih

theorem tabGet_tabDel_ne {α : Type} (d : Nat → α) (t : Tab α) {a b : Nat} (hb : b ≠ a) :
    tabGet d (tabDel t a) b = tabGet d t b := by
  induction t with
  | nil => rfl
  | cons e r ih =>
    obtain ⟨k, v⟩ := e
    by_cases h : k = a
    · subst h
      simpa [tabDel, tabGet, hb] using ih
    · by_cases hk : b = k
      · simp [tabDel, h, tabGet, hk]
      · simpa [tabDel, h, tabGet, hk] using ih

theorem tabGet_tabIns_same {α : Type} (d : Nat → α) (t : Tab α) (a : Nat) (v : α) (h : ∀ e ∈ t, e.1 ≠ a) :
    tabGet d (tabIns a v t) a = v := by
  induction t with
  | nil => simp [tabIns, tabGet]
  | cons e r ih =>
    obtain ⟨k, w⟩ := e
    have hk : a ≠ k := fun x => h (k, w) (by simp) x.symm
    by_cases hlt : a < k
    · simp [tabIns, hlt, tabGet]
    · simpa [tabIns, hlt, tabGet, hk] using ih (fun e he => h e (by simp [he]))

theorem tabGet_tabIns_ne {α : Type} (d : Nat → α) (t : Tab α) {a b : Nat} (v : α) (hb : b ≠ a) :
    tabGet d (tabIns a v t) b = tabGet d t b := by
  induction t with
  | nil => simp [tabIns, tabGet, hb]
  | cons e r ih =>
    obtain ⟨k, w⟩ := e
    by_cases hlt : a < k
    · simp [tabIns, hlt, tabGet, hb]
    · by_cases hk : b = k
      · simp [tabIns, hlt, tabGet, hk]
      · simpa [tabIns, hlt, tabGet, hk] using ih

theorem tabDel_ne {α : Type} (t : Tab α) (a : Nat) : ∀ e ∈ tabDel t a, e.1 ≠ a := by
  intro e he
  simpa [tabDel] using (List.mem_filter.mp he).2

/-- A read of the key just written gives the value written. -/
@[simp] theorem tabGet_tabSet_same {α : Type} [DecidableEq α] (d : Nat → α) (t : Tab α) (a : Nat) (v : α) :
    tabGet d (tabSet d t a v) a = v := by
  by_cases h : v = d a
  · simp [tabSet, h, tabGet_tabDel_same]
  · simp [tabSet, h, tabGet_tabIns_same _ _ _ _ (tabDel_ne t a)]

/-- A write leaves every other key as it was. -/
theorem tabGet_tabSet_ne {α : Type} [DecidableEq α] (d : Nat → α) (t : Tab α) {a b : Nat} (v : α) (hb : b ≠ a) :
    tabGet d (tabSet d t a v) b = tabGet d t b := by
  by_cases h : v = d a
  · simp [tabSet, h, tabGet_tabDel_ne d t hb]
  · simp [tabSet, h, tabGet_tabIns_ne d _ v hb, tabGet_tabDel_ne d t hb]

/-- A read after a write, by cases. -/
theorem tabGet_tabSet {α : Type} [DecidableEq α] (d : Nat → α) (t : Tab α) (a b : Nat) (v : α) :
    tabGet d (tabSet d t a v) b = if b = a then v else tabGet d t b := by
  by_cases h : b = a
  · subst h; simp
  · simp [h, tabGet_tabSet_ne d t v h]

/-- Whether `k` lies above a lower bound. -/
def aboveBound (b : Option Nat) (k : Nat) : Bool :=
  match b with
  | none => true
  | some x => decide (x < k)

theorem tabWfFrom_cons {α : Type} [DecidableEq α] (d : Nat → α) (b : Option Nat) (k : Nat) (v : α) (r : Tab α) :
    tabWfFrom d b ((k, v) :: r) = (aboveBound b k && decide (v ≠ d k) && tabWfFrom d (some k) r) := by
  cases b <;> rfl

theorem tabWfFrom_weaken {α : Type} [DecidableEq α] (d : Nat → α) (b c : Option Nat) (t : Tab α)
    (hbc : ∀ k, aboveBound b k = true → aboveBound c k = true) (h : tabWfFrom d b t = true) : tabWfFrom d c t = true := by
  cases t with
  | nil => rfl
  | cons e r =>
    obtain ⟨k, v⟩ := e
    simp only [tabWfFrom_cons, Bool.and_eq_true] at h ⊢
    exact ⟨⟨hbc k h.1.1, h.1.2⟩, h.2⟩

theorem tabWfFrom_tabDel {α : Type} [DecidableEq α] (d : Nat → α) (t : Tab α) (a : Nat) :
    ∀ b, tabWfFrom d b t = true → tabWfFrom d b (tabDel t a) = true := by
  induction t with
  | nil => intro b _; rfl
  | cons e r ih =>
    obtain ⟨k, v⟩ := e
    intro b h
    rw [tabWfFrom_cons, Bool.and_eq_true, Bool.and_eq_true] at h
    by_cases hk : k = a
    · have h2 : tabWfFrom d b r = true := by
        refine tabWfFrom_weaken d (some k) b r (fun j hj => ?_) h.2
        have hkj : k < j := by simpa [aboveBound] using hj
        cases b with
        | none => rfl
        | some x =>
          have hxk : x < k := by simpa [aboveBound] using h.1.1
          simp [aboveBound]; omega
      simpa [tabDel, hk] using ih b h2
    · have e1 : tabDel ((k, v) :: r) a = (k, v) :: tabDel r a := by simp [tabDel, hk]
      rw [e1, tabWfFrom_cons, Bool.and_eq_true, Bool.and_eq_true]
      exact ⟨h.1, ih (some k) h.2⟩

theorem tabWfFrom_tabIns {α : Type} [DecidableEq α] (d : Nat → α) (a : Nat) (v : α) (hv : v ≠ d a) (t : Tab α) :
    ∀ b, aboveBound b a = true → (∀ e ∈ t, e.1 ≠ a) → tabWfFrom d b t = true → tabWfFrom d b (tabIns a v t) = true := by
  induction t with
  | nil => intro b hb _ _; simp [tabIns, tabWfFrom_cons, hb, hv]; rfl
  | cons e r ih =>
    obtain ⟨k, w⟩ := e
    intro b hb hne h
    rw [tabWfFrom_cons, Bool.and_eq_true, Bool.and_eq_true] at h
    have hk : k ≠ a := hne (k, w) (by simp)
    by_cases hlt : a < k
    · have e1 : tabIns a v ((k, w) :: r) = (a, v) :: (k, w) :: r := by simp [tabIns, hlt]
      rw [e1, tabWfFrom_cons, tabWfFrom_cons]
      have hk1 : aboveBound (some a) k = true := by simp [aboveBound, hlt]
      rw [hb, hk1, h.1.2, h.2]
      simp [hv]
    · have e1 : tabIns a v ((k, w) :: r) = (k, w) :: tabIns a v r := by simp [tabIns, hlt]
      rw [e1, tabWfFrom_cons, Bool.and_eq_true, Bool.and_eq_true]
      exact ⟨h.1, ih (some k) (by simp [aboveBound]; omega) (fun e he => hne e (by simp [he])) h.2⟩

/-- Every write keeps the canonical form. -/
theorem tabWf_tabSet {α : Type} [DecidableEq α] (d : Nat → α) (t : Tab α) (a : Nat) (v : α) (h : tabWf d t = true) :
    tabWf d (tabSet d t a v) = true := by
  unfold tabWf at *
  by_cases hv : v = d a
  · simp [tabSet, hv, tabWfFrom_tabDel d t a none h]
  · simp only [tabSet, hv, if_false]
    exact tabWfFrom_tabIns d a v hv _ none rfl (tabDel_ne t a) (tabWfFrom_tabDel d t a none h)

end Sys2Proof.Machine
end

