-- ==== Sys2Proof/Laws/State.lean ====
section
/-! SUPPORT. One lemma per field of the state for each named update, so that no later proof unfolds a record update. -/

namespace Sys2Proof.Machine

open Sys2Proof

/-! ### setReg -/

@[simp] theorem State.setReg_pending (s : State) (a : Nat) (v : Word) : (s.setReg a v).pending = s.pending := rfl
@[simp] theorem State.setReg_now (s : State) (a : Nat) (v : Word) : (s.setReg a v).now = s.now := rfl
@[simp] theorem State.setReg_fresh (s : State) (a : Nat) (v : Word) : (s.setReg a v).fresh = s.fresh := rfl
@[simp] theorem State.setReg_out (s : State) (a : Nat) (v : Word) : (s.setReg a v).out = s.out := rfl
@[simp] theorem State.setReg_logic (s : State) (a : Nat) (v : Word) : (s.setReg a v).logic = s.logic := rfl
@[simp] theorem State.setReg_intake (s : State) (a : Nat) (v : Word) : (s.setReg a v).intake = s.intake := rfl
@[simp] theorem State.setReg_boot (s : State) (a : Nat) (v : Word) : (s.setReg a v).boot = s.boot := rfl
@[simp] theorem State.setReg_log (s : State) (a : Nat) (v : Word) : (s.setReg a v).log = s.log := rfl
@[simp] theorem State.setReg_mgmt (s : State) (a : Nat) (v : Word) : (s.setReg a v).mgmt = s.mgmt := rfl
@[simp] theorem State.setReg_ports (s : State) (a : Nat) (v : Word) : (s.setReg a v).ports = s.ports := rfl
@[simp] theorem State.setReg_time (s : State) (a : Nat) (v : Word) : (s.setReg a v).time = s.time := rfl
@[simp] theorem State.setReg_kct (s : State) (a : Nat) (v : Word) : (s.setReg a v).kct = s.kct := rfl
@[simp] theorem State.setReg_pwr (s : State) (a : Nat) (v : Word) : (s.setReg a v).pwr = s.pwr := rfl
@[simp] theorem State.setReg_thermal (s : State) (a : Nat) (v : Word) : (s.setReg a v).thermal = s.thermal := rfl
@[simp] theorem State.setReg_egr (s : State) (a : Nat) (v : Word) : (s.setReg a v).egr = s.egr := rfl
@[simp] theorem State.setReg_cry (s : State) (a : Nat) (v : Word) : (s.setReg a v).cry = s.cry := rfl
@[simp] theorem State.setReg_pipe (s : State) (a : Nat) (v : Word) : (s.setReg a v).pipe = s.pipe := rfl
@[simp] theorem State.setReg_coh (s : State) (a : Nat) (v : Word) : (s.setReg a v).coh = s.coh := rfl
@[simp] theorem State.setReg_tier (s : State) (a : Nat) (v : Word) : (s.setReg a v).tier = s.tier := rfl
@[simp] theorem State.setReg_cmp (s : State) (a : Nat) (v : Word) : (s.setReg a v).cmp = s.cmp := rfl
@[simp] theorem State.setReg_dram (s : State) (a : Nat) (v : Word) : (s.setReg a v).dram = s.dram := rfl
@[simp] theorem State.setReg_mreg (s : State) (a : Nat) (v : Word) : (s.setReg a v).mreg = s.mreg := rfl
@[simp] theorem State.setReg_scrubs (s : State) (a : Nat) (v : Word) : (s.setReg a v).scrubs = s.scrubs := rfl
@[simp] theorem State.setReg_sram (s : State) (a : Nat) (v : Word) : (s.setReg a v).sram = s.sram := rfl
@[simp] theorem State.reg_setReg_same (s : State) (a : Nat) (v : Word) : (s.setReg a v).reg a = v := tabGet_tabSet_same _ _ _ _
theorem State.reg_setReg_ne (s : State) {a b : Nat} (v : Word) (h : b ≠ a) : (s.setReg a v).reg b = s.reg b :=
  tabGet_tabSet_ne _ _ _ h
theorem State.reg_setReg (s : State) (a b : Nat) (v : Word) : (s.setReg a v).reg b = if b = a then v else s.reg b :=
  tabGet_tabSet _ _ _ _ _

/-! ### setFld -/

@[simp] theorem State.setFld_pending (s : State) (a hi lo v : Nat) : (s.setFld a hi lo v).pending = s.pending := rfl
@[simp] theorem State.setFld_now (s : State) (a hi lo v : Nat) : (s.setFld a hi lo v).now = s.now := rfl
@[simp] theorem State.setFld_fresh (s : State) (a hi lo v : Nat) : (s.setFld a hi lo v).fresh = s.fresh := rfl
@[simp] theorem State.setFld_out (s : State) (a hi lo v : Nat) : (s.setFld a hi lo v).out = s.out := rfl
@[simp] theorem State.setFld_logic (s : State) (a hi lo v : Nat) : (s.setFld a hi lo v).logic = s.logic := rfl
@[simp] theorem State.setFld_intake (s : State) (a hi lo v : Nat) : (s.setFld a hi lo v).intake = s.intake := rfl
@[simp] theorem State.setFld_boot (s : State) (a hi lo v : Nat) : (s.setFld a hi lo v).boot = s.boot := rfl
@[simp] theorem State.setFld_log (s : State) (a hi lo v : Nat) : (s.setFld a hi lo v).log = s.log := rfl
@[simp] theorem State.setFld_mgmt (s : State) (a hi lo v : Nat) : (s.setFld a hi lo v).mgmt = s.mgmt := rfl
@[simp] theorem State.setFld_ports (s : State) (a hi lo v : Nat) : (s.setFld a hi lo v).ports = s.ports := rfl
@[simp] theorem State.setFld_time (s : State) (a hi lo v : Nat) : (s.setFld a hi lo v).time = s.time := rfl
@[simp] theorem State.setFld_kct (s : State) (a hi lo v : Nat) : (s.setFld a hi lo v).kct = s.kct := rfl
@[simp] theorem State.setFld_pwr (s : State) (a hi lo v : Nat) : (s.setFld a hi lo v).pwr = s.pwr := rfl
@[simp] theorem State.setFld_thermal (s : State) (a hi lo v : Nat) : (s.setFld a hi lo v).thermal = s.thermal := rfl
@[simp] theorem State.setFld_egr (s : State) (a hi lo v : Nat) : (s.setFld a hi lo v).egr = s.egr := rfl
@[simp] theorem State.setFld_cry (s : State) (a hi lo v : Nat) : (s.setFld a hi lo v).cry = s.cry := rfl
@[simp] theorem State.setFld_pipe (s : State) (a hi lo v : Nat) : (s.setFld a hi lo v).pipe = s.pipe := rfl
@[simp] theorem State.setFld_coh (s : State) (a hi lo v : Nat) : (s.setFld a hi lo v).coh = s.coh := rfl
@[simp] theorem State.setFld_tier (s : State) (a hi lo v : Nat) : (s.setFld a hi lo v).tier = s.tier := rfl
@[simp] theorem State.setFld_cmp (s : State) (a hi lo v : Nat) : (s.setFld a hi lo v).cmp = s.cmp := rfl
@[simp] theorem State.setFld_dram (s : State) (a hi lo v : Nat) : (s.setFld a hi lo v).dram = s.dram := rfl
@[simp] theorem State.setFld_mreg (s : State) (a hi lo v : Nat) : (s.setFld a hi lo v).mreg = s.mreg := rfl
@[simp] theorem State.setFld_scrubs (s : State) (a hi lo v : Nat) : (s.setFld a hi lo v).scrubs = s.scrubs := rfl
@[simp] theorem State.setFld_sram (s : State) (a hi lo v : Nat) : (s.setFld a hi lo v).sram = s.sram := rfl

/-! ### setIntake -/

@[simp] theorem State.setIntake_pending (s : State) (i : Intake) : (s.setIntake i).pending = s.pending := rfl
@[simp] theorem State.setIntake_now (s : State) (i : Intake) : (s.setIntake i).now = s.now := rfl
@[simp] theorem State.setIntake_fresh (s : State) (i : Intake) : (s.setIntake i).fresh = s.fresh := rfl
@[simp] theorem State.setIntake_out (s : State) (i : Intake) : (s.setIntake i).out = s.out := rfl
@[simp] theorem State.setIntake_regs (s : State) (i : Intake) : (s.setIntake i).regs = s.regs := rfl
@[simp] theorem State.setIntake_logic (s : State) (i : Intake) : (s.setIntake i).logic = s.logic := rfl
@[simp] theorem State.setIntake_boot (s : State) (i : Intake) : (s.setIntake i).boot = s.boot := rfl
@[simp] theorem State.setIntake_log (s : State) (i : Intake) : (s.setIntake i).log = s.log := rfl
@[simp] theorem State.setIntake_mgmt (s : State) (i : Intake) : (s.setIntake i).mgmt = s.mgmt := rfl
@[simp] theorem State.setIntake_ports (s : State) (i : Intake) : (s.setIntake i).ports = s.ports := rfl
@[simp] theorem State.setIntake_time (s : State) (i : Intake) : (s.setIntake i).time = s.time := rfl
@[simp] theorem State.setIntake_kct (s : State) (i : Intake) : (s.setIntake i).kct = s.kct := rfl
@[simp] theorem State.setIntake_pwr (s : State) (i : Intake) : (s.setIntake i).pwr = s.pwr := rfl
@[simp] theorem State.setIntake_thermal (s : State) (i : Intake) : (s.setIntake i).thermal = s.thermal := rfl
@[simp] theorem State.setIntake_egr (s : State) (i : Intake) : (s.setIntake i).egr = s.egr := rfl
@[simp] theorem State.setIntake_cry (s : State) (i : Intake) : (s.setIntake i).cry = s.cry := rfl
@[simp] theorem State.setIntake_pipe (s : State) (i : Intake) : (s.setIntake i).pipe = s.pipe := rfl
@[simp] theorem State.setIntake_coh (s : State) (i : Intake) : (s.setIntake i).coh = s.coh := rfl
@[simp] theorem State.setIntake_tier (s : State) (i : Intake) : (s.setIntake i).tier = s.tier := rfl
@[simp] theorem State.setIntake_cmp (s : State) (i : Intake) : (s.setIntake i).cmp = s.cmp := rfl
@[simp] theorem State.setIntake_dram (s : State) (i : Intake) : (s.setIntake i).dram = s.dram := rfl
@[simp] theorem State.setIntake_mreg (s : State) (i : Intake) : (s.setIntake i).mreg = s.mreg := rfl
@[simp] theorem State.setIntake_scrubs (s : State) (i : Intake) : (s.setIntake i).scrubs = s.scrubs := rfl
@[simp] theorem State.setIntake_sram (s : State) (i : Intake) : (s.setIntake i).sram = s.sram := rfl
@[simp] theorem State.setIntake_intake (s : State) (i : Intake) : (s.setIntake i).intake = i := rfl

/-! ### emit -/

@[simp] theorem State.emit_pending (s : State) (e : Emit) : (s.emit e).pending = s.pending := rfl
@[simp] theorem State.emit_now (s : State) (e : Emit) : (s.emit e).now = s.now := rfl
@[simp] theorem State.emit_fresh (s : State) (e : Emit) : (s.emit e).fresh = s.fresh := rfl
@[simp] theorem State.emit_regs (s : State) (e : Emit) : (s.emit e).regs = s.regs := rfl
@[simp] theorem State.emit_logic (s : State) (e : Emit) : (s.emit e).logic = s.logic := rfl
@[simp] theorem State.emit_intake (s : State) (e : Emit) : (s.emit e).intake = s.intake := rfl
@[simp] theorem State.emit_boot (s : State) (e : Emit) : (s.emit e).boot = s.boot := rfl
@[simp] theorem State.emit_log (s : State) (e : Emit) : (s.emit e).log = s.log := rfl
@[simp] theorem State.emit_mgmt (s : State) (e : Emit) : (s.emit e).mgmt = s.mgmt := rfl
@[simp] theorem State.emit_ports (s : State) (e : Emit) : (s.emit e).ports = s.ports := rfl
@[simp] theorem State.emit_time (s : State) (e : Emit) : (s.emit e).time = s.time := rfl
@[simp] theorem State.emit_kct (s : State) (e : Emit) : (s.emit e).kct = s.kct := rfl
@[simp] theorem State.emit_pwr (s : State) (e : Emit) : (s.emit e).pwr = s.pwr := rfl
@[simp] theorem State.emit_thermal (s : State) (e : Emit) : (s.emit e).thermal = s.thermal := rfl
@[simp] theorem State.emit_egr (s : State) (e : Emit) : (s.emit e).egr = s.egr := rfl
@[simp] theorem State.emit_cry (s : State) (e : Emit) : (s.emit e).cry = s.cry := rfl
@[simp] theorem State.emit_pipe (s : State) (e : Emit) : (s.emit e).pipe = s.pipe := rfl
@[simp] theorem State.emit_coh (s : State) (e : Emit) : (s.emit e).coh = s.coh := rfl
@[simp] theorem State.emit_tier (s : State) (e : Emit) : (s.emit e).tier = s.tier := rfl
@[simp] theorem State.emit_cmp (s : State) (e : Emit) : (s.emit e).cmp = s.cmp := rfl
@[simp] theorem State.emit_dram (s : State) (e : Emit) : (s.emit e).dram = s.dram := rfl
@[simp] theorem State.emit_mreg (s : State) (e : Emit) : (s.emit e).mreg = s.mreg := rfl
@[simp] theorem State.emit_scrubs (s : State) (e : Emit) : (s.emit e).scrubs = s.scrubs := rfl
@[simp] theorem State.emit_sram (s : State) (e : Emit) : (s.emit e).sram = s.sram := rfl
@[simp] theorem State.emit_out (s : State) (e : Emit) : (s.emit e).out = e :: s.out := rfl

/-! ### draw -/

@[simp] theorem State.draw_pending (s : State) (n : Nat) : ((s.draw n).2).pending = s.pending := rfl
@[simp] theorem State.draw_now (s : State) (n : Nat) : ((s.draw n).2).now = s.now := rfl
@[simp] theorem State.draw_out (s : State) (n : Nat) : ((s.draw n).2).out = s.out := rfl
@[simp] theorem State.draw_regs (s : State) (n : Nat) : ((s.draw n).2).regs = s.regs := rfl
@[simp] theorem State.draw_logic (s : State) (n : Nat) : ((s.draw n).2).logic = s.logic := rfl
@[simp] theorem State.draw_intake (s : State) (n : Nat) : ((s.draw n).2).intake = s.intake := rfl
@[simp] theorem State.draw_boot (s : State) (n : Nat) : ((s.draw n).2).boot = s.boot := rfl
@[simp] theorem State.draw_log (s : State) (n : Nat) : ((s.draw n).2).log = s.log := rfl
@[simp] theorem State.draw_mgmt (s : State) (n : Nat) : ((s.draw n).2).mgmt = s.mgmt := rfl
@[simp] theorem State.draw_ports (s : State) (n : Nat) : ((s.draw n).2).ports = s.ports := rfl
@[simp] theorem State.draw_time (s : State) (n : Nat) : ((s.draw n).2).time = s.time := rfl
@[simp] theorem State.draw_kct (s : State) (n : Nat) : ((s.draw n).2).kct = s.kct := rfl
@[simp] theorem State.draw_pwr (s : State) (n : Nat) : ((s.draw n).2).pwr = s.pwr := rfl
@[simp] theorem State.draw_thermal (s : State) (n : Nat) : ((s.draw n).2).thermal = s.thermal := rfl
@[simp] theorem State.draw_egr (s : State) (n : Nat) : ((s.draw n).2).egr = s.egr := rfl
@[simp] theorem State.draw_cry (s : State) (n : Nat) : ((s.draw n).2).cry = s.cry := rfl
@[simp] theorem State.draw_pipe (s : State) (n : Nat) : ((s.draw n).2).pipe = s.pipe := rfl
@[simp] theorem State.draw_coh (s : State) (n : Nat) : ((s.draw n).2).coh = s.coh := rfl
@[simp] theorem State.draw_tier (s : State) (n : Nat) : ((s.draw n).2).tier = s.tier := rfl
@[simp] theorem State.draw_cmp (s : State) (n : Nat) : ((s.draw n).2).cmp = s.cmp := rfl
@[simp] theorem State.draw_dram (s : State) (n : Nat) : ((s.draw n).2).dram = s.dram := rfl
@[simp] theorem State.draw_mreg (s : State) (n : Nat) : ((s.draw n).2).mreg = s.mreg := rfl
@[simp] theorem State.draw_scrubs (s : State) (n : Nat) : ((s.draw n).2).scrubs = s.scrubs := rfl
@[simp] theorem State.draw_sram (s : State) (n : Nat) : ((s.draw n).2).sram = s.sram := rfl
@[simp] theorem State.draw_fresh (s : State) (n : Nat) : (s.draw n).2.fresh = s.fresh + 1 := rfl

/-! ### wrote -/

@[simp] theorem State.wrote_pending (s : State) (c : Nat) : (s.wrote c).pending = s.pending := rfl
@[simp] theorem State.wrote_now (s : State) (c : Nat) : (s.wrote c).now = s.now := rfl
@[simp] theorem State.wrote_fresh (s : State) (c : Nat) : (s.wrote c).fresh = s.fresh := rfl
@[simp] theorem State.wrote_out (s : State) (c : Nat) : (s.wrote c).out = s.out := rfl
@[simp] theorem State.wrote_regs (s : State) (c : Nat) : (s.wrote c).regs = s.regs := rfl
@[simp] theorem State.wrote_logic (s : State) (c : Nat) : (s.wrote c).logic = s.logic := rfl
@[simp] theorem State.wrote_intake (s : State) (c : Nat) : (s.wrote c).intake = s.intake := rfl
@[simp] theorem State.wrote_boot (s : State) (c : Nat) : (s.wrote c).boot = s.boot := rfl
@[simp] theorem State.wrote_log (s : State) (c : Nat) : (s.wrote c).log = s.log := rfl
@[simp] theorem State.wrote_ports (s : State) (c : Nat) : (s.wrote c).ports = s.ports := rfl
@[simp] theorem State.wrote_time (s : State) (c : Nat) : (s.wrote c).time = s.time := rfl
@[simp] theorem State.wrote_kct (s : State) (c : Nat) : (s.wrote c).kct = s.kct := rfl
@[simp] theorem State.wrote_pwr (s : State) (c : Nat) : (s.wrote c).pwr = s.pwr := rfl
@[simp] theorem State.wrote_thermal (s : State) (c : Nat) : (s.wrote c).thermal = s.thermal := rfl
@[simp] theorem State.wrote_egr (s : State) (c : Nat) : (s.wrote c).egr = s.egr := rfl
@[simp] theorem State.wrote_cry (s : State) (c : Nat) : (s.wrote c).cry = s.cry := rfl
@[simp] theorem State.wrote_pipe (s : State) (c : Nat) : (s.wrote c).pipe = s.pipe := rfl
@[simp] theorem State.wrote_coh (s : State) (c : Nat) : (s.wrote c).coh = s.coh := rfl
@[simp] theorem State.wrote_tier (s : State) (c : Nat) : (s.wrote c).tier = s.tier := rfl
@[simp] theorem State.wrote_cmp (s : State) (c : Nat) : (s.wrote c).cmp = s.cmp := rfl
@[simp] theorem State.wrote_dram (s : State) (c : Nat) : (s.wrote c).dram = s.dram := rfl
@[simp] theorem State.wrote_mreg (s : State) (c : Nat) : (s.wrote c).mreg = s.mreg := rfl
@[simp] theorem State.wrote_scrubs (s : State) (c : Nat) : (s.wrote c).scrubs = s.scrubs := rfl
@[simp] theorem State.wrote_sram (s : State) (c : Nat) : (s.wrote c).sram = s.sram := rfl
@[simp] theorem State.wrote_lastStatus (s : State) (c : Nat) : (s.wrote c).mgmt.lastStatus = c := rfl

/-! ### setDom -/

@[simp] theorem State.setDom_pending (s : State) (d : Nat) (v : Dom) : (s.setDom d v).pending = s.pending := rfl
@[simp] theorem State.setDom_now (s : State) (d : Nat) (v : Dom) : (s.setDom d v).now = s.now := rfl
@[simp] theorem State.setDom_fresh (s : State) (d : Nat) (v : Dom) : (s.setDom d v).fresh = s.fresh := rfl
@[simp] theorem State.setDom_out (s : State) (d : Nat) (v : Dom) : (s.setDom d v).out = s.out := rfl
@[simp] theorem State.setDom_regs (s : State) (d : Nat) (v : Dom) : (s.setDom d v).regs = s.regs := rfl
@[simp] theorem State.setDom_logic (s : State) (d : Nat) (v : Dom) : (s.setDom d v).logic = s.logic := rfl
@[simp] theorem State.setDom_intake (s : State) (d : Nat) (v : Dom) : (s.setDom d v).intake = s.intake := rfl
@[simp] theorem State.setDom_boot (s : State) (d : Nat) (v : Dom) : (s.setDom d v).boot = s.boot := rfl
@[simp] theorem State.setDom_log (s : State) (d : Nat) (v : Dom) : (s.setDom d v).log = s.log := rfl
@[simp] theorem State.setDom_mgmt (s : State) (d : Nat) (v : Dom) : (s.setDom d v).mgmt = s.mgmt := rfl
@[simp] theorem State.setDom_ports (s : State) (d : Nat) (v : Dom) : (s.setDom d v).ports = s.ports := rfl
@[simp] theorem State.setDom_time (s : State) (d : Nat) (v : Dom) : (s.setDom d v).time = s.time := rfl
@[simp] theorem State.setDom_kct (s : State) (d : Nat) (v : Dom) : (s.setDom d v).kct = s.kct := rfl
@[simp] theorem State.setDom_thermal (s : State) (d : Nat) (v : Dom) : (s.setDom d v).thermal = s.thermal := rfl
@[simp] theorem State.setDom_egr (s : State) (d : Nat) (v : Dom) : (s.setDom d v).egr = s.egr := rfl
@[simp] theorem State.setDom_cry (s : State) (d : Nat) (v : Dom) : (s.setDom d v).cry = s.cry := rfl
@[simp] theorem State.setDom_pipe (s : State) (d : Nat) (v : Dom) : (s.setDom d v).pipe = s.pipe := rfl
@[simp] theorem State.setDom_coh (s : State) (d : Nat) (v : Dom) : (s.setDom d v).coh = s.coh := rfl
@[simp] theorem State.setDom_tier (s : State) (d : Nat) (v : Dom) : (s.setDom d v).tier = s.tier := rfl
@[simp] theorem State.setDom_cmp (s : State) (d : Nat) (v : Dom) : (s.setDom d v).cmp = s.cmp := rfl
@[simp] theorem State.setDom_dram (s : State) (d : Nat) (v : Dom) : (s.setDom d v).dram = s.dram := rfl
@[simp] theorem State.setDom_mreg (s : State) (d : Nat) (v : Dom) : (s.setDom d v).mreg = s.mreg := rfl
@[simp] theorem State.setDom_scrubs (s : State) (d : Nat) (v : Dom) : (s.setDom d v).scrubs = s.scrubs := rfl
@[simp] theorem State.setDom_sram (s : State) (d : Nat) (v : Dom) : (s.setDom d v).sram = s.sram := rfl
@[simp] theorem State.dom_setDom_same (s : State) (d : Nat) (v : Dom) : (s.setDom d v).dom d = v := tabGet_tabSet_same _ _ _ _
theorem State.dom_setDom_ne (s : State) {d e : Nat} (v : Dom) (h : e ≠ d) : (s.setDom d v).dom e = s.dom e :=
  tabGet_tabSet_ne _ _ _ h

/-! ### count -/

@[simp] theorem State.count_pending (s : State) (a : Nat) : (s.count a).pending = s.pending := by unfold State.count; split <;> rfl
@[simp] theorem State.count_now (s : State) (a : Nat) : (s.count a).now = s.now := by unfold State.count; split <;> rfl
@[simp] theorem State.count_fresh (s : State) (a : Nat) : (s.count a).fresh = s.fresh := by unfold State.count; split <;> rfl
@[simp] theorem State.count_out (s : State) (a : Nat) : (s.count a).out = s.out := by unfold State.count; split <;> rfl
@[simp] theorem State.count_logic (s : State) (a : Nat) : (s.count a).logic = s.logic := by unfold State.count; split <;> rfl
@[simp] theorem State.count_intake (s : State) (a : Nat) : (s.count a).intake = s.intake := by unfold State.count; split <;> rfl
@[simp] theorem State.count_boot (s : State) (a : Nat) : (s.count a).boot = s.boot := by unfold State.count; split <;> rfl
@[simp] theorem State.count_log (s : State) (a : Nat) : (s.count a).log = s.log := by unfold State.count; split <;> rfl
@[simp] theorem State.count_mgmt (s : State) (a : Nat) : (s.count a).mgmt = s.mgmt := by unfold State.count; split <;> rfl
@[simp] theorem State.count_ports (s : State) (a : Nat) : (s.count a).ports = s.ports := by unfold State.count; split <;> rfl
@[simp] theorem State.count_time (s : State) (a : Nat) : (s.count a).time = s.time := by unfold State.count; split <;> rfl
@[simp] theorem State.count_kct (s : State) (a : Nat) : (s.count a).kct = s.kct := by unfold State.count; split <;> rfl
@[simp] theorem State.count_pwr (s : State) (a : Nat) : (s.count a).pwr = s.pwr := by unfold State.count; split <;> rfl
@[simp] theorem State.count_thermal (s : State) (a : Nat) : (s.count a).thermal = s.thermal := by unfold State.count; split <;> rfl
@[simp] theorem State.count_egr (s : State) (a : Nat) : (s.count a).egr = s.egr := by unfold State.count; split <;> rfl
@[simp] theorem State.count_cry (s : State) (a : Nat) : (s.count a).cry = s.cry := by unfold State.count; split <;> rfl
@[simp] theorem State.count_pipe (s : State) (a : Nat) : (s.count a).pipe = s.pipe := by unfold State.count; split <;> rfl
@[simp] theorem State.count_coh (s : State) (a : Nat) : (s.count a).coh = s.coh := by unfold State.count; split <;> rfl
@[simp] theorem State.count_tier (s : State) (a : Nat) : (s.count a).tier = s.tier := by unfold State.count; split <;> rfl
@[simp] theorem State.count_cmp (s : State) (a : Nat) : (s.count a).cmp = s.cmp := by unfold State.count; split <;> rfl
@[simp] theorem State.count_dram (s : State) (a : Nat) : (s.count a).dram = s.dram := by unfold State.count; split <;> rfl
@[simp] theorem State.count_mreg (s : State) (a : Nat) : (s.count a).mreg = s.mreg := by unfold State.count; split <;> rfl
@[simp] theorem State.count_scrubs (s : State) (a : Nat) : (s.count a).scrubs = s.scrubs := by unfold State.count; split <;> rfl
@[simp] theorem State.count_sram (s : State) (a : Nat) : (s.count a).sram = s.sram := by unfold State.count; split <;> rfl

/-! ### count64 -/

@[simp] theorem State.count64_pending (s : State) (a n : Nat) : (s.count64 a n).pending = s.pending := rfl
@[simp] theorem State.count64_now (s : State) (a n : Nat) : (s.count64 a n).now = s.now := rfl
@[simp] theorem State.count64_fresh (s : State) (a n : Nat) : (s.count64 a n).fresh = s.fresh := rfl
@[simp] theorem State.count64_out (s : State) (a n : Nat) : (s.count64 a n).out = s.out := rfl
@[simp] theorem State.count64_logic (s : State) (a n : Nat) : (s.count64 a n).logic = s.logic := rfl
@[simp] theorem State.count64_intake (s : State) (a n : Nat) : (s.count64 a n).intake = s.intake := rfl
@[simp] theorem State.count64_boot (s : State) (a n : Nat) : (s.count64 a n).boot = s.boot := rfl
@[simp] theorem State.count64_log (s : State) (a n : Nat) : (s.count64 a n).log = s.log := rfl
@[simp] theorem State.count64_mgmt (s : State) (a n : Nat) : (s.count64 a n).mgmt = s.mgmt := rfl
@[simp] theorem State.count64_ports (s : State) (a n : Nat) : (s.count64 a n).ports = s.ports := rfl
@[simp] theorem State.count64_time (s : State) (a n : Nat) : (s.count64 a n).time = s.time := rfl
@[simp] theorem State.count64_kct (s : State) (a n : Nat) : (s.count64 a n).kct = s.kct := rfl
@[simp] theorem State.count64_pwr (s : State) (a n : Nat) : (s.count64 a n).pwr = s.pwr := rfl
@[simp] theorem State.count64_thermal (s : State) (a n : Nat) : (s.count64 a n).thermal = s.thermal := rfl
@[simp] theorem State.count64_egr (s : State) (a n : Nat) : (s.count64 a n).egr = s.egr := rfl
@[simp] theorem State.count64_cry (s : State) (a n : Nat) : (s.count64 a n).cry = s.cry := rfl
@[simp] theorem State.count64_pipe (s : State) (a n : Nat) : (s.count64 a n).pipe = s.pipe := rfl
@[simp] theorem State.count64_coh (s : State) (a n : Nat) : (s.count64 a n).coh = s.coh := rfl
@[simp] theorem State.count64_tier (s : State) (a n : Nat) : (s.count64 a n).tier = s.tier := rfl
@[simp] theorem State.count64_cmp (s : State) (a n : Nat) : (s.count64 a n).cmp = s.cmp := rfl
@[simp] theorem State.count64_dram (s : State) (a n : Nat) : (s.count64 a n).dram = s.dram := rfl
@[simp] theorem State.count64_mreg (s : State) (a n : Nat) : (s.count64 a n).mreg = s.mreg := rfl
@[simp] theorem State.count64_scrubs (s : State) (a n : Nat) : (s.count64 a n).scrubs = s.scrubs := rfl
@[simp] theorem State.count64_sram (s : State) (a n : Nat) : (s.count64 a n).sram = s.sram := rfl

/-! ### setEvt -/

@[simp] theorem State.setEvt_pending (s : State) (code inst : Nat) : (s.setEvt code inst).pending = s.pending := by unfold State.setEvt; dsimp only; split <;> rfl
@[simp] theorem State.setEvt_now (s : State) (code inst : Nat) : (s.setEvt code inst).now = s.now := by unfold State.setEvt; dsimp only; split <;> rfl
@[simp] theorem State.setEvt_fresh (s : State) (code inst : Nat) : (s.setEvt code inst).fresh = s.fresh := by unfold State.setEvt; dsimp only; split <;> rfl
@[simp] theorem State.setEvt_out (s : State) (code inst : Nat) : (s.setEvt code inst).out = s.out := by unfold State.setEvt; dsimp only; split <;> rfl
@[simp] theorem State.setEvt_logic (s : State) (code inst : Nat) : (s.setEvt code inst).logic = s.logic := by unfold State.setEvt; dsimp only; split <;> rfl
@[simp] theorem State.setEvt_intake (s : State) (code inst : Nat) : (s.setEvt code inst).intake = s.intake := by unfold State.setEvt; dsimp only; split <;> rfl
@[simp] theorem State.setEvt_boot (s : State) (code inst : Nat) : (s.setEvt code inst).boot = s.boot := by unfold State.setEvt; dsimp only; split <;> rfl
@[simp] theorem State.setEvt_log (s : State) (code inst : Nat) : (s.setEvt code inst).log = s.log := by unfold State.setEvt; dsimp only; split <;> rfl
@[simp] theorem State.setEvt_mgmt (s : State) (code inst : Nat) : (s.setEvt code inst).mgmt = s.mgmt := by unfold State.setEvt; dsimp only; split <;> rfl
@[simp] theorem State.setEvt_ports (s : State) (code inst : Nat) : (s.setEvt code inst).ports = s.ports := by unfold State.setEvt; dsimp only; split <;> rfl
@[simp] theorem State.setEvt_time (s : State) (code inst : Nat) : (s.setEvt code inst).time = s.time := by unfold State.setEvt; dsimp only; split <;> rfl
@[simp] theorem State.setEvt_kct (s : State) (code inst : Nat) : (s.setEvt code inst).kct = s.kct := by unfold State.setEvt; dsimp only; split <;> rfl
@[simp] theorem State.setEvt_pwr (s : State) (code inst : Nat) : (s.setEvt code inst).pwr = s.pwr := by unfold State.setEvt; dsimp only; split <;> rfl
@[simp] theorem State.setEvt_thermal (s : State) (code inst : Nat) : (s.setEvt code inst).thermal = s.thermal := by unfold State.setEvt; dsimp only; split <;> rfl
@[simp] theorem State.setEvt_egr (s : State) (code inst : Nat) : (s.setEvt code inst).egr = s.egr := by unfold State.setEvt; dsimp only; split <;> rfl
@[simp] theorem State.setEvt_cry (s : State) (code inst : Nat) : (s.setEvt code inst).cry = s.cry := by unfold State.setEvt; dsimp only; split <;> rfl
@[simp] theorem State.setEvt_pipe (s : State) (code inst : Nat) : (s.setEvt code inst).pipe = s.pipe := by unfold State.setEvt; dsimp only; split <;> rfl
@[simp] theorem State.setEvt_coh (s : State) (code inst : Nat) : (s.setEvt code inst).coh = s.coh := by unfold State.setEvt; dsimp only; split <;> rfl
@[simp] theorem State.setEvt_tier (s : State) (code inst : Nat) : (s.setEvt code inst).tier = s.tier := by unfold State.setEvt; dsimp only; split <;> rfl
@[simp] theorem State.setEvt_cmp (s : State) (code inst : Nat) : (s.setEvt code inst).cmp = s.cmp := by unfold State.setEvt; dsimp only; split <;> rfl
@[simp] theorem State.setEvt_dram (s : State) (code inst : Nat) : (s.setEvt code inst).dram = s.dram := by unfold State.setEvt; dsimp only; split <;> rfl
@[simp] theorem State.setEvt_mreg (s : State) (code inst : Nat) : (s.setEvt code inst).mreg = s.mreg := by unfold State.setEvt; dsimp only; split <;> rfl
@[simp] theorem State.setEvt_scrubs (s : State) (code inst : Nat) : (s.setEvt code inst).scrubs = s.scrubs := by unfold State.setEvt; dsimp only; split <;> rfl
@[simp] theorem State.setEvt_sram (s : State) (code inst : Nat) : (s.setEvt code inst).sram = s.sram := by unfold State.setEvt; dsimp only; split <;> rfl

/-! ### logEvent -/

@[simp] theorem State.logEvent_pending (s : State) (code inst : Nat) (forced hist : Bool) (time d1 d2 : Nat) : (s.logEvent code inst forced hist time d1 d2).pending = s.pending := by simp only [State.logEvent]
@[simp] theorem State.logEvent_now (s : State) (code inst : Nat) (forced hist : Bool) (time d1 d2 : Nat) : (s.logEvent code inst forced hist time d1 d2).now = s.now := by simp only [State.logEvent]
@[simp] theorem State.logEvent_fresh (s : State) (code inst : Nat) (forced hist : Bool) (time d1 d2 : Nat) : (s.logEvent code inst forced hist time d1 d2).fresh = s.fresh := by simp only [State.logEvent]
@[simp] theorem State.logEvent_out (s : State) (code inst : Nat) (forced hist : Bool) (time d1 d2 : Nat) : (s.logEvent code inst forced hist time d1 d2).out = s.out := by simp only [State.logEvent]
@[simp] theorem State.logEvent_regs (s : State) (code inst : Nat) (forced hist : Bool) (time d1 d2 : Nat) : (s.logEvent code inst forced hist time d1 d2).regs = s.regs := by simp only [State.logEvent]
@[simp] theorem State.logEvent_logic (s : State) (code inst : Nat) (forced hist : Bool) (time d1 d2 : Nat) : (s.logEvent code inst forced hist time d1 d2).logic = s.logic := by simp only [State.logEvent]
@[simp] theorem State.logEvent_intake (s : State) (code inst : Nat) (forced hist : Bool) (time d1 d2 : Nat) : (s.logEvent code inst forced hist time d1 d2).intake = s.intake := by simp only [State.logEvent]
@[simp] theorem State.logEvent_boot (s : State) (code inst : Nat) (forced hist : Bool) (time d1 d2 : Nat) : (s.logEvent code inst forced hist time d1 d2).boot = s.boot := by simp only [State.logEvent]
@[simp] theorem State.logEvent_mgmt (s : State) (code inst : Nat) (forced hist : Bool) (time d1 d2 : Nat) : (s.logEvent code inst forced hist time d1 d2).mgmt = s.mgmt := by simp only [State.logEvent]
@[simp] theorem State.logEvent_ports (s : State) (code inst : Nat) (forced hist : Bool) (time d1 d2 : Nat) : (s.logEvent code inst forced hist time d1 d2).ports = s.ports := by simp only [State.logEvent]
@[simp] theorem State.logEvent_time (s : State) (code inst : Nat) (forced hist : Bool) (time d1 d2 : Nat) : (s.logEvent code inst forced hist time d1 d2).time = s.time := by simp only [State.logEvent]
@[simp] theorem State.logEvent_kct (s : State) (code inst : Nat) (forced hist : Bool) (time d1 d2 : Nat) : (s.logEvent code inst forced hist time d1 d2).kct = s.kct := by simp only [State.logEvent]
@[simp] theorem State.logEvent_pwr (s : State) (code inst : Nat) (forced hist : Bool) (time d1 d2 : Nat) : (s.logEvent code inst forced hist time d1 d2).pwr = s.pwr := by simp only [State.logEvent]
@[simp] theorem State.logEvent_thermal (s : State) (code inst : Nat) (forced hist : Bool) (time d1 d2 : Nat) : (s.logEvent code inst forced hist time d1 d2).thermal = s.thermal := by simp only [State.logEvent]
@[simp] theorem State.logEvent_egr (s : State) (code inst : Nat) (forced hist : Bool) (time d1 d2 : Nat) : (s.logEvent code inst forced hist time d1 d2).egr = s.egr := by simp only [State.logEvent]
@[simp] theorem State.logEvent_cry (s : State) (code inst : Nat) (forced hist : Bool) (time d1 d2 : Nat) : (s.logEvent code inst forced hist time d1 d2).cry = s.cry := by simp only [State.logEvent]
@[simp] theorem State.logEvent_pipe (s : State) (code inst : Nat) (forced hist : Bool) (time d1 d2 : Nat) : (s.logEvent code inst forced hist time d1 d2).pipe = s.pipe := by simp only [State.logEvent]
@[simp] theorem State.logEvent_coh (s : State) (code inst : Nat) (forced hist : Bool) (time d1 d2 : Nat) : (s.logEvent code inst forced hist time d1 d2).coh = s.coh := by simp only [State.logEvent]
@[simp] theorem State.logEvent_tier (s : State) (code inst : Nat) (forced hist : Bool) (time d1 d2 : Nat) : (s.logEvent code inst forced hist time d1 d2).tier = s.tier := by simp only [State.logEvent]
@[simp] theorem State.logEvent_cmp (s : State) (code inst : Nat) (forced hist : Bool) (time d1 d2 : Nat) : (s.logEvent code inst forced hist time d1 d2).cmp = s.cmp := by simp only [State.logEvent]
@[simp] theorem State.logEvent_dram (s : State) (code inst : Nat) (forced hist : Bool) (time d1 d2 : Nat) : (s.logEvent code inst forced hist time d1 d2).dram = s.dram := by simp only [State.logEvent]
@[simp] theorem State.logEvent_mreg (s : State) (code inst : Nat) (forced hist : Bool) (time d1 d2 : Nat) : (s.logEvent code inst forced hist time d1 d2).mreg = s.mreg := by simp only [State.logEvent]
@[simp] theorem State.logEvent_scrubs (s : State) (code inst : Nat) (forced hist : Bool) (time d1 d2 : Nat) : (s.logEvent code inst forced hist time d1 d2).scrubs = s.scrubs := by simp only [State.logEvent]
@[simp] theorem State.logEvent_sram (s : State) (code inst : Nat) (forced hist : Bool) (time d1 d2 : Nat) : (s.logEvent code inst forced hist time d1 d2).sram = s.sram := by simp only [State.logEvent]

/-! ### fatalSet -/

@[simp] theorem State.fatalSet_pending (s : State) : (s.fatalSet).pending = s.pending := rfl
@[simp] theorem State.fatalSet_now (s : State) : (s.fatalSet).now = s.now := rfl
@[simp] theorem State.fatalSet_fresh (s : State) : (s.fatalSet).fresh = s.fresh := rfl
@[simp] theorem State.fatalSet_out (s : State) : (s.fatalSet).out = s.out := rfl
@[simp] theorem State.fatalSet_regs (s : State) : (s.fatalSet).regs = s.regs := rfl
@[simp] theorem State.fatalSet_intake (s : State) : (s.fatalSet).intake = s.intake := rfl
@[simp] theorem State.fatalSet_log (s : State) : (s.fatalSet).log = s.log := rfl
@[simp] theorem State.fatalSet_mgmt (s : State) : (s.fatalSet).mgmt = s.mgmt := rfl
@[simp] theorem State.fatalSet_ports (s : State) : (s.fatalSet).ports = s.ports := rfl
@[simp] theorem State.fatalSet_time (s : State) : (s.fatalSet).time = s.time := rfl
@[simp] theorem State.fatalSet_kct (s : State) : (s.fatalSet).kct = s.kct := rfl
@[simp] theorem State.fatalSet_pwr (s : State) : (s.fatalSet).pwr = s.pwr := rfl
@[simp] theorem State.fatalSet_thermal (s : State) : (s.fatalSet).thermal = s.thermal := rfl
@[simp] theorem State.fatalSet_egr (s : State) : (s.fatalSet).egr = s.egr := rfl
@[simp] theorem State.fatalSet_cry (s : State) : (s.fatalSet).cry = s.cry := rfl
@[simp] theorem State.fatalSet_pipe (s : State) : (s.fatalSet).pipe = s.pipe := rfl
@[simp] theorem State.fatalSet_coh (s : State) : (s.fatalSet).coh = s.coh := rfl
@[simp] theorem State.fatalSet_tier (s : State) : (s.fatalSet).tier = s.tier := rfl
@[simp] theorem State.fatalSet_cmp (s : State) : (s.fatalSet).cmp = s.cmp := rfl
@[simp] theorem State.fatalSet_dram (s : State) : (s.fatalSet).dram = s.dram := rfl
@[simp] theorem State.fatalSet_mreg (s : State) : (s.fatalSet).mreg = s.mreg := rfl
@[simp] theorem State.fatalSet_scrubs (s : State) : (s.fatalSet).scrubs = s.scrubs := rfl
@[simp] theorem State.fatalSet_sram (s : State) : (s.fatalSet).sram = s.sram := rfl
@[simp] theorem State.fatalSet_faultWire (s : State) : s.fatalSet.logic.faultWire = true := rfl
@[simp] theorem State.fatalSet_on (s : State) : s.fatalSet.logic.on = s.logic.on := rfl
@[simp] theorem State.fatalSet_sysRst (s : State) : s.fatalSet.logic.sysRst = s.logic.sysRst := rfl
@[simp] theorem State.fatalSet_linkUp (s : State) : s.fatalSet.logic.linkUp = s.logic.linkUp := rfl
@[simp] theorem State.fatalSet_plls (s : State) : s.fatalSet.logic.plls = s.logic.plls := rfl
@[simp] theorem State.fatalSet_bootSel (s : State) : s.fatalSet.logic.bootSel = s.logic.bootSel := rfl

/-! ### occur -/

@[simp] theorem State.occur_pending (s : State) (code inst : Nat) (forced hist : Bool) (time d1 d2 : Nat) : (s.occur code inst forced hist time d1 d2).pending = s.pending := by
  by_cases h1 : s.evtSet code inst = true
  · simp [State.occur, h1]
  · simp only [State.occur, h1, if_false, Bool.false_eq_true]
    by_cases h2 : s.evtEnabled code inst = true <;> by_cases h3 : severity code = 3 <;> simp [h2, h3]
@[simp] theorem State.occur_now (s : State) (code inst : Nat) (forced hist : Bool) (time d1 d2 : Nat) : (s.occur code inst forced hist time d1 d2).now = s.now := by
  by_cases h1 : s.evtSet code inst = true
  · simp [State.occur, h1]
  · simp only [State.occur, h1, if_false, Bool.false_eq_true]
    by_cases h2 : s.evtEnabled code inst = true <;> by_cases h3 : severity code = 3 <;> simp [h2, h3]
@[simp] theorem State.occur_fresh (s : State) (code inst : Nat) (forced hist : Bool) (time d1 d2 : Nat) : (s.occur code inst forced hist time d1 d2).fresh = s.fresh := by
  by_cases h1 : s.evtSet code inst = true
  · simp [State.occur, h1]
  · simp only [State.occur, h1, if_false, Bool.false_eq_true]
    by_cases h2 : s.evtEnabled code inst = true <;> by_cases h3 : severity code = 3 <;> simp [h2, h3]
@[simp] theorem State.occur_out (s : State) (code inst : Nat) (forced hist : Bool) (time d1 d2 : Nat) : (s.occur code inst forced hist time d1 d2).out = s.out := by
  by_cases h1 : s.evtSet code inst = true
  · simp [State.occur, h1]
  · simp only [State.occur, h1, if_false, Bool.false_eq_true]
    by_cases h2 : s.evtEnabled code inst = true <;> by_cases h3 : severity code = 3 <;> simp [h2, h3]
@[simp] theorem State.occur_intake (s : State) (code inst : Nat) (forced hist : Bool) (time d1 d2 : Nat) : (s.occur code inst forced hist time d1 d2).intake = s.intake := by
  by_cases h1 : s.evtSet code inst = true
  · simp [State.occur, h1]
  · simp only [State.occur, h1, if_false, Bool.false_eq_true]
    by_cases h2 : s.evtEnabled code inst = true <;> by_cases h3 : severity code = 3 <;> simp [h2, h3]
@[simp] theorem State.occur_mgmt (s : State) (code inst : Nat) (forced hist : Bool) (time d1 d2 : Nat) : (s.occur code inst forced hist time d1 d2).mgmt = s.mgmt := by
  by_cases h1 : s.evtSet code inst = true
  · simp [State.occur, h1]
  · simp only [State.occur, h1, if_false, Bool.false_eq_true]
    by_cases h2 : s.evtEnabled code inst = true <;> by_cases h3 : severity code = 3 <;> simp [h2, h3]
@[simp] theorem State.occur_ports (s : State) (code inst : Nat) (forced hist : Bool) (time d1 d2 : Nat) : (s.occur code inst forced hist time d1 d2).ports = s.ports := by
  by_cases h1 : s.evtSet code inst = true
  · simp [State.occur, h1]
  · simp only [State.occur, h1, if_false, Bool.false_eq_true]
    by_cases h2 : s.evtEnabled code inst = true <;> by_cases h3 : severity code = 3 <;> simp [h2, h3]
@[simp] theorem State.occur_time (s : State) (code inst : Nat) (forced hist : Bool) (time d1 d2 : Nat) : (s.occur code inst forced hist time d1 d2).time = s.time := by
  by_cases h1 : s.evtSet code inst = true
  · simp [State.occur, h1]
  · simp only [State.occur, h1, if_false, Bool.false_eq_true]
    by_cases h2 : s.evtEnabled code inst = true <;> by_cases h3 : severity code = 3 <;> simp [h2, h3]
@[simp] theorem State.occur_kct (s : State) (code inst : Nat) (forced hist : Bool) (time d1 d2 : Nat) : (s.occur code inst forced hist time d1 d2).kct = s.kct := by
  by_cases h1 : s.evtSet code inst = true
  · simp [State.occur, h1]
  · simp only [State.occur, h1, if_false, Bool.false_eq_true]
    by_cases h2 : s.evtEnabled code inst = true <;> by_cases h3 : severity code = 3 <;> simp [h2, h3]
@[simp] theorem State.occur_pwr (s : State) (code inst : Nat) (forced hist : Bool) (time d1 d2 : Nat) : (s.occur code inst forced hist time d1 d2).pwr = s.pwr := by
  by_cases h1 : s.evtSet code inst = true
  · simp [State.occur, h1]
  · simp only [State.occur, h1, if_false, Bool.false_eq_true]
    by_cases h2 : s.evtEnabled code inst = true <;> by_cases h3 : severity code = 3 <;> simp [h2, h3]
@[simp] theorem State.occur_thermal (s : State) (code inst : Nat) (forced hist : Bool) (time d1 d2 : Nat) : (s.occur code inst forced hist time d1 d2).thermal = s.thermal := by
  by_cases h1 : s.evtSet code inst = true
  · simp [State.occur, h1]
  · simp only [State.occur, h1, if_false, Bool.false_eq_true]
    by_cases h2 : s.evtEnabled code inst = true <;> by_cases h3 : severity code = 3 <;> simp [h2, h3]
@[simp] theorem State.occur_egr (s : State) (code inst : Nat) (forced hist : Bool) (time d1 d2 : Nat) : (s.occur code inst forced hist time d1 d2).egr = s.egr := by
  by_cases h1 : s.evtSet code inst = true
  · simp [State.occur, h1]
  · simp only [State.occur, h1, if_false, Bool.false_eq_true]
    by_cases h2 : s.evtEnabled code inst = true <;> by_cases h3 : severity code = 3 <;> simp [h2, h3]
@[simp] theorem State.occur_cry (s : State) (code inst : Nat) (forced hist : Bool) (time d1 d2 : Nat) : (s.occur code inst forced hist time d1 d2).cry = s.cry := by
  by_cases h1 : s.evtSet code inst = true
  · simp [State.occur, h1]
  · simp only [State.occur, h1, if_false, Bool.false_eq_true]
    by_cases h2 : s.evtEnabled code inst = true <;> by_cases h3 : severity code = 3 <;> simp [h2, h3]
@[simp] theorem State.occur_pipe (s : State) (code inst : Nat) (forced hist : Bool) (time d1 d2 : Nat) : (s.occur code inst forced hist time d1 d2).pipe = s.pipe := by
  by_cases h1 : s.evtSet code inst = true
  · simp [State.occur, h1]
  · simp only [State.occur, h1, if_false, Bool.false_eq_true]
    by_cases h2 : s.evtEnabled code inst = true <;> by_cases h3 : severity code = 3 <;> simp [h2, h3]
@[simp] theorem State.occur_coh (s : State) (code inst : Nat) (forced hist : Bool) (time d1 d2 : Nat) : (s.occur code inst forced hist time d1 d2).coh = s.coh := by
  by_cases h1 : s.evtSet code inst = true
  · simp [State.occur, h1]
  · simp only [State.occur, h1, if_false, Bool.false_eq_true]
    by_cases h2 : s.evtEnabled code inst = true <;> by_cases h3 : severity code = 3 <;> simp [h2, h3]
@[simp] theorem State.occur_tier (s : State) (code inst : Nat) (forced hist : Bool) (time d1 d2 : Nat) : (s.occur code inst forced hist time d1 d2).tier = s.tier := by
  by_cases h1 : s.evtSet code inst = true
  · simp [State.occur, h1]
  · simp only [State.occur, h1, if_false, Bool.false_eq_true]
    by_cases h2 : s.evtEnabled code inst = true <;> by_cases h3 : severity code = 3 <;> simp [h2, h3]
@[simp] theorem State.occur_cmp (s : State) (code inst : Nat) (forced hist : Bool) (time d1 d2 : Nat) : (s.occur code inst forced hist time d1 d2).cmp = s.cmp := by
  by_cases h1 : s.evtSet code inst = true
  · simp [State.occur, h1]
  · simp only [State.occur, h1, if_false, Bool.false_eq_true]
    by_cases h2 : s.evtEnabled code inst = true <;> by_cases h3 : severity code = 3 <;> simp [h2, h3]
@[simp] theorem State.occur_dram (s : State) (code inst : Nat) (forced hist : Bool) (time d1 d2 : Nat) : (s.occur code inst forced hist time d1 d2).dram = s.dram := by
  by_cases h1 : s.evtSet code inst = true
  · simp [State.occur, h1]
  · simp only [State.occur, h1, if_false, Bool.false_eq_true]
    by_cases h2 : s.evtEnabled code inst = true <;> by_cases h3 : severity code = 3 <;> simp [h2, h3]
@[simp] theorem State.occur_mreg (s : State) (code inst : Nat) (forced hist : Bool) (time d1 d2 : Nat) : (s.occur code inst forced hist time d1 d2).mreg = s.mreg := by
  by_cases h1 : s.evtSet code inst = true
  · simp [State.occur, h1]
  · simp only [State.occur, h1, if_false, Bool.false_eq_true]
    by_cases h2 : s.evtEnabled code inst = true <;> by_cases h3 : severity code = 3 <;> simp [h2, h3]
@[simp] theorem State.occur_scrubs (s : State) (code inst : Nat) (forced hist : Bool) (time d1 d2 : Nat) : (s.occur code inst forced hist time d1 d2).scrubs = s.scrubs := by
  by_cases h1 : s.evtSet code inst = true
  · simp [State.occur, h1]
  · simp only [State.occur, h1, if_false, Bool.false_eq_true]
    by_cases h2 : s.evtEnabled code inst = true <;> by_cases h3 : severity code = 3 <;> simp [h2, h3]
@[simp] theorem State.occur_sram (s : State) (code inst : Nat) (forced hist : Bool) (time d1 d2 : Nat) : (s.occur code inst forced hist time d1 d2).sram = s.sram := by
  by_cases h1 : s.evtSet code inst = true
  · simp [State.occur, h1]
  · simp only [State.occur, h1, if_false, Bool.false_eq_true]
    by_cases h2 : s.evtEnabled code inst = true <;> by_cases h3 : severity code = 3 <;> simp [h2, h3]
@[simp] theorem State.occur_on (s : State) (code inst : Nat) (forced hist : Bool) (time d1 d2 : Nat) :
    (s.occur code inst forced hist time d1 d2).logic.on = s.logic.on := by
  by_cases h1 : s.evtSet code inst = true
  · simp [State.occur, h1]
  · simp only [State.occur, h1, if_false, Bool.false_eq_true]
    by_cases h2 : s.evtEnabled code inst = true <;> by_cases h3 : severity code = 3 <;> simp [h2, h3]
@[simp] theorem State.occur_sysRst (s : State) (code inst : Nat) (forced hist : Bool) (time d1 d2 : Nat) :
    (s.occur code inst forced hist time d1 d2).logic.sysRst = s.logic.sysRst := by
  by_cases h1 : s.evtSet code inst = true
  · simp [State.occur, h1]
  · simp only [State.occur, h1, if_false, Bool.false_eq_true]
    by_cases h2 : s.evtEnabled code inst = true <;> by_cases h3 : severity code = 3 <;> simp [h2, h3]
@[simp] theorem State.occur_linkUp (s : State) (code inst : Nat) (forced hist : Bool) (time d1 d2 : Nat) :
    (s.occur code inst forced hist time d1 d2).logic.linkUp = s.logic.linkUp := by
  by_cases h1 : s.evtSet code inst = true
  · simp [State.occur, h1]
  · simp only [State.occur, h1, if_false, Bool.false_eq_true]
    by_cases h2 : s.evtEnabled code inst = true <;> by_cases h3 : severity code = 3 <;> simp [h2, h3]
@[simp] theorem State.occur_plls (s : State) (code inst : Nat) (forced hist : Bool) (time d1 d2 : Nat) :
    (s.occur code inst forced hist time d1 d2).logic.plls = s.logic.plls := by
  by_cases h1 : s.evtSet code inst = true
  · simp [State.occur, h1]
  · simp only [State.occur, h1, if_false, Bool.false_eq_true]
    by_cases h2 : s.evtEnabled code inst = true <;> by_cases h3 : severity code = 3 <;> simp [h2, h3]
@[simp] theorem State.occur_bootSel (s : State) (code inst : Nat) (forced hist : Bool) (time d1 d2 : Nat) :
    (s.occur code inst forced hist time d1 d2).logic.bootSel = s.logic.bootSel := by
  by_cases h1 : s.evtSet code inst = true
  · simp [State.occur, h1]
  · simp only [State.occur, h1, if_false, Bool.false_eq_true]
    by_cases h2 : s.evtEnabled code inst = true <;> by_cases h3 : severity code = 3 <;> simp [h2, h3]
theorem State.occur_boot (s : State) (code inst : Nat) (forced hist : Bool) (time d1 d2 : Nat) :
    (s.occur code inst forced hist time d1 d2).boot
      = { s.boot with autoWarm := (s.occur code inst forced hist time d1 d2).boot.autoWarm } := by
  by_cases h1 : s.evtSet code inst = true
  · simp [State.occur, h1]
  · simp only [State.occur, h1, if_false, Bool.false_eq_true]
    by_cases h2 : s.evtEnabled code inst = true <;> by_cases h3 : severity code = 3 <;> simp [h2, h3, State.fatalSet]
theorem State.occur_logic (s : State) (code inst : Nat) (forced hist : Bool) (time d1 d2 : Nat) :
    (s.occur code inst forced hist time d1 d2).logic
      = { s.logic with faultWire := (s.occur code inst forced hist time d1 d2).logic.faultWire } := by
  by_cases h1 : s.evtSet code inst = true
  · simp [State.occur, h1]
  · simp only [State.occur, h1, if_false, Bool.false_eq_true]
    by_cases h2 : s.evtEnabled code inst = true <;> by_cases h3 : severity code = 3 <;> simp [h2, h3, State.fatalSet]

/-! ### raiseAt -/

@[simp] theorem State.raiseAt_pending (s : State) (code inst d1 d2 : Nat) : (s.raiseAt code inst d1 d2).pending = s.pending := by simp [State.raiseAt]
@[simp] theorem State.raiseAt_now (s : State) (code inst d1 d2 : Nat) : (s.raiseAt code inst d1 d2).now = s.now := by simp [State.raiseAt]
@[simp] theorem State.raiseAt_fresh (s : State) (code inst d1 d2 : Nat) : (s.raiseAt code inst d1 d2).fresh = s.fresh := by simp [State.raiseAt]
@[simp] theorem State.raiseAt_out (s : State) (code inst d1 d2 : Nat) : (s.raiseAt code inst d1 d2).out = s.out := by simp [State.raiseAt]
@[simp] theorem State.raiseAt_intake (s : State) (code inst d1 d2 : Nat) : (s.raiseAt code inst d1 d2).intake = s.intake := by simp [State.raiseAt]
@[simp] theorem State.raiseAt_mgmt (s : State) (code inst d1 d2 : Nat) : (s.raiseAt code inst d1 d2).mgmt = s.mgmt := by simp [State.raiseAt]
@[simp] theorem State.raiseAt_ports (s : State) (code inst d1 d2 : Nat) : (s.raiseAt code inst d1 d2).ports = s.ports := by simp [State.raiseAt]
@[simp] theorem State.raiseAt_time (s : State) (code inst d1 d2 : Nat) : (s.raiseAt code inst d1 d2).time = s.time := by simp [State.raiseAt]
@[simp] theorem State.raiseAt_kct (s : State) (code inst d1 d2 : Nat) : (s.raiseAt code inst d1 d2).kct = s.kct := by simp [State.raiseAt]
@[simp] theorem State.raiseAt_pwr (s : State) (code inst d1 d2 : Nat) : (s.raiseAt code inst d1 d2).pwr = s.pwr := by simp [State.raiseAt]
@[simp] theorem State.raiseAt_thermal (s : State) (code inst d1 d2 : Nat) : (s.raiseAt code inst d1 d2).thermal = s.thermal := by simp [State.raiseAt]
@[simp] theorem State.raiseAt_egr (s : State) (code inst d1 d2 : Nat) : (s.raiseAt code inst d1 d2).egr = s.egr := by simp [State.raiseAt]
@[simp] theorem State.raiseAt_cry (s : State) (code inst d1 d2 : Nat) : (s.raiseAt code inst d1 d2).cry = s.cry := by simp [State.raiseAt]
@[simp] theorem State.raiseAt_pipe (s : State) (code inst d1 d2 : Nat) : (s.raiseAt code inst d1 d2).pipe = s.pipe := by simp [State.raiseAt]
@[simp] theorem State.raiseAt_coh (s : State) (code inst d1 d2 : Nat) : (s.raiseAt code inst d1 d2).coh = s.coh := by simp [State.raiseAt]
@[simp] theorem State.raiseAt_tier (s : State) (code inst d1 d2 : Nat) : (s.raiseAt code inst d1 d2).tier = s.tier := by simp [State.raiseAt]
@[simp] theorem State.raiseAt_cmp (s : State) (code inst d1 d2 : Nat) : (s.raiseAt code inst d1 d2).cmp = s.cmp := by simp [State.raiseAt]
@[simp] theorem State.raiseAt_dram (s : State) (code inst d1 d2 : Nat) : (s.raiseAt code inst d1 d2).dram = s.dram := by simp [State.raiseAt]
@[simp] theorem State.raiseAt_mreg (s : State) (code inst d1 d2 : Nat) : (s.raiseAt code inst d1 d2).mreg = s.mreg := by simp [State.raiseAt]
@[simp] theorem State.raiseAt_scrubs (s : State) (code inst d1 d2 : Nat) : (s.raiseAt code inst d1 d2).scrubs = s.scrubs := by simp [State.raiseAt]
@[simp] theorem State.raiseAt_sram (s : State) (code inst d1 d2 : Nat) : (s.raiseAt code inst d1 d2).sram = s.sram := by simp [State.raiseAt]
@[simp] theorem State.raiseAt_on (s : State) (code inst d1 d2 : Nat) : (s.raiseAt code inst d1 d2).logic.on = s.logic.on := by simp [State.raiseAt]
@[simp] theorem State.raiseAt_sysRst (s : State) (code inst d1 d2 : Nat) : (s.raiseAt code inst d1 d2).logic.sysRst = s.logic.sysRst := by simp [State.raiseAt]
@[simp] theorem State.raiseAt_linkUp (s : State) (code inst d1 d2 : Nat) : (s.raiseAt code inst d1 d2).logic.linkUp = s.logic.linkUp := by simp [State.raiseAt]
@[simp] theorem State.raiseAt_plls (s : State) (code inst d1 d2 : Nat) : (s.raiseAt code inst d1 d2).logic.plls = s.logic.plls := by simp [State.raiseAt]
@[simp] theorem State.raiseAt_bootSel (s : State) (code inst d1 d2 : Nat) : (s.raiseAt code inst d1 d2).logic.bootSel = s.logic.bootSel := by simp [State.raiseAt]

/-! ### raise -/

@[simp] theorem State.raise_pending (s : State) (code d1 d2 : Nat) : (s.raise code d1 d2).pending = s.pending := by simp [State.raise]
@[simp] theorem State.raise_now (s : State) (code d1 d2 : Nat) : (s.raise code d1 d2).now = s.now := by simp [State.raise]
@[simp] theorem State.raise_fresh (s : State) (code d1 d2 : Nat) : (s.raise code d1 d2).fresh = s.fresh := by simp [State.raise]
@[simp] theorem State.raise_out (s : State) (code d1 d2 : Nat) : (s.raise code d1 d2).out = s.out := by simp [State.raise]
@[simp] theorem State.raise_intake (s : State) (code d1 d2 : Nat) : (s.raise code d1 d2).intake = s.intake := by simp [State.raise]
@[simp] theorem State.raise_mgmt (s : State) (code d1 d2 : Nat) : (s.raise code d1 d2).mgmt = s.mgmt := by simp [State.raise]
@[simp] theorem State.raise_ports (s : State) (code d1 d2 : Nat) : (s.raise code d1 d2).ports = s.ports := by simp [State.raise]
@[simp] theorem State.raise_time (s : State) (code d1 d2 : Nat) : (s.raise code d1 d2).time = s.time := by simp [State.raise]
@[simp] theorem State.raise_kct (s : State) (code d1 d2 : Nat) : (s.raise code d1 d2).kct = s.kct := by simp [State.raise]
@[simp] theorem State.raise_pwr (s : State) (code d1 d2 : Nat) : (s.raise code d1 d2).pwr = s.pwr := by simp [State.raise]
@[simp] theorem State.raise_thermal (s : State) (code d1 d2 : Nat) : (s.raise code d1 d2).thermal = s.thermal := by simp [State.raise]
@[simp] theorem State.raise_egr (s : State) (code d1 d2 : Nat) : (s.raise code d1 d2).egr = s.egr := by simp [State.raise]
@[simp] theorem State.raise_cry (s : State) (code d1 d2 : Nat) : (s.raise code d1 d2).cry = s.cry := by simp [State.raise]
@[simp] theorem State.raise_pipe (s : State) (code d1 d2 : Nat) : (s.raise code d1 d2).pipe = s.pipe := by simp [State.raise]
@[simp] theorem State.raise_coh (s : State) (code d1 d2 : Nat) : (s.raise code d1 d2).coh = s.coh := by simp [State.raise]
@[simp] theorem State.raise_tier (s : State) (code d1 d2 : Nat) : (s.raise code d1 d2).tier = s.tier := by simp [State.raise]
@[simp] theorem State.raise_cmp (s : State) (code d1 d2 : Nat) : (s.raise code d1 d2).cmp = s.cmp := by simp [State.raise]
@[simp] theorem State.raise_dram (s : State) (code d1 d2 : Nat) : (s.raise code d1 d2).dram = s.dram := by simp [State.raise]
@[simp] theorem State.raise_mreg (s : State) (code d1 d2 : Nat) : (s.raise code d1 d2).mreg = s.mreg := by simp [State.raise]
@[simp] theorem State.raise_scrubs (s : State) (code d1 d2 : Nat) : (s.raise code d1 d2).scrubs = s.scrubs := by simp [State.raise]
@[simp] theorem State.raise_sram (s : State) (code d1 d2 : Nat) : (s.raise code d1 d2).sram = s.sram := by simp [State.raise]
@[simp] theorem State.raise_on (s : State) (code d1 d2 : Nat) : (s.raise code d1 d2).logic.on = s.logic.on := by simp [State.raise]
@[simp] theorem State.raise_sysRst (s : State) (code d1 d2 : Nat) : (s.raise code d1 d2).logic.sysRst = s.logic.sysRst := by simp [State.raise]
@[simp] theorem State.raise_linkUp (s : State) (code d1 d2 : Nat) : (s.raise code d1 d2).logic.linkUp = s.logic.linkUp := by simp [State.raise]
@[simp] theorem State.raise_plls (s : State) (code d1 d2 : Nat) : (s.raise code d1 d2).logic.plls = s.logic.plls := by simp [State.raise]
@[simp] theorem State.raise_bootSel (s : State) (code d1 d2 : Nat) : (s.raise code d1 d2).logic.bootSel = s.logic.bootSel := by simp [State.raise]

/-! ### intakeEvent -/

@[simp] theorem State.intakeEvent_pending (s : State) (code : Nat) : (s.intakeEvent code).pending = s.pending := by unfold State.intakeEvent; split <;> simp
@[simp] theorem State.intakeEvent_now (s : State) (code : Nat) : (s.intakeEvent code).now = s.now := by unfold State.intakeEvent; split <;> simp
@[simp] theorem State.intakeEvent_fresh (s : State) (code : Nat) : (s.intakeEvent code).fresh = s.fresh := by unfold State.intakeEvent; split <;> simp
@[simp] theorem State.intakeEvent_out (s : State) (code : Nat) : (s.intakeEvent code).out = s.out := by unfold State.intakeEvent; split <;> simp
@[simp] theorem State.intakeEvent_mgmt (s : State) (code : Nat) : (s.intakeEvent code).mgmt = s.mgmt := by unfold State.intakeEvent; split <;> simp
@[simp] theorem State.intakeEvent_ports (s : State) (code : Nat) : (s.intakeEvent code).ports = s.ports := by unfold State.intakeEvent; split <;> simp
@[simp] theorem State.intakeEvent_time (s : State) (code : Nat) : (s.intakeEvent code).time = s.time := by unfold State.intakeEvent; split <;> simp
@[simp] theorem State.intakeEvent_kct (s : State) (code : Nat) : (s.intakeEvent code).kct = s.kct := by unfold State.intakeEvent; split <;> simp
@[simp] theorem State.intakeEvent_pwr (s : State) (code : Nat) : (s.intakeEvent code).pwr = s.pwr := by unfold State.intakeEvent; split <;> simp
@[simp] theorem State.intakeEvent_thermal (s : State) (code : Nat) : (s.intakeEvent code).thermal = s.thermal := by unfold State.intakeEvent; split <;> simp
@[simp] theorem State.intakeEvent_egr (s : State) (code : Nat) : (s.intakeEvent code).egr = s.egr := by unfold State.intakeEvent; split <;> simp
@[simp] theorem State.intakeEvent_cry (s : State) (code : Nat) : (s.intakeEvent code).cry = s.cry := by unfold State.intakeEvent; split <;> simp
@[simp] theorem State.intakeEvent_pipe (s : State) (code : Nat) : (s.intakeEvent code).pipe = s.pipe := by unfold State.intakeEvent; split <;> simp
@[simp] theorem State.intakeEvent_coh (s : State) (code : Nat) : (s.intakeEvent code).coh = s.coh := by unfold State.intakeEvent; split <;> simp
@[simp] theorem State.intakeEvent_tier (s : State) (code : Nat) : (s.intakeEvent code).tier = s.tier := by unfold State.intakeEvent; split <;> simp
@[simp] theorem State.intakeEvent_cmp (s : State) (code : Nat) : (s.intakeEvent code).cmp = s.cmp := by unfold State.intakeEvent; split <;> simp
@[simp] theorem State.intakeEvent_dram (s : State) (code : Nat) : (s.intakeEvent code).dram = s.dram := by unfold State.intakeEvent; split <;> simp
@[simp] theorem State.intakeEvent_mreg (s : State) (code : Nat) : (s.intakeEvent code).mreg = s.mreg := by unfold State.intakeEvent; split <;> simp
@[simp] theorem State.intakeEvent_scrubs (s : State) (code : Nat) : (s.intakeEvent code).scrubs = s.scrubs := by unfold State.intakeEvent; split <;> simp
@[simp] theorem State.intakeEvent_sram (s : State) (code : Nat) : (s.intakeEvent code).sram = s.sram := by unfold State.intakeEvent; split <;> simp
@[simp] theorem State.intakeEvent_vstby (s : State) (code : Nat) : (s.intakeEvent code).intake.vstby = s.intake.vstby := by
  unfold State.intakeEvent; split <;> simp
@[simp] theorem State.intakeEvent_ticks (s : State) (code : Nat) : (s.intakeEvent code).intake.ticks = s.intake.ticks := by
  unfold State.intakeEvent; split <;> simp
@[simp] theorem State.intakeEvent_strapped (s : State) (code : Nat) : (s.intakeEvent code).intake.strapped = s.intake.strapped := by
  unfold State.intakeEvent; split <;> simp
@[simp] theorem State.intakeEvent_seqFirst (s : State) (code : Nat) : (s.intakeEvent code).intake.seqFirst = s.intake.seqFirst := by
  unfold State.intakeEvent; split <;> simp
@[simp] theorem State.intakeEvent_feedMode (s : State) (code : Nat) : (s.intakeEvent code).intake.feedMode = s.intake.feedMode := by
  unfold State.intakeEvent; split <;> simp
@[simp] theorem State.intakeEvent_cfg (s : State) (code : Nat) : (s.intakeEvent code).intake.cfg = s.intake.cfg := by
  unfold State.intakeEvent; split <;> simp
@[simp] theorem State.intakeEvent_profile (s : State) (code : Nat) : (s.intakeEvent code).intake.profile = s.intake.profile := by
  unfold State.intakeEvent; split <;> simp
@[simp] theorem State.intakeEvent_burned (s : State) (code : Nat) : (s.intakeEvent code).intake.burned = s.intake.burned := by
  unfold State.intakeEvent; split <;> simp
@[simp] theorem State.intakeEvent_profileErr (s : State) (code : Nat) : (s.intakeEvent code).intake.profileErr = s.intake.profileErr := by
  unfold State.intakeEvent; split <;> simp
@[simp] theorem State.intakeEvent_profilePairs (s : State) (code : Nat) : (s.intakeEvent code).intake.profilePairs = s.intake.profilePairs := by
  unfold State.intakeEvent; split <;> simp
@[simp] theorem State.intakeEvent_burning (s : State) (code : Nat) : (s.intakeEvent code).intake.burning = s.intake.burning := by
  unfold State.intakeEvent; split <;> simp
@[simp] theorem State.intakeEvent_unlockUntil (s : State) (code : Nat) : (s.intakeEvent code).intake.unlockUntil = s.intake.unlockUntil := by
  unfold State.intakeEvent; split <;> simp
@[simp] theorem State.intakeEvent_linkWrite (s : State) (code : Nat) : (s.intakeEvent code).intake.linkWrite = s.intake.linkWrite := by
  unfold State.intakeEvent; split <;> simp
@[simp] theorem State.intakeEvent_validA (s : State) (code : Nat) : (s.intakeEvent code).intake.validA = s.intake.validA := by
  unfold State.intakeEvent; split <;> simp
@[simp] theorem State.intakeEvent_validB (s : State) (code : Nat) : (s.intakeEvent code).intake.validB = s.intake.validB := by
  unfold State.intakeEvent; split <;> simp
@[simp] theorem State.intakeEvent_feed (s : State) (code : Nat) : (s.intakeEvent code).intake.feed = s.intake.feed := by
  unfold State.intakeEvent; split <;> simp
@[simp] theorem State.intakeEvent_switchTo (s : State) (code : Nat) : (s.intakeEvent code).intake.switchTo = s.intake.switchTo := by
  unfold State.intakeEvent; split <;> simp
@[simp] theorem State.intakeEvent_breaking (s : State) (code : Nat) : (s.intakeEvent code).intake.breaking = s.intake.breaking := by
  unfold State.intakeEvent; split <;> simp
@[simp] theorem State.intakeEvent_isoA (s : State) (code : Nat) : (s.intakeEvent code).intake.isoA = s.intake.isoA := by
  unfold State.intakeEvent; split <;> simp
@[simp] theorem State.intakeEvent_isoB (s : State) (code : Nat) : (s.intakeEvent code).intake.isoB = s.intake.isoB := by
  unfold State.intakeEvent; split <;> simp
@[simp] theorem State.intakeEvent_enhancing (s : State) (code : Nat) : (s.intakeEvent code).intake.enhancing = s.intake.enhancing := by
  unfold State.intakeEvent; split <;> simp
@[simp] theorem State.intakeEvent_passFet (s : State) (code : Nat) : (s.intakeEvent code).intake.passFet = s.intake.passFet := by
  unfold State.intakeEvent; split <;> simp
@[simp] theorem State.intakeEvent_pathA (s : State) (code : Nat) : (s.intakeEvent code).intake.pathA = s.intake.pathA := by
  unfold State.intakeEvent; split <;> simp
@[simp] theorem State.intakeEvent_pathB (s : State) (code : Nat) : (s.intakeEvent code).intake.pathB = s.intake.pathB := by
  unfold State.intakeEvent; split <;> simp
@[simp] theorem State.intakeEvent_tFetA (s : State) (code : Nat) : (s.intakeEvent code).intake.tFetA = s.intake.tFetA := by
  unfold State.intakeEvent; split <;> simp
@[simp] theorem State.intakeEvent_tFetB (s : State) (code : Nat) : (s.intakeEvent code).intake.tFetB = s.intake.tFetB := by
  unfold State.intakeEvent; split <;> simp
@[simp] theorem State.intakeEvent_cnt (s : State) (code : Nat) : (s.intakeEvent code).intake.cnt = s.intake.cnt := by
  unfold State.intakeEvent; split <;> simp
@[simp] theorem State.intakeEvent_inLimit (s : State) (code : Nat) : (s.intakeEvent code).intake.inLimit = s.intake.inLimit := by
  unfold State.intakeEvent; split <;> simp
@[simp] theorem State.intakeEvent_iLimit (s : State) (code : Nat) : (s.intakeEvent code).intake.iLimit = s.intake.iLimit := by
  unfold State.intakeEvent; split <;> simp
@[simp] theorem State.intakeEvent_curveAcc (s : State) (code : Nat) : (s.intakeEvent code).intake.curveAcc = s.intake.curveAcc := by
  unfold State.intakeEvent; split <;> simp
@[simp] theorem State.intakeEvent_i2tAcc (s : State) (code : Nat) : (s.intakeEvent code).intake.i2tAcc = s.intake.i2tAcc := by
  unfold State.intakeEvent; split <;> simp
@[simp] theorem State.intakeEvent_phase (s : State) (code : Nat) : (s.intakeEvent code).intake.phase = s.intake.phase := by
  unfold State.intakeEvent; split <;> simp
@[simp] theorem State.intakeEvent_held (s : State) (code : Nat) : (s.intakeEvent code).intake.held = s.intake.held := by
  unfold State.intakeEvent; split <;> simp
@[simp] theorem State.intakeEvent_pgOut (s : State) (code : Nat) : (s.intakeEvent code).intake.pgOut = s.intake.pgOut := by
  unfold State.intakeEvent; split <;> simp
@[simp] theorem State.intakeEvent_feedWarn (s : State) (code : Nat) : (s.intakeEvent code).intake.feedWarn = s.intake.feedWarn := by
  unfold State.intakeEvent; split <;> simp
@[simp] theorem State.intakeEvent_warnCause (s : State) (code : Nat) : (s.intakeEvent code).intake.warnCause = s.intake.warnCause := by
  unfold State.intakeEvent; split <;> simp
@[simp] theorem State.intakeEvent_faults (s : State) (code : Nat) : (s.intakeEvent code).intake.faults = s.intake.faults := by
  unfold State.intakeEvent; split <;> simp
@[simp] theorem State.intakeEvent_faultCount (s : State) (code : Nat) : (s.intakeEvent code).intake.faultCount = s.intake.faultCount := by
  unfold State.intakeEvent; split <;> simp
@[simp] theorem State.intakeEvent_pin0 (s : State) (code : Nat) : (s.intakeEvent code).intake.pin0 = s.intake.pin0 := by
  unfold State.intakeEvent; split <;> simp
@[simp] theorem State.intakeEvent_pin1 (s : State) (code : Nat) : (s.intakeEvent code).intake.pin1 = s.intake.pin1 := by
  unfold State.intakeEvent; split <;> simp
@[simp] theorem State.intakeEvent_inserted (s : State) (code : Nat) : (s.intakeEvent code).intake.inserted = s.intake.inserted := by
  unfold State.intakeEvent; split <;> simp
@[simp] theorem State.intakeEvent_needSeq (s : State) (code : Nat) : (s.intakeEvent code).intake.needSeq = s.intake.needSeq := by
  unfold State.intakeEvent; split <;> simp
@[simp] theorem State.intakeEvent_seqIn (s : State) (code : Nat) : (s.intakeEvent code).intake.seqIn = s.intake.seqIn := by
  unfold State.intakeEvent; split <;> simp
@[simp] theorem State.intakeEvent_seqTimedOut (s : State) (code : Nat) : (s.intakeEvent code).intake.seqTimedOut = s.intake.seqTimedOut := by
  unfold State.intakeEvent; split <;> simp
@[simp] theorem State.intakeEvent_seqOut (s : State) (code : Nat) : (s.intakeEvent code).intake.seqOut = s.intake.seqOut := by
  unfold State.intakeEvent; split <;> simp
@[simp] theorem State.intakeEvent_offPending (s : State) (code : Nat) : (s.intakeEvent code).intake.offPending = s.intake.offPending := by
  unfold State.intakeEvent; split <;> simp
@[simp] theorem State.intakeEvent_braceSent (s : State) (code : Nat) : (s.intakeEvent code).intake.braceSent = s.intake.braceSent := by
  unfold State.intakeEvent; split <;> simp
@[simp] theorem State.intakeEvent_linkLost (s : State) (code : Nat) : (s.intakeEvent code).intake.linkLost = s.intake.linkLost := by
  unfold State.intakeEvent; split <;> simp
@[simp] theorem State.intakeEvent_thermTrip (s : State) (code : Nat) : (s.intakeEvent code).intake.thermTrip = s.intake.thermTrip := by
  unfold State.intakeEvent; split <;> simp
@[simp] theorem State.intakeEvent_vrmFault (s : State) (code : Nat) : (s.intakeEvent code).intake.vrmFault = s.intake.vrmFault := by
  unfold State.intakeEvent; split <;> simp
@[simp] theorem State.intakeEvent_energy (s : State) (code : Nat) : (s.intakeEvent code).intake.energy = s.intake.energy := by
  unfold State.intakeEvent; split <;> simp
@[simp] theorem State.intakeEvent_logic_on (s : State) (code : Nat) : (s.intakeEvent code).logic.on = s.logic.on := by
  unfold State.intakeEvent; split <;> simp
@[simp] theorem State.intakeEvent_logic_sysRst (s : State) (code : Nat) : (s.intakeEvent code).logic.sysRst = s.logic.sysRst := by
  unfold State.intakeEvent; split <;> simp
@[simp] theorem State.intakeEvent_logic_linkUp (s : State) (code : Nat) : (s.intakeEvent code).logic.linkUp = s.logic.linkUp := by
  unfold State.intakeEvent; split <;> simp
@[simp] theorem State.intakeEvent_logic_plls (s : State) (code : Nat) : (s.intakeEvent code).logic.plls = s.logic.plls := by
  unfold State.intakeEvent; split <;> simp
@[simp] theorem State.intakeEvent_logic_bootSel (s : State) (code : Nat) : (s.intakeEvent code).logic.bootSel = s.logic.bootSel := by
  unfold State.intakeEvent; split <;> simp

end Sys2Proof.Machine
end

