-- ==== Sys2Proof/Laws/Ops.lean ====
section
/-! SUPPORT. What each shared operation can do, said once: the guards that meanings end in, raised events, and the return
to power-on reset. -/

namespace Sys2Proof.Machine

open Sys2Proof

/-! ### Guards -/

@[simp] theorem guarded_true (s t : State) : guarded true s t = .next t := rfl

@[simp] theorem guarded_false (s t : State) : guarded false s t = .next s := rfl

/-- A guarded command leaves the device as it is or acts. -/
theorem guarded_cases {ok : Bool} {s t u : State} (h : guarded ok s t = .next u) : ok = true ∧ u = t ∨ ok = false ∧ u = s := by
  cases ok
  · exact .inr ⟨rfl, by simpa using h.symm⟩
  · exact .inl ⟨rfl, by simpa using h.symm⟩

/-- Outside the core island nothing waits for the core clock. -/
theorem State.coreStalled_out (s : State) {d : Nat} (h : d < 3 ∨ 12 < d) : s.coreStalled d = false := by
  simp only [State.coreStalled, Bool.and_eq_false_iff, decide_eq_false_iff_not]
  omega

theorem State.coreStalled_of_locked {s : State} (h : s.thermal.relock = false) (d : Nat) : s.coreStalled d = false := by
  simp [State.coreStalled, h]

theorem needing_up {s : State} {d : Nat} (h : s.up d = true) (hc : s.coreStalled d = false) (ok : Bool) (t : State) :
    needing d ok s t = guarded ok s t := by simp [needing, h, hc]

theorem needing_gated {s : State} {d : Nat} (h : s.up d = false) (ok : Bool) (t : State) :
    needing d ok s t = .next (s.stall d) := by simp [needing, h]

/-- A command that needs a domain stalls, leaves the device as it is, or acts. -/
theorem needing_cases {d : Nat} {ok : Bool} {s t u : State} (h : needing d ok s t = .next u) :
    s.up d = false ∧ u = s.stall d ∨ s.up d = true ∧ (ok && !s.coreStalled d) = false ∧ u = s
      ∨ s.up d = true ∧ (ok && !s.coreStalled d) = true ∧ u = t := by
  unfold needing at h
  split at h
  · rename_i hu
    rcases guarded_cases h with ⟨h1, h2⟩ | ⟨h1, h2⟩
    · exact .inr (.inr ⟨hu, h1, h2⟩)
    · exact .inr (.inl ⟨hu, h1, h2⟩)
  · rename_i hu
    exact .inl ⟨by simpa using hu, by simpa using h.symm⟩

/-- A domain that is Up has not failed. -/
theorem State.up_not_failed {s : State} {d : Nat} (hd : d ≠ 0) (h : s.up d = true) : s.domFailed d = false := by
  have h2 : (s.dom d).state = .up := by
    have := (Bool.and_eq_true _ _ |>.mp h).2
    simpa [hd] using this
  simp [State.domFailed, h2]

theorem State.live_of_up {s : State} {d : Nat} (h : s.up d = true) : s.live = true := (Bool.and_eq_true _ _ |>.mp h).1

theorem commanding_up {s : State} {d : Nat} (hd : d ≠ 0) (h : s.up d = true) (hc : s.coreStalled d = false) (ok : Bool)
    (t : State) : commanding d ok s t = guarded ok s t := by
  simp [commanding, State.up_not_failed hd h, needing_up h hc]

theorem commanding_failed {s : State} {d : Nat} (h : s.domFailed d = true) (ok : Bool) (t : State) :
    commanding d ok s t = .next (s.wrote stDomainFailed) := by simp [commanding, h]

/-- While the logic die does not run nothing stalls. -/
theorem State.stall_dead {s : State} (h : s.live = false) (d : Nat) : s.stall d = s := by simp [State.stall, h]

theorem State.up_dead {s : State} (h : s.live = false) (d : Nat) : s.up d = false := by simp [State.up, h]

theorem needing_dead {s : State} (h : s.live = false) (d : Nat) (ok : Bool) (t : State) : needing d ok s t = .next s := by
  simp [needing, State.up_dead h, State.stall_dead h]

/-! ### Events -/

theorem evtPage_mod (code inst : Nat) : evtPage code inst % 0x1000 = 0 := by
  have hb : ∀ b ∈ blocks, b.base % 0x1000 = 0 ∧ b.stride % 0x1000 = 0 := by decide
  unfold evtPage
  split
  · rename_i b hfind
    have hm := hb b (List.mem_of_find?_eq_some hfind)
    have h2 : inst * b.stride % 0x1000 = 0 := by rw [Nat.mul_mod, hm.2]; simp
    omega
  · rfl

theorem State.reg_count_ne (s : State) {a b : Nat} (h : b ≠ a) : (s.count a).reg b = s.reg b := by
  unfold State.count
  split
  · rfl
  · exact State.reg_setReg_ne s _ h

@[simp] theorem State.logEvent_reg (s : State) (code inst : Nat) (f hst : Bool) (t d1 d2 b : Nat) :
    (s.logEvent code inst f hst t d1 d2).reg b = s.reg b := by simp [State.reg]

@[simp] theorem State.fatalSet_reg (s : State) (b : Nat) : s.fatalSet.reg b = s.reg b := by simp [State.reg]

theorem State.setEvt_reg_ne (s : State) (code inst : Nat) {a : Nat} (h1 : a ≠ evtPage code inst + 0x014)
    (h2 : a ≠ evtPage code inst + 0x020) : (s.setEvt code inst).reg a = s.reg a := by
  unfold State.setEvt
  dsimp only
  split <;> simp [State.reg_setReg, h1, h2]

theorem State.setEvt_status (s : State) (code inst : Nat) :
    (s.setEvt code inst).reg (evtPage code inst + 0x014)
      = s.reg (evtPage code inst + 0x014) ||| BitVec.ofNat 32 (2 ^ evtBit code) := by
  unfold State.setEvt
  dsimp only
  split <;> simp

/-- The registers that an occurrence of an event can change: the status and first-event registers of its page, and the count
of repeats. -/
theorem State.occur_reg_ne (s : State) (code inst : Nat) (f hst : Bool) (t d1 d2 : Nat) {a : Nat}
    (h1 : a ≠ evtPage code inst + 0x014) (h2 : a ≠ evtPage code inst + 0x020) (h3 : a ≠ Reg.RAS_EVT_REPEAT) :
    (s.occur code inst f hst t d1 d2).reg a = s.reg a := by
  by_cases hs : s.evtSet code inst = true
  · simp [State.occur, hs, State.reg_count_ne s h3]
  · simp only [State.occur, hs, if_false, Bool.false_eq_true]
    by_cases he : s.evtEnabled code inst = true <;> by_cases hf : severity code = 3 <;>
      simp [he, hf, State.setEvt_reg_ne s code inst h1 h2]

theorem evtBit_lt (code : Nat) : evtBit code < 32 := Nat.mod_lt _ (by decide)

theorem pow_toNat {k : Nat} (h : k < 32) : (BitVec.ofNat 32 (2 ^ k)).toNat = 2 ^ k := by
  rw [BitVec.toNat_ofNat]
  exact Nat.mod_eq_of_lt (Nat.pow_lt_pow_right (by decide) h)

theorem bit_or_pow (x : Word) {k : Nat} (h : k < 32) : bit (x ||| BitVec.ofNat 32 (2 ^ k)).toNat k = true := by
  rw [BitVec.toNat_or, pow_toNat h]
  simp only [bit, Nat.testBit_or, Nat.testBit_two_pow_self, Bool.or_true]

/-- An event that has occurred has its status bit set. -/
theorem State.occur_evtSet (s : State) (code inst : Nat) (f hst : Bool) (t d1 d2 : Nat) :
    (s.occur code inst f hst t d1 d2).evtSet code inst = true := by
  by_cases hs : s.evtSet code inst = true
  · have hne : evtPage code inst + 0x014 ≠ Reg.RAS_EVT_REPEAT := by
      have := evtPage_mod code inst
      simp only [Reg.RAS_EVT_REPEAT]
      omega
    simp only [State.occur, hs, if_true]
    simpa [State.evtSet, State.flag, State.reg_count_ne s hne] using hs
  · simp only [State.occur, hs, if_false, Bool.false_eq_true]
    have hb := bit_or_pow (s.reg (evtPage code inst + 0x014)) (evtBit_lt code)
    rw [← State.setEvt_status] at hb
    by_cases he : s.evtEnabled code inst = true <;> by_cases hf : severity code = 3 <;>
      simpa [he, hf, State.evtSet, State.flag] using hb

@[simp] theorem State.raiseAt_evtSet (s : State) (code inst d1 d2 : Nat) : (s.raiseAt code inst d1 d2).evtSet code inst = true :=
  s.occur_evtSet ..

@[simp] theorem State.raise_evtSet (s : State) (code d1 d2 : Nat) : (s.raise code d1 d2).evtSet code 0 = true :=
  s.occur_evtSet ..

/-- The event log holds at most 1,024 entries after any entry. -/
theorem State.logEvent_ring_length (s : State) (code inst : Nat) (f hst : Bool) (t d1 d2 : Nat) :
    (s.logEvent code inst f hst t d1 d2).log.ring.length ≤ 1024 := by
  simp [State.logEvent]
  omega

/-- An intake event the logic die can take is raised. -/
theorem State.intakeEvent_linked {s : State} (h1 : s.live = true) (h2 : s.logic.linkUp = true) (code : Nat) :
    s.intakeEvent code = s.raise code := by simp [State.intakeEvent, h1, h2]

/-! ### Power-on reset -/

@[simp] theorem State.powerOn_pending (s : State) (c : Word) : (s.powerOn c).pending = s.pending := rfl
@[simp] theorem State.powerOn_now (s : State) (c : Word) : (s.powerOn c).now = s.now := rfl
@[simp] theorem State.powerOn_fresh (s : State) (c : Word) : (s.powerOn c).fresh = s.fresh := rfl
@[simp] theorem State.powerOn_out (s : State) (c : Word) : (s.powerOn c).out = s.out := rfl
@[simp] theorem State.powerOn_logic (s : State) (c : Word) : (s.powerOn c).logic = { trst := s.logic.trst } := rfl
@[simp] theorem State.powerOn_regs (s : State) (c : Word) : (s.powerOn c).regs = s.intake.cfg := rfl

/-- PG_OUT falling leaves it deasserted, and SEQ_OUT with it. -/
theorem State.dropPg_low (s : State) (c : Word) : (s.dropPg c).intake.pgOut = false := by
  unfold State.dropPg
  split
  · rfl
  · rename_i h; simpa using h

@[simp] theorem State.dropPg_pending (s : State) (c : Word) : (s.dropPg c).pending = s.pending := by
  unfold State.dropPg; split <;> rfl

end Sys2Proof.Machine
end

