-- ==== Sys2Proof/WellFormed.lean ====
section
/-! DEFINITION. Which commands the outside world can send: an operand that names one of a number of things names one
that exists (01_architecture.md; R133, R175, R525, R638, R716). Everything else an operand can hold, it can hold. -/

namespace Sys2Proof

/-- A PLL of the clock tree (02, PLLs and the island clock tree). -/
def Pll.wf : Pll → Bool
  | .core | .sram => true
  | .channel n => decide (n < 16)
  | .serdes p => decide (p < 2)
  | .port p => decide (p < 2)

/-- A boundary at which the CRC-32C of a request fails whose own commands do not carry the failure: before the pipeline, into
stages 5 and 6, and where the response is composed; 0 for none (R14 to R16). -/
def crcOk (crc : Nat) : Bool := [0, 2, 3, 4, 5, 6, 10].contains crc

/-- A command's operands name things that exist. -/
def Instr.wf (i : Instr) : Bool :=
  match i with
  | .intakeLinkFrame _ _ => true
  | .logicLinkTimeout => true
  | .intakeLinkTimeout => true
  | .faultWireAssert => true
  | .thermalTrip => true
  | .vstbyRise => true
  | .vstbyFall => true
  | .intakeStrapSample _ _ => true
  | .pllLock pll => pll.wf
  | .pllLockTimeout pll => pll.wf
  | .tapReset _ => true
  | .tapInstruction _ _ => true
  | .intUnlock _ => true
  | .intProfileProg _ => true
  | .profileWordProgrammed => true
  | .intCfgCommit _ => true
  | .intLinkWriteAck => true
  | .intEvtHistDelivery => true
  | .plausibilityFault => true
  | .senseDisagree => true
  | .feedValid _ => true
  | .feedInvalid _ => true
  | .feedSwitch => true
  | .feedBreakEnd => true
  | .feedBelowVrst => true
  | .feedOvervoltage => true
  | .feedReturn => true
  | .softStart => true
  | .passFetDrive => true
  | .currentLimitEnter => true
  | .currentLimitLeave => true
  | .ftimerExpired => true
  | .pgOutAssert => true
  | .curveTrip => true
  | .i2tTrip => true
  | .fastTrip => true
  | .fetOvertemp => true
  | .retryCoolEnd => true
  | .retryEnd => true
  | .intFaultClear _ => true
  | .faultCountReset => true
  | .shortFet => true
  | .openFet => true
  | .removal _ _ => true
  | .insertionComplete => true
  | .earlyWarning => true
  | .braceEntry => true
  | .lastGaspWritten => true
  | .dipRecovered => true
  | .seqInAssert => true
  | .seqTimeout => true
  | .seqOutAssert => true
  | .offReq => true
  | .offPassFetOff => true
  | .seqWakeEdge => true
  | .porRelease _ _ => true
  | .vrmPgTimeout => true
  | .vrmPgLost => true
  | .sysRstAssert => true
  | .sysRstRelease _ _ => true
  | .bootStart _ => true
  | .imageHeadersRead => true
  | .imageVerified => true
  | .imageApply => true
  | .regPollTimeout => true
  | .bootMarchDone _ => true
  | .dimmDiscovery _ => true
  | .pmicPowerGood chan q => decide (chan < 16) && decide (q < 2)
  | .pmicGoodTimeout chan q => decide (chan < 16) && decide (q < 2)
  | .channelResetRelease chan => decide (chan < 16)
  | .trainingComplete => true
  | .bootReady => true
  | .bootHalt => true
  | .limitedEntry => true
  | .bootContinue => true
  | .warmReset _ _ => true
  | .warmDrainEnd _ => true
  | .warmSweepDescriptor _ => true
  | .warmSweepDone => true
  | .lastGaspErase _ => true
  | .flashRead => true
  | .flashProgram => true
  | .flashErase => true
  | .flashOpDone _ => true
  | .fuseProg _ => true
  | .registerWrite _ _ => true
  | .pageEnable _ _ => true
  | .pageSoftReset _ _ => true
  | .softResetDone _ => true
  | .pageLock _ => true
  | .evtStatusClear _ _ => true
  | .evtForce _ _ => true
  | .eventRaise _ _ _ _ => true
  | .eventDelivery subscr => decide (subscr < 8)
  | .parityScan _ _ _ => true
  | .mgmtRead => true
  | .mgmtWrite _ => true
  | .mgrLock _ _ => true
  | .opCommand => true
  | .opStart op _ => decide (op < 32)
  | .opSuspend op => decide (op < 32)
  | .opResume op => decide (op < 32)
  | .opCancel op => decide (op < 32)
  | .opAdmit op => decide (op < 32)
  | .opSuspendPoint op => decide (op < 32)
  | .opFinished op => decide (op < 32)
  | .opError op => decide (op < 32)
  | .opCleanupDone op => decide (op < 32)
  | .linkUp mac => decide (mac < 8)
  | .linkDown mac => decide (mac < 8)
  | .failback _ => true
  | .anTimeout mac => decide (mac < 8)
  | .fecAlarm mac _ _ _ => decide (mac < 8)
  | .frameReceive mac _ => decide (mac < 8)
  | .pfcRepeat mac cls => decide (mac < 8) && decide (cls < 8)
  | .pfcReceive mac => decide (mac < 8)
  | .pfcPauseExpire mac cls => decide (mac < 8) && decide (cls < 8)
  | .arpRequest mac => decide (mac < 8)
  | .neighborSolicitation mac => decide (mac < 8)
  | .echoRequest mac => decide (mac < 8)
  | .gatewayResolve mac _ => decide (mac < 8)
  | .msSaInstall port _ => decide (port < 2)
  | .ptpMessage mac => decide (mac < 8)
  | .delayReqSend => true
  | .ptpTimeout => true
  | .ptpSet _ => true
  | .ppsOutSecond => true
  | .ppsInEdge => true
  | .ppsInMissing => true
  | .wakeFrameMatch mac _ => decide (mac < 8)
  | .keyInstall _ => true
  | .hello mac => decide (mac < 8)
  | .sessionOpenDeferred _ => true
  | .segmentReceive mac => decide (mac < 8)
  | .ackReceive mac => decide (mac < 8)
  | .keepaliveReceive mac => decide (mac < 8)
  | .nakReceive mac => decide (mac < 8)
  | .closeReceive mac => decide (mac < 8)
  | .sessionEnd _ _ => true
  | .ackSend _ => true
  | .nakDelayExpire _ => true
  | .retransmitTimeout _ => true
  | .deadTimeExpire _ => true
  | .keepaliveTimer _ => true
  | .rekeyGraceExpire _ => true
  | .rateIncrease _ => true
  | .sessCtrlClose _ => true
  | .sessCtrlSwitch _ => true
  | .readShared _ _ crc => crcOk crc
  | .readOwn _ _ crc => crcOk crc
  | .upgrade _ _ crc => crcOk crc
  | .readCurrent _ _ crc => crcOk crc
  | .writeThrough _ _ crc => crcOk crc
  | .writeBackDirty _ _ crc => crcOk crc
  | .evictClean _ _ crc => crcOk crc
  | .atomic _ _ crc => crcOk crc
  | .readBulk _ _ crc => crcOk crc
  | .writeBulk _ _ crc => crcOk crc
  | .bulkCompletion _ _ _ => true
  | .hint _ _ crc => crcOk crc
  | .hintPage _ => true
  | .descriptorFetchDone _ _ => true
  | .cacheWayUnpinned _ => true
  | .trackerFree _ => true
  | .creditExpire _ _ => true
  | .pageQueueAdvance region _ => decide (region < 65536)
  | .snpResp _ _ => true
  | .snoopTimeout _ _ => true
  | .holderSweepStart => true
  | .holderSweepPage _ => true
  | .holderSweepEnd => true
  | .sgRead => true
  | .sgAdd => true
  | .sgRemove => true
  | .sgClear => true
  | .regionRead => true
  | .regionCreate _ => true
  | .regionInitDone region => decide (region < 65536)
  | .regionModify _ => true
  | .regionDisable _ => true
  | .regionDisableDrained => true
  | .regionEnable _ => true
  | .regionDestroy _ => true
  | .regionReleased => true
  | .grantRead => true
  | .grantAdd _ => true
  | .grantModify _ => true
  | .grantRemove _ => true
  | .descRead _ => true
  | .descSetPin _ => true
  | .descClearPin _ => true
  | .dcFlush => true
  | .dcFlushDone => true
  | .lockTimeout _ => true
  | .compressDone _ lane _ _ _ => decide (lane < 16)
  | .xtsUnitCheck _ _ _ _ _ => true
  | .memoryWriteAccept _ chan _ => decide (chan < 16)
  | .writeCommit _ _ => true
  | .memoryReadReturn chan sub _ _ => decide (chan < 16) && decide (sub < 2)
  | .decompressDone _ lane _ _ _ => decide (lane < 16)
  | .handshakeTimeout _ stage _ => decide (1 ≤ stage) && decide (stage ≤ 10)
  | .clockMonitor island => decide (island < 20)
  | .dupStateMismatch block => decide (block < 19)
  | .epochAdvance => true
  | .scanVisit _ => true
  | .scanPassEnd => true
  | .moveStart region _ _ => decide (region < 65536)
  | .moveCommit region _ _ => decide (region < 65536)
  | .demoteUnderstory region _ lane _ _ _ _ _ _ => decide (region < 65536) && decide (lane < 16)
  | .batchClose => true
  | .batchWrite => true
  | .promoteCanopy region _ lane _ _ _ _ _ _ => decide (region < 65536) && decide (lane < 16)
  | .promoHoldExpire stand => decide (stand < 8)
  | .floorLingerExpire stand => decide (stand < 8)
  | .moverStop => true
  | .thinningRun region _ _ => decide (region < 65536)
  | .tierPolCommit => true
  | .tierStandCfgWrite stand _ => decide (stand < 8)
  | .stretchRebuildDone _ => true
  | .standWakeDone stand => decide (stand < 8)
  | .claneReturn _ => true
  | .dlaneReturn _ => true
  | .classDataWrite _ => true
  | .classCommit => true
  | .classUnload => true
  | .classUnloadDone => true
  | .classClearStage => true
  | .dwkBurn _ => true
  | .dwkProvisioned => true
  | .keySlotLoad => true
  | .keySlotZeroise => true
  | .keySlotRead => true
  | .xtsEngineReturn _ _ => true
  | .gcmSegmentVerify _ => true
  | .rekeyPage op _ _ _ _ => decide (op < 32)
  | .dramCommandIssue chan sub _ => decide (chan < 16) && decide (sub < 2)
  | .entryAged chan sub _ => decide (chan < 16) && decide (sub < 2)
  | .refreshDue chan rank => decide (chan < 16) && decide (rank < 8)
  | .rowIdleExpire chan sub rank _ => decide (chan < 16) && decide (sub < 2) && decide (rank < 8)
  | .parityAlert chan q => decide (chan < 16) && decide (q < 2)
  | .alertWaitEnd chan => decide (chan < 16)
  | .fpTargetWrite _ => true
  | .fpChange => true
  | .fpChangeDone => true
  | .trainingPhaseEnd chan _ _ => decide (chan < 16)
  | .phaseLimitExpire chan => decide (chan < 16)
  | .recalibrate chan rank _ => decide (chan < 16) && decide (rank < 8)
  | .sensorPoll chan q temps _ => decide (chan < 16) && decide (q < 2) && decide (temps.length ≤ 3)
  | .sensorUnreadable chan q => decide (chan < 16) && decide (q < 2)
  | .pdIdleExpire chan rank => decide (chan < 16) && decide (rank < 8)
  | .selfRefreshEntry stand chan => decide (stand < 8) && decide (chan < 16)
  | .selfRefreshAbort stand => decide (stand < 8)
  | .clkStopDelayExpire chan q => decide (chan < 16) && decide (q < 2)
  | .selfRefreshExit stand => decide (stand < 8)
  | .dimmOff _ => true
  | .scrubLine stand chan _ _ => decide (stand < 8) && decide (chan < 16)
  | .scrubTargetReached stand => decide (stand < 8)
  | .scrubLeadReached stand => decide (stand < 8)
  | .scrubPassEnd stand => decide (stand < 8)
  | .scrubPassLate stand => decide (stand < 8)
  | .cetClearSel chan => decide (chan < 16)
  | .cetClearAll chan => decide (chan < 16)
  | .bankOwnerWrite bank _ => decide (bank < 368)
  | .bankClearDone bank => decide (bank < 368)
  | .winRead _ _ _ => true
  | .winWrite _ => true
  | .winAdd _ _ _ => true
  | .winSwap _ _ _ => true
  | .winSet _ _ _ => true
  | .winClear _ _ _ => true
  | .bistRegionTest _ _ _ _ => true
  | .bistCycleLate => true
  | .regWindowBoundary => true
  | .mregCommit => true
  | .mregEfficiencyWrite _ _ => true
  | .frameTransmit mac => decide (mac < 8)
  | .wheelSlot _ => true
  | .egressQueueRoom _ => true
  | .sessShapeWrite _ => true
  | .cshpWrite mac cls _ => decide (mac < 8) && decide (cls < 8)
  | .gclCommit port _ => decide (port < 2)
  | .gclSwitch port => decide (port < 2)
  | .yellowAgeExpire _ _ => true
  | .ingSessCfgWrite _ => true
  | .ingProfileRead => true
  | .ingProfileWrite _ => true
  | .pwrReqWrite _ => true
  | .idleDrowsyExpire => true
  | .idleDormantExpire => true
  | .alarm => true
  | .entryQuiesced => true
  | .entrySaved => true
  | .entryDramDone => true
  | .pointOfNoReturn => true
  | .entryDone => true
  | .entryLimitExpire => true
  | .offRequest => true
  | .offSessionsEnded _ => true
  | .exitWave => true
  | .domainPowerUp domain => decide (domain < 37)
  | .domainUp domain _ => decide (domain < 37)
  | .domainWakeTimeout domain => decide (domain < 37)
  | .domainHysteresisExpire domain => decide (domain < 37)
  | .domainPowerDownDone domain => decide (domain < 37)
  | .pwrVoteWrite _ _ _ => true
  | .clockIdleGate domain => decide (domain < 37)
  | .thermalSample _ => true
  | .sensorInvalid sensor => decide (sensor < 10)
  | .coreClockRelock => true
  | .migrateTierPage op _ => decide (op < 32)
  | .drainStandMove op region _ _ => decide (op < 32) && decide (region < 65536)
  | .thinStandMove op region _ _ => decide (op < 32) && decide (region < 65536)
  | .eraseRegionStep op _ => decide (op < 32)
  | .resizeRegionStep op _ => decide (op < 32)
  | .retireStep op region _ _ => decide (op < 32) && decide (region < 65536)
  | .scrubNowLine op _ _ => decide (op < 32)
  | .marchSramDone op _ => decide (op < 32)
  | .importOpen op => decide (op < 32)
  | .helloAckReceive mac => decide (mac < 8)
  | .evacSend op lane dlane _ _ _ _ _ => decide (op < 32) && decide (lane < 16) && decide (dlane < 16)
  | .evacData lane dlane _ _ _ _ _ _ _ _ _ => decide (lane < 16) && decide (dlane < 16)
  | .evacAck => true
  | .importClose op => decide (op < 32)
  | .evaluationTick _ _ _ _ _ => true
  | .intakeKeepaliveFrame _ => true
  | .gateListEntryEnd port => decide (port < 2)
  | .ppsOutFall => true
  | .summaryReloadDone _ => true

end Sys2Proof
end

