-- ==== Sys2Proof/Tests/Slice0.lean ====
section
/-! SUPPORT. The model's own tests: commands that are refused as ill formed, a few results written out from the spec by hand, and
for every statement with hypotheses a state and operands that meet them. -/

set_option maxRecDepth 4000
set_option Elab.async false

namespace Sys2Proof.Tests

open Sys2Proof Sys2Proof.Machine

/-! ### States -/

/-- The device running: power good, link up, every domain up, boot ended. -/
def running : State :=
  { logic := { on := true, linkUp := true, strapsSeen := true }
    intake := { vstby := true, strapped := true, inserted := true, pgOut := true, passFet := true, phase := .running,
                feed := some .a, validA := true, validB := true, feedMode := 2 }
    boot := { stage := .ready, portsOn := true }
    pwr := { doms := (List.range 36).map fun d => (d + 1, { state := .up }) } }

/-- The device running, with `f` of its intake die. -/
def runningIntake (f : Intake → Intake) : State := { running with intake := f running.intake }

/-- The device running, with `f` of its boot sequencer. -/
def runningBoot (f : Boot → Boot) : State := { running with boot := f running.boot }

/-- The device running, with a list of registers. -/
def runningRegs (l : List (Nat × Word)) : State := l.foldl (fun s e => s.setReg e.1 e.2) running

/-- A DIMM as discovery reports it, of one rank and 16 Gb devices. -/
def spd : SpdReport := ⟨true, 1, false, 0, true, true, 6400, 0, [], 0, true⟩

/-- The DIMM as the channels keep it. -/
def dimm : Dimm := dimmOf (some spd)

/-- Eight channels that run, on a device with one stand that is Awake. -/
def memory : State :=
  { running with
    tier := { channels := 8, ready := true
              stands := [(0, { present := true, plots := 65536, freePlots := 65000, power := 0, used := 0 })] }
    dram := { chans := (List.range 8).map fun k => (2 * k, { state := .ready, dimm0 := dimm }) } }

/-- A value that an answer holds, and what holds of it. -/
theorem pick {α β : Type} {o : Option (α × β)} {p : α → β → Prop}
    (h : ∃ h : o.isSome, p (o.get h).1 (o.get h).2) : ∃ a b, o = some (a, b) ∧ p a b := by
  obtain ⟨h, hp⟩ := h
  exact ⟨_, _, (Option.some_get h).symm, hp⟩

/-- A message of a client. -/
def message (c type : Nat) (body : List Byte) : InMsg :=
  { client := c, epoch := 0, type := type, msgId := 1, credit := 0, status := 0, body := body, yellow := false }

/-- An open session of the current version. -/
def session : Session := { state := .opened }

/-- The device running with an open session of client `c`, which may be a manager, and one message of it delivered. -/
def delivered (c type : Nat) (mgr : Bool) (body : List Byte) : State :=
  { running with kct := { ctx := [(c, { enable := true, manager := mgr, sess := session })], delivered := [message c type body] } }

/-- The device running with one operation slot in use. -/
def slotState (s : State) (i : Nat) (o : OpSlot) : State := { s with mgmt := { s.mgmt with slots := [(i, o)] } }

/-- Eight DIMMs in the even channels. -/
def eightDimms : List (Option SpdReport) := (List.replicate 8 [some spd, none, none, none]).flatten

/-- A region of 2 pages whose first descriptor is cached. -/
def sweptPipe : Pipe :=
  { regions := [(1, { valid := true, enable := true, coherent := true, pageCount := 2 })]
    cache := [(2 ^ 34, some { desc := {}, used := 1 })] }

/-- A log entry. -/
def oneEntry : LogEntry := ⟨0x0501, 0, 0, false, false, false, 0, 0, 0, 0⟩

/-- Both pipelines' domains are Up, whichever one the hash names. -/
theorem pipes_up {s : State} (h3 : s.up 3 = true) (h4 : s.up 4 = true) (r p : Nat) : s.up (pipeDom r p) = true := by
  unfold pipeDom pipeOf; cases Config.pipeHash r p <;> assumption

/-- Where neither pipeline is within its budget, neither is the one the hash names. -/
theorem pipes_over {s : State} {n : Nat} (h0 : s.withinBudget n 0 = false) (h1 : s.withinBudget n 1 = false) (r p : Nat) :
    s.withinBudget n (pipeOf r p) = false := by
  unfold pipeOf; cases Config.pipeHash r p <;> assumption

/-- The device running with the port of MAC 0 enabled, its link up and its IPv4 address 10.0.0.1. -/
def ported : State :=
  { running with
    ports := { macs := [(0, { linkUp := true })] }
    regs := [(0x10000C, 1), (Reg.PRT_IPV4 0 0, 0x0A000001)] }

/-- A frame to all stations. -/
def frame (body : FrameBody) : EthFrame :=
  { fcsOk := true, length := 100, secTag := none, da := 0xFFFFFFFFFFFF, sa := 2, tags := [], etherType := 0x0806
    ip := none, udpDst := 0, udpSrc := 0, udpLen := 48, udpSum := .good, first := [], body := body }

/-- A state with one frame of MAC 0 accepted and not yet handled. -/
def framed (s : State) (body : FrameBody) : State := { s with ports := { s.ports with rx := [⟨0, 0, frame body, 0⟩] } }

/-- An IPv4 header of a datagram to MAC 0. -/
def ipHeader : IpHeader := ⟨false, 0x0A000002, 0x0A000001, 29, 5, true, false, 1, 0, false⟩

/-- A state with one echo request of MAC 0 accepted. -/
def echoed : State := { ported with ports := { ported.ports with rx := [⟨0, 0, { frame (.echo [1]) with ip := some ipHeader }, 0⟩] } }

/-- A state with one client context. -/
def client (s : State) (c : Nat) (x : Ctx) : State := { s with kct := { s.kct with ctx := [(c, x)] } }

/-- A header without payload. -/
def header (t : Byte) : BaseHeader :=
  ⟨3, false, false, t, 5, 0, 0, 0, 0, 0, false, false, 0, true, 1, 0, 0, 0⟩

/-- A sealed segment without payload. -/
def sealedOf (h : BaseHeader) : Sealed := ⟨7, segNonce 0 false 0 (isControl h.type.toNat) 0 false, h, []⟩

/-- The device with a session of client 5 and one KCT segment of it accepted. -/
def segmented (t : Byte) (live : Bool) : State :=
  client (framed ported (.kct (header t) (sealedOf (header t)))) 5
    { enable := true, key0 := { valid := true, key := 7 }, sess := if live then session else {} }

/-- A sealed Close of REASON 0. -/
def closeBox : Sealed := { sealedOf (header 0x03) with plain := [0, 0, 0, 0] }

/-- The device with a session of client 5 and that Close of it accepted. -/
def closing : State :=
  client (framed ported (.kct (header 0x03) closeBox)) 5 { enable := true, key0 := { valid := true, key := 7 }, sess := session }

/-- A segment to send. -/
def txSeg (c : Nat) : TxSeg :=
  { client := c, epoch := 0, ext := 0, sequenced := true, hdr := header 0x10, plain := [], box := none, cls := 0
    retx := false, dest := none }

/-- A request whose snoop of client 5 is not answered. -/
def snooping : Flight :=
  { id := 3, client := 6, epoch := 0, type := tReadOwn, msgId := 1, region := 1, page := 0, stage := .snoops, trk := .shared
    snoops := [⟨5, 0, 9, 0, false, none⟩] }

/-- The queue memory has room for one segment without payload. -/
theorem room_for : ({ running with kct := { stage11 := [txSeg 5] } } : State).roomFor (txSeg 5) = true := by
  have h : ({ running with kct := { stage11 := [txSeg 5] } } : State).frameLen (txSeg 5) = 86 := by decide
  have h' : ({ running with kct := { stage11 := [txSeg 5] } } : State).qmemLevel 0 = 0 := by decide
  have h2 : macPort (({ running with kct := { stage11 := [txSeg 5] } } : State).segMac (txSeg 5)) = 0 := by decide
  simp only [State.roomFor, h2, h, h', Config.queueMemory]
  simp only [Bool.and_eq_true, decide_eq_true_eq]
  exact ⟨by decide, by omega⟩

/-- A region of two pages whose descriptors lie in plot 0. -/
def region1 : Region :=
  { valid := true, enable := true, coherent := true, writeFormat := 1, pageCount := 2 }

/-- Everything enabled, with region 1 and client 5's grant for it. -/
def serving : State :=
  { memory with
    regs := [(0x10000C, 1), (0x11000C, 1), (0x20000C, 1), (0x30000C, 1), (0x31000C, 1), (0x32000C, 1), (0x40000C, 1), (0x50000C, 1), (0x60000C, 1), (0x70000C, 1), (0x80000C, 1), (0x90000C, 1)]
      ++ (List.range 8).map (fun k => (0xA0000C + 0x20000 * k, 1))
    pipe := { regions := [(1, region1)]
              grants := [(grantBucket 5 1, { valid := true, read := true, write := true, caching := true, manager := true, region := 1, client := 5, last := 1 })] } }

/-- The body of a request at an offset of region 1. -/
def body (off len x : Nat) : List Byte := beBytes 8 (2 ^ 48 + off) ++ beBytes 2 len ++ beBytes 2 x ++ List.replicate 4 0

/-- A state with one message delivered. -/
def asked (s : State) (type : Nat) (b : List Byte) : State := { s with kct := { s.kct with delivered := [message 5 type b] } }

/-- A flight of client 5 for page 0 of region 1. -/
def flight (stage : Stage) (trk : Trk) : Flight :=
  { id := 3, client := 5, epoch := 0, type := tReadOwn, msgId := 1, region := 1, page := 0, stage := stage, trk := trk }

/-- A state with flights. -/
def flying (s : State) (l : List Flight) : State := { s with coh := { s.coh with flights := l } }

/-- Both pipelines' domains are Failed, whichever one the hash names. -/
theorem pipes_failed {s : State} (h3 : s.domFailed 3 = true) (h4 : s.domFailed 4 = true) (r p : Nat) :
    s.domFailed (pipeDom r p) = true := by
  unfold pipeDom pipeOf; cases Config.pipeHash r p <;> assumption

/-- A fetch that gives a descriptor, and the room there then is. -/
theorem fetched {x : State × Except LineStatus Desc} {f : State → Option State}
    (h : ((match x.2 with | .ok _ => true | .error _ => false) && (f x.1).isSome) = true) :
    ∃ u d w, x = (u, .ok d) ∧ f u = some w := by
  obtain ⟨u, r⟩ := x
  cases r with
  | error e => simp at h
  | ok d =>
    simp only [Bool.true_and] at h
    obtain ⟨w, hw⟩ := Option.isSome_iff_exists.mp h
    exact ⟨u, d, w, rfl, hw⟩

/-- A fetch that fails. -/
theorem unfetched {x : State × Except LineStatus Desc} (h : (match x.2 with | .ok _ => false | .error _ => true) = true) :
    ∃ u st, x = (u, .error st) := by
  obtain ⟨u, r⟩ := x
  cases r with
  | ok d => simp at h
  | error e => exact ⟨u, e, rfl⟩

/-- Every bit of a line reads inverted. -/
def allErrs : ReadErrs := ⟨BitVec.allOnes 640, BitVec.allOnes 640, 0, false⟩

/-- The region window on region `n`, with an entry staged. -/
def windowed (s : State) (n : Nat) (r : Region) : State :=
  (s.setReg Reg.PIPE_RGN_SEL (BitVec.ofNat 32 n)).putWords (Reg.PIPE_RGN_DATA 0) r.words

/-- The region window busy with a command on region 1. -/
def busyWindow (s : State) (cmd : Nat) (hold : List Nat) : State :=
  { s with pipe := { s.pipe with rgnBusy := true, rgnCmd := cmd, rgnSel := 1, rgnHold := hold } }

/-- Region 1 replaced. -/
def withRegion (r : Region) : State := { serving with pipe := { serving.pipe with regions := [(1, r)] } }

/-- The grant window on a client and region. -/
def granting (c r : Nat) : State := serving.setReg Reg.PIPE_GNT_KEY (BitVec.ofNat 32 (r * 65536 + c))

/-- The descriptor window on a page of region 1, whose first two descriptors are cached. -/
def describing (page : Nat) : State :=
  ({ serving with pipe := { serving.pipe with
      cache := [(pageKey 1 0, some { desc := {} }), (pageKey 1 1, some { desc := {}, dirty := true })] } }.setReg
    Reg.PIPE_DSC_REGION 1).setReg Reg.PIPE_DSC_PAGE_LO (BitVec.ofNat 32 page)

/-- A line of a page's group to write. -/
def lineWr : LineWr := { la := 64, bytes := [some 1], tag := some 2 }

/-- The device with a write of one line, whose masters have both used up channel 2's window. -/
def overBudget : State :=
  { flying (serving.setReg Reg.MREG_CTRL 1) [{ flight .write .shared with writes := [lineWr] }] with
    dram := { chans := [(2, { state := .ready, counts := [(0, 2 ^ 40), (1, 2 ^ 40)] })] } }

/-- A key slot 0 that is loaded. -/
def keyed0 (s : State) : State := { s with cry := { slots := [(0, { loaded := true, k1 := 1, k2 := 2 })] } }

/-- A read entry that has come back for flight 3. -/
def backEntry : Entry := { la := 64, access := .rd, cls := 1, master := 0, src := some 3 }

/-- A state with pages in moves. -/
def moving (s : State) (l : List Move) : State := { s with tier := { s.tier with moves := l } }

/-- The mover enabled. -/
def moverState : State := serving.setReg Reg.TIER_CTRL 7

/-- A move of page 0 of region 1. -/
def move (k : MoveKind) : Move := { region := 1, page := 0, kind := k, src := { tier := 3, priSlot := 16, priCount := 16 } }

/-- A move of page 0 of region 1 that is ready to commit, with the page's descriptor cached. -/
def keyedMove : State :=
  { moving moverState [{ move .promoteU with newDesc := some { tier := 3 } }] with
    pipe := { moverState.pipe with cache := [(pageKey 1 0, some { desc := {} })] } }

/-- That move commits. -/
theorem commit_some : (keyedMove.commitMove { move .promoteU with newDesc := some { tier := 3 } } ReadErrs.none).isSome = true := by
  decide +kernel

/-- Regulation off: no master has a limit. -/
theorem no_limit {s : State} (h : s.flag Reg.MREG_CTRL 0 = false) (n m : Nat) : s.withinBudget n m = true := by
  simp [State.withinBudget, h]

/-- What a read whose third part is 0 gives. -/
theorem read_clean {α β : Type} {x : α × β × Nat} (h : x.2.2 = 0) : ∃ u c, x = (u, c, 0) := by
  obtain ⟨u, c, n⟩ := x
  exact ⟨u, c, by rw [show n = 0 from h]⟩

/-- A promotion of a stream of one slot that has not been read yet. -/
def promoted : Move := { move .promoteC with src := { tier := 4, priSlot := 16, priCount := 1, compLen := 100, format := 1 } }

/-- The device with that promotion under way. -/
def promoting : State := keyed0 (moving moverState [promoted])

/-- Its lines read clean. -/
theorem promoting_reads : ∃ u c, promoting.readLines 4 (promoting.pageLines promoted.src) [] = (u, c, 0) :=
  read_clean (by decide +kernel)

/-- The staged code table of 257 symbols in use: 255 of 8 bits and two of 9. -/
def stagedTable : Tab Byte := (List.range 127).map (fun i => (i, 0x88)) ++ [(127, 0x98), (128, 0x09)]

/-- Class 15 selected, with parts staged. -/
def classing (parts : Word) (c : Cmp) : State :=
  { (running.setReg Reg.CMP_CLS_SEL 15).setReg Reg.CMP_CLS_STAGE parts with cmp := c }

/-- Channel 14 of a running memory replaced. -/
def channel14 (c : Chan) : State := { memory with dram := { chans := memory.dram.chans.map fun e => if e.1 = 14 then (14, c) else e } }

/-- Channel 14 in training at point 0, with an image's training table. -/
def trained (t : List (List Byte)) : State :=
  { (channel14 { state := .training, dimm0 := dimm }).setReg (Reg.DRC_TRAIN_STATUS 14) 0x80000000 with
    dram := { (channel14 { state := .training, dimm0 := dimm }).dram with training := some t } }

/-- A sweep record of phase 0 at every point, over settings 0 to 1. -/
def sweepRow : List Byte := [0, 4, 0, 7, 0, 0, 0, 0, 0, 1, 0, 1, 0, 1, 0, 0]

/-! ### A wrapped key, and a signed image: what the device takes -/

/-- The inverse of one unwrapping pass. -/
def wrapPass (k : BitVec 256) : Nat → DWord → List DWord → DWord × List DWord
  | _, a, [] => (a, [])
  | t, a, r :: rs =>
    let b := (Config.aes k ((wrapPass k (t - 1) a rs).1 ++ r : BitVec 128)).toNat
    (BitVec.ofNat 64 (b >>> 64) ^^^ BitVec.ofNat 64 t, BitVec.ofNat 64 b :: (wrapPass k (t - 1) a rs).2)

theorem append_toNat (a r : DWord) : (a ++ r : BitVec 128).toNat = a.toNat * 2 ^ 64 + r.toNat := by
  rw [BitVec.toNat_append, ← Nat.shiftLeft_add_eq_or_of_lt r.isLt, Nat.shiftLeft_eq]

theorem hi_lo_append (b : BitVec 128) : (BitVec.ofNat 64 (b.toNat >>> 64) ++ BitVec.ofNat 64 b.toNat : BitVec 128) = b := by
  apply BitVec.eq_of_toNat_eq
  have := b.isLt
  rw [append_toNat, BitVec.toNat_ofNat, BitVec.toNat_ofNat, Nat.shiftRight_eq_div_pow]
  omega

theorem hi_of_append (a r : DWord) : BitVec.ofNat 64 ((a ++ r : BitVec 128).toNat >>> 64) = a := by
  apply BitVec.eq_of_toNat_eq
  have := r.isLt
  have := a.isLt
  rw [append_toNat, BitVec.toNat_ofNat, Nat.shiftRight_eq_div_pow]
  omega

theorem lo_of_append (a r : DWord) : BitVec.ofNat 64 (a ++ r : BitVec 128).toNat = r := by
  apply BitVec.eq_of_toNat_eq
  have := r.isLt
  rw [append_toNat, BitVec.toNat_ofNat]
  omega

theorem unwrap_wrapPass (k : BitVec 256) (rs : List DWord) : ∀ (t : Nat) (a : DWord),
    unwrapPass k t (wrapPass k t a rs).1 (wrapPass k t a rs).2 = (a, rs) := by
  induction rs with
  | nil => intro t a; rfl
  | cons r rs ih =>
    intro t a
    simp only [wrapPass, unwrapPass]
    rw [BitVec.xor_assoc, BitVec.xor_self, BitVec.xor_zero, hi_lo_append, Equiv.symm_apply_apply, hi_of_append, lo_of_append, ih]

/-- The inverse of the six passes. -/
def wrapPasses (k : BitVec 256) (n : Nat) : Nat → DWord → List DWord → DWord × List DWord
  | 0, a, rs => (a, rs)
  | j + 1, a, rs => wrapPass k (n * j + n) (wrapPasses k n j a rs).1 (wrapPasses k n j a rs).2

theorem unwrap_wrapPasses (k : BitVec 256) (n j : Nat) (a : DWord) (rs : List DWord) :
    unwrapPasses k n j (wrapPasses k n j a rs).1 (wrapPasses k n j a rs).2 = (a, rs) := by
  induction j with
  | zero => rfl
  | succ j ih => simp only [wrapPasses, unwrapPasses, unwrap_wrapPass, ih]

theorem wrapPass_length (k : BitVec 256) (rs : List DWord) : ∀ t a, (wrapPass k t a rs).2.length = rs.length := by
  induction rs with
  | nil => intro t a; rfl
  | cons r rs ih => intro t a; simp [wrapPass, ih]

theorem wrapPasses_length (k : BitVec 256) (n j : Nat) (a : DWord) (rs : List DWord) :
    (wrapPasses k n j a rs).2.length = rs.length := by
  induction j with
  | zero => rfl
  | succ j ih => simp [wrapPasses, wrapPass_length, ih]

/-- The bytes of 64-bit words, as two staged words each. -/
def blob (l : List DWord) : List Byte :=
  l.flatMap fun d => beBytes 4 (BitVec.ofNat 32 (d.toNat >>> 32)).toNat ++ beBytes 4 (BitVec.ofNat 32 d.toNat).toNat

theorem word_of_bytes (d : DWord) :
    BitVec.ofNat 64 (beNat (beBytes 4 (BitVec.ofNat 32 (d.toNat >>> 32)).toNat ++ beBytes 4 (BitVec.ofNat 32 d.toNat).toNat)) = d := by
  apply BitVec.eq_of_toNat_eq
  have := d.isLt
  simp [beBytes, beNat, Nat.shiftRight_eq_div_pow]
  omega

theorem words64_blob (l : List DWord) : words64 l.length (blob l) = l := by
  induction l with
  | nil => rfl
  | cons d l ih =>
    have h : (blob (d :: l)).take 8 = beBytes 4 (BitVec.ofNat 32 (d.toNat >>> 32)).toNat ++ beBytes 4 (BitVec.ofNat 32 d.toNat).toNat := rfl
    have h' : (blob (d :: l)).drop 8 = blob l := rfl
    simp only [List.length_cons, words64, h, h', ih, word_of_bytes]

theorem blob_length (l : List DWord) : (blob l).length = 8 * l.length := by
  induction l with
  | nil => rfl
  | cons d l ih => simp [blob, beBytes] at ih ⊢; omega

/-- A key wrapped under `k`: its check value and registers. -/
def wrapped (k : BitVec 256) (p : List DWord) : List DWord :=
  let w := wrapPasses k p.length 6 0xA6A6A6A6A6A6A6A6 p.reverse
  w.1 :: w.2.reverse

theorem wrapped_length (k : BitVec 256) (p : List DWord) : (wrapped k p).length = p.length + 1 := by
  simp [wrapped, wrapPasses_length]

theorem unwrap_wrapped (k : BitVec 256) (p : List DWord) :
    keyUnwrap k (blob (wrapped k p)) = some (p.flatMap fun w => beBytes 8 w.toNat) := by
  have h : (blob (wrapped k p)).length / 8 - 1 = p.length := by rw [blob_length, wrapped_length]; omega
  unfold keyUnwrap
  simp only [h]
  rw [← wrapped_length k p, words64_blob]
  simp only [wrapped, List.reverse_reverse, unwrap_wrapPasses, if_true, List.reverse_reverse]

/-- Words at a register and after it. -/
def staged : Nat → List Word → Tab Word
  | _, [] => []
  | a, w :: ws => (a, w) :: staged (a + 4) ws

theorem staged_get (ws : List Word) : ∀ a i, i < ws.length → tabGet resetOf (staged a ws) (a + 4 * i) = ws.getD i 0 := by
  induction ws with
  | nil => intro a i h; simp at h
  | cons w ws ih =>
    intro a i h
    cases i with
    | zero => simp [staged, tabGet]
    | succ i =>
      have e : a + 4 * (i + 1) = a + 4 + 4 * i := by omega
      have ne : ¬ (a + 4 + 4 * i = a) := by omega
      rw [e]
      simp only [staged, tabGet, if_neg ne]
      rw [ih (a + 4) i (by simpa using h)]
      rfl

theorem flatMap_range (f : Word → List Byte) (ws : List Word) :
    (List.range ws.length).flatMap (fun i => f (ws.getD i 0)) = ws.flatMap f := by
  induction ws with
  | nil => rfl
  | cons w ws ih => simp [List.range_succ_eq_map, List.flatMap_map, ← ih]

/-- 64-bit words as staged words. -/
def halves (l : List DWord) : List Word := l.flatMap fun d => [BitVec.ofNat 32 (d.toNat >>> 32), BitVec.ofNat 32 d.toNat]

theorem stageBytes_staged (s : State) (a : Nat) (ws : List Word) (h : s.regs = staged a ws) :
    s.stageBytes a ws.length = ws.flatMap fun w => beBytes 4 w.toNat := by
  rw [← flatMap_range (fun w => beBytes 4 w.toNat) ws]
  unfold State.stageBytes
  apply List.flatMap_congr
  intro i hi
  rw [State.reg, h, staged_get ws a i (List.mem_range.mp hi)]

theorem blob_halves (l : List DWord) : ((halves l).flatMap fun w => beBytes 4 w.toNat) = blob l := by
  induction l with
  | nil => rfl
  | cons d l ih => simp [halves, blob] at ih ⊢; exact ih

theorem halves_length (l : List DWord) : (halves l).length = 2 * l.length := by
  induction l with
  | nil => rfl
  | cons d l ih => simp [halves] at ih ⊢; omega

/-- The device with its wrap key valid, and a wrapped key staged at a register. -/
def keyed (a : Nat) (p : List DWord) : State :=
  { running with cry := { valid := true }, regs := staged a (halves (wrapped (0 ^^^ Config.pufValue) p)) }

/-- The staged key unwraps. -/
theorem keyed_unwraps (a : Nat) (p : List DWord) :
    (keyed a p).unwrap ((keyed a p).stageBytes a (2 * (p.length + 1)))
      = ((keyed a p).cryCount 7 1, some (p.flatMap fun w => beBytes 8 w.toNat)) := by
  have h : (keyed a p).stageBytes a (2 * (p.length + 1)) = blob (wrapped (0 ^^^ Config.pufValue) p) := by
    have e := stageBytes_staged (keyed a p) a _ rfl
    rwa [halves_length, wrapped_length, blob_halves] at e
  have hv : (keyed a p).cry.valid = true := rfl
  have hd : (keyed a p).dwk = 0 ^^^ Config.pufValue := rfl
  simp only [State.unwrap, hv, if_true, hd, h, unwrap_wrapped]


/-! ### A signed image -/

/-- Bytes of the boot store from an address on. -/
def stored : Nat → List Byte → Tab Byte
  | _, [] => []
  | a, b :: l => (a, b) :: stored (a + 1) l

theorem stored_get (l : List Byte) : ∀ a i, i < l.length → tabGet (fun _ => 0xFF) (stored a l) (a + i) = l.getD i 0xFF := by
  induction l with
  | nil => intro a i h; simp at h
  | cons b l ih =>
    intro a i h
    cases i with
    | zero => simp [stored, tabGet]
    | succ i =>
      have e : a + (i + 1) = a + 1 + i := by omega
      have ne : ¬ (a + 1 + i = a) := by omega
      rw [e]
      simp only [stored, tabGet, if_neg ne]
      rw [ih (a + 1) i (by simpa using h)]
      rfl

/-- What the store holds of an image laid at its start. -/
theorem flashBytes_stored (s : State) (l : List Byte) (h : s.boot.flash = stored 0 l) (a n : Nat) (hn : a + n ≤ l.length) :
    s.flashBytes a n = (l.drop a).take n := by
  apply List.ext_getElem
  · simp [State.flashBytes]; omega
  · intro i h1 h2
    have hi : i < n := by simpa [State.flashBytes] using h1
    have g := stored_get l 0 (a + i) (by omega)
    simp only [Nat.zero_add] at g
    simp only [State.flashBytes, List.getElem_map, List.getElem_range, State.flashAt, h, g, List.getElem_take, List.getElem_drop]
    rw [List.getD_eq_getElem _ _ (by omega)]

/-- The header of an image of 368 bytes with one section, up to the public key. -/
def imageHead : List Byte :=
  [0x53, 0x59, 0x42, 0x31, 0, 1, 0, 1, 0, 0, 1, 0x70] ++ (List.replicate 8 0 ++ ([3, 3, 0, 25] ++ List.replicate 40 0))

/-- Its section, which holds no record. -/
def imageSection : List Byte := 1 :: List.replicate 15 0

/-- Its signed part. -/
def imageFront : List Byte := imageHead ++ (Config.bytes96 Config.ecdsaPair.1 ++ List.replicate 96 0)
def imageBody : List Byte := imageFront ++ imageSection

/-- The image. -/
def image : List Byte := imageBody ++ Config.bytes96 (Config.ecdsaPair.2 (Config.sha384 imageBody))

/-- The sequencer verifies that image, whose key is fused. -/
def verifying : State :=
  runningBoot fun b =>
    { b with stage := .imageVerify, flash := stored 0 image, keyHash0 := Config.sha384 (Config.bytes96 Config.ecdsaPair.1) }

theorem bytes96_length (v : BitVec 768) : (Config.bytes96 v).length = 96 := by simp [Config.bytes96]

theorem imageFront_length : imageFront.length = 256 := by simp [imageFront, imageHead, bytes96_length]

theorem imageBody_length : imageBody.length = 272 := by simp [imageBody, imageFront_length, imageSection]

theorem image_length : image.length = 368 := by simp [image, imageBody_length, bytes96_length]

/-- The image is valid. -/
theorem image_valid : verifying.slotFault verifying.boot.slotB = none := by
  have hf : verifying.boot.flash = stored 0 image := rfl
  have fb := fun a n (h : a + n ≤ 368) => flashBytes_stored verifying image hf a n (by rw [image_length]; exact h)
  have hpub : verifying.flashBytes 64 96 = Config.bytes96 Config.ecdsaPair.1 := by
    rw [fb 64 96 (by decide)]
    simp only [image, imageBody, imageFront, List.append_assoc]
    rw [List.drop_left' (by simp [imageHead]), List.take_left' (bytes96_length _)]
  have hbody : verifying.flashBytes 0 272 = imageBody := by
    rw [fb 0 272 (by decide), List.drop_zero, image, List.take_left' imageBody_length]
  have hsig : verifying.flashBytes 272 96 = Config.bytes96 (Config.ecdsaPair.2 (Config.sha384 imageBody)) := by
    rw [fb 272 96 (by decide), image, List.drop_left' imageBody_length, List.take_of_length_le (by simp [bytes96_length])]
  have hb : verifying.boot.slotB = false := rfl
  have hw : ∀ o n, o + n ≤ 64 → verifying.slotWord false o n = beNat ((imageHead.drop o).take n) := by
    intro o n h
    have e : slotBase false + o = o := by simp [slotBase]
    rw [State.slotWord, e, fb o n (by omega)]
    simp only [image, imageBody, imageFront, List.append_assoc]
    rw [List.drop_append_of_le_length (by simp [imageHead]; omega), List.take_append_of_le_length (by simp [imageHead]; omega)]
  have hs : ∀ o n, o + n ≤ 16 → verifying.slotWord false (256 + o) n = beNat ((imageSection.drop o).take n) := by
    intro o n h
    have e : slotBase false + (256 + o) = 256 + o := by simp [slotBase]
    rw [State.slotWord, e, fb (256 + o) n (by omega)]
    simp only [image, imageBody, List.append_assoc]
    rw [← List.drop_drop, List.drop_left' imageFront_length, List.drop_append_of_le_length (by simp [imageSection]; omega),
      List.take_append_of_le_length (by simp [imageSection]; omega)]
  have w0 := hw 0 4 (by decide)
  have w4 := hw 4 2 (by decide)
  have w6 := hw 6 2 (by decide)
  have w8 := hw 8 4 (by decide)
  have w10 := hw 0x10 1 (by decide)
  have w11 := hw 0x11 1 (by decide)
  have w14 := hw 0x14 1 (by decide)
  have w15 := hw 0x15 1 (by decide)
  have w17 := hw 0x17 1 (by decide)
  have s0 := hs 0 1 (by decide)
  have s4 := hs 4 4 (by decide)
  have s8 := hs 8 4 (by decide)
  have s12 := hs 12 4 (by decide)
  have r0 : beNat ((imageHead.drop 0).take 4) = 0x53594231 := by decide
  have r4 : beNat ((imageHead.drop 4).take 2) = 1 := by decide
  have r6 : beNat ((imageHead.drop 6).take 2) = 1 := by decide
  have r8 : beNat ((imageHead.drop 8).take 4) = 368 := by decide
  have r10 : beNat ((imageHead.drop 0x10).take 1) = 0 := by decide
  have r11 : beNat ((imageHead.drop 0x11).take 1) = 0 := by decide
  have r14 : beNat ((imageHead.drop 0x14).take 1) = 3 := by decide
  have r15 : beNat ((imageHead.drop 0x15).take 1) = 3 := by decide
  have r17 : beNat ((imageHead.drop 0x17).take 1) = 25 := by decide
  have q0 : beNat ((imageSection.drop 0).take 1) = 1 := by decide
  have q4 : beNat ((imageSection.drop 4).take 4) = 0 := by decide
  have q8 : beNat ((imageSection.drop 8).take 4) = 0 := by decide
  have q12 : beNat ((imageSection.drop 12).take 4) = 0 := by decide
  rw [r0] at w0; rw [r4] at w4; rw [r6] at w6; rw [r8] at w8; rw [r10] at w10; rw [r11] at w11
  rw [r14] at w14; rw [r15] at w15; rw [r17] at w17; rw [q0] at s0; rw [q4] at s4; rw [q8] at s8; rw [q12] at s12
  have hk : verifying.boot.keyHash0 = Config.sha384 (Config.bytes96 Config.ecdsaPair.1) := rfl
  have hr : verifying.boot.revoked0 = false := rfl
  have hro : verifying.boot.rollback = 0 := rfl
  have sec : verifying.sectionAt false 256 = { type := 1, target := 0, at_ := 272, len := 0 } := by
    simp only [State.sectionAt, s0, s4, s8]
  have none_ : verifying.body false { type := 1, target := 0, at_ := 272, len := 0 } = [] := by
    simp [State.body, State.flashBytes]
  have crc : (crc32c []).toNat = 0 := by decide
  have bad : verifying.badSection false 272 1 0 256 = none := by
    simp [State.badSection, sec, none_, crc, s12]
  have ok : verifying.headerOk false = true := by
    simp [State.headerOk, w6, w14, w15, w17]
  rw [hb]
  simp only [State.slotFault, State.readable, State.lengthOk, ok, w0, w4, w6, w8, w10, w11, hk, hr, hro, hpub, slotBase]
  simp [hpub, hbody, hsig, Config.ecdsaVerify, bad]


/-! ### A stream: a page of zero bytes under the built-in codes -/

/-- One bit of CRC-32C on numbers. -/
def crcBit (n : Nat) : Nat := if n % 2 = 1 then (n / 2) ^^^ 0x82F63B78 else n / 2

/-- 64 zero bytes through CRC-32C on numbers. -/
def crcBlock : Nat → Nat → Nat
  | 0, c => c
  | n + 1, c => crcBlock n (crcBit (crcBit (crcBit (crcBit (crcBit (crcBit (crcBit (crcBit c))))))))

theorem crcBit_toNat (x : BitVec 32) :
    (if x.getLsbD 0 then (x >>> 1) ^^^ 0x82F63B78#32 else x >>> 1).toNat = crcBit x.toNat := by
  have h : x.getLsbD 0 = decide (x.toNat % 2 = 1) := by simp [BitVec.getLsbD, Nat.testBit_zero]
  rw [h]
  unfold crcBit
  by_cases hx : x.toNat % 2 = 1 <;> simp [hx, Nat.shiftRight_eq_div_pow]

theorem crcByte_zero (c : BitVec 32) :
    (crc32cByte c 0).toNat
      = crcBit (crcBit (crcBit (crcBit (crcBit (crcBit (crcBit (crcBit c.toNat))))))) := by
  have h0 : c ^^^ BitVec.setWidth 32 (0 : Byte) = c := by simp
  simp only [crc32cByte, h0, crcBit_toNat]

theorem crc_zeros (n : Nat) : ∀ c : BitVec 32, ((List.replicate n (0 : Byte)).foldl crc32cByte c).toNat = crcBlock n c.toNat := by
  induction n with
  | zero => intro c; rfl
  | succ n ih => intro c; rw [List.replicate_succ, List.foldl_cons, ih, crcByte_zero]; rfl

theorem crcBlock_add (m n : Nat) : ∀ c, crcBlock (m + n) c = crcBlock n (crcBlock m c) := by
  induction m with
  | zero => intro c; simp [crcBlock]
  | succ m ih => intro c; rw [Nat.succ_add]; exact ih _

/-- The CRC's register after each 64 zero bytes. -/
def crcSteps : List Nat := [
   0xFFFFFFFF, 0xFC371498, 0xF7D89B24, 0x8BCA87CF, 0x478D4E6F, 0x03D5A233, 0x4509D0C9, 0xCC289DC7,
   0xCF03123F, 0x39B9AC6B, 0x1FD80331, 0x7793E80C, 0xC5C4C2F9, 0xFC7DEB93, 0x0D77C4C0, 0xC011635A,
   0x11512183, 0x96321F3C, 0xA8448891, 0x5717CF61, 0x72802FED, 0x8B77850D, 0x6B47581E, 0xB9F00015,
   0x0A6FD2D2, 0xDD58B5AA, 0xFBD7265A, 0xAC5B13C6, 0x5BCB999C, 0x782F93A7, 0x50E61FFC, 0x7DDD2266,
   0x5B767CB0, 0x0058238B, 0x22B79A12, 0x07DD69EA, 0x13CA39CB, 0x441DEFD3, 0xE41FC7CF, 0xFACDA96E,
   0x4DF00A81, 0xEB5782D0, 0x278B2FA4, 0xCDCF02CA, 0x24571252, 0x25D8D536, 0xD84843AE, 0x3441F00B,
   0xDF52BE5C, 0xDF1ACD0E, 0xF18F24B4, 0x75AD7B36, 0x0A82160E, 0x559746EE, 0x17AB347E, 0xEAA5B713,
   0xF76F41EA, 0x74CB944E, 0x81BD34D5, 0xFBEE9C85, 0x142AC051, 0xB705E478, 0x54AF813B, 0xA35D99A2,
   0x6706BE76]

theorem crc_steps : ∀ i, i < 64 → crcBlock 64 (crcSteps.getD i 0) = crcSteps.getD (i + 1) 0 := by decide +kernel

theorem crc_chain (i : Nat) (h : i ≤ 64) : crcBlock (64 * i) 0xFFFFFFFF = crcSteps.getD i 0 := by
  induction i with
  | zero => rfl
  | succ i ih => rw [Nat.mul_succ, crcBlock_add, ih (by omega), crc_steps i (by omega)]

theorem crc_zero_page : (crc32c (List.replicate 4096 0)).toNat = 0x98F94189 := by
  have h := crc_chain 64 (by decide)
  have e := crc_zeros (64 * 64) 0xFFFFFFFF#32
  have c : (0xFFFFFFFF#32 : BitVec 32).toNat = 0xFFFFFFFF := rfl
  rw [c, h] at e
  have v : crcSteps.getD 64 0 = 0x6706BE76 := rfl
  rw [v] at e
  have b : (List.replicate 4096 (0 : Byte)).foldl crc32cByte 0xFFFFFFFF#32 = 0x6706BE76#32 := BitVec.eq_of_toNat_eq e
  rw [crc32c, b]
  rfl

theorem copyBack_zeros (n : Nat) : ∀ m, copyBack 1 n (List.replicate (m + 1) 0) = List.replicate (n + (m + 1)) 0 := by
  induction n with
  | zero => intro m; simp [copyBack]
  | succ n ih =>
    intro m
    have e : n + 1 + (m + 1) = n + (m + 1 + 1) := by omega
    rw [e, ← ih (m + 1)]
    rfl

/-- Version 1, class 0, LZ: literal 0, a copy of 4,095 bytes from 1 back, the end of the page and the page's CRC. -/
def zeroStream : List Byte := [0x00, 0x00, 0x40, 0x10, 0x88, 0x9F, 0x2F, 0xFE, 0x03, 0x89, 0x41, 0xF9, 0x98]

/-- The bits of that stream. -/
def zeroBits : Stream := { bits := leNat zeroStream, size := 104 }

theorem zero_tokens :
    zeroBits.tokens (canonical builtinLit) (canonical builtinOff) true 0 104 32 []
      = some (List.replicate 4096 0, 66) := by
  have s0 : zeroBits.symbol (canonical builtinLit) 32 = some (0, 35) := by decide +kernel
  have s1 : zeroBits.symbol (canonical builtinLit) 35 = some (287, 43) := by decide +kernel
  have n1 : zeroBits.number 43 (lenCode 287).1 = some (1523, 54) := by decide +kernel
  have s2 : zeroBits.symbol (canonical builtinOff) 54 = some (0, 57) := by decide +kernel
  have n2 : zeroBits.number 57 (offCode 0).1 = some (0, 57) := by decide +kernel
  have s3 : zeroBits.symbol (canonical builtinLit) 57 = some (256, 66) := by decide +kernel
  have l : (lenCode 287).2 = 2572 := rfl
  have o : (offCode 0).2 = 1 := rfl
  have cb := copyBack_zeros 4095 0
  simp only [Nat.zero_add] at cb
  rw [Stream.tokens, s0]
  simp only [show (0 : Nat) < 256 from by decide, if_true, List.length_nil]
  rw [if_neg (by decide), Stream.tokens, s1]
  simp only [show ¬ (287 : Nat) < 256 from by decide, show ¬ (287 : Nat) = 256 from by decide, if_false, Bool.not_true,
    Bool.false_eq_true, n1, s2, n2, l, o, List.length_singleton]
  rw [if_neg (by decide), Stream.tokens, s3]
  simp only [show ¬ (256 : Nat) < 256 from by decide, if_false, if_true]
  exact congrArg (fun x => some (x, 66)) cb

/-- The stream decodes to a page of zero bytes (R456 to R468). -/
theorem test_daltik_decodes_a_page (classes : Nat → CmpClass) :
    daltikDecode classes 1 0 zeroStream = some (List.replicate 4096 0) := by
  have h0 : zeroBits.number 0 32 = some (0x10400000, 32) := by decide +kernel
  have hp : zeroBits.number 66 ((8 - 66 % 8) % 8) = some (0, 72) := by decide +kernel
  have hc : zeroBits.number 72 32 = some (0x98F94189, 104) := by decide +kernel
  have hz : ({ bits := leNat zeroStream, size := 8 * zeroStream.length } : Stream) = zeroBits := rfl
  have sel : selectCodes classes 1 0 1 = some (builtinLit, builtinOff, true, []) := rfl
  have b1 : bits 0x10400000 31 28 = 1 := rfl
  have b2 : bits 0x10400000 27 24 = 0 := rfl
  have b3 : bits 0x10400000 23 22 = 1 := rfl
  have tok : zeroBits.tokens (canonical builtinLit) (canonical builtinOff) true ([] : List Byte).length
      (8 * zeroStream.length) 32 ([] : List Byte).reverse = some (List.replicate 4096 0, 66) := zero_tokens
  have len : (List.replicate 4096 (0 : Byte)).length = 4096 := List.length_replicate
  have rev : (List.replicate 4096 (0 : Byte)).reverse = List.replicate 4096 0 := List.reverse_replicate ..
  have crc := crc_zero_page
  generalize List.replicate 4096 (0 : Byte) = z at tok len rev crc ⊢
  have pg : (List.take (z.length - ([] : List Byte).length) z).reverse = z := by
    rw [List.take_of_length_le (by simp), rev]
  unfold daltikDecode
  simp only [hz, h0, b1, b2, b3, sel]
  rw [if_neg (by decide), tok]
  simp only [hp, hc, pg]
  rw [len, crc, if_neg]
  simp only [ne_eq, not_true_eq_false, or_false, false_or]
  decide

/-- The scrubber enabled, with a pass of stand 0 under way. -/
def scrubbing (x : Scrub) : State := { memory.setReg Reg.RAS_SCRUB_CFG 0x80000000 with scrubs := [(0, x)] }

/-- The window on a word of a bank that MGT owns. -/
def windowAt (b w : Nat) : State :=
  { (running.setReg Reg.SRM_WIN_BANK (BitVec.ofNat 32 b)).setReg Reg.SRM_WIN_ADDR (BitVec.ofNat 32 w) with
    sram := { banks := [(b, some { owner := ownMgt })] } }

/-- The device in Drowsy, with a domain Up that Drowsy does not hold. -/
def drowsing : State := { running.setReg Reg.PWR_REQ 2 with pwr := { running.pwr with current := 2 } }

/-- An entry at a point, every domain Up but the one that Drowsy drops. -/
def entering (t ap : Nat) : State :=
  { running.setReg Reg.PWR_REQ (BitVec.ofNat 32 t) with
    pwr := { doms := (running.pwr.doms.filter fun e => e.1 != 10), entering := some t, ap := ap } }

/-- A HelloAck's header, with its payload length. -/
def helloAck (n : Nat) : BaseHeader := { header 0x02 with payloadLen := BitVec.ofNat _ n }

/-- That HelloAck as its responder seals it. -/
def ackBox (h : BaseHeader) : Sealed := ⟨7, segNonce 0 true 0 false 0 false, h, []⟩

/-- That HelloAck received on MAC 0, for context 5. -/
def acking (h : BaseHeader) (x : Session) : State :=
  client (framed ported (.kct h (ackBox h))) 5 { enable := true, key0 := { valid := true, key := 7 }, sess := x }

/-- An EvacData of the client of peer entry 0 delivered. -/
def importing (b : List Byte) : State := { serving with kct := { delivered := [message 0 tEvacData b] } }

/-- An EvacData for page 2 of region 1, which has two, and one for its last page, without data. -/
def evacAt : List Byte := [0, 1, 3, 0, 0, 0, 0, 0, 0, 0, 0, 2]
def evacTail : List Byte := [0, 1, 3, 0, 0, 0, 0, 0, 0, 0, 0, 1]

/-! ### Well-formed commands -/

/-- Each check refuses a command whose operand names the first thing that does not exist, its other operands in range. -/
theorem test_wf_refuses_1 : ∀ c ∈ ([
    .pllLock (.channel 16), .pllLock (.serdes 2), .pllLock (.port 2), .pllLockTimeout (.channel 16), .pmicPowerGood 16 1, .pmicPowerGood 15 2,
    .pmicGoodTimeout 16 1, .pmicGoodTimeout 15 2, .channelResetRelease 16, .eventDelivery 8, .opStart 32 0, .opSuspend 32, .opResume 32,
    .opCancel 32, .opAdmit 32, .opSuspendPoint 32, .opFinished 32, .opError 32, .opCleanupDone 32, .linkUp 8, .linkDown 8, .anTimeout 8,
    .fecAlarm 8 0 0 0, .frameReceive 8 (frame .other), .pfcRepeat 8 7, .pfcRepeat 7 8, .pfcReceive 8, .pfcPauseExpire 8 7, .pfcPauseExpire 7 8,
    .arpRequest 8, .neighborSolicitation 8, .echoRequest 8, .gatewayResolve 8 false, .msSaInstall 2 0, .ptpMessage 8,
    .wakeFrameMatch 8 (frame .other), .hello 8, .segmentReceive 8, .ackReceive 8, .keepaliveReceive 8, .nakReceive 8, .closeReceive 8,
    .pageQueueAdvance 65536 0, .regionInitDone 65536, .compressDone 0 16 [] false false] : List Instr), c.wf = false := by decide

/-- Each check refuses a command whose operand names the first thing that does not exist, its other operands in range. -/
theorem test_wf_refuses_2 : ∀ c ∈ ([
    .memoryWriteAccept 0 16 false, .memoryReadReturn 16 1 .none false, .memoryReadReturn 15 2 .none false, .decompressDone 0 16 false false false,
    .clockMonitor 20, .dupStateMismatch 19, .moveStart 65536 0 [], .moveCommit 65536 0 .none, .demoteUnderstory 65536 0 15 [] false 0 false false [],
    .demoteUnderstory 65535 0 16 [] false 0 false false [], .promoteCanopy 65536 0 15 false false 0 false false [],
    .promoteCanopy 65535 0 16 false false 0 false false [], .promoHoldExpire 8, .floorLingerExpire 8, .thinningRun 65536 0 [],
    .tierStandCfgWrite 8 0, .standWakeDone 8, .rekeyPage 32 0 false false [], .dramCommandIssue 16 1 0, .dramCommandIssue 15 2 0, .entryAged 16 1 0,
    .entryAged 15 2 0, .refreshDue 16 7, .refreshDue 15 8, .rowIdleExpire 16 1 7 0, .rowIdleExpire 15 2 7 0, .rowIdleExpire 15 1 8 0,
    .parityAlert 16 1, .parityAlert 15 2, .alertWaitEnd 16, .trainingPhaseEnd 16 [] [], .phaseLimitExpire 16, .recalibrate 16 7 0,
    .recalibrate 15 8 0, .sensorPoll 16 1 [] false, .sensorPoll 15 2 [] false, .sensorUnreadable 16 1, .sensorUnreadable 15 2, .pdIdleExpire 16 7,
    .pdIdleExpire 15 8, .selfRefreshEntry 8 15, .selfRefreshEntry 7 16, .selfRefreshAbort 8, .clkStopDelayExpire 16 1, .clkStopDelayExpire 15 2] : List Instr), c.wf = false := by decide

/-- Each check refuses a command whose operand names the first thing that does not exist, its other operands in range. -/
theorem test_wf_refuses_3 : ∀ c ∈ ([
    .selfRefreshExit 8, .scrubLine 8 15 .none .none, .scrubLine 7 16 .none .none, .scrubTargetReached 8, .scrubLeadReached 8, .scrubPassEnd 8,
    .scrubPassLate 8, .cetClearSel 16, .cetClearAll 16, .bankOwnerWrite 368 0, .bankClearDone 368, .frameTransmit 8, .cshpWrite 8 7 0,
    .cshpWrite 7 8 0, .gclCommit 2 0, .gclSwitch 2, .domainPowerUp 37, .domainUp 37 false, .domainWakeTimeout 37, .domainHysteresisExpire 37,
    .domainPowerDownDone 37, .clockIdleGate 37, .sensorInvalid 10, .migrateTierPage 32 [], .drainStandMove 32 65535 0 [],
    .drainStandMove 31 65536 0 [], .thinStandMove 32 65535 0 [], .thinStandMove 31 65536 0 [], .eraseRegionStep 32 .none, .resizeRegionStep 32 .none,
    .retireStep 32 65535 0 [], .retireStep 31 65536 0 [], .scrubNowLine 32 .none .none, .marchSramDone 32 false, .importOpen 32, .helloAckReceive 8,
    .evacSend 32 15 15 [] false false false [], .evacSend 31 16 15 [] false false false [], .evacSend 31 15 16 [] false false false [],
    .evacData 16 15 [] false false false 0 false false false .none, .evacData 15 16 [] false false false 0 false false false .none, .importClose 32,
    .gateListEntryEnd 2] : List Instr), c.wf = false := by decide

/-- The same commands with the last thing that exists. -/
theorem test_wf_accepts_1 : ∀ c ∈ ([
    .pllLock .core, .pllLock .sram, .pllLock (.channel 15), .pllLock (.serdes 1), .pllLock (.port 1), .pllLockTimeout (.port 1), .pmicPowerGood 15 1,
    .pmicGoodTimeout 15 1, .channelResetRelease 15, .eventDelivery 7, .opStart 31 0, .opSuspend 31, .opResume 31, .opCancel 31, .opAdmit 31,
    .opSuspendPoint 31, .opFinished 31, .opError 31, .opCleanupDone 31, .linkUp 7, .linkDown 7, .anTimeout 7, .fecAlarm 7 0 0 0,
    .frameReceive 7 (frame .other), .pfcRepeat 7 7, .pfcReceive 7, .pfcPauseExpire 7 7, .arpRequest 7, .neighborSolicitation 7, .echoRequest 7,
    .gatewayResolve 7 false, .msSaInstall 1 0, .ptpMessage 7, .wakeFrameMatch 7 (frame .other), .hello 7, .segmentReceive 7, .ackReceive 7,
    .keepaliveReceive 7, .nakReceive 7, .closeReceive 7, .pageQueueAdvance 65535 0, .regionInitDone 65535, .compressDone 0 15 [] false false,
    .memoryWriteAccept 0 15 false, .memoryReadReturn 15 1 .none false, .decompressDone 0 15 false false false, .clockMonitor 19,
    .dupStateMismatch 18, .moveStart 65535 0 [], .moveCommit 65535 0 .none, .demoteUnderstory 65535 0 15 [] false 0 false false [],
    .promoteCanopy 65535 0 15 false false 0 false false [], .promoHoldExpire 7, .floorLingerExpire 7, .thinningRun 65535 0 [],
    .tierStandCfgWrite 7 0, .standWakeDone 7, .rekeyPage 31 0 false false [], .dramCommandIssue 15 1 0, .entryAged 15 1 0] : List Instr), c.wf = true := by decide

/-- The same commands with the last thing that exists. -/
theorem test_wf_accepts_2 : ∀ c ∈ ([
    .refreshDue 15 7, .rowIdleExpire 15 1 7 0, .parityAlert 15 1, .alertWaitEnd 15, .trainingPhaseEnd 15 [] [], .phaseLimitExpire 15,
    .recalibrate 15 7 0, .sensorPoll 15 1 [] false, .sensorUnreadable 15 1, .pdIdleExpire 15 7, .selfRefreshEntry 7 15, .selfRefreshAbort 7,
    .clkStopDelayExpire 15 1, .selfRefreshExit 7, .scrubLine 7 15 .none .none, .scrubTargetReached 7, .scrubLeadReached 7, .scrubPassEnd 7,
    .scrubPassLate 7, .cetClearSel 15, .cetClearAll 15, .bankOwnerWrite 367 0, .bankClearDone 367, .frameTransmit 7, .cshpWrite 7 7 0,
    .gclCommit 1 0, .gclSwitch 1, .domainPowerUp 36, .domainUp 36 false, .domainWakeTimeout 36, .domainHysteresisExpire 36, .domainPowerDownDone 36,
    .clockIdleGate 36, .sensorInvalid 9, .migrateTierPage 31 [], .drainStandMove 31 65535 0 [], .thinStandMove 31 65535 0 [],
    .eraseRegionStep 31 .none, .resizeRegionStep 31 .none, .retireStep 31 65535 0 [], .scrubNowLine 31 .none .none, .marchSramDone 31 false,
    .importOpen 31, .helloAckReceive 7, .evacSend 31 15 15 [] false false false [], .evacData 15 15 [] false false false 0 false false false .none,
    .importClose 31, .gateListEntryEnd 1] : List Instr), c.wf = true := by decide

/-! ### Results by hand -/

/-- The state after a command. -/
def after (c : Instr) (s : State) : State := match exec c s with | .next t => t | _ => s

/-- R602's check value: the CRC-8 of "123456789". -/
theorem test_crc8_of_digits : crc8Bytes [0x31, 0x32, 0x33, 0x34, 0x35, 0x36, 0x37, 0x38, 0x39] = 0xF4 := by decide

/-- The descriptor of 09's example before and after the read, and its first word as DRAM holds it. -/
def floorPage : Desc :=
  { format := 2, dict := 2, offCount := 1, priCount := 6, tier := 5, priSlot := 0xA00123400, compLen := 1600
    offHead := 0xA00400017, epoch := 0x1F00, warmth := 0, group := 0x11 }

theorem test_descriptor_words : floorPage.words = [0x0440265A00123400, 0x0000640A00400017, 0, 0x00001F0000000011] := by decide

theorem test_descriptor_bytes : floorPage.bytes.take 8 = [0x00, 0x34, 0x12, 0x00, 0x5A, 0x26, 0x40, 0x04] := by decide

theorem test_descriptor_of_words : descOf 0x0440265A00123400 0x0000640A00400017 0 0x00001F0000000011 = floorPage := by decide

/-- The slots of that page on a shelf of 16 channels: stand, channel and channel-local slot (11's example). -/
theorem test_slots_of_channels :
    ([0xA00123400, 0xA00123405, 0xA00400017].map fun x =>
      (slotStand x, ({ State.reset with tier := { channels := 16 } } : State).slotChan x,
        ({ State.reset with tier := { channels := 16 } } : State).slotLocal x))
      = [(5, 0, 0x12340), (5, 5, 0x12340), (5, 6, 0x40001)] := by decide

/-- The place of its first slot: row 0x24 of bank group 1, bank 1, subchannel A; lines at columns 0, 16, 32 and 48 (14's example). -/
theorem test_place_of_slot :
    (List.range 4).map (placeOf 5 18 0x12340) = [⟨0, 0, 1, 1, 0x24⟩, ⟨0, 16, 1, 1, 0x24⟩, ⟨0, 32, 1, 1, 0x24⟩, ⟨0, 48, 1, 1, 0x24⟩] := by
  decide

/-- Both tweaks of 13's example, as applied. -/
theorem test_tweak_of_line : leBytes 16 (xtsTweak 3 0x1234 false 0x29)
    = [0x29, 0, 0x34, 0x12, 0, 0, 0, 0, 3, 0, 0, 0, 0, 0, 0, 0] := by decide

theorem test_tweak_of_offshoot : leBytes 16 (xtsTweak 0x12 0x4C31 true 6)
    = [6, 1, 0x31, 0x4C, 0, 0, 0, 0, 0x12, 0, 0, 0, 0, 0, 0, 0] := by decide

/-- The page's tokens, as 12's example writes them out: "ABCD" and zeros. -/
def abcdBits : Stream := { bits := leNat [0, 0, 0x40, 0x10, 0x05, 0x0B, 0x15, 0x2E, 0x82, 0xF8, 0xF7, 0xE2, 0x3F], size := 8 * 13 }

theorem test_tokens_of_example :
    ([32, 41, 50, 59, 68, 71].map fun i => (abcdBits.symbol (canonical builtinLit) i))
      = [some (0x41, 41), some (0x42, 50), some (0x43, 59), some (0x44, 68), some (0, 71), some (287, 79)] := by decide +kernel

/-- The decayed warmth of that page in epoch 0x2345, and its word 3 after the read (11's example). -/
theorem test_warmth_of_read :
    ({ State.reset with tier := { epoch := 0x2345 } } : State).decayed floorPage = 0
      ∧ (({ State.reset with tier := { epoch := 0x2345 } } : State).warmthInc { flight .fetch .none with type := tReadShared })
        = some 0x0400 := by decide

/-- GLB_STRAP of 02's example: position 11, both feeds with A preferred. -/
theorem test_straps :
    ((after (.intakeLinkFrame .toLogic 0) (after (.porRelease 0 11)
      { State.reset with intake := { vstby := true, strapped := true, feedMode := 2, pgOut := true } })).readReg Reg.GLB_STRAP).2
      = 0x8000400B := by decide +kernel

/-- PAGE_ID of DRC7 page 2 (05's example). -/
theorem test_page_id : (running.readReg 0xA72000).2 = 0xA0070200 := by decide

/-- 05's examples of event numbers: 0x050E is bit 13 of its page's EVT_STATUS, and 0x0518 bit 23. -/
theorem test_event_bits : ((running.raise 0x050E 0).reg 0x028014, (running.raise 0x0518 0).reg 0x028014) = (2 ^ 13, 2 ^ 23) := by decide +kernel

/-- A full shelf of 16 channels (R21, 18's example): bandwidth at two points, and after a channel has failed. -/
def fullShelf (failed : List Nat) : State :=
  { State.reset with
    tier := { channels := 16 }
    dram := { chans := failed.map fun n => (n, { state := .failed }) } }

theorem test_bandwidth :
    ((fullShelf []).bandwidth 0, (fullShelf []).bandwidth 1, (fullShelf [9]).bandwidth 0, (fullShelf []).bandwidth 2)
      = (537600, 430080, 504000, 286720) := by decide

/-- The mover's limits there, before and after S is 0.9375. -/
theorem test_mover_limits :
    ((fullShelf []).xbarLimit 4, (fullShelf []).chanLimit 4, (fullShelf []).xbarLimit 2) = (5000, 625, 1250)
      ∧ ({ fullShelf [9] with mreg := { scale := 61440 } } : State).xbarLimit 4 = 4687
      ∧ ({ fullShelf [9] with mreg := { scale := 61440 } } : State).chanLimit 4 = 625
      ∧ ({ fullShelf [9] with mreg := { scale := 61440 } } : State).xbarLimit 2 = 1171 := by decide

/-- 22's example table, and its record at 130 °C rising, at 128 °C and 127 °C falling. -/
theorem test_throttle_table :
    throttleOf [0x6E, 3, 1, 0, 0, 0, 0, 0, 0x82, 3, 2, 1, 0, 0, 0, 0, 0x91, 3, 2, 2, 0, 0, 0, 0]
      = [⟨110, 3, 1, 0⟩, ⟨130, 3, 2, 1⟩, ⟨145, 3, 2, 2⟩]
    ∧ nextActive [⟨110, 3, 1, 0⟩, ⟨130, 3, 2, 1⟩, ⟨145, 3, 2, 2⟩] 1 (4 * 130) = 2
    ∧ nextActive [⟨110, 3, 1, 0⟩, ⟨130, 3, 2, 1⟩, ⟨145, 3, 2, 2⟩] 2 (4 * 128) = 2
    ∧ nextActive [⟨110, 3, 1, 0⟩, ⟨130, 3, 2, 1⟩, ⟨145, 3, 2, 2⟩] 2 (4 * 127) = 1 := by decide

/-- 16's example of a lane fault: the two bits of a lane are put right. -/
theorem test_lane_faults :
    (wordStatus (encodeWord 0x123456789ABCDEF0 true ^^^ 2 ^ 14 ^^^ 2 ^ 46), wordStatus (encodeWord 7 false ^^^ 2 ^ 6 ^^^ 2 ^ 78),
      wordStatus (encodeWord 7 false ^^^ 2 ^ 7 ^^^ 2 ^ 79)) = (.corrected [14, 46], .corrected [6, 78], .corrected [7, 79]) := by
  decide +kernel

/-- 07's example of a management batch. -/
def batch : State :=
  { running with
    kct := { ctx := [(0x010, { enable := true, manager := true, sess := { session with epoch := 5, mtu := 9000 } })]
             delivered := [⟨0x010, 5, tMgmtWrite, 0x77, 0, 0,
               [1, 0, 0, 4, 0, 1, 0, 0x50, 0, 0, 5, 8, 0, 1, 0, 0xC0, 0x95, 0, 0, 0x10, 0, 0, 0, 0x40, 0, 0, 0, 0, 0, 0, 0, 0x48, 0, 0, 0, 1],
               false⟩] } }

theorem test_management_batch :
    ((after (.mgmtWrite []) batch).kct.gcm.map fun (g : TxSeg) => (g.hdr.type, g.hdr.channel, g.hdr.msgId, g.hdr.status, g.plain))
      = [(0x42, 3, 0x77, 0x10, [0, 4, 0, 0, 0, 0, 0, 0, 0, 0, 0, 0, 0, 0, 0, 0x10, 0, 0, 0, 2])] := by decide +kernel

/-- R139, R776 and the table's rows: no row has bits, so no word spells a command and nothing is queued. -/
theorem test_no_word_spells_a_command : decodeTableWord 32 0 = none ∧ State.reset.withFetchWord 32 0 = State.reset := ⟨rfl, rfl⟩

/-- The front of the queue runs first. -/
theorem test_front_runs_first :
    (match step { State.reset with pending := [.vstbyRise, .vstbyFall] } with
      | .next t => (t.intake.vstby, t.pending) | _ => (false, [])) = (true, [.vstbyFall]) := by decide

/-- A CRC-32C boundary no message passes is refused, and so is a handshake of no stage of the pipeline. -/
theorem test_wf_of_boundaries :
    [Instr.readShared 0 0 1, .readOwn 0 0 11, .handshakeTimeout (.flight 0) 0 true, .handshakeTimeout (.flight 0) 11 true].map Instr.wf
      = [false, false, false, false]
    ∧ [Instr.readShared 0 0 6, .readOwn 0 0 0, .handshakeTimeout (.flight 0) 1 true, .handshakeTimeout (.flight 0) 10 true].map Instr.wf
      = [true, true, true, true] := by decide

/-! ### States that meet the hypotheses of the statements -/

/-- The hypotheses of each clause of IdleStepOnlyPassesTime hold somewhere. -/
theorem witness_IdleStepOnlyPassesTime :
    (∃ s : State, s.pending = [] ∧ s.live = true) ∧
    (∃ s : State, s.pending = [] ∧ s.live = false) :=
  ⟨⟨running, by decide +kernel⟩,
   ⟨State.reset, by decide +kernel⟩⟩

/-- The hypotheses of OnlyReleasesStartTheLogicDie hold somewhere. -/
theorem witness_OnlyReleasesStartTheLogicDie : ∃ s : State, ∃ t : State, s.live = false ∧ (∀ c ∈ s.pending, startsLogic c = false) ∧ step s = .next t :=
  ⟨State.reset, _, by decide, by decide, rfl⟩

/-- The hypotheses of NothingRunsWithoutVstby hold somewhere. -/
theorem witness_NothingRunsWithoutVstby : ∃ s : State, ∃ t : State, s.dark = true ∧ (∀ c ∈ s.pending, c ≠ .vstbyRise) ∧ step s = .next t :=
  ⟨{ State.reset with pending := [.porRelease 0 0] }, _, by decide, by decide, rfl⟩

/-- The hypotheses of TablesReadBackAndStayCanonical hold somewhere. -/
theorem witness_TablesReadBackAndStayCanonical : ∃ d : Nat → Word, ∃ t : Tab Word, tabWf d t = true :=
  ⟨(fun _ => 0), [(0, 1), (7, 2)], by decide +kernel⟩

/-- The hypotheses of each clause of LineWritesKeepMemoryCanonical hold somewhere. -/
theorem witness_LineWritesKeepMemoryCanonical :
    (∃ s : State, tabWf (fun _ => 0) s.dram.bytes = true) ∧
    (∃ la : Nat, ∃ a, (a < 64 * la ∨ 64 * la + 64 ≤ a)) ∧
    (∃ la : Nat, ∃ a, (a < 64 * la ∨ 64 * la + 64 ≤ a)) ∧
    (∃ la : Nat, ∃ lb, lb ≠ la) :=
  ⟨⟨{ State.reset with dram := { bytes := [(63, 1), (64, 255)] } }, by decide +kernel⟩,
   ⟨1, 63, by decide +kernel⟩,
   ⟨1, 128, by decide +kernel⟩,
   ⟨1, 0, by decide +kernel⟩⟩

/-- The hypotheses of each clause of IntakeLinkAndWireCommands hold somewhere. -/
theorem witness_IntakeLinkAndWireCommands :
    (∃ s : State, ∃ f, s.live = true ∧ s.intake.vstby = true ∧ linkFrameOk f = true) ∧
    (∃ s : State, ∃ f, s.live = true ∧ s.intake.vstby = true ∧ linkFrameOk f = true) ∧
    (∃ s : State, ∃ f, s.live = true ∧ s.intake.vstby = true ∧ linkFrameOk f = false ∧ s.logic.resendLogic = false) ∧
    (∃ s : State, ∃ f, s.live = true ∧ s.intake.vstby = true ∧ linkFrameOk f = false ∧ s.logic.resendIntake = false) ∧
    (∃ s : State, ∃ f, s.live = true ∧ s.intake.vstby = true ∧ linkFrameOk f = false ∧ s.logic.resendIntake = true ∧ s.logic.linkUp = true) ∧
    (∃ s : State, s.live = true) ∧
    (∃ s : State, s.intake.vstby = true ∧ s.intake.pgOut = true) ∧
    (∃ s : State, s.live = true ∧ s.faultReason = true) ∧
    (∃ s : State, s.logic.on = true ∧ s.intake.pgOut = true) ∧
    (∃ s : State, s.intake.vstby = true) ∧
    (∃ s : State, s.live = true) :=
  ⟨⟨running, 0, by decide +kernel⟩,
   ⟨running, 0, by decide +kernel⟩,
   ⟨running, 1, by decide +kernel⟩,
   ⟨running, 1, by decide +kernel⟩,
   ⟨{ running with logic := { running.logic with resendIntake := true } }, 1, by decide +kernel⟩,
   ⟨running, by decide +kernel⟩,
   ⟨running, by decide +kernel⟩,
   ⟨{ running with logic := { running.logic with linkLost := true } }, by decide +kernel⟩,
   ⟨running, by decide +kernel⟩,
   ⟨running, by decide +kernel⟩,
   ⟨running, by decide +kernel⟩⟩

/-- The hypotheses of each clause of StandbyStrapPllAndTapCommands hold somewhere. -/
theorem witness_StandbyStrapPllAndTapCommands :
    (∃ s : State, s.intake.vstby = false) ∧
    (∃ s : State, s.intake.vstby = true) ∧
    (∃ s : State, ∃ mode, s.intake.vstby = true ∧ s.intake.strapped = false ∧ mode ≠ 3#2) ∧
    (∃ s : State, s.intake.vstby = true ∧ s.intake.strapped = false) ∧
    (∃ s : State, ∃ p, ∃ again, s.live = true ∧ s.pll p = .locking again) ∧
    (∃ s : State, ∃ p, s.live = true ∧ s.pll p = .locking false) ∧
    (∃ i, i ≠ .idcode ∧ tapAlways i = true) ∧
    (∃ s : State, ∃ i, tapAlways i = false ∧ s.logic.on = true ∧ 2 ≤ s.logic.bootSel) ∧
    (∃ s : State, ∃ i, tapAlways i = false ∧ s.logic.bootSel < 2) :=
  ⟨⟨State.reset, by decide +kernel⟩,
   ⟨running, by decide +kernel⟩,
   ⟨{ State.reset with intake := { vstby := true } }, 2, by decide +kernel⟩,
   ⟨{ State.reset with intake := { vstby := true } }, by decide +kernel⟩,
   ⟨running.setPll (.channel 15) (.locking true), .channel 15, true, by decide +kernel⟩,
   ⟨running.setPll .core (.locking false), .core, by decide +kernel⟩,
   ⟨.sample, by decide +kernel⟩,
   ⟨{ running with logic := { running.logic with bootSel := 2 } }, .extest, by decide +kernel⟩,
   ⟨{ running with logic := { running.logic with bootSel := 1 } }, .extest, by decide +kernel⟩⟩

/-- The hypotheses of each clause of IntakeConfigurationCommands hold somewhere. -/
theorem witness_IntakeConfigurationCommands :
    (∃ s : State, s.linkReady = true) ∧
    (∃ s : State, ∃ v, s.linkReady = true ∧ v ≠ 0x4E53) ∧
    (∃ s : State, ∃ v : Word, s.linkReady = true ∧ s.unlocked = true ∧ s.intake.burning = none ∧ s.intake.burned.getLsbD (bits v.toNat 4 0) = false) ∧
    (∃ s : State, ∃ v : Word, s.linkReady = true ∧ (s.unlocked = false ∨ s.intake.burned.getLsbD (bits v.toNat 4 0) = true)) ∧
    (∃ s : State, ∃ v : Word, s.linkReady = true ∧ (s.unlocked = false ∨ s.intake.burned.getLsbD (bits v.toNat 4 0) = true)) ∧
    (∃ s : State, ∃ w, ∃ v, s.intake.burning = some (w, v)) ∧
    (∃ s : State, ∃ v : Word, s.linkReady = true ∧ bit v.toNat 0 = true ∧ intakeCheck (stagedCfg s) = none) ∧
    (∃ s : State, ∃ v : Word, ∃ off : Nat, s.linkReady = true ∧ bit v.toNat 0 = true ∧ intakeCheck (stagedCfg s) = some off) ∧
    (∃ s : State, ∃ a, ∃ v, s.live = true ∧ s.intake.linkWrite = some { addr := a, value := v, done := true }) ∧
    (∃ s : State, s.live = true ∧ s.logic.linkUp = true) ∧
    (∃ s : State, s.linkReady = true) :=
  ⟨⟨running, by decide +kernel⟩,
   ⟨running, 0, by decide +kernel⟩,
   ⟨runningIntake fun i => { i with ticks := 999, unlockUntil := 1000 }, 31, by decide +kernel⟩,
   ⟨runningIntake fun i => { i with ticks := 1000, unlockUntil := 1000 }, 31, by decide +kernel⟩,
   ⟨runningIntake fun i => { i with ticks := 0, unlockUntil := 1000, profile := [(31, 5)], burned := 0x80000000 }, 31, by decide +kernel⟩,
   ⟨runningIntake fun i => { i with burning := some (31, 5) }, 31, 5, by decide +kernel⟩,
   ⟨running, 1, by decide +kernel⟩,
   ⟨running.setReg Reg.INT_ILIM 0, 1, 0x2048, by decide +kernel⟩,
   ⟨runningIntake fun i => { i with linkWrite := some { addr := Reg.INT_ILIM, value := 7, done := true } }, Reg.INT_ILIM, 7, by decide +kernel⟩,
   ⟨running, by decide +kernel⟩,
   ⟨running, by decide +kernel⟩⟩

/-- The hypotheses of each clause of SensingAndFeedCommands hold somewhere. -/
theorem witness_SensingAndFeedCommands :
    (∃ s : State, s.intake.vstby = true) ∧
    (∃ s : State, ∃ n ∈ s.intake.cnt.plaus, s.intake.vstby = true ∧ 500 ≤ n) ∧
    (∃ s : State, ∃ n ∈ s.intake.cnt.disagree, s.intake.vstby = true ∧ 500 ≤ n) ∧
    (∃ s : State, ∃ f, s.intake.strapped = true ∧ s.intake.valid f = false ∧ s.icfg Reg.INT_FEED_TIMES 21 12 * 1000 ≤ s.intake.qualCount f) ∧
    (∃ s : State, ∃ f, s.intake.valid f = true ∧ (s.tFilt ≤ s.intake.swCount f ∨ s.tFilt ≤ s.intake.ovCount f)) ∧
    (∃ s : State, ∃ f, s.intake.switchTo = some f) ∧
    (∃ s : State, ∃ f, s.intake.feed = some f ∧ s.intake.breaking = true) ∧
    (∃ s : State, s.intake.feed.isSome = true ∧ s.tFilt ≤ s.intake.cnt.rst) ∧
    (∃ s : State, ∃ f, s.intake.feed = some f ∧ s.tFilt ≤ s.intake.ovCount f ∧ (s.intake.setValid f false).usable (otherFeed f) = true) ∧
    (∃ s : State, ∃ f, s.intake.feed = some f ∧ s.tFilt ≤ s.intake.ovCount f ∧ (s.intake.setValid f false).usable (otherFeed f) = false) ∧
    (∃ s : State, bit (s.icfg Reg.INT_CTRL 31 0) 5 = true ∧ s.intake.feed = some .b ∧ s.intake.usable .a = true ∧ s.intake.inLimit = false ∧ s.intake.feedWarn = false) :=
  ⟨⟨running, by decide +kernel⟩,
   ⟨runningIntake fun i => { i with cnt := { i.cnt with plaus := [0, 500] } }, 500, by decide, by decide +kernel⟩,
   ⟨runningIntake fun i => { i with cnt := { i.cnt with disagree := [0, 500] } }, 500, by decide, by decide +kernel⟩,
   ⟨runningIntake fun i => { i with validB := false, cnt := { i.cnt with qualB := 1000000 } }, .b, by decide +kernel⟩,
   ⟨runningIntake fun i => { i with cnt := { i.cnt with swA := 1000000 } }, .a, by decide +kernel⟩,
   ⟨runningIntake fun i => { i with switchTo := some .b }, .b, by decide +kernel⟩,
   ⟨runningIntake fun i => { i with breaking := true }, .a, by decide +kernel⟩,
   ⟨runningIntake fun i => { i with cnt := { i.cnt with rst := 1000 } }, by decide +kernel⟩,
   ⟨runningIntake fun i => { i with cnt := { i.cnt with ovA := 1000 } }, .a, by decide +kernel⟩,
   ⟨runningIntake fun i => { i with validB := false, cnt := { i.cnt with ovA := 1000 } }, .a, by decide +kernel⟩,
   ⟨{ (runningIntake fun i => { i with feed := some .b }) with intake := { running.intake with feed := some .b, cfg := [(Reg.INT_CTRL, 0x20)] } }, by decide +kernel⟩⟩

/-- The hypotheses of each clause of SoftStartAndPowerGoodCommands hold somewhere. -/
theorem witness_SoftStartAndPowerGoodCommands :
    (∃ s : State, ∃ f, s.startReady = true ∧ s.intake.feed = some f) ∧
    (∃ s : State, s.intake.enhancing = true) ∧
    (∃ s : State, s.intake.passFet = true ∧ s.intake.inLimit = false ∧ (s.intake.pgOut = true ∨ s.intake.cnt.pg = 0)) ∧
    (∃ s : State, s.intake.passFet = true ∧ s.intake.inLimit = false ∧ s.intake.pgOut = false ∧ 0 < s.intake.cnt.pg) ∧
    (∃ s : State, s.intake.inLimit = true) ∧
    (∃ s : State, (s.intake.pgOut = false ∨ s.intake.tripWarned = true) ∧ s.intake.inLimit = false ∧ s.intake.thermTrip = false ∧ s.intake.offPending = false ∧ s.intake.passFet = true ∧ 0 < s.intake.cnt.pg ∧ s.icfg Reg.INT_PG_CFG 15 0 * 1000 ≤ s.intake.cnt.pg) ∧
    (∃ s : State, s.intake.pgOut = true) :=
  ⟨⟨runningIntake fun i => { i with phase := .qualify, pgOut := false, passFet := false }, .a, by decide +kernel⟩,
   ⟨runningIntake fun i => { i with enhancing := true }, by decide +kernel⟩,
   ⟨running, by decide +kernel⟩,
   ⟨runningIntake fun i => { i with pgOut := false, cnt := { i.cnt with pg := 5 } }, by decide +kernel⟩,
   ⟨runningIntake fun i => { i with inLimit := true }, by decide +kernel⟩,
   ⟨runningIntake fun i => { i with pgOut := false, cnt := { i.cnt with pg := 65535000 } }, by decide +kernel⟩,
   ⟨running, by decide +kernel⟩⟩

/-- The hypotheses of each clause of TripsPullTheGateAndLatchTheirCause hold somewhere. -/
theorem witness_TripsPullTheGateAndLatchTheirCause :
    (∃ s : State, ∃ c : Instr, ∃ cause : Word, ∃ code : Nat, ((c = .ftimerExpired ∧ cause = 0x004 ∧ code = 0x0505 ∧ s.intake.inLimit = true ∧ s.icfg Reg.INT_FTIMER 31 0 * 100 ≤ s.intake.cnt.ftimer ∨ c = .curveTrip ∧ cause = 0x008 ∧ code = 0x0506 ∧ s.intake.passFet = true ∧ 1000000000000 ≤ s.intake.curveAcc ∨ c = .i2tTrip ∧ cause = 0x010 ∧ code = 0x0507 ∧ s.intake.passFet = true ∧ s.icfg Reg.INT_I2T_LIMIT 31 0 * 1000000000000 ≤ s.intake.i2tAcc ∨ c = .fastTrip ∧ cause = 0x020 ∧ code = 0x0508 ∧ s.intake.passFet = true ∨ c = .fetOvertemp ∧ cause = 0x100 ∧ code = 0x0512 ∧ s.intake.passFet = true ∧ 1000 ≤ s.intake.cnt.hot))) ∧
    (∃ s : State, ∃ c : Instr, ∃ cause : Word, ∃ code : Nat, ((c = .ftimerExpired ∧ cause = 0x004 ∧ code = 0x0505 ∧ s.intake.inLimit = true ∧ s.icfg Reg.INT_FTIMER 31 0 * 100 ≤ s.intake.cnt.ftimer ∨ c = .curveTrip ∧ cause = 0x008 ∧ code = 0x0506 ∧ s.intake.passFet = true ∧ 1000000000000 ≤ s.intake.curveAcc ∨ c = .i2tTrip ∧ cause = 0x010 ∧ code = 0x0507 ∧ s.intake.passFet = true ∧ s.icfg Reg.INT_I2T_LIMIT 31 0 * 1000000000000 ≤ s.intake.i2tAcc ∨ c = .fastTrip ∧ cause = 0x020 ∧ code = 0x0508 ∧ s.intake.passFet = true ∨ c = .fetOvertemp ∧ cause = 0x100 ∧ code = 0x0512 ∧ s.intake.passFet = true ∧ 1000 ≤ s.intake.cnt.hot))) ∧
    (∃ s : State, ∃ c : Instr, ∃ cause : Word, ∃ code : Nat, ((c = .ftimerExpired ∧ cause = 0x004 ∧ code = 0x0505 ∧ s.intake.inLimit = true ∧ s.icfg Reg.INT_FTIMER 31 0 * 100 ≤ s.intake.cnt.ftimer ∨ c = .curveTrip ∧ cause = 0x008 ∧ code = 0x0506 ∧ s.intake.passFet = true ∧ 1000000000000 ≤ s.intake.curveAcc ∨ c = .i2tTrip ∧ cause = 0x010 ∧ code = 0x0507 ∧ s.intake.passFet = true ∧ s.icfg Reg.INT_I2T_LIMIT 31 0 * 1000000000000 ≤ s.intake.i2tAcc ∨ c = .fastTrip ∧ cause = 0x020 ∧ code = 0x0508 ∧ s.intake.passFet = true ∨ c = .fetOvertemp ∧ cause = 0x100 ∧ code = 0x0512 ∧ s.intake.passFet = true ∧ 1000 ≤ s.intake.cnt.hot))) ∧
    (∃ s : State, ∃ c : Instr, ∃ cause : Word, ∃ code : Nat, ((c = .ftimerExpired ∧ cause = 0x004 ∧ code = 0x0505 ∧ s.intake.inLimit = true ∧ s.icfg Reg.INT_FTIMER 31 0 * 100 ≤ s.intake.cnt.ftimer ∨ c = .curveTrip ∧ cause = 0x008 ∧ code = 0x0506 ∧ s.intake.passFet = true ∧ 1000000000000 ≤ s.intake.curveAcc ∨ c = .i2tTrip ∧ cause = 0x010 ∧ code = 0x0507 ∧ s.intake.passFet = true ∧ s.icfg Reg.INT_I2T_LIMIT 31 0 * 1000000000000 ≤ s.intake.i2tAcc ∨ c = .fastTrip ∧ cause = 0x020 ∧ code = 0x0508 ∧ s.intake.passFet = true ∨ c = .fetOvertemp ∧ cause = 0x100 ∧ code = 0x0512 ∧ s.intake.passFet = true ∧ 1000 ≤ s.intake.cnt.hot))) ∧
    (∃ s : State, ∃ c : Instr, ∃ cause : Word, ∃ code : Nat, ((c = .ftimerExpired ∧ cause = 0x004 ∧ code = 0x0505 ∧ s.intake.inLimit = true ∧ s.icfg Reg.INT_FTIMER 31 0 * 100 ≤ s.intake.cnt.ftimer ∨ c = .curveTrip ∧ cause = 0x008 ∧ code = 0x0506 ∧ s.intake.passFet = true ∧ 1000000000000 ≤ s.intake.curveAcc ∨ c = .i2tTrip ∧ cause = 0x010 ∧ code = 0x0507 ∧ s.intake.passFet = true ∧ s.icfg Reg.INT_I2T_LIMIT 31 0 * 1000000000000 ≤ s.intake.i2tAcc ∨ c = .fastTrip ∧ cause = 0x020 ∧ code = 0x0508 ∧ s.intake.passFet = true ∨ c = .fetOvertemp ∧ cause = 0x100 ∧ code = 0x0512 ∧ s.intake.passFet = true ∧ 1000 ≤ s.intake.cnt.hot))) :=
  ⟨⟨runningIntake fun i => { i with inLimit := true, cnt := { i.cnt with ftimer := 500000000 } }, .ftimerExpired, 0x004, 0x0505, by decide +kernel⟩,
   ⟨runningIntake fun i => { i with curveAcc := 1000000000000 }, .curveTrip, 0x008, 0x0506, by decide +kernel⟩,
   ⟨runningIntake fun i => { i with i2tAcc := 2 ^ 90 }, .i2tTrip, 0x010, 0x0507, by decide +kernel⟩,
   ⟨running, .fastTrip, 0x020, 0x0508, by decide +kernel⟩,
   ⟨runningIntake fun i => { i with cnt := { i.cnt with hot := 1000 } }, .fetOvertemp, 0x100, 0x0512, by decide +kernel⟩⟩

/-- The hypotheses of each clause of RetryFetAndPresenceCommands hold somewhere. -/
theorem witness_RetryFetAndPresenceCommands :
    (∃ s : State, s.intake.phase = .retryCool ∧ s.intake.inserted = true) ∧
    (∃ s : State, s.intake.phase = .retryCool ∧ s.intake.inserted = false) ∧
    (∃ s : State, s.intake.phase = .retryDelay) ∧
    (∃ s : State, s.intake.pgOut = true) ∧
    (∃ s : State, s.intake.passFet = false ∧ 1000 ≤ s.intake.cnt.short) ∧
    (∃ s : State, 1000 ≤ s.intake.cnt.gateFull ∧ 0 < s.intake.cnt.openFet) ∧
    (∃ s : State, ∃ l, ∃ sh, s.intake.vstby = true ∧ (l && sh) = false) ∧
    (∃ s : State, s.intake.strapped = true ∧ s.intake.inserted = false ∧ s.intake.phase ≠ .retryCool) :=
  ⟨⟨runningIntake fun i => { i with phase := .retryCool }, by decide +kernel⟩,
   ⟨runningIntake fun i => { i with phase := .retryCool, inserted := false }, by decide +kernel⟩,
   ⟨runningIntake fun i => { i with phase := .retryDelay }, by decide +kernel⟩,
   ⟨running, by decide +kernel⟩,
   ⟨runningIntake fun i => { i with passFet := false, cnt := { i.cnt with short := 1000 } }, by decide +kernel⟩,
   ⟨runningIntake fun i => { i with cnt := { i.cnt with gateFull := 1000, openFet := 1 } }, by decide +kernel⟩,
   ⟨running, true, false, by decide +kernel⟩,
   ⟨runningIntake fun i => { i with inserted := false, phase := .qualify }, by decide +kernel⟩⟩

/-- The hypotheses of each clause of WarningAndSequencingCommands hold somewhere. -/
theorem witness_WarningAndSequencingCommands :
    (∃ s : State, s.intake.feed.isSome = true ∧ s.intake.feedWarn = false ∧ s.tFilt ≤ s.intake.cnt.warn) ∧
    (∃ s : State, s.intake.warnCause = .early ∧ s.icfg Reg.INT_FEED_TIMES2 9 0 * 1000 ≤ s.intake.cnt.recov) ∧
    (∃ s : State, s.intake.vstby = true ∧ 1000 ≤ s.intake.cnt.seqHigh ∧ s.intake.phase = .seqWait) ∧
    (∃ s : State, s.intake.vstby = true ∧ 1000 ≤ s.intake.cnt.seqHigh ∧ s.intake.phase ≠ .seqWait) ∧
    (∃ s : State, s.intake.phase = .seqWait ∧ s.intake.needSeq = true) ∧
    (∃ s : State, s.live = true ∧ s.logic.linkUp = true ∧ s.intake.pgOut = true) ∧
    (∃ s : State, s.intake.offPending = true) ∧
    (∃ s : State, s.intake.phase = .off ∧ bit (s.icfg Reg.INT_CTRL 31 0) 7 = true) :=
  ⟨⟨runningIntake fun i => { i with cnt := { i.cnt with warn := 255 } }, by decide +kernel⟩,
   ⟨runningIntake fun i => { i with warnCause := .early, cnt := { i.cnt with recov := 1023000 } }, by decide +kernel⟩,
   ⟨runningIntake fun i => { i with phase := .seqWait, cnt := { i.cnt with seqHigh := 1000 } }, by decide +kernel⟩,
   ⟨runningIntake fun i => { i with cnt := { i.cnt with seqHigh := 1000 } }, by decide +kernel⟩,
   ⟨runningIntake fun i => { i with phase := .seqWait, needSeq := true }, by decide +kernel⟩,
   ⟨running, by decide +kernel⟩,
   ⟨runningIntake fun i => { i with offPending := true }, by decide +kernel⟩,
   ⟨runningIntake fun i => { i with phase := .off, cfg := [(Reg.INT_CTRL, 0x80)] }, by decide +kernel⟩⟩

/-- The hypotheses of each clause of ReleaseAndResetCommands hold somewhere. -/
theorem witness_ReleaseAndResetCommands :
    (∃ s : State, s.intake.vstby = true ∧ s.intake.pgOut = true ∧ s.logic.on = false) ∧
    (∃ s : State, s.logic.on = true ∧ s.logic.sysRst = false) ∧
    (∃ s : State, s.logic.on = true ∧ s.logic.sysRst = true) ∧
    (∃ s : State, s.intake.vstby = true ∧ s.intake.pgOut = true ∧ s.logic.on = false) ∧
    (∃ s : State, s.intake.vstby = true ∧ s.intake.pgOut = true ∧ s.logic.on = true) :=
  ⟨⟨{ running with logic := {} }, by decide +kernel⟩,
   ⟨running, by decide +kernel⟩,
   ⟨{ running with logic := { running.logic with sysRst := true } }, by decide +kernel⟩,
   ⟨{ running with logic := {} }, by decide +kernel⟩,
   ⟨running, by decide +kernel⟩⟩

/-- The hypotheses of each clause of BootImageStages hold somewhere. -/
theorem witness_BootImageStages :
    (∃ s : State, s.live = true ∧ s.boot.stage = .start ∧ s.pll .core = .locked ∧ s.logic.bootSel < 2) ∧
    (∃ s : State, s.live = true ∧ s.boot.stage = .start ∧ s.pll .core = .locked ∧ s.logic.bootSel = 3) ∧
    (∃ s : State, s.live = true ∧ s.boot.stage = .imageRead ∧ s.boot.failed = false ∧ s.readable false = true ∧ s.readable true = true) ∧
    (∃ s : State, s.live = true ∧ s.boot.stage = .imageRead ∧ s.boot.failed = false ∧ s.readable false = false ∧ s.readable true = false) ∧
    (∃ s : State, s.live = true ∧ s.boot.stage = .imageVerify ∧ s.boot.failed = false ∧ s.slotFault s.boot.slotB = none) ∧
    (∃ s : State, ∃ code, ∃ detail, s.live = true ∧ s.boot.stage = .imageVerify ∧ s.boot.failed = false ∧ s.slotFault s.boot.slotB = some (code, detail) ∧ s.boot.triedOther = true) ∧
    (∃ s : State, ∃ code, ∃ detail, s.live = true ∧ s.boot.stage = .imageVerify ∧ s.boot.failed = false ∧ s.slotFault s.boot.slotB = some (code, detail) ∧ s.boot.triedOther = false) ∧
    (∃ s : State, s.live = true ∧ s.boot.stage = .apply ∧ s.boot.failed = false ∧ s.slotWord s.boot.slotB 6 2 ≤ s.boot.section_ ∧ s.cry.burning = false) ∧
    (∃ s : State, s.live = true ∧ s.boot.stage = .apply ∧ s.boot.failed = false ∧ s.boot.polling = true ∧ (s.sectionAt s.boot.slotB s.boot.offset).type = 2 ∧ s.boot.triedOther = true) ∧
    (∃ s : State, s.live = true ∧ s.boot.stage = .march ∧ s.boot.failed = false ∧ s.boot.march ≠ 2) :=
  ⟨⟨{ runningBoot (fun b => { b with stage := .start }) with logic := { running.logic with plls := [(0, .locked)], bootSel := 1 } }, by decide +kernel⟩,
   ⟨{ runningBoot (fun b => { b with stage := .start }) with logic := { running.logic with plls := [(0, .locked)], bootSel := 3 } }, by decide +kernel⟩,
   ⟨runningBoot fun b => { b with stage := .imageRead, flash := [(0, 0x53), (1, 0x59), (2, 0x42), (3, 0x31), (4, 0), (5, 1), (0x400000, 0x53), (0x400001, 0x59), (0x400002, 0x42), (0x400003, 0x31), (0x400004, 0), (0x400005, 1)] }, by decide +kernel⟩,
   ⟨runningBoot fun b => { b with stage := .imageRead }, by decide +kernel⟩,
   ⟨verifying, by decide, by decide, by decide, image_valid⟩,
   ⟨runningBoot fun b => { b with stage := .imageVerify, triedOther := true }, 1, 0, by decide +kernel⟩,
   ⟨runningBoot fun b => { b with stage := .imageVerify }, 1, 0, by decide +kernel⟩,
   ⟨runningBoot fun b => { b with stage := .apply, section_ := 65535 }, by decide +kernel⟩,
   ⟨runningBoot fun b => { b with stage := .apply, polling := true, triedOther := true, offset := 0x100, flash := [(0x100, 2)] }, by decide +kernel⟩,
   ⟨runningBoot fun b => { b with stage := .march }, by decide +kernel⟩⟩

/-- The hypotheses of each clause of BootMemoryStages hold somewhere. -/
theorem witness_BootMemoryStages :
    (∃ s : State, ∃ l, ∃ code, ∃ n, ∃ slot, s.live = true ∧ s.boot.stage = .discover ∧ s.boot.failed = false ∧ s.boot.discovered = false ∧ ((∀ r ∈ l, ∀ x, r = some x → x.answers = true)) ∧ popFault (s.recordDimms l).population = some (code, n, slot)) ∧
    (∃ s : State, ∃ l, s.live = true ∧ s.boot.stage = .discover ∧ s.boot.failed = false ∧ s.boot.discovered = false ∧ s.boot.warm = false ∧ ((∀ r ∈ l, ∀ x, r = some x → x.answers = true)) ∧ popFault (s.recordDimms l).population = none) ∧
    (∃ s : State, ∃ c, ∃ q, s.live = true ∧ s.boot.stage = .discover ∧ s.boot.failed = false ∧ s.boot.discovered = true ∧ s.flag (Reg.DRC_PMIC_STATUS c q) 31 = true ∧ s.pmicGood (c, q) = false) ∧
    (∃ s : State, ∃ c, ∃ q, s.live = true ∧ s.boot.stage = .discover ∧ s.boot.failed = false ∧ s.boot.discovered = true ∧ s.flag (Reg.DRC_PMIC_STATUS c q) 31 = true ∧ s.pmicGood (c, q) = false) ∧
    (∃ s : State, ∃ c, s.live = true ∧ s.boot.stage = .train ∧ s.boot.failed = false ∧ s.chanList.contains c = true ∧ (s.chan c).state = .off ∧ ((∀ q ∈ [0, 1], s.dimmWanted (c, q) = true → s.pmicGood (c, q) = true))) ∧
    (∃ s : State, ∃ n, s.live = true ∧ s.boot.stage = .train ∧ s.boot.failed = false ∧ s.trainingEnded = true ∧ n ∈ s.chanList ∧ s.flag (Reg.DRC_TRAIN_STATUS n) 29 = true) ∧
    (∃ s : State, s.live = true ∧ s.boot.stage = .train ∧ s.boot.failed = false ∧ s.trainingEnded = true ∧ (∀ n ∈ s.chanList, s.flag (Reg.DRC_TRAIN_STATUS n) 29 = false)) ∧
    (∃ s : State, s.live = true ∧ s.boot.stage = .portsUp ∧ s.boot.failed = false) ∧
    (∃ s : State, s.live = true ∧ s.boot.failed = true ∧ s.boot.limitable = false) ∧
    (∃ s : State, s.live = true ∧ s.boot.failed = true ∧ s.boot.limitable = true) ∧
    (∃ s : State, s.live = true ∧ s.boot.stage = .limited ∧ s.boot.draining = false ∧ s.boot.failedStage = .march) ∧
    (∃ s : State, ∃ code, ∃ n, ∃ slot, s.live = true ∧ s.boot.stage = .limited ∧ s.boot.draining = false ∧ s.boot.failedStage = .discover ∧ popFault s.population = some (code, n, slot)) :=
  ⟨⟨runningBoot fun b => { b with stage := .discover }, [], 1, 0, 0, by decide, by decide, by decide, by decide, by simp, by decide +kernel⟩,
   ⟨runningBoot fun b => { b with stage := .discover }, eightDimms, by decide, by decide, by decide, by decide, by decide, by simp [eightDimms, spd], by decide +kernel⟩,
   ⟨(runningBoot fun b => { b with stage := .discover, discovered := true }).setReg (Reg.DRC_PMIC_STATUS 14 1) 0x80000000, 14, 1, by decide +kernel⟩,
   ⟨(runningBoot fun b => { b with stage := .discover, discovered := true }).setReg (Reg.DRC_PMIC_STATUS 0 0) 0x80000000, 0, 0, by decide +kernel⟩,
   ⟨{ memory with boot := { stage := .train }, dram := {} }, 14, by decide +kernel⟩,
   ⟨{ memory with boot := { stage := .train }, dram := { chans := (List.range 8).map fun k => (2 * k, { state := .training }) } }.setReg (Reg.DRC_TRAIN_STATUS 14) 0x20000000, 14, by decide +kernel⟩,
   ⟨{ memory with boot := { stage := .train }, dram := { chans := (List.range 8).map fun k => (2 * k, { state := .training }) } }, by decide +kernel⟩,
   ⟨runningBoot fun b => { b with stage := .portsUp }, by decide +kernel⟩,
   ⟨runningBoot fun b => { b with failed := true }, by decide +kernel⟩,
   ⟨runningBoot fun b => { b with stage := .march, failed := true, limitedOk := true }, by decide +kernel⟩,
   ⟨runningBoot fun b => { b with stage := .limited, failedStage := .march }, by decide +kernel⟩,
   ⟨runningBoot fun b => { b with stage := .limited, failedStage := .discover }, 1, 0, 0, by decide +kernel⟩⟩

/-- The hypotheses of each clause of WarmResetBraceAndFlashCommands hold somewhere. -/
theorem witness_WarmResetBraceAndFlashCommands :
    (∃ s : State, ∃ v : Word, s.live = true ∧ bits v.toNat 31 16 = 0x5752 ∧ bit v.toNat 0 = true ∧ s.boot.draining = false ∧ s.boot.stage = .ready) ∧
    (∃ s : State, ∃ v : Word, s.live = true ∧ bits v.toNat 31 16 ≠ 0x5752) ∧
    (∃ s : State, ∃ late, s.live = true ∧ s.boot.draining = true ∧ ((late = true ∨ (s.writesInFlight = 0 ∧ s.tier.moves = [] ∧ s.coh.flights = [])))) ∧
    (∃ s : State, ∃ late, s.live = true ∧ s.boot.draining = true ∧ ((late = true ∨ (s.writesInFlight = 0 ∧ s.tier.moves = [] ∧ s.coh.flights = [])))) ∧
    (∃ s : State, s.live = true ∧ s.boot.sweeping = true ∧ s.warmNext = none) ∧
    (∃ s : State, ∃ errs, ∃ r, ∃ p, ∃ u, ∃ d, s.live = true ∧ s.boot.sweeping = true ∧ s.boot.stage = .ready ∧ s.warmNext = some (r, p) ∧ s.up (pipeDom r p) = true ∧ s.lockWait agentWarm r p = false ∧ (s.dcEntry r p).isSome = true ∧ s.descOf? r p 11 errs = some (u, .ok d)) ∧
    (∃ s : State, s.live = true ∧ s.logic.linkUp = true ∧ s.intake.braceSent = true ∧ s.boot.brace = false) ∧
    (∃ s : State, s.live = true ∧ s.boot.lgWriting = true) ∧
    (∃ s : State, ∃ p, s.live = true ∧ s.lgBlocked = some p ∧ s.boot.portsOn = true) ∧
    (∃ s : State, s.live = true ∧ s.boot.flashOp = none) ∧
    (∃ s : State, s.live = true ∧ s.boot.flashOp = none ∧ s.boot.flashGuarded (s.fld Reg.MGT_FLASH_ADDR 23 0 / 256 * 256) 256 = false) ∧
    (∃ s : State, s.live = true ∧ s.boot.flashOp = none ∧ s.boot.flashGuarded (s.fld Reg.MGT_FLASH_ADDR 23 0 / 4096 * 4096) 4096 = false) ∧
    (∃ s : State, ∃ a, s.live = true ∧ s.boot.flashOp = some { op := 2, addr := a }) ∧
    (∃ s : State, s.live = true ∧ s.unlocked = true) ∧
    (∃ s : State, s.live = true ∧ s.unlocked = false) :=
  ⟨⟨running, 0x57520001, by decide +kernel⟩,
   ⟨running, 0x57530001, by decide +kernel⟩,
   ⟨runningBoot fun b => { b with draining := true }, false, by decide +kernel⟩,
   ⟨{ runningBoot (fun b => { b with draining := true }) with coh := { bulks := [], flights := [], nextId := 3 } }, true, by decide +kernel⟩,
   ⟨runningBoot fun b => { b with sweeping := true }, by decide +kernel⟩,
   ⟨{ runningBoot (fun b => { b with sweeping := true }) with pipe := sweptPipe }, ReadErrs.none, 1, 0, _, {}, by decide, by decide, by decide, by decide, pipes_up (by decide) (by decide) 1 0, by decide, by decide, rfl⟩,
   ⟨{ runningIntake (fun i => { i with braceSent := true }) with boot := { stage := .ready } }, by decide +kernel⟩,
   ⟨runningBoot fun b => { b with lgWriting := true }, by decide +kernel⟩,
   ⟨(runningBoot fun b => { b with flash := [(0x800000 + 15 * 256, 0)] }), 15, by decide +kernel⟩,
   ⟨running, by decide +kernel⟩,
   ⟨running.setReg Reg.MGT_FLASH_ADDR 0x7FFFFF, by decide +kernel⟩,
   ⟨running.setReg Reg.MGT_FLASH_ADDR 0x840000, by decide +kernel⟩,
   ⟨runningBoot fun b => { b with flashOp := some { op := 2, addr := 0x840000 } }, 0x840000, by decide +kernel⟩,
   ⟨runningIntake fun i => { i with ticks := 0, unlockUntil := 1000 }, by decide +kernel⟩,
   ⟨running, by decide +kernel⟩⟩

/-- The hypotheses of each clause of RaisedEventIsLoggedOnce hold somewhere. -/
theorem witness_RaisedEventIsLoggedOnce :
    (∃ s : State, ∃ code : Nat, ∃ inst : Nat, s.evtSet code inst = true) ∧
    (∃ s : State, ∃ code : Nat, ∃ inst : Nat, s.evtSet code inst = false ∧ s.evtEnabled code inst = false) ∧
    (∃ s : State, ∃ code : Nat, ∃ inst : Nat, s.evtSet code inst = false ∧ s.evtEnabled code inst = true) ∧
    (∃ s : State, ∃ code : Nat, ∃ inst : Nat, s.evtSet code inst = false ∧ severity code = 3) ∧
    (∃ code : Nat, ∃ inst : Nat, ∃ a, a ≠ evtPage code inst + 0x014 ∧ a ≠ evtPage code inst + 0x020 ∧ a ≠ Reg.RAS_EVT_REPEAT) :=
  ⟨⟨running.setReg (evtPage 0x0501 0 + 0x014) 1, 0x0501, 0, by decide +kernel⟩,
   ⟨running.setReg (evtPage 0x0501 0 + 0x018) 0, 0x0501, 0, by decide +kernel⟩,
   ⟨running, 0x0501, 0, by decide +kernel⟩,
   ⟨running, 0x0515, 0, by decide +kernel⟩,
   ⟨0x0501, 0, 0, by decide +kernel⟩⟩

/-- The hypotheses of EventLogStaysWithinRing hold somewhere. -/
theorem witness_EventLogStaysWithinRing : ∃ s : State, s.log.ring.length ≤ 1024 :=
  ⟨State.reset, by decide +kernel⟩

/-- The hypotheses of each clause of EventsOccurAndRearm hold somewhere. -/
theorem witness_EventsOccurAndRearm :
    (∃ s : State, ∃ code : BitVec 16, ∃ inst : Nat, ∃ b : Block, s.live = true ∧ (eventTable.any fun e => e.1 == code.toNat) = true ∧ (blocks.find? fun b => b.code == code.toNat / 256) = some b ∧ inst < b.insts) ∧
    (∃ s : State, ∃ code : BitVec 16, ∃ inst : Nat, ∃ b : Block, ∃ addr : BitVec 24, s.live = true ∧ (eventTable.any fun e => e.1 == code.toNat) = true ∧ (blocks.find? fun b => b.code == code.toNat / 256) = some b ∧ inst < b.insts ∧ pageBase addr.toNat = evtPage code.toNat inst) ∧
    (∃ s : State, ∃ code : BitVec 16, ∃ inst : Nat, ∃ b : Block, ∃ addr : BitVec 24, s.live = true ∧ (eventTable.any fun e => e.1 == code.toNat) = true ∧ (blocks.find? fun b => b.code == code.toNat / 256) = some b ∧ inst < b.insts ∧ pageBase addr.toNat = evtPage code.toNat inst) :=
  ⟨⟨running, 0xA001, 15, ⟨0xA0, 0xA00000, 5, 16, 0x10000⟩, by decide +kernel⟩,
   ⟨running, 0xA001, 15, ⟨0xA0, 0xA00000, 5, 16, 0x10000⟩, 0xAF0000, by decide +kernel⟩,
   ⟨running, 0xA001, 0, ⟨0xA0, 0xA00000, 5, 16, 0x10000⟩, 0xA00014, by decide +kernel⟩⟩

/-- The hypotheses of each clause of RefusedRegisterWritesChangeNothing hold somewhere. -/
theorem witness_RefusedRegisterWritesChangeNothing :
    (∃ s : State, ∃ addr : BitVec 24, s.live = true ∧ implemented addr.toNat = false) ∧
    (∃ s : State, ∃ addr : BitVec 24, s.live = true ∧ implemented addr.toNat = true ∧ 0x40 ≤ addr.toNat % 0x1000 ∧ s.up (regDomain addr.toNat) = true ∧ s.domFailed (regDomain addr.toNat) = false ∧ ((accessOf addr.toNat = .ro ∨ accessOf addr.toNat = .rc ∨ (accessOf addr.toNat = .rwl ∧ s.pageLocked addr.toNat = true)))) ∧
    (∃ s : State, ∃ addr : BitVec 24, s.live = true ∧ implemented addr.toNat = true ∧ 0x40 ≤ addr.toNat % 0x1000 ∧ s.up (regDomain addr.toNat) = true ∧ s.domFailed (regDomain addr.toNat) = false ∧ ((accessOf addr.toNat = .ro ∨ accessOf addr.toNat = .rc ∨ (accessOf addr.toNat = .rwl ∧ s.pageLocked addr.toNat = true)))) ∧
    (∃ s : State, ∃ addr : BitVec 24, ∃ v : Word, s.live = true ∧ implemented addr.toNat = true ∧ 0x40 ≤ addr.toNat % 0x1000 ∧ s.up (regDomain addr.toNat) = true ∧ s.domFailed (regDomain addr.toNat) = false ∧ ((accessOf addr.toNat = .rw ∨ accessOf addr.toNat = .w1c)) ∧ copyOnly addr.toNat = false ∧ rangesOk addr.toNat v = false) ∧
    (∃ s : State, ∃ addr : BitVec 24, ∃ v : Word, s.live = true ∧ implemented addr.toNat = true ∧ 0x40 ≤ addr.toNat % 0x1000 ∧ s.up (regDomain addr.toNat) = true ∧ s.domFailed (regDomain addr.toNat) = false ∧ ((accessOf addr.toNat = .rw ∨ accessOf addr.toNat = .w1c)) ∧ copyOnly addr.toNat = false ∧ rangesOk addr.toNat v = false) ∧
    (∃ s : State, ∃ addr : BitVec 24, s.live = true ∧ implemented addr.toNat = true ∧ 0x40 ≤ addr.toNat % 0x1000 ∧ s.domFailed (regDomain addr.toNat) = true) :=
  ⟨⟨running, 0x003FFC, by decide +kernel⟩,
   ⟨running, 0x028044, by decide +kernel⟩,
   ⟨running.setReg 0x02800C 5, 0x028040, by decide +kernel⟩,
   ⟨running, 0x010050, 0, by decide +kernel⟩,
   ⟨running, 0x010050, 0x1FF11, by decide +kernel⟩,
   ⟨{ running with pwr := { doms := [(5, { state := .failed })] } }, 0x200044, by decide +kernel⟩⟩

/-- The hypotheses of each clause of AcceptedPlainWritesLandInTheirRegister hold somewhere. -/
theorem witness_AcceptedPlainWritesLandInTheirRegister :
    (∃ s : State, s.live = true ∧ s.domFailed 0 = false) ∧
    (∃ s : State, ∃ addr : BitVec 24, s.live = true ∧ s.domFailed 0 = false ∧ implemented addr.toNat = true ∧ addr.toNat % 0x1000 = 0x018) :=
  ⟨⟨running, by decide +kernel⟩,
   ⟨running, 0xAF4018, by decide +kernel⟩⟩

/-- The hypotheses of each clause of PageHeaderCommands hold somewhere. -/
theorem witness_PageHeaderCommands :
    (∃ s : State, ∃ addr : BitVec 24, s.live = true ∧ (pageOf (ctrlOf addr)).isSome = true ∧ implemented (ctrlOf addr) = true ∧ (ctrlOf addr) % 0x1000 = 0x00C ∧ blockBase (ctrlOf addr) = blockBase addr.toNat) ∧
    (∃ s : State, ∃ addr : BitVec 24, s.live = true ∧ (pageOf (ctrlOf addr)).isSome = true ∧ implemented (ctrlOf addr) = true ∧ (ctrlOf addr) % 0x1000 = 0x00C ∧ blockBase (ctrlOf addr) = blockBase addr.toNat ∧ s.flag (ctrlOf addr) 0 = false) ∧
    (∃ s : State, ∃ addr : BitVec 24, s.live = true ∧ (pageOf (ctrlOf addr)).isSome = true ∧ implemented (ctrlOf addr) = true ∧ (ctrlOf addr) % 0x1000 = 0x00C ∧ blockBase (ctrlOf addr) = blockBase addr.toNat ∧ s.flag (ctrlOf addr) 0 = true) ∧
    (∃ s : State, ∃ addr : BitVec 24, s.live = true ∧ (pageOf (pageBase addr.toNat + 0x00C)).isSome = true) ∧
    (∃ s : State, ∃ addr : BitVec 24, s.live = true ∧ (pageOf (blockBase addr.toNat)).isSome = true ∧ s.flag (blockBase addr.toNat + 0x00C) 1 = true ∧ inBlock (blockBase addr.toNat) (blockBase addr.toNat + 0x00C) = true) ∧
    (∃ (s : State) (addr : BitVec 24) (flip : Word), s.live = true ∧ s.flag Reg.GLB_CTRL 0 = true ∧ implemented addr.toNat = true ∧ accessOf addr.toNat = .rw ∧ flip = 1 ∧ s.mgmt.parityBad = []) ∧
    (∃ s : State, ∃ c : BitVec 12, ∃ v : Word, s.live = true ∧ (s.sess c.toNat).live = true ∧ (s.ctx c.toNat).manager = true ∧ s.flag Reg.MGT_MGR_LOCK 31 = false ∧ bit v.toNat 31 = true ∧ bits v.toNat 11 0 = c.toNat) ∧
    (∃ s : State, ∃ c : BitVec 12, s.live = true ∧ (s.sess c.toNat).live = true ∧ ((s.ctx c.toNat).manager = false ∨ s.lockedOut c.toNat (s.sess c.toNat).epoch = true)) :=
  ⟨⟨running, 0xAF0040, by decide +kernel⟩,
   ⟨running, 0xAF0040, by decide +kernel⟩,
   ⟨running, 0x028040, by decide +kernel⟩,
   ⟨running, 0xAF4000, by decide +kernel⟩,
   ⟨running.setReg 0x02800C 3, 0x028040, by decide +kernel⟩,
   ⟨running.setReg Reg.GLB_CTRL 1, 0x010050, 1, by decide +kernel⟩,
   ⟨{ running with kct := { ctx := [(0xFFF, { manager := true, sess := session })] } }, 0xFFF, 0x80000FFF, by decide +kernel⟩,
   ⟨{ running with kct := { ctx := [(5, { sess := session })] } }.setReg Reg.MGT_MGR_LOCK 0x80000006, 5, by decide +kernel⟩⟩

/-- The hypotheses of each clause of ManagementMessageCommands hold somewhere. -/
theorem witness_ManagementMessageCommands :
    (∃ s : State, ∃ m t0, s.live = true ∧ s.mgmt.jobs = [] ∧ s.takeMgmt = some (m, t0) ∧ (t0.ctx m.client).manager = false ∧ m.type = tMgmtRead) ∧
    (∃ s : State, ∃ m t0, s.live = true ∧ s.mgmt.jobs = [] ∧ s.takeMgmt = some (m, t0) ∧ (t0.ctx m.client).manager = false ∧ m.type = tMgmtWrite) ∧
    (∃ s : State, ∃ m t0, s.live = true ∧ s.mgmt.jobs = [] ∧ s.takeMgmt = some (m, t0) ∧ (t0.ctx m.client).manager = false ∧ m.type = tOpCommand) ∧
    (∃ s : State, ∃ a, ∃ m t0, s.live = true ∧ s.mgmt.jobs = [] ∧ s.takeMgmt = some (m, t0) ∧ (t0.ctx m.client).manager = true ∧ (t0.sess m.client).bound = true ∧ (t0.sess m.client).epoch = m.epoch ∧ m.type = tMgmtRead ∧ recordsOf m.body = [(a, 1)] ∧ implemented a = false) ∧
    (∃ s : State, ∃ a v, ∃ m t0, s.live = true ∧ s.mgmt.jobs = [] ∧ s.takeMgmt = some (m, t0) ∧ (t0.ctx m.client).manager = true ∧ t0.lockedOut m.client m.epoch = false ∧ (t0.sess m.client).bound = true ∧ (t0.sess m.client).epoch = m.epoch ∧ m.type = tMgmtWrite ∧ recordsOf m.body = [(a, v)] ∧ implemented a = true ∧ a % 0x1000 = 0x018) ∧
    (∃ s : State, ∃ i, ∃ m t0, s.live = true ∧ s.mgmt.jobs = [] ∧ s.takeMgmt = some (m, t0) ∧ (t0.ctx m.client).manager = true ∧ t0.lockedOut m.client m.epoch = false ∧ m.type = tOpCommand ∧ beAt m.body 0 1 = i ∧ i < 32) ∧
    (∃ s : State, ∃ q, s.live = true ∧ q < 8 ∧ s.flag (Reg.RAS_SUB q) 31 = true ∧ (s.sess (s.fld (Reg.RAS_SUB q) 11 0)).live = false) ∧
    (∃ s : State, ∃ q, ∃ e, s.live = true ∧ q < 8 ∧ s.flag (Reg.RAS_SUB q) 31 = true ∧ (s.sess (s.fld (Reg.RAS_SUB q) 11 0)).live = true ∧ (s.sess (s.fld (Reg.RAS_SUB q) 11 0)).epoch.toNat = s.fld (Reg.RAS_SUB q) 27 24 ∧ s.log.ring = [e] ∧ e.seq = tabGet (fun _ => 0) s.log.due q ∧ s.fld (Reg.RAS_SUB q) 29 28 ≤ e.sev ∧ 1 ≤ s.fld Reg.RAS_DELIVERY_CFG 4 0 ∧ s.windowFull (s.fld (Reg.RAS_SUB q) 11 0) = false ∧ (s.sess (s.fld (Reg.RAS_SUB q) 11 0)).closeSent = false) :=
  ⟨⟨delivered 5 tMgmtRead false [], _, _, by decide, by decide, rfl, by decide, by decide +kernel⟩,
   ⟨delivered 5 tMgmtWrite false [], _, _, by decide, by decide, rfl, by decide, by decide +kernel⟩,
   ⟨delivered 5 tOpCommand false [], _, _, by decide, by decide, rfl, by decide, by decide +kernel⟩,
   ⟨delivered 5 tMgmtRead true [0, 0, 0, 1, 0, 0, 0x3F, 0xFC, 0, 0, 0, 1], 0x3FFC, _, _, by decide, by decide, rfl, by decide, by decide, by decide, by decide, by decide, by decide +kernel⟩,
   ⟨delivered 5 tMgmtWrite true [0, 0, 0, 1, 0, 0xAF, 0x40, 0x18, 0, 0, 0, 7], 0xAF4018, 7, _, _, by decide, by decide, rfl, by decide, by decide, by decide, by decide, by decide, by decide, by decide, by decide +kernel⟩,
   ⟨delivered 5 tOpCommand true [31, 0], 31, _, _, by decide, by decide, rfl, by decide, by decide, by decide, by decide, by decide +kernel⟩,
   ⟨running.setReg (Reg.RAS_SUB 7) 0xB0000005, 7, by decide +kernel⟩,
   ⟨{ (delivered 5 0 true []).setReg (Reg.RAS_SUB 0) 0x80000005 with log := { ring := [oneEntry], wseq := 1 } }, 0, oneEntry, by decide +kernel⟩⟩

/-- The hypotheses of each clause of SlotCommandsFollowTheStateMachine hold somewhere. -/
theorem witness_SlotCommandsFollowTheStateMachine :
    (∃ s : State, s.live = true) ∧
    (∃ s : State, s.live = true) ∧
    (∃ s : State, s.live = true) ∧
    (∃ s : State, ∃ i : Nat, s.live = true ∧ (s.opSlot i).state.active = true) ∧
    (∃ s : State, ∃ i : Nat, ∃ c : BitVec 12, s.live = true ∧ (s.opSlot i).state.active = false ∧ s.startCheck (s.opSlot i) (s.whoIs c.toNat) = none) ∧
    (∃ s : State, ∃ i : Nat, ∃ c : BitVec 12, ∃ r, ∃ d, s.live = true ∧ (s.opSlot i).state.active = false ∧ s.startCheck (s.opSlot i) (s.whoIs c.toNat) = some (r, d)) ∧
    (∃ s : State, ∃ i : Nat, ∃ c : BitVec 12, ∃ r, ∃ d, s.live = true ∧ (s.opSlot i).state.active = false ∧ s.startCheck (s.opSlot i) (s.whoIs c.toNat) = some (r, d)) :=
  ⟨⟨running, by decide +kernel⟩,
   ⟨running, by decide +kernel⟩,
   ⟨running, by decide +kernel⟩,
   ⟨slotState running 31 { state := .running }, 31, by decide +kernel⟩,
   ⟨slotState running 31 { code := opMarch }, 31, 0, by decide +kernel⟩,
   ⟨running, 31, 0, rcBadCode, 0, by decide +kernel⟩,
   ⟨slotState running 31 { code := opMarch, arg0 := 368 }, 31, 0, rcBadArgument, 0, by decide +kernel⟩⟩

/-- The hypotheses of each clause of SlotEnginesRunAndEnd hold somewhere. -/
theorem witness_SlotEnginesRunAndEnd :
    (∃ s : State, ∃ i : Nat, s.live = true ∧ s.admissible i = true ∧ (∀ j ∈ opSlots, ¬((s.opSlot j).order < (s.opSlot i).order ∧ s.admissible j = true)) ∧ (s.opSlot i).begun = true) ∧
    (∃ s : State, ∃ i : Nat, s.live = true ∧ (s.opSlot i).state = .suspending ∧ (s.opSlot i).code = opMigrate ∧ s.opMoving i = false) ∧
    (∃ s : State, ∃ i : Nat, s.live = true ∧ (s.opSlot i).state = .running ∧ (s.opSlot i).begun = true ∧ (s.opSlot i).code = opScrub ∧ (s.opSlot i).notify = none ∧ s.scrubTotal (s.opSlot i) ≤ (s.opSlot i).cursor) ∧
    (∃ s : State, ∃ i : Nat, ∃ r, ∃ d, s.live = true ∧ (s.opSlot i).state = .running ∧ (s.opSlot i).begun = true ∧ (s.opSlot i).code = opScrub ∧ (s.opSlot i).notify = none ∧ s.runError i = some (r, d)) ∧
    (∃ s : State, ∃ i : Nat, s.live = true ∧ (s.opSlot i).state = .cancelling ∧ (s.opSlot i).code = opMigrate ∧ s.opMoving i = false ∧ (s.opSlot i).notify = none) :=
  ⟨⟨slotState (running.setReg 0xC0000C 1) 31 { code := opMarch, state := .queued, begun := true }, 31, by decide +kernel⟩,
   ⟨slotState running 31 { code := opMigrate, state := .suspending }, 31, by decide +kernel⟩,
   ⟨slotState running 31 { code := opScrub, state := .running, begun := true }, 31, by decide +kernel⟩,
   ⟨{ slotState running 31 { code := opScrub, state := .running, begun := true, arg0 := 1 } with pwr := { running.pwr with doms := [(13, { state := .failed })] }, tier := memory.tier }, 31, rcDomainFailed, 0, by decide +kernel⟩,
   ⟨slotState running 31 { code := opMigrate, state := .cancelling }, 31, by decide +kernel⟩⟩

/-- The hypotheses of each clause of LinkAndFrameCommands hold somewhere. -/
theorem witness_LinkAndFrameCommands :
    (∃ s : State, ∃ m : Nat, s.macOn m = true ∧ s.up (portDom (macPort m)) = true ∧ (s.mac m).linkUp = false ∧ s.msOn m = false ∧ s.kct.ctx = []) ∧
    (∃ s : State, ∃ m : Nat, s.live = true ∧ (s.mac m).linkUp = true) ∧
    (∃ s : State, ∃ m : Nat, s.live = true ∧ (s.mac m).linkUp = true ∧ s.kct.ctx = []) ∧
    (∃ s : State, ∃ c : BitVec 12, s.up 5 = true ∧ (s.sess c.toNat).live = true ∧ (s.sess c.toNat).current ≠ (s.sess c.toNat).primary ∧ s.macUp (s.sess c.toNat).primary = true ∧ s.hasIp (s.sess c.toNat).primary (s.sess c.toNat).v6 = true ∧ (s.destMac c.toNat (s.sess c.toNat).primary).isSome = true) ∧
    (∃ s : State, ∃ m : Nat, ∃ a, s.macOn m = true ∧ s.up (portDom (macPort m)) = true ∧ s.flag (Reg.PRT_AN_CFG (macPort m) (macIdx m)) 0 = true ∧ s.ability m = some a ∧ (s.mac m).linkUp = false) ∧
    (∃ s : State, ∃ m : Nat, ∃ u, s.macOn m = true ∧ s.up (portDom (macPort m)) = true ∧ (s.reg (Reg.PRT_FEC_ALARM (macPort m) (macIdx m))).toNat < u) ∧
    (∃ s : State, ∃ m : Nat, ∃ f : EthFrame, s.macUp m = true ∧ (s.frameWakes && s.wakeMatch m f) = false ∧ f.fcsOk = false) ∧
    (∃ s : State, ∃ m : Nat, ∃ f : EthFrame, ∃ u : State, s.macUp m = true ∧ (s.frameWakes && s.wakeMatch m f) = false ∧ s.rxChecks m f = (u, true)) ∧
    (∃ s : State, ∃ m : Nat, ∃ f : EthFrame, s.macUp m = true ∧ s.frameWakes = true ∧ s.wakeMatch m f = true) ∧
    (∃ s : State, ∃ m : Nat, ∃ c, s.macUp m = true ∧ (s.mac m).xoff.getLsbD c = true ∧ s.pfcOn m c = true ∧ s.fld (Reg.PRT_PFC_THRESH (macPort m) (macIdx m) c) 15 0 * 1024 < s.rxClassBytes m c) ∧
    (∃ (s : State) (m : Nat), ∃ v q, ∃ e u, s.takeRx m (fun b => match b with | .macControl op _ _ => op == 0x0101 | _ => false) = some (e, u) ∧ e.frame.body = .macControl 0x0101 v q) ∧
    (∃ s : State, ∃ m : Nat, ∃ c, s.live = true ∧ (s.mac m).paused.getLsbD c = true) :=
  ⟨⟨{ ported with ports := {} }, 0, by decide +kernel⟩,
   ⟨ported, 0, by decide +kernel⟩,
   ⟨ported, 0, by decide +kernel⟩,
   ⟨client ported 5 { sess := { session with primary := 0, current := 1, peerMac := [(0, some 2)] } }, 5, by decide +kernel⟩,
   ⟨{ (ported.setReg (Reg.PRT_AN_CFG 0 0) 1).setReg (Reg.PRT_PORT_CTRL 0) 2 with ports := {} }, 0, .cr4x200, by decide +kernel⟩,
   ⟨ported, 0, 0x100000000, by decide +kernel⟩,
   ⟨ported, 0, { frame .other with fcsOk := false }, by decide +kernel⟩,
   ⟨ported, 0, frame (.arp true 2 3 4), _, by decide, by decide, Prod.ext rfl (by decide)⟩,
   ⟨{ ported.setReg (Reg.PRT_WAKE_CFG 0) 0x80 with pwr := { ported.pwr with auto := 3 } }, 0, frame .other, by decide +kernel⟩,
   ⟨{ framed ported (.kct (header 0x10) (sealedOf (header 0x10))) with ports := { macs := [(0, { linkUp := true, xoff := 1 })], rx := [⟨0, 0, { frame (.kct (header 0x10) (sealedOf (header 0x10))) with length := 2097152 }, 0⟩] } }.setReg (Reg.PRT_PFC_CFG 0 0) 1, 0, 0, by decide +kernel⟩,
   ⟨framed ported (.macControl 0x0101 1 [5]), 0, 1, [5], _, _, rfl, by decide +kernel⟩,
   ⟨{ ported with ports := { macs := [(0, { linkUp := true, paused := 1 })] } }, 0, 0, by decide +kernel⟩⟩

/-- The hypotheses of each clause of NeighbourEchoAndMacsecCommands hold somewhere. -/
theorem witness_NeighbourEchoAndMacsecCommands :
    (∃ (s : State) (m : Nat), ∃ sm sip tip, ∃ e u, s.takeRx m (fun b => match b with | .arp req .. => req | _ => false) = some (e, u) ∧ e.frame.body = .arp true sm sip tip ∧ s.ipv4 m ≠ 0 ∧ tip = s.ipv4 m) ∧
    (∃ (s : State) (m : Nat), ∃ sm sip tip, ∃ e u, s.takeRx m (fun b => match b with | .arp req .. => req | _ => false) = some (e, u) ∧ e.frame.body = .arp true sm sip tip ∧ tip ≠ s.ipv4 m) ∧
    (∃ (s : State) (m : Nat), ∃ target sm src, ∃ e u, s.takeRx m (fun b => match b with | .neighSol .. => true | _ => false) = some (e, u) ∧ e.frame.body = .neighSol target sm src ∧ (s.ipv6s m).contains target = true) ∧
    (∃ (s : State) (m : Nat), ∃ target sm src, ∃ e u, s.takeRx m (fun b => match b with | .neighSol .. => true | _ => false) = some (e, u) ∧ e.frame.body = .neighSol target sm src ∧ (s.ipv6s m).contains target = false) ∧
    (∃ (s : State) (m : Nat), ∃ d h, ∃ e u, s.takeRx m (fun b => match b with | .echo _ => true | _ => false) = some (e, u) ∧ e.frame.body = .echo d ∧ e.frame.ip = some h ∧ (u.mac m).echoSec ≠ s.now / 1000000000 ∧ 0 < s.fld (Reg.PRT_NEIGH_CFG (macPort m) (macIdx m)) 15 0) ∧
    (∃ (s : State) (m : Nat), ∃ d h, ∃ e u, s.takeRx m (fun b => match b with | .echo _ => true | _ => false) = some (e, u) ∧ e.frame.body = .echo d ∧ e.frame.ip = some h ∧ (u.mac m).echoSec = s.now / 1000000000 ∧ s.fld (Reg.PRT_NEIGH_CFG (macPort m) (macIdx m)) 15 0 ≤ (u.mac m).echoes) ∧
    (∃ s : State, ∃ m : Nat, s.macUp m = true ∧ s.gwIp4 m ≠ 0 ∧ (s.mac m).gw4.asked = true ∧ (gatewayFail (s.mac m).gw4).failures = 3) ∧
    (∃ s : State, ∃ p : Nat, ∃ v : Word, ∃ u, p < 2 ∧ s.thermal.relock = false ∧ s.up 11 = true ∧ s.up (portDom p) = true ∧ bit v.toNat 31 = true ∧ s.unwrap (s.stageBytes (Reg.PRT_MS_SA p (bits v.toNat 4 3) (bits v.toNat 2 0)) 10) = (u, none)) ∧
    (∃ s : State, ∃ p : Nat, ∃ v : Word, ∃ u, ∃ b, p < 2 ∧ s.thermal.relock = false ∧ s.up 11 = true ∧ s.up (portDom p) = true ∧ bit v.toNat 31 = true ∧ s.unwrap (s.stageBytes (Reg.PRT_MS_SA p (bits v.toNat 4 3) (bits v.toNat 2 0)) 10) = (u, some b)) :=
  ⟨⟨framed ported (.arp true 2 3 0x0A000001), 0, 2, 3, 0x0A000001, _, _, rfl, by decide, by decide +kernel⟩,
   ⟨framed ported (.arp true 2 3 0), 0, 2, 3, 0, _, _, rfl, by decide, by decide +kernel⟩,
   ⟨(framed ported (.neighSol 9 2 3)).setReg (Reg.PRT_IPV6_GL 0 0 3) 9, 0, 9, 2, 3, _, _, rfl, by decide, by decide +kernel⟩,
   ⟨framed ported (.neighSol 9 2 3), 0, 9, 2, 3, _, _, rfl, by decide, by decide +kernel⟩,
   ⟨{ echoed.setReg (Reg.PRT_NEIGH_CFG 0 0) 1 with now := 1000000000 }, 0, [1], ipHeader, _, _, rfl, by decide, by decide, by decide, by decide +kernel⟩,
   ⟨echoed.setReg (Reg.PRT_NEIGH_CFG 0 0) 0, 0, [1], ipHeader, _, _, rfl, by decide, by decide, by decide, by decide +kernel⟩,
   ⟨{ ported.setReg (Reg.PRT_GW_IPV4 0 0) 7 with ports := { macs := [(0, { linkUp := true, gw4 := { asked := true, failures := 2 } })] } }, 0, by decide +kernel⟩,
   ⟨running, 1, 0x80000000, _, by decide, by decide, by decide, by decide, by decide, rfl⟩,
   ⟨keyed (Reg.PRT_MS_SA 0 0 0) [0, 0, 0, 0], 0, 0x80000000, _, _, by decide, by decide, by decide, by decide, by decide, keyed_unwraps (Reg.PRT_MS_SA 0 0 0) [0, 0, 0, 0]⟩⟩

/-- The hypotheses of each clause of TimeBaseCommands hold somewhere. -/
theorem witness_TimeBaseCommands :
    (∃ (s : State) (m : Nat), ∃ dom msg, ∃ e u, s.takeRx m (fun b => match b with | .ptp .. => true | _ => false) = some (e, u) ∧ e.frame.body = .ptp dom msg ∧ s.flag (Reg.PRT_PTP_CFG 0) 16 = true ∧ bit (s.fld (Reg.PRT_PTP_CFG 0) 7 0) m = true ∧ s.fld (Reg.PRT_PTP_CFG 0) 31 24 = dom ∧ s.ptpTransportOk e.frame = true) ∧
    (∃ (s : State) (m : Nat), ∃ dom msg, ∃ e u, s.takeRx m (fun b => match b with | .ptp .. => true | _ => false) = some (e, u) ∧ e.frame.body = .ptp dom msg ∧ s.ptpTransportOk e.frame = false) ∧
    (∃ s : State, ∃ ip, ∃ len, s.time.parent.isSome = true ∧ s.ptpOn s.time.parentMac = true ∧ s.txOk s.time.parentMac = true ∧ ((∀ v6, s.ptpUdp = some v6 → s.hasIp s.time.parentMac v6 = true)) ∧ s.delayReqFrame s.time.parentMac = (ip, len)) ∧
    (∃ s : State, s.live = true ∧ s.time.synced = true) ∧
    (∃ s : State, ∃ v : Word, s.live = true ∧ bit v.toNat 0 = true ∧ s.time.synced = false) ∧
    (∃ s : State, s.live = true) ∧
    (∃ s : State, s.live = true) ∧
    (∃ s : State, s.live = true ∧ s.fld (Reg.PRT_PPS_CFG 0) 29 28 = 1) ∧
    (∃ s : State, s.live = true ∧ s.fld (Reg.PRT_PPS_CFG 0) 29 28 = 2) :=
  ⟨⟨{ framed ported (.ptp 0 .other) with ports := { macs := [(0, { linkUp := true })], rx := [⟨0, 0, { frame (.ptp 0 .other) with etherType := 0x0800 }, 0⟩] } }.setReg (Reg.PRT_PTP_CFG 0) 0x00010101, 0, 0, .other, _, _, rfl, by decide, by decide, by decide, by decide, by decide +kernel⟩,
   ⟨{ framed ported (.ptp 0 .other) with ports := { macs := [(0, { linkUp := true })], rx := [⟨0, 0, { frame (.ptp 0 .other) with etherType := 0x0800 }, 0⟩] } }.setReg (Reg.PRT_PTP_CFG 0) 0x00010001, 0, 0, .other, _, _, rfl, by decide, by decide +kernel⟩,
   ⟨{ ported.setReg (Reg.PRT_PTP_CFG 0) 0x00010001 with time := { parent := some ⟨[], 0⟩ } }, none, 62, by decide +kernel⟩,
   ⟨{ running with time := { synced := true } }, by decide +kernel⟩,
   ⟨running, 1, by decide +kernel⟩,
   ⟨running, by decide +kernel⟩,
   ⟨running, by decide +kernel⟩,
   ⟨running.setReg (Reg.PRT_PPS_CFG 0) 0x10000000, by decide +kernel⟩,
   ⟨running.setReg (Reg.PRT_PPS_CFG 0) 0x20000000, by decide +kernel⟩⟩

/-- The hypotheses of each clause of KeyHelloAndSegmentCommands hold somewhere. -/
theorem witness_KeyHelloAndSegmentCommands :
    (∃ s : State, ∃ v : Word, s.thermal.relock = false ∧ s.up 5 = true ∧ s.up 11 = true ∧ bit v.toNat 31 = true ∧ (s.ctx (bits v.toNat 11 0)).sess.bound = true ∧ (s.ctx (bits v.toNat 11 0)).sess.txPhase = bit v.toNat 16) ∧
    (∃ s : State, ∃ v : Word, ∃ u, s.thermal.relock = false ∧ s.up 5 = true ∧ s.up 11 = true ∧ bit v.toNat 31 = true ∧ (s.ctx (bits v.toNat 11 0)).sess.bound = false ∧ s.unwrap (s.stageBytes (Reg.KCT_KEY_STAGE 0) 10) = (u, none)) ∧
    (∃ s : State, ∃ v : Word, ∃ u, ∃ b, s.thermal.relock = false ∧ s.up 5 = true ∧ s.up 11 = true ∧ bit v.toNat 31 = true ∧ (s.ctx (bits v.toNat 11 0)).sess.bound = false ∧ s.unwrap (s.stageBytes (Reg.KCT_KEY_STAGE 0) 10) = (u, some b)) ∧
    (∃ s : State, ∃ c : BitVec 12, ∃ w, s.thermal.relock = false ∧ s.up 5 = true ∧ (s.ctx c.toNat).waiting = some w ∧ (s.ctx c.toNat).sweeping = false ∧ (s.ctx c.toNat).sess.bound = false) ∧
    (∃ (s : State) (m : Nat), ∃ hdr box, ∃ e u, s.thermal.relock = false ∧ s.up 5 = true ∧ s.boot.answers = true ∧ s.takeKct m = some (e, u) ∧ e.frame.body = .kct hdr box ∧ hdr.type.toNat = tHello) ∧
    (∃ (s : State) (m : Nat), ∃ hdr box, ∃ e u, s.thermal.relock = false ∧ s.up 5 = true ∧ s.boot.answers = true ∧ s.takeKct m = some (e, u) ∧ e.frame.body = .kct hdr box ∧ hdr.type.toNat = tHello ∧ e.frame.udpLen = 48 + hdr.payloadLen.toNat ∧ hdr.version = 3 ∧ u.verifies hdr.client.toNat false hdr box hdr.seq.toNat = false) ∧
    (∃ (s : State) (m : Nat), ∃ hdr box, ∃ e u, s.thermal.relock = false ∧ s.up 5 = true ∧ s.boot.answers = true ∧ s.takeKct m = some (e, u) ∧ e.frame.body = .kct hdr box ∧ hdr.type.toNat = tReadShared) ∧
    (∃ (s : State) (m : Nat), ∃ hdr box r, ∃ e u, s.thermal.relock = false ∧ s.up 5 = true ∧ s.boot.answers = true ∧ s.takeKct m = some (e, u) ∧ e.frame.body = .kct hdr box ∧ hdr.type.toNat = tReadShared ∧ u.checkSeg (u.ctxOf hdr box) e.frame hdr box = .drop r) ∧
    (∃ (s : State) (m : Nat), ∃ hdr box, ∃ e u, s.thermal.relock = false ∧ s.up 5 = true ∧ s.boot.answers = true ∧ s.takeKct m = some (e, u) ∧ e.frame.body = .kct hdr box ∧ hdr.type.toNat = tAck) ∧
    (∃ (s : State) (m : Nat), ∃ hdr box, ∃ e u, s.thermal.relock = false ∧ s.up 5 = true ∧ s.boot.answers = true ∧ s.takeKct m = some (e, u) ∧ e.frame.body = .kct hdr box ∧ hdr.type.toNat = tKeepalive) ∧
    (∃ (s : State) (m : Nat), ∃ hdr box, ∃ e u, s.thermal.relock = false ∧ s.up 5 = true ∧ s.boot.answers = true ∧ s.takeKct m = some (e, u) ∧ e.frame.body = .kct hdr box ∧ hdr.type.toNat = tNak) ∧
    (∃ (s : State) (m : Nat), ∃ hdr box r, ∃ e u, s.thermal.relock = false ∧ s.up 5 = true ∧ s.boot.answers = true ∧ s.takeKct m = some (e, u) ∧ e.frame.body = .kct hdr box ∧ hdr.type.toNat = tClose ∧ u.checkSeg (u.ctxOf hdr box) e.frame hdr box = .drop r) ∧
    (∃ (s : State) (m : Nat), ∃ hdr box, ∃ e u, s.thermal.relock = false ∧ s.up 5 = true ∧ s.boot.answers = true ∧ s.takeKct m = some (e, u) ∧ e.frame.body = .kct hdr box ∧ hdr.type.toNat = tClose ∧ hdr.channel = 0 ∧ box.plain.length = 4 ∧ hdr.segIndex = 0 ∧ hdr.last = true ∧ beAt box.plain 0 1 ≤ 5) :=
  ⟨⟨client running 5 { sess := session }, 0x80000005, by decide +kernel⟩,
   ⟨running, 0x80000005, _, by decide, by decide, by decide, by decide, by decide, rfl⟩,
   ⟨keyed (Reg.KCT_KEY_STAGE 0) [0, 0, 0, 0], 0x80000005, _, _, by decide, by decide, by decide, by decide, by decide, keyed_unwraps (Reg.KCT_KEY_STAGE 0) [0, 0, 0, 0]⟩,
   ⟨client running 5 { waiting := some ⟨header 1, [], 0, [], 3, false⟩ }, 5, ⟨header 1, [], 0, [], 3, false⟩, by decide +kernel⟩,
   ⟨segmented 0x01 false, 0, header 0x01, sealedOf (header 0x01), _, _, by decide, by decide, by decide, rfl, rfl, by decide +kernel⟩,
   ⟨framed ported (.kct (header 0x01) (sealedOf (header 0x01))), 0, header 0x01, sealedOf (header 0x01), _, _, by decide, by decide, by decide, rfl, rfl, by decide, by decide, by decide, by decide +kernel⟩,
   ⟨segmented 0x10 true, 0, header 0x10, sealedOf (header 0x10), _, _, by decide, by decide, by decide, rfl, rfl, by decide +kernel⟩,
   ⟨segmented 0x10 false, 0, header 0x10, sealedOf (header 0x10), Reg.KCT_RX_NOSESSION, _, _, by decide, by decide, by decide, rfl, rfl, by decide, by decide +kernel⟩,
   ⟨segmented 0x05 true, 0, header 0x05, sealedOf (header 0x05), _, _, by decide, by decide, by decide, rfl, rfl, by decide +kernel⟩,
   ⟨segmented 0x04 true, 0, header 0x04, sealedOf (header 0x04), _, _, by decide, by decide, by decide, rfl, rfl, by decide +kernel⟩,
   ⟨segmented 0x06 true, 0, header 0x06, sealedOf (header 0x06), _, _, by decide, by decide, by decide, rfl, rfl, by decide +kernel⟩,
   ⟨segmented 0x03 false, 0, header 0x03, sealedOf (header 0x03), Reg.KCT_RX_NOSESSION, _, _, by decide, by decide, by decide, rfl, rfl, by decide, by decide +kernel⟩,
   ⟨closing, 0, header 0x03, closeBox, _, _, by decide, by decide, by decide, rfl, rfl, by decide +kernel⟩⟩

/-- The hypotheses of each clause of SessionTimerAndControlCommands hold somewhere. -/
theorem witness_SessionTimerAndControlCommands :
    (∃ s : State, ∃ c : BitVec 12, s.thermal.relock = false ∧ s.up 5 = true ∧ (s.sess c.toNat).state = .closing) ∧
    (∃ s : State, ∃ c : BitVec 12, s.thermal.relock = false ∧ s.up 5 = true ∧ (s.sess c.toNat).state = .opened) ∧
    (∃ s : State, ∃ c : BitVec 12, s.thermal.relock = false ∧ s.up 5 = true ∧ (s.sess c.toNat).live = true ∧ 0 < (s.sess c.toNat).unacked) ∧
    (∃ s : State, ∃ c : BitVec 12, ∃ g, s.thermal.relock = false ∧ s.up 5 = true ∧ (s.sess c.toNat).live = true ∧ g ∈ (s.sess c.toNat).rxHeld ∧ (s.sess c.toNat).rxNext < g.ext) ∧
    (∃ s : State, ∃ c : BitVec 12, ∃ r, s.thermal.relock = false ∧ s.up 5 = true ∧ (s.sess c.toNat).oldest = some r ∧ (s.sess c.toNat).bound = true ∧ r.count < s.retxMax) ∧
    (∃ s : State, ∃ c : BitVec 12, ∃ r, s.thermal.relock = false ∧ s.up 5 = true ∧ (s.sess c.toNat).oldest = some r ∧ (s.sess c.toNat).bound = true ∧ s.retxMax ≤ r.count) ∧
    (∃ s : State, ∃ c : BitVec 12, s.thermal.relock = false ∧ s.up 5 = true ∧ (s.sess c.toNat).bound = true ∧ (s.sess c.toNat).oldest.isSome = true) ∧
    (∃ s : State, ∃ c : BitVec 12, s.thermal.relock = false ∧ s.up 5 = true ∧ (s.sess c.toNat).live = true ∧ s.fld Reg.KCT_KEEPALIVE 15 0 ≠ 0) ∧
    (∃ s : State, ∃ c : BitVec 12, s.thermal.relock = false ∧ s.up 5 = true ∧ (s.sess c.toNat).live = true ∧ (s.sess c.toNat).rekeyDue = true) ∧
    (∃ s : State, ∃ c : BitVec 12, s.thermal.relock = false ∧ s.up 5 = true ∧ (s.sess c.toNat).live = true ∧ (s.sess c.toNat).waited = true ∧ (s.sess c.toNat).lowered = false) ∧
    (∃ s : State, ∃ c : BitVec 12, s.thermal.relock = false ∧ s.up 5 = true ∧ (s.sess c.toNat).live = true ∧ (s.sess c.toNat).closeSent = false) ∧
    (∃ s : State, ∃ c : BitVec 12, s.thermal.relock = false ∧ s.up 5 = true ∧ (s.sess c.toNat).live = true ∧ ((s.ctx c.toNat).key (!(s.sess c.toNat).txPhase)).valid = true) ∧
    (∃ s : State, ∃ c : BitVec 12, ∃ i, ∃ f, ∃ x, s.thermal.relock = false ∧ s.up 5 = true ∧ s.up 7 = true ∧ s.flight? i = some f ∧ x ∈ f.snoops ∧ x.client = c.toNat ∧ x.result = none ∧ x.wbWait = false ∧ (s.sess c.toNat).live = true) ∧
    (∃ s : State, ∃ g, ∃ rest, s.thermal.relock = false ∧ s.up 5 = true ∧ s.up 11 = true ∧ s.gcmEngines ≠ [] ∧ s.kct.gcm = g :: rest) ∧
    (∃ s : State, ∃ g, ∃ rest, s.thermal.relock = false ∧ s.up 5 = true ∧ s.up 11 = true ∧ s.kct.gcm = g :: rest ∧ (s.sess g.client).bound = false ∧ ((∀ k, k < 3 → s.gcmEngines.contains k = true))) :=
  ⟨⟨client running 5 { sess := { session with state := .closing } }, 5, by decide +kernel⟩,
   ⟨client running 5 { sess := session }, 5, by decide +kernel⟩,
   ⟨client running 5 { sess := { session with unacked := 1 } }, 5, by decide +kernel⟩,
   ⟨client running 5 { sess := { session with rxHeld := [⟨1, header 0x10, [], false⟩] } }, 5, ⟨1, header 0x10, [], false⟩, by decide +kernel⟩,
   ⟨client running 5 { sess := { session with replay := [{ seg := txSeg 5, sent := true }] } }, 5, { seg := txSeg 5, sent := true }, by decide +kernel⟩,
   ⟨client running 5 { sess := { session with replay := [{ seg := txSeg 5, sent := true, count := 255 }] } }, 5, { seg := txSeg 5, sent := true, count := 255 }, by decide +kernel⟩,
   ⟨client running 5 { sess := { session with replay := [{ seg := txSeg 5, sent := true }] } }, 5, by decide +kernel⟩,
   ⟨(client running 5 { sess := session }).setReg Reg.KCT_KEEPALIVE 1, 5, by decide +kernel⟩,
   ⟨client running 5 { sess := { session with rekeyDue := true } }, 5, by decide +kernel⟩,
   ⟨client running 5 { sess := { session with waited := true } }, 5, by decide +kernel⟩,
   ⟨client running 5 { sess := session }, 5, by decide +kernel⟩,
   ⟨client running 5 { sess := session, key1 := { valid := true } }, 5, by decide +kernel⟩,
   ⟨{ client running 5 { sess := session } with coh := { flights := [snooping] } }, 5, 3, snooping, ⟨5, 0, 9, 0, false, none⟩, by decide +kernel⟩,
   ⟨{ running with kct := { gcm := [txSeg 5] } }, txSeg 5, [], by decide +kernel⟩,
   ⟨{ running with kct := { gcm := [txSeg 5] } }, txSeg 5, [], by decide +kernel⟩⟩

/-- The hypotheses of each clause of EgressAndGateCommands hold somewhere. -/
theorem witness_EgressAndGateCommands :
    (∃ s : State, ∃ p : Nat, ∃ v : Word, ∃ k, ∃ x, s.thermal.relock = false ∧ s.up 6 = true ∧ bit v.toNat 0 = true ∧ (s.gates p).pending = none ∧ s.gclCheck p = some (k, x)) ∧
    (∃ s : State, ∃ p : Nat, ∃ v : Word, s.thermal.relock = false ∧ s.up 6 = true ∧ bit v.toNat 0 = true ∧ (s.gates p).pending = none ∧ s.gclCheck p = none) ∧
    (∃ s : State, ∃ p : Nat, ∃ v : Word, s.thermal.relock = false ∧ s.up 6 = true ∧ bit v.toNat 0 = true ∧ (s.gates p).pending.isSome = true) ∧
    (∃ s : State, ∃ p : Nat, ∃ T, s.thermal.relock = false ∧ s.up 6 = true ∧ (s.gates p).pending = some T ∧ T ≤ s.time.nanos) ∧
    (∃ s : State, ∃ p : Nat, s.thermal.relock = false ∧ s.up 6 = true ∧ (s.gates p).oper ≠ []) ∧
    (∃ s : State, ∃ m, s.thermal.relock = false ∧ s.up 6 = true ∧ s.txOk m = true ∧ s.freeAt m ≤ s.now) ∧
    (∃ s : State, ∃ c : BitVec 12, s.thermal.relock = false ∧ s.up 6 = true ∧ (s.esess c.toNat).e ≤ 16 * (s.now : Int)) ∧
    (∃ s : State, ∃ m, ∃ c, s.thermal.relock = false ∧ s.up 6 = true ∧ (s.shaper m c).tokens < 0 ∧ 0 ≤ s.tokens m c) ∧
    (∃ s : State, ∃ c : BitVec 12, ∃ g, ∃ r, s.thermal.relock = false ∧ s.up 6 = true ∧ takeFirst (fun g => g.client == c.toNat) s.kct.stage11 = some (g, r) ∧ s.roomFor g = true) ∧
    (∃ s : State, ∃ v : Word, s.thermal.relock = false ∧ s.up 6 = true ∧ bits v.toNat 25 16 ≠ 0 ∧ bits v.toNat 15 0 ≠ 0) ∧
    (∃ s : State, ∃ v : Word, s.thermal.relock = false ∧ s.up 6 = true ∧ bits v.toNat 30 20 ≠ 0) :=
  ⟨⟨running, 1, 1, 1, 0, by decide +kernel⟩,
   ⟨(running.setReg (Reg.EGR_GCL_ADMIN_COUNT 1) 1).setReg (Reg.EGR_GCL_ADMIN_DUR 1 0) 64, 1, 1, by decide +kernel⟩,
   ⟨{ running with egr := { gates := [(1, { pending := some 5 })] } }, 1, 1, by decide +kernel⟩,
   ⟨{ running with time := { ns := 5 }, egr := { gates := [(1, { pending := some 5 })] } }, 1, 5, by decide +kernel⟩,
   ⟨{ running with egr := { gates := [(1, { oper := [(255, 64)] })] } }, 1, by decide +kernel⟩,
   ⟨ported, 0, by decide +kernel⟩,
   ⟨running, 4095, by decide +kernel⟩,
   ⟨{ running.setReg (Reg.EGR_CSHP 0 0 7) 0x00100001 with now := 8, egr := { shapers := [(7, { tokens := -8 })] } }, 0, 7, by decide +kernel⟩,
   ⟨{ running with kct := { stage11 := [txSeg 5] } }, 5, txSeg 5, [], by decide, by decide, by decide, room_for⟩,
   ⟨running, 0x00010001, by decide +kernel⟩,
   ⟨running, 0x00100000, by decide +kernel⟩⟩

/-- The hypotheses of each clause of IngressPolicingCommands hold somewhere. -/
theorem witness_IngressPolicingCommands :
    (∃ s : State, ∃ c : BitVec 12, ∃ i : BitVec 24, ∃ m, s.thermal.relock = false ∧ s.up 6 = true ∧ m ∈ s.kct.delivered ∧ m.client = c.toNat ∧ m.msgId = i ∧ m.yellow = true) ∧
    (∃ s : State, s.thermal.relock = false ∧ s.up 6 = true) ∧
    (∃ s : State, s.thermal.relock = false ∧ s.up 6 = true) ∧
    (∃ s : State, s.thermal.relock = false ∧ s.up 6 = true ∧ (s.stagedProfile.pir = 0 ∨ s.stagedProfile.pir < s.stagedProfile.cir ∨ s.stagedProfile.cbs < 64 ∨ s.stagedProfile.pbs < 65536)) ∧
    (∃ s : State, s.thermal.relock = false ∧ s.up 6 = true ∧ (s.stagedProfile.pir = 0 ∨ s.stagedProfile.pir < s.stagedProfile.cir ∨ s.stagedProfile.cbs < 64 ∨ s.stagedProfile.pbs < 65536)) ∧
    (∃ s : State, s.thermal.relock = false ∧ s.up 6 = true ∧ (s.stagedProfile.pir = 0 ∨ s.stagedProfile.pir < s.stagedProfile.cir ∨ s.stagedProfile.cbs < 64 ∨ s.stagedProfile.pbs < 65536)) ∧
    (∃ s : State, s.thermal.relock = false ∧ s.up 6 = true ∧ (s.stagedProfile.pir = 0 ∨ s.stagedProfile.pir < s.stagedProfile.cir ∨ s.stagedProfile.cbs < 64 ∨ s.stagedProfile.pbs < 65536)) ∧
    (∃ s : State, s.thermal.relock = false ∧ s.up 6 = true ∧ profileBad s.stagedProfile = false ∧ s.kct.ctx = []) :=
  ⟨⟨{ running with kct := { delivered := [{ message 5 0x10 [] with yellow := true }] } }, 5, 1, { message 5 0x10 [] with yellow := true }, by decide +kernel⟩,
   ⟨running, by decide +kernel⟩,
   ⟨running, by decide +kernel⟩,
   ⟨running.setReg Reg.ING_PROF_PIR 0, by decide +kernel⟩,
   ⟨running.setReg Reg.ING_PROF_CBS 63, by decide +kernel⟩,
   ⟨running.setReg Reg.ING_PROF_PBS 65535, by decide +kernel⟩,
   ⟨(running.setReg Reg.ING_PROF_PIR 1).setReg Reg.ING_PROF_CIR 2, by decide +kernel⟩,
   ⟨(((running.setReg Reg.ING_PROF_CIR 1).setReg Reg.ING_PROF_PIR 1).setReg Reg.ING_PROF_CBS 64).setReg Reg.ING_PROF_PBS 65536, by decide +kernel⟩⟩

/-- The hypotheses of each clause of RequestCommandsAreServed hold somewhere. -/
theorem witness_RequestCommandsAreServed :
    (∃ (s : State) (c : BitVec 12) (i : BitVec 24), ∃ crc, ∃ e ∈ requestCommands c i crc, ∃ before m rest, s.thermal.relock = false ∧ takeMsg c.toNat e.1 i [] s.kct.delivered = some (before, m, rest) ∧ s.up (pipeDom (bodyRegion m.body) (bodyPage m.body)) = true ∧ mayServe before rest m = true) ∧
    (∃ (s : State) (c : BitVec 12) (i : BitVec 24), ∃ crc, ∃ e ∈ requestCommands c i crc, ∃ before m rest, s.thermal.relock = false ∧ takeMsg c.toNat e.1 i [] s.kct.delivered = some (before, m, rest) ∧ s.up (pipeDom (bodyRegion m.body) (bodyPage m.body)) = true ∧ mayServe before rest m = false) ∧
    (∃ (s : State) (c : BitVec 12) (i : BitVec 24), ∃ crc, ∃ e ∈ requestCommands c i crc, ∃ before m rest, s.thermal.relock = false ∧ takeMsg c.toNat e.1 i [] s.kct.delivered = some (before, m, rest) ∧ s.live = true ∧ s.domFailed (pipeDom (bodyRegion m.body) (bodyPage m.body)) = true ∧ mayServe before rest m = true) ∧
    (∃ s : State, ∃ c : BitVec 12, ∃ i : BitVec 24, ∃ before, ∃ m, ∃ rest, ∃ us, s.thermal.relock = false ∧ takeMsg c.toNat tHint i [] s.kct.delivered = some (before, m, rest) ∧ s.up (pipeDom (bodyRegion m.body) (bodyPage m.body)) = true ∧ s.up 8 = true ∧ mayServe before rest m = true ∧ bits m.credit.toNat 15 14 = 0 ∧ s.stage3 m.client m.type m.body = some us) ∧
    (∃ s : State, ∃ c : BitVec 12, ∃ i : BitVec 24, ∃ before, ∃ m, ∃ rest, s.thermal.relock = false ∧ takeMsg c.toNat tHint i [] s.kct.delivered = some (before, m, rest) ∧ s.up (pipeDom (bodyRegion m.body) (bodyPage m.body)) = true ∧ s.up 8 = true ∧ mayServe before rest m = true ∧ s.stage3 m.client m.type m.body = none ∧ bits m.credit.toNat 15 14 = 0 ∧ s.translate m.client tHint m.body = none ∧ s.tier.hints.length < 4096) :=
  ⟨⟨asked serving tReadOwn (body 0 8 0), 5, 1, 0, (tReadOwn, .readOwn 5 1 0), by simp [requestCommands], [], message 5 tReadOwn (body 0 8 0), [], by decide, by decide, pipes_up (by decide) (by decide) _ _, by decide +kernel⟩,
   ⟨{ serving with kct := { delivered := [message 5 tReadBulk (body 0 0x100 0), { message 5 tReadOwn (body 0 8 0) with msgId := 2 }] } }, 5, 2, 0, (tReadOwn, .readOwn 5 2 0), by simp [requestCommands], [message 5 tReadBulk (body 0 0x100 0)], { message 5 tReadOwn (body 0 8 0) with msgId := 2 }, [message 5 tReadBulk (body 0 0x100 0)], by decide, by decide, pipes_up (by decide) (by decide) _ _, by decide +kernel⟩,
   ⟨{ asked serving tReadOwn (body 0 8 0) with pwr := { doms := [(3, { state := .failed }), (4, { state := .failed })] } }, 5, 1, 0, (tReadOwn, .readOwn 5 1 0), by simp [requestCommands], [], message 5 tReadOwn (body 0 8 0), [], by decide, by decide, by decide, pipes_failed (by decide) (by decide) _ _, by decide +kernel⟩,
   ⟨{ asked serving tHint (body 0 1 0x100) with boot := { stage := .ready, draining := true } }, 5, 1, [], message 5 tHint (body 0 1 0x100), [], _, by decide, by decide, pipes_up (by decide) (by decide) _ _, by decide, by decide, by decide, rfl⟩,
   ⟨asked serving tHint (body 0 2 0x100), 5, 1, [], message 5 tHint (body 0 2 0x100), [], by decide, by decide, pipes_up (by decide) (by decide) _ _, by decide, by decide, by decide, by decide, by decide, by decide +kernel⟩⟩

/-- The hypotheses of each clause of TranslationRefusesAtTheFirstFailedCheck hold somewhere. -/
theorem witness_TranslationRefusesAtTheFirstFailedCheck :
    (∃ m : InMsg, formatOk m.type m.body = false) ∧
    (∃ m : InMsg, formatOk m.type m.body = false) ∧
    (∃ s : State, ∃ m : InMsg, formatOk m.type m.body = true ∧ (s.region (bodyRegion m.body)).valid = false) ∧
    (∃ s : State, ∃ m : InMsg, formatOk m.type m.body = true ∧ (s.region (bodyRegion m.body)).valid = true ∧ (s.region (bodyRegion m.body)).enable = true ∧ (s.region (bodyRegion m.body)).state = 1) ∧
    (∃ s : State, ∃ m : InMsg, formatOk m.type m.body = true ∧ (s.region (bodyRegion m.body)).valid = true ∧ (s.region (bodyRegion m.body)).enable = true ∧ (s.region (bodyRegion m.body)).state = 0 ∧ (s.region (bodyRegion m.body)).pageCount * 4096 < bodyEnd m.type m.body) ∧
    (∃ s : State, ∃ m : InMsg, formatOk m.type m.body = true ∧ (s.region (bodyRegion m.body)).valid = true ∧ (s.region (bodyRegion m.body)).enable = true ∧ (s.region (bodyRegion m.body)).state = 0 ∧ bodyOffset m.body < 2 ^ 46 ∧ bodyEnd m.type m.body ≤ (s.region (bodyRegion m.body)).pageCount * 4096 ∧ isEviction m.type = false ∧ s.grantOf m.client (bodyRegion m.body) = none) ∧
    (∃ s : State, ∃ m : InMsg, ∃ st, ∃ info, s.stage3 m.client m.type m.body = none ∧ bits m.credit.toNat 15 14 = 0 ∧ (s.pipeCount (bodyRegion m.body) (bodyPage m.body) 0).translate m.client m.type m.body = some (st, info)) :=
  ⟨⟨message 5 tReadOwn (body 0 4104 0), by decide +kernel⟩,
   ⟨message 5 tReadOwn (body 4092 8 0), by decide +kernel⟩,
   ⟨{ serving with pipe := {} }, message 5 tReadOwn (body 0 8 0), by decide +kernel⟩,
   ⟨{ serving with pipe := { regions := [(1, { region1 with state := 1 })] } }, message 5 tReadOwn (body 0 8 0), by decide +kernel⟩,
   ⟨serving, message 5 tReadOwn (body 8192 8 0), by decide +kernel⟩,
   ⟨{ serving with pipe := { regions := [(1, region1)] } }, message 5 tReadOwn (body 8184 8 0), by decide +kernel⟩,
   ⟨serving, message 5 tReadOwn (body 0 0 0), stOutOfRange, 0, by decide +kernel⟩⟩

/-- The hypotheses of each clause of RequestProgressCommands hold somewhere. -/
theorem witness_RequestProgressCommands :
    (∃ s : State, ∃ c : BitVec 12, ∃ i : BitVec 24, ∃ b, s.live = true ∧ s.thermal.relock = false ∧ s.coh.bulks.find? (fun b => b.client == c.toNat && b.msgId == i && b.results.all Option.isSome) = some b) ∧
    (∃ s : State, ∃ n, ∃ e : ReadErrs, ∃ f, ∃ u, ∃ d, ∃ w, s.live = true ∧ s.thermal.relock = false ∧ s.flight? n = some f ∧ f.stage = .fetch ∧ s.up (pipeDom f.region f.page) = true ∧ s.standServes (slotStand ((descLine (s.region f.region).descBase f.page).1 / 4)) = true ∧ s.chanOpen (s.slotChan ((descLine (s.region f.region).descBase f.page).1 / 4)) = true ∧ s.fetchDesc 3 f.region f.page e = (u, .ok d) ∧ u.dcRoom f.region f.page = some w) ∧
    (∃ s : State, ∃ n, ∃ e : ReadErrs, ∃ f, ∃ u, ∃ st, s.live = true ∧ s.thermal.relock = false ∧ s.flight? n = some f ∧ f.stage = .fetch ∧ s.up (pipeDom f.region f.page) = true ∧ s.standServes (slotStand ((descLine (s.region f.region).descBase f.page).1 / 4)) = true ∧ s.chanOpen (s.slotChan ((descLine (s.region f.region).descBase f.page).1 / 4)) = true ∧ s.fetchDesc 3 f.region f.page e = (u, .error st)) ∧
    (∃ s : State, ∃ n, ∃ f, s.live = true ∧ s.thermal.relock = false ∧ s.flight? n = some f ∧ f.stage = .way ∧ (s.dcRoom f.region f.page).isSome = true ∧ s.up (pipeDom f.region f.page) = true) ∧
    (∃ s : State, ∃ n, ∃ f, s.live = true ∧ s.thermal.relock = false ∧ s.flight? n = some f ∧ f.stage = .home) ∧
    (∃ s : State, ∃ n, ∃ f, ∃ p, s.live = true ∧ s.thermal.relock = false ∧ s.flight? n = some f ∧ f.stage = .lock ∧ s.lockTaken f.region f.page = false ∧ s.firstPlace f.region f.page = some p ∧ p.who ≠ agentMover) ∧
    (∃ s : State, ∃ n, ∃ f, s.live = true ∧ s.thermal.relock = false ∧ s.up 7 = true ∧ s.flight? n = some f ∧ f.stage = .ackWait ∧ s.acknowledged f = true ∧ f.trk ≠ .shared) ∧
    (∃ s : State, ∃ n, ∃ f, s.live = true ∧ s.thermal.relock = false ∧ s.up 7 = true ∧ s.flight? n = some f ∧ f.stage = .ackWait ∧ s.acknowledged f = true ∧ f.trk = .shared) ∧
    (∃ s : State, ∃ c : BitVec 12, ∃ tag : BitVec 12, ∃ x, s.live = true ∧ s.thermal.relock = false ∧ s.up 7 = true ∧ s.coh.credits.find? (fun x => x.client == c.toNat && x.tag == tag.toNat) = some x) ∧
    (∃ s : State, ∃ r, ∃ p, ∃ f, s.live = true ∧ s.thermal.relock = false ∧ s.up 7 = true ∧ s.queueHead r p = some f ∧ s.activeOn r p f.id = none) ∧
    (∃ s : State, ∃ c : BitVec 12, ∃ i : BitVec 24, ∃ before, ∃ m, ∃ rest, s.live = true ∧ s.thermal.relock = false ∧ s.up 7 = true ∧ takeMsg c.toNat tSnpResp i [] s.kct.delivered = some (before, m, rest) ∧ s.coh.flights = []) ∧
    (∃ s : State, ∃ c : BitVec 12, ∃ i : BitVec 24, ∃ before, ∃ m, ∃ rest, ∃ f, ∃ x, s.live = true ∧ s.thermal.relock = false ∧ s.up 7 = true ∧ takeMsg c.toNat tSnpResp i [] s.kct.delivered = some (before, m, rest) ∧ s.coh.flights = [f] ∧ f.snoops = [x] ∧ x.client = c.toNat ∧ x.msgId = i ∧ x.result = none ∧ x.wbWait = false) :=
  ⟨⟨{ running with coh := { bulks := [⟨4, 5, 0, 1, false, 1, 0, [some (0, []), some (0, [])]⟩] } }, 5, 1, ⟨4, 5, 0, 1, false, 1, 0, [some (0, []), some (0, [])]⟩, by decide +kernel⟩,
   by obtain ⟨u, d, w, h, h'⟩ := fetched (x := (flying serving [flight .fetch .none]).fetchDesc 3 1 0 ReadErrs.none) (f := fun u => u.dcRoom 1 0) (by decide +kernel); exact ⟨flying serving [flight .fetch .none], 3, ReadErrs.none, flight .fetch .none, u, d, w, by decide, by decide, by decide, by decide, pipes_up (by decide) (by decide) _ _, by decide, by decide, h, h'⟩,
   by obtain ⟨u, st, h⟩ := unfetched (x := (flying serving [flight .fetch .none]).fetchDesc 3 1 0 allErrs) (by decide +kernel); exact ⟨flying serving [flight .fetch .none], 3, allErrs, flight .fetch .none, u, st, by decide, by decide, by decide, by decide, pipes_up (by decide) (by decide) _ _, by decide, by decide, h⟩,
   ⟨flying serving [flight .way .none], 3, flight .way .none, by decide, by decide, by decide, by decide, by decide, pipes_up (by decide) (by decide) _ _⟩,
   ⟨flying serving [flight .home .none], 3, flight .home .none, by decide +kernel⟩,
   ⟨{ flying serving [flight .lock .none] with pipe := { serving.pipe with places := [⟨7, pageKey 1 0, 0⟩] } }, 3, flight .lock .none, ⟨7, pageKey 1 0, 0⟩, by decide +kernel⟩,
   ⟨flying serving [flight .ackWait .reserved], 3, flight .ackWait .reserved, by decide +kernel⟩,
   ⟨flying serving [flight .ackWait .shared], 3, flight .ackWait .shared, by decide +kernel⟩,
   ⟨{ running with coh := { credits := [⟨5, 0, 1, 4095, 0⟩] } }, 5, 4095, ⟨5, 0, 1, 4095, 0⟩, by decide +kernel⟩,
   ⟨flying serving [flight .pageQ .shared], 1, 0, flight .pageQ .shared, by decide +kernel⟩,
   ⟨asked running tSnpResp [], 5, 1, [], message 5 tSnpResp [], [], by decide +kernel⟩,
   ⟨flying (asked running tSnpResp []) [{ snooping with snoops := [⟨5, 0, 1, 0, false, none⟩] }], 5, 1, [], message 5 tSnpResp [], [], { snooping with snoops := [⟨5, 0, 1, 0, false, none⟩] }, ⟨5, 0, 1, 0, false, none⟩, by decide +kernel⟩⟩

/-- The hypotheses of each clause of ShareGroupAndSweepCommands hold somewhere. -/
theorem witness_ShareGroupAndSweepCommands :
    (∃ s : State, s.thermal.relock = false ∧ s.up 7 = true) ∧
    (∃ s : State, s.thermal.relock = false ∧ s.up 7 = true ∧ (s.members (s.fld Reg.COH_SG_SEL 9 0)).length < 512) ∧
    (∃ s : State, s.thermal.relock = false ∧ s.up 7 = true ∧ 512 ≤ (s.members (s.fld Reg.COH_SG_SEL 9 0)).length) ∧
    (∃ s : State, s.thermal.relock = false ∧ s.up 7 = true ∧ (s.sess (s.fld Reg.COH_SG_CLIENT 11 0)).live = false ∧ s.coh.sweep = none) ∧
    (∃ s : State, s.thermal.relock = false ∧ s.up 7 = true ∧ (s.sess (s.fld Reg.COH_SG_CLIENT 11 0)).live = true) ∧
    (∃ s : State, s.thermal.relock = false ∧ s.up 7 = true ∧ (s.members (s.fld Reg.COH_SG_SEL 9 0)).any (fun c => (s.sess c).live) = false) ∧
    (∃ s : State, ∃ c, ∃ rest, s.thermal.relock = false ∧ s.up 7 = true ∧ s.kct.sweepQ = c :: rest ∧ s.coh.sweep = none) ∧
    (∃ s : State, ∃ x, s.thermal.relock = false ∧ s.up 7 = true ∧ s.coh.sweep = some x ∧ x.ended = false ∧ (s.ctx x.client).held ≠ 0 ∧ s.sweepNext x = none) ∧
    (∃ s : State, ∃ x, ∃ y, ∃ r, ∃ p, s.thermal.relock = false ∧ s.up 7 = true ∧ s.coh.sweep = some x ∧ x.ended = false ∧ (s.ctx x.client).held ≠ 0 ∧ s.sweepNext x = some (y, r, p)) ∧
    (∃ s : State, ∃ x, s.thermal.relock = false ∧ s.up 7 = true ∧ s.coh.sweep = some x ∧ (s.ctx x.client).held = 0) :=
  ⟨⟨running, by decide +kernel⟩,
   ⟨{ running with coh := { groups := [(0, List.range 511)] } }, by decide +kernel⟩,
   ⟨{ running with coh := { groups := [(0, List.range 512)] } }, by decide +kernel⟩,
   ⟨running, by decide +kernel⟩,
   ⟨client running 0 { sess := session }, by decide +kernel⟩,
   ⟨{ running with coh := { groups := [(0, [7])] } }, by decide +kernel⟩,
   ⟨{ running with kct := { sweepQ := [5, 6] } }, 5, [6], by decide +kernel⟩,
   ⟨{ client serving 5 { held := 1 } with coh := { sweep := some { client := 5, epoch := 0, wide := true, index := 65535, page := 2 } } }, { client := 5, epoch := 0, wide := true, index := 65535, page := 2 }, by decide +kernel⟩,
   ⟨{ client serving 5 { held := 1 } with coh := { sweep := some { client := 5, epoch := 0 } } }, { client := 5, epoch := 0 }, _, 1, 0, by decide, by decide, by decide, by decide, by decide, rfl⟩,
   ⟨{ client serving 5 {} with coh := { sweep := some { client := 5, epoch := 0 } } }, { client := 5, epoch := 0 }, by decide +kernel⟩⟩

/-- The hypotheses of each clause of RegionWindowCommands hold somewhere. -/
theorem witness_RegionWindowCommands :
    (∃ s : State, ∃ l, ∃ c ∈ ([.regionRead, .regionCreate l, .regionModify l, .regionDisable l, .regionEnable l, .regionDestroy l] : List Instr), s.thermal.relock = false ∧ s.up 3 = true ∧ s.pipe.rgnBusy = true) ∧
    (∃ s : State, ∃ c ∈ ([.regionCreate true, .regionModify true, .regionDisable true, .regionEnable true, .regionDestroy true] : List Instr), s.thermal.relock = false ∧ s.up 3 = true ∧ s.pipe.rgnBusy = false) ∧
    (∃ s : State, s.thermal.relock = false ∧ s.up 3 = true ∧ s.pipe.rgnBusy = false) ∧
    (∃ s : State, s.thermal.relock = false ∧ s.up 3 = true ∧ s.pipe.rgnBusy = false ∧ (s.region s.rgnSel).valid = true) ∧
    (∃ s : State, s.thermal.relock = false ∧ s.up 3 = true ∧ s.pipe.rgnBusy = false ∧ (s.region s.rgnSel).valid = false ∧ (s.rgnData.pageCount = 0 ∨ 2 ^ 34 < s.rgnData.pageCount)) ∧
    (∃ s : State, s.thermal.relock = false ∧ s.up 3 = true ∧ s.pipe.rgnBusy = false ∧ (s.region s.rgnSel).valid = false ∧ (s.rgnData.pageCount = 0 ∨ 2 ^ 34 < s.rgnData.pageCount)) ∧
    (∃ s : State, ∃ p, s.thermal.relock = false ∧ s.up 3 = true ∧ s.pipe.rgnBusy = false ∧ (s.region s.rgnSel).valid = false ∧ 1 ≤ s.rgnData.pageCount ∧ s.rgnData.pageCount ≤ 2 ^ 34 ∧ s.rgnData.fieldsOk = true ∧ s.arrayRun (descPlots s.rgnData.pageCount) = some p) ∧
    (∃ s : State, ∃ n, s.thermal.relock = false ∧ s.up 3 = true ∧ (s.region n).valid = true ∧ (s.region n).state = 1 ∧ s.boot.brace = false ∧ s.boot.stage = .ready ∧ s.memoryOpen (slotStand (s.region n).descBase) = true) ∧
    (∃ s : State, s.thermal.relock = false ∧ s.up 3 = true ∧ s.pipe.rgnBusy = false ∧ (s.region s.rgnSel).valid = false) ∧
    (∃ s : State, s.thermal.relock = false ∧ s.up 3 = true ∧ s.pipe.rgnBusy = false ∧ (s.region s.rgnSel).valid = true ∧ (s.region s.rgnSel).enable = false ∧ (s.region s.rgnSel).cachedPages = 0 ∧ s.rgnData.fieldsOk = true) ∧
    (∃ s : State, s.thermal.relock = false ∧ s.up 3 = true ∧ s.pipe.rgnBusy = false ∧ (s.region s.rgnSel).valid = true) ∧
    (∃ s : State, s.thermal.relock = false ∧ s.up 3 = true ∧ s.pipe.rgnBusy = true ∧ s.pipe.rgnCmd = 4 ∧ s.pipe.rgnHold = []) ∧
    (∃ s : State, ∃ i, s.thermal.relock = false ∧ s.up 3 = true ∧ s.pipe.rgnBusy = true ∧ s.pipe.rgnCmd = 4 ∧ i ∈ s.pipe.rgnHold ∧ i ∈ s.translated s.pipe.rgnSel) ∧
    (∃ s : State, s.thermal.relock = false ∧ s.up 3 = true ∧ s.pipe.rgnBusy = false ∧ (s.region s.rgnSel).valid = true ∧ (s.region s.rgnSel).state ≠ 2) ∧
    (∃ s : State, s.thermal.relock = false ∧ s.up 3 = true ∧ s.pipe.rgnBusy = false ∧ (s.region s.rgnSel).valid = true ∧ (s.region s.rgnSel).enable = true) ∧
    (∃ s : State, s.thermal.relock = false ∧ s.up 3 = true ∧ s.pipe.rgnBusy = false ∧ (s.region s.rgnSel).valid = true ∧ (s.region s.rgnSel).enable = false ∧ (s.region s.rgnSel).cachedPages = 0 ∧ s.keyHeld (.region s.rgnSel) = false) ∧
    (∃ s : State, s.thermal.relock = false ∧ s.up 3 = true ∧ s.pipe.rgnBusy = true ∧ s.pipe.rgnCmd = 6 ∧ s.memoryOpen (slotStand (s.region s.pipe.rgnSel).descBase) = true) :=
  ⟨⟨busyWindow serving 4 [], true, .regionDestroy true, by simp, by decide +kernel⟩,
   ⟨serving, .regionDestroy true, by simp, by decide, by decide, by decide +kernel⟩,
   ⟨serving, by decide +kernel⟩,
   ⟨windowed serving 1 {}, by decide +kernel⟩,
   ⟨windowed serving 2 { region1 with pageCount := 0 }, by decide +kernel⟩,
   ⟨windowed serving 2 { region1 with pageCount := 2 ^ 34 + 1 }, by decide +kernel⟩,
   ⟨(windowed serving 65535 { region1 with pageCount := 2049 }).setReg Reg.PIPE_DESC_STANDS 1, 0, by decide +kernel⟩,
   ⟨withRegion { region1 with state := 1 }, 1, by decide +kernel⟩,
   ⟨windowed serving 0 region1, by decide +kernel⟩,
   ⟨windowed (withRegion { region1 with enable := false }) 1 { region1 with writeFormat := 2 }, by decide +kernel⟩,
   ⟨windowed serving 1 {}, by decide +kernel⟩,
   ⟨busyWindow serving 4 [], by decide +kernel⟩,
   ⟨busyWindow (flying serving [flight .snoops .shared]) 4 [3], 3, by decide +kernel⟩,
   ⟨windowed (withRegion { region1 with enable := false, state := 1 }) 1 {}, by decide +kernel⟩,
   ⟨windowed serving 1 {}, by decide +kernel⟩,
   ⟨windowed (withRegion { region1 with enable := false }) 1 {}, by decide +kernel⟩,
   ⟨busyWindow (withRegion { region1 with enable := false, state := 2 }) 6 [], by decide +kernel⟩⟩

/-- The hypotheses of each clause of GrantDescriptorAndFlushCommands hold somewhere. -/
theorem witness_GrantDescriptorAndFlushCommands :
    (∃ s : State, ∃ c ∈ ([.grantAdd true, .grantModify true, .grantRemove true] : List Instr), s.thermal.relock = false ∧ s.up 3 = true) ∧
    (∃ s : State, ∃ i, ∃ g, s.thermal.relock = false ∧ s.up 3 = true ∧ s.grantOf s.gntKey.1 s.gntKey.2 = some (i, g)) ∧
    (∃ s : State, ∃ i, ∃ g, s.thermal.relock = false ∧ s.up 3 = true ∧ s.grantOf s.gntKey.1 s.gntKey.2 = some (i, g)) ∧
    (∃ s : State, ∃ i, ∃ g, s.thermal.relock = false ∧ s.up 3 = true ∧ s.grantOf s.gntKey.1 s.gntKey.2 = some (i, g)) ∧
    (∃ s : State, ∃ i, ∃ g, s.thermal.relock = false ∧ s.up 3 = true ∧ s.grantOf s.gntKey.1 s.gntKey.2 = some (i, g)) ∧
    (∃ s : State, ∃ c ∈ ([.grantRead, .grantAdd false, .grantModify false, .grantRemove false] : List Instr), s.thermal.relock = false ∧ s.up 3 = true ∧ s.grantOf s.gntKey.1 s.gntKey.2 = none ∧ (s.region s.gntKey.2).valid = false) ∧
    (∃ s : State, ∃ g, ∃ i, s.thermal.relock = false ∧ s.up 3 = true ∧ s.grantOf s.gntKey.1 s.gntKey.2 = none ∧ (s.region s.gntKey.2).valid = true ∧ s.gntData { valid := true, client := s.gntKey.1, region := s.gntKey.2 } = g ∧ g.first ≤ g.last ∧ (s.grantChain 16 (grantBucket s.gntKey.1 s.gntKey.2)).find? (fun i => !(s.grantAt i).valid) = some i) ∧
    (∃ s : State, ∃ e : ReadErrs, ∃ c ∈ ([.descRead e, .descSetPin e, .descClearPin e] : List Instr), s.thermal.relock = false ∧ s.up 3 = true ∧ s.pipe.dscBusy = false ∧ (s.region (s.fld Reg.PIPE_DSC_REGION 15 0)).valid = false) ∧
    (∃ s : State, ∃ e : ReadErrs, ∃ c ∈ ([.descRead e, .descSetPin e, .descClearPin e] : List Instr), s.thermal.relock = false ∧ s.up 3 = true ∧ s.pipe.dscBusy = false ∧ (s.region (s.fld Reg.PIPE_DSC_REGION 15 0)).valid = true ∧ (s.region (s.fld Reg.PIPE_DSC_REGION 15 0)).state = 0 ∧ (s.region (s.fld Reg.PIPE_DSC_REGION 15 0)).pageCount ≤ (s.reg Reg.PIPE_DSC_PAGE_LO).toNat + 2 ^ 32 * s.fld Reg.PIPE_DSC_PAGE_HI 1 0) ∧
    (∃ s : State, ∃ page : Nat, ∃ x, s.thermal.relock = false ∧ s.up 3 = true ∧ page = (s.reg Reg.PIPE_DSC_PAGE_LO).toNat + 2 ^ 32 * s.fld Reg.PIPE_DSC_PAGE_HI 1 0 ∧ s.pipe.dscBusy = false ∧ (s.region (s.fld Reg.PIPE_DSC_REGION 15 0)).valid = true ∧ (s.region (s.fld Reg.PIPE_DSC_REGION 15 0)).state = 0 ∧ page < (s.region (s.fld Reg.PIPE_DSC_REGION 15 0)).pageCount ∧ s.up (pipeDom (s.fld Reg.PIPE_DSC_REGION 15 0) page) = true ∧ s.dcEntry (s.fld Reg.PIPE_DSC_REGION 15 0) page = some x ∧ s.lockWait agentWindow (s.fld Reg.PIPE_DSC_REGION 15 0) page = false) ∧
    (∃ s : State, ∃ page : Nat, ∃ x, s.thermal.relock = false ∧ s.up 3 = true ∧ page = (s.reg Reg.PIPE_DSC_PAGE_LO).toNat + 2 ^ 32 * s.fld Reg.PIPE_DSC_PAGE_HI 1 0 ∧ s.pipe.dscBusy = false ∧ (s.region (s.fld Reg.PIPE_DSC_REGION 15 0)).valid = true ∧ (s.region (s.fld Reg.PIPE_DSC_REGION 15 0)).state = 0 ∧ page < (s.region (s.fld Reg.PIPE_DSC_REGION 15 0)).pageCount ∧ s.up (pipeDom (s.fld Reg.PIPE_DSC_REGION 15 0) page) = true ∧ s.dcEntry (s.fld Reg.PIPE_DSC_REGION 15 0) page = some x ∧ s.lockWait agentWindow (s.fld Reg.PIPE_DSC_REGION 15 0) page = false) ∧
    (∃ s : State, ∃ page : Nat, ∃ x, s.thermal.relock = false ∧ s.up 3 = true ∧ page = (s.reg Reg.PIPE_DSC_PAGE_LO).toNat + 2 ^ 32 * s.fld Reg.PIPE_DSC_PAGE_HI 1 0 ∧ s.pipe.dscBusy = false ∧ (s.region (s.fld Reg.PIPE_DSC_REGION 15 0)).valid = true ∧ (s.region (s.fld Reg.PIPE_DSC_REGION 15 0)).state = 0 ∧ page < (s.region (s.fld Reg.PIPE_DSC_REGION 15 0)).pageCount ∧ s.up (pipeDom (s.fld Reg.PIPE_DSC_REGION 15 0) page) = true ∧ s.dcEntry (s.fld Reg.PIPE_DSC_REGION 15 0) page = some x ∧ s.lockWait agentWindow (s.fld Reg.PIPE_DSC_REGION 15 0) page = false) ∧
    (∃ s : State, s.thermal.relock = false ∧ s.up 3 = true) ∧
    (∃ s : State, s.thermal.relock = false ∧ s.up 3 = true ∧ s.pipe.flushing = true ∧ s.pipe.cache = []) :=
  ⟨⟨granting 5 1, .grantAdd true, by simp, by decide, by decide +kernel⟩,
   ⟨granting 5 1, grantBucket 5 1, serving.grantAt (grantBucket 5 1), by decide +kernel⟩,
   ⟨granting 5 1, grantBucket 5 1, serving.grantAt (grantBucket 5 1), by decide +kernel⟩,
   ⟨granting 5 1, grantBucket 5 1, serving.grantAt (grantBucket 5 1), by decide +kernel⟩,
   ⟨granting 5 1, grantBucket 5 1, serving.grantAt (grantBucket 5 1), by decide +kernel⟩,
   ⟨granting 4095 65535, .grantAdd false, by simp, by decide +kernel⟩,
   ⟨granting 6 1, _, grantBucket 6 1, by decide, by decide, by decide, by decide, rfl, by decide, by decide +kernel⟩,
   ⟨serving, ReadErrs.none, .descSetPin ReadErrs.none, by simp, by decide +kernel⟩,
   ⟨describing 2, ReadErrs.none, .descSetPin ReadErrs.none, by simp, by decide +kernel⟩,
   ⟨describing 1, 1, { desc := {}, dirty := true }, by decide, by decide, by decide, by decide, by decide, by decide, by decide, pipes_up (by decide) (by decide) _ _, by decide, by decide +kernel⟩,
   ⟨describing 0, 0, { desc := {} }, by decide, by decide, by decide, by decide, by decide, by decide, by decide, pipes_up (by decide) (by decide) _ _, by decide, by decide +kernel⟩,
   ⟨describing 0, 0, { desc := {} }, by decide, by decide, by decide, by decide, by decide, by decide, by decide, pipes_up (by decide) (by decide) _ _, by decide, by decide +kernel⟩,
   ⟨running, by decide +kernel⟩,
   ⟨{ running with pipe := { flushing := true } }, by decide +kernel⟩⟩

/-- The hypotheses of each clause of RequestDataCommands hold somewhere. -/
theorem witness_RequestDataCommands :
    (∃ s : State, ∃ n : Nat, ∃ f : Flight, ∃ k ∈ [6, 7, 8], s.live = true ∧ s.thermal.relock = false ∧ s.flight? n = some f ∧ f.stage = .read ∧ s.stalled f = false) ∧
    (∃ s : State, ∃ n : Nat, ∃ f : Flight, ∃ c : BitVec 12, ∃ i : BitVec 24, ∃ m, ∃ k, s.live = true ∧ s.thermal.relock = false ∧ s.flight? n = some f ∧ s.deliveredMsg c.toNat i = some m ∧ 2 ≤ k ∧ k ≤ 4 ∧ s.up (pipeDom (bodyRegion m.body) (bodyPage m.body)) = true) ∧
    (∃ s : State, ∃ n : Nat, ∃ f : Flight, ∃ k, s.live = true ∧ s.thermal.relock = false ∧ s.flight? n = some f ∧ f.stage = .decode ∧ k < 16 ∧ s.dLanes.contains k = true ∧ s.up (laneDom k) = true ∧ f.reads = true ∧ s.letsGreen f = false) ∧
    (∃ s : State, ∃ n : Nat, ∃ f : Flight, ∃ k, ∃ p, s.live = true ∧ s.thermal.relock = false ∧ s.flight? n = some f ∧ f.stage = .decode ∧ k < 16 ∧ s.dLanes.contains k = true ∧ s.up (laneDom k) = true ∧ f.reads = true ∧ s.letsGreen f = false ∧ s.decode f.loc.format f.loc.dict f.plain = some p) ∧
    (∃ s : State, ∃ n : Nat, ∃ f : Flight, ∃ k, s.live = true ∧ s.thermal.relock = false ∧ s.flight? n = some f ∧ f.stage = .decode ∧ k < 16 ∧ s.dLanes.contains k = true ∧ s.up (laneDom k) = true ∧ f.reads = true ∧ s.letsGreen f = false ∧ s.decode f.loc.format f.loc.dict f.plain = none) ∧
    (∃ s : State, ∃ n : Nat, ∃ f : Flight, ∃ k, ∃ st, s.live = true ∧ s.thermal.relock = false ∧ s.flight? n = some f ∧ f.stage = .compress ∧ k < 16 ∧ s.up (laneDom k) = true ∧ f.laneHeld s = some k ∧ s.laneWrites (s.writeClass f.region).2.1 (s.writeClass f.region).2.2 f.plain st false = true) ∧
    (∃ s : State, ∃ n : Nat, ∃ f : Flight, ∃ k, ∃ st, s.live = true ∧ s.thermal.relock = false ∧ s.flight? n = some f ∧ f.stage = .compress ∧ k < 16 ∧ s.up (laneDom k) = true ∧ f.laneHeld s = some k ∧ s.laneWrites (s.writeClass f.region).2.1 (s.writeClass f.region).2.2 f.plain st false = true ∧ isZeroPage f.plain = true) ∧
    (∃ s : State, ∃ n : Nat, ∃ f : Flight, ∃ k, ∃ u, ∃ r, s.live = true ∧ s.thermal.relock = false ∧ s.flight? n = some f ∧ f.stage = .check ∧ s.up 11 = true ∧ s.xtsEngines.contains k = true ∧ f.type ≠ tAtomic ∧ s.letsGreen f = false ∧ f.units = u :: r ∧ s.pageKeys f.region f.page = none) ∧
    (∃ s : State, ∃ n : Nat, ∃ f : Flight, ∃ k, ∃ u, ∃ v, ∃ r, ∃ k1, ∃ k2, s.live = true ∧ s.thermal.relock = false ∧ s.flight? n = some f ∧ f.stage = .check ∧ s.up 11 = true ∧ s.xtsEngines.contains k = true ∧ f.type ≠ tAtomic ∧ s.letsGreen f = false ∧ f.units = u :: v :: r ∧ s.pageKeys f.region f.page = some (k1, k2)) ∧
    (∃ s : State, ∃ n : Nat, ∃ f : Flight, ∃ k, ∃ u, ∃ r, ∃ k1, ∃ k2, s.live = true ∧ s.thermal.relock = false ∧ s.flight? n = some f ∧ f.stage = .check ∧ s.up 11 = true ∧ s.xtsEngines.contains k = true ∧ f.type ≠ tAtomic ∧ s.letsGreen f = false ∧ f.units = u :: r ∧ s.pageKeys f.region f.page = some (k1, k2)) ∧
    (∃ s : State, ∃ n : Nat, ∃ f : Flight, ∃ c, ∃ w, ∃ r, s.live = true ∧ s.thermal.relock = false ∧ s.flight? n = some f ∧ f.stage = .write ∧ f.writes = w :: r ∧ s.slotChan (w.la / 4) = c ∧ s.chanLost c = true) ∧
    (∃ s : State, ∃ n : Nat, ∃ f : Flight, ∃ c, ∃ w, ∃ r, s.live = true ∧ s.thermal.relock = false ∧ s.flight? n = some f ∧ f.stage = .write ∧ f.writes = w :: r ∧ s.slotChan (w.la / 4) = c ∧ s.chanLost c = false ∧ s.standServes (slotStand (w.la / 4)) = true ∧ s.chanOpen c = true ∧ s.withinBudget c f.master = false) ∧
    (∃ s : State, ∃ n : Nat, ∃ f : Flight, ∃ c, ∃ w, ∃ r, ∃ es, s.live = true ∧ s.thermal.relock = false ∧ s.flight? n = some f ∧ f.stage = .write ∧ f.writes = w :: r ∧ s.slotChan (w.la / 4) = c ∧ es = ((f.writes.filter fun w => s.slotChan (w.la / 4) == c).map fun w => ({ la := w.la, access := .wr, cls := 2, master := f.master, bytes := w.bytes, tag := w.tag } : Entry)) ∧ s.chanLost c = false ∧ s.standServes (slotStand (w.la / 4)) = true ∧ s.chanOpen c = true ∧ s.withinBudget c f.master = true ∧ s.yields c f.master 2 = false ∧ s.letsGreenAt f c = false ∧ f.held = [] ∧ s.fits c 2 es = true ∧ (∀ x ∈ f.writes, s.slotChan (x.la / 4) = c)) ∧
    (∃ s : State, ∃ n : Nat, ∃ f : Flight, s.live = true ∧ s.thermal.relock = false ∧ s.flight? n = some f ∧ f.stage = .commit ∧ s.up (pipeDom f.region f.page) = true ∧ f.newDesc = none) ∧
    (∃ s : State, ∃ n : Nat, ∃ f : Flight, s.live = true ∧ s.thermal.relock = false ∧ s.flight? n = some f ∧ f.stage = .commit ∧ s.up (pipeDom f.region f.page) = true ∧ f.newDesc.isSome = true) ∧
    (∃ s : State, ∃ n : Nat, ∃ f : Flight, s.live = true ∧ s.thermal.relock = false ∧ s.flight? n = some f ∧ f.stage = .commit ∧ s.up (pipeDom f.region f.page) = true) ∧
    (∃ s : State, ∃ n : Nat, ∃ f : Flight, ∃ c, ∃ b, ∃ e : Entry, ∃ r, ∃ x : ReadErrs, s.live = true ∧ s.thermal.relock = false ∧ s.flight? n = some f ∧ (s.sub c b).ret = e :: r ∧ e.access = .rd ∧ e.src = some n ∧ e.err1 = none ∧ s.mustRetry e x.first = false ∧ f.stage = .read ∧ s.up 11 = true ∧ e.la ∈ f.want) :=
  ⟨⟨flying serving [flight .read .shared], 3, flight .read .shared, 6, by simp, by decide, by decide, by decide, by decide, by decide +kernel⟩,
   ⟨flying (asked serving tReadOwn (body 0 8 0)) [flight .read .shared], 3, flight .read .shared, 5, 1, message 5 tReadOwn (body 0 8 0), 2, by decide, by decide, by decide, by decide, by decide, by decide, pipes_up (by decide) (by decide) _ _⟩,
   ⟨flying serving [{ flight .decode .shared with todo := [.get 0 8] }], 3, { flight .decode .shared with todo := [.get 0 8] }, 15, by decide +kernel⟩,
   ⟨{ flying serving [{ flight .decode .shared with plain := zeroStream, todo := [.get 0 8], loc := { format := 1 } }] with pipe := { cache := [(pageKey 1 0, some { desc := { format := 1 } })] } }, 3, { flight .decode .shared with plain := zeroStream, todo := [.get 0 8], loc := { format := 1 } }, 15, _, by decide, by decide, by decide, by decide, by decide, by decide, by decide, by decide, by decide, test_daltik_decodes_a_page _⟩,
   ⟨flying serving [{ flight .decode .shared with todo := [.get 0 8] }], 3, { flight .decode .shared with todo := [.get 0 8] }, 0, by decide +kernel⟩,
   ⟨flying serving [{ flight .compress .shared with plain := [0, 0], lane := some 0 }], 3, { flight .compress .shared with plain := [0, 0], lane := some 0 }, 0, [], by decide +kernel⟩,
   ⟨flying serving [{ flight .compress .shared with plain := [0, 0], lane := some 15 }], 3, { flight .compress .shared with plain := [0, 0], lane := some 15 }, 15, [], by decide +kernel⟩,
   ⟨flying serving [{ flight .check .shared with units := [⟨[], true, 0⟩] }], 3, { flight .check .shared with units := [⟨[], true, 0⟩] }, 11, ⟨[], true, 0⟩, [], by decide +kernel⟩,
   ⟨keyed0 (flying serving [{ flight .check .shared with units := [⟨[], true, 0⟩, ⟨[], true, 1⟩] }]), 3, { flight .check .shared with units := [⟨[], true, 0⟩, ⟨[], true, 1⟩] }, 11, ⟨[], true, 0⟩, ⟨[], true, 1⟩, [], 1, 2, by decide +kernel⟩,
   ⟨keyed0 (flying serving [{ flight .check .shared with units := [⟨[], true, 0⟩] }]), 3, { flight .check .shared with units := [⟨[], true, 0⟩] }, 11, ⟨[], true, 0⟩, [], 1, 2, by decide +kernel⟩,
   ⟨{ flying serving [{ flight .write .shared with writes := [lineWr] }] with dram := { chans := [(2, { state := .failed })] } }, 3, { flight .write .shared with writes := [lineWr] }, 2, lineWr, [], by decide +kernel⟩,
   ⟨overBudget, 3, { flight .write .shared with writes := [lineWr] }, 2, lineWr, [], by decide, by decide, by decide, by decide, by decide, by decide, by decide, by decide, by decide, pipes_over (by decide) (by decide) _ _⟩,
   ⟨(flying serving [{ flight .write .shared with writes := [lineWr] }]).setReg Reg.MREG_CTRL 0, 3, { flight .write .shared with writes := [lineWr] }, 2, lineWr, [], _, by decide, by decide, by decide, by decide, by decide, by decide, rfl, by decide, by decide, by decide, no_limit (by decide) _ _, by decide, by decide +kernel⟩,
   ⟨flying serving [flight .commit .shared], 3, flight .commit .shared, by decide, by decide, by decide, by decide, pipes_up (by decide) (by decide) _ _, by decide +kernel⟩,
   ⟨flying serving [{ flight .commit .shared with newDesc := some {} }], 3, { flight .commit .shared with newDesc := some {} }, by decide, by decide, by decide, by decide, pipes_up (by decide) (by decide) _ _, by decide +kernel⟩,
   ⟨flying serving [flight .commit .shared], 3, flight .commit .shared, by decide, by decide, by decide, by decide, pipes_up (by decide) (by decide) _ _⟩,
   ⟨{ flying serving [{ flight .read .shared with want := [64] }] with dram := { chans := [(2, { state := .ready, subB := { ret := [backEntry] } })] } }, 3, { flight .read .shared with want := [64] }, 2, 1, backEntry, [], ReadErrs.none, by decide +kernel⟩⟩

/-- The hypotheses of each clause of TieringStateCommands hold somewhere. -/
theorem witness_TieringStateCommands :
    (∃ s : State, s.thermal.relock = false ∧ s.up 8 = true) ∧
    (∃ s : State, ∃ c, s.thermal.relock = false ∧ s.up 8 = true ∧ (List.range 16).find? (fun c => !(decide (s.fld (Reg.TIER_POL c 2) 15 0 ≤ s.fld (Reg.TIER_POL c 1) 15 0 ∧ s.fld (Reg.TIER_POL c 1) 15 0 < s.fld (Reg.TIER_POL c 1) 31 16))) = some c) ∧
    (∃ s : State, ∃ c, s.thermal.relock = false ∧ s.up 8 = true ∧ (List.range 16).find? (fun c => !(decide (s.fld (Reg.TIER_POL c 2) 15 0 ≤ s.fld (Reg.TIER_POL c 1) 15 0 ∧ s.fld (Reg.TIER_POL c 1) 15 0 < s.fld (Reg.TIER_POL c 1) 31 16))) = some c) ∧
    (∃ s : State, s.thermal.relock = false ∧ s.up 8 = true ∧ ((∀ c, c < 16 → s.fld (Reg.TIER_POL c 2) 15 0 ≤ s.fld (Reg.TIER_POL c 1) 15 0 ∧ s.fld (Reg.TIER_POL c 1) 15 0 < s.fld (Reg.TIER_POL c 1) 31 16))) ∧
    (∃ s : State, ∃ r, ∃ p, s.thermal.relock = false ∧ s.up 8 = true ∧ s.scanOn = true ∧ s.promoFirst = false ∧ s.batchFirst = false ∧ s.scanNext = some (r, p) ∧ s.canRead 4 [(descLine (s.region r).descBase p).1] = true) ∧
    (∃ s : State, s.thermal.relock = false ∧ s.up 8 = true ∧ s.scanOn = true ∧ s.scanNext = none) ∧
    (∃ s : State, ∃ h, ∃ r, s.thermal.relock = false ∧ s.up 8 = true ∧ s.tier.hints = h :: r ∧ (s.region h.region).valid = false) ∧
    (∃ s : State, ∃ h, ∃ r, s.thermal.relock = false ∧ s.up 8 = true ∧ s.tier.hints = h :: r ∧ (s.region h.region).valid = true ∧ (s.region h.region).state = 0 ∧ h.page < (s.region h.region).pageCount) ∧
    (∃ s : State, s.thermal.relock = false ∧ s.up 8 = true ∧ s.flag Reg.TIER_CTRL 0 = false ∧ s.tier.moves = []) ∧
    (∃ s : State, ∃ k, ∃ p, s.thermal.relock = false ∧ s.up 8 = true ∧ s.moverOn = true ∧ p ∈ s.tier.promos ∧ p.hint = true ∧ slotStand (s.descPeek p.region p.page).priSlot = k ∧ s.standServes k = false) ∧
    (∃ s : State, ∃ k, s.thermal.relock = false ∧ s.up 8 = true ∧ (s.stand k).tierVote = true ∧ s.standInUse k = false) ∧
    (∃ s : State, ∃ k, s.thermal.relock = false ∧ s.up 8 = true ∧ (s.stand k).exiting = true ∧ s.coh.flights = []) ∧
    (∃ s : State, s.thermal.relock = false ∧ s.up 8 = true ∧ s.tier.reloading = true) ∧
    (∃ s : State, ∃ x, s.thermal.relock = false ∧ s.up 8 = true ∧ x ∈ s.tier.rebuild) ∧
    (∃ s : State, ∃ k, ∃ v : Word, s.thermal.relock = false ∧ s.up 8 = true ∧ k < 8 ∧ bits v.toNat 1 0 = 3) ∧
    (∃ s : State, ∃ k, ∃ v : Word, s.thermal.relock = false ∧ s.up 8 = true ∧ k < 8 ∧ bits v.toNat 1 0 ≠ 3 ∧ bits v.toNat 1 0 ≠ s.role k ∧ s.keyHeld (.stand k) = true) ∧
    (∃ s : State, ∃ k, ∃ v : Word, s.thermal.relock = false ∧ s.up 8 = true ∧ k < 8 ∧ bits v.toNat 1 0 ≠ 3 ∧ bits v.toNat 1 0 ≠ s.role k ∧ s.keyHeld (.stand k) = false ∧ (s.stand k).present = true ∧ (s.stand k).used = s.standRetired k) :=
  ⟨⟨running, by decide +kernel⟩,
   ⟨running.setReg (Reg.TIER_POL 0 1) 0x00010001, 0, by decide +kernel⟩,
   ⟨running.setReg (Reg.TIER_POL 15 2) 0xFFFF, 15, by decide +kernel⟩,
   ⟨running, by decide +kernel⟩,
   ⟨moverState, 1, 0, by decide +kernel⟩,
   ⟨{ moverState with tier := { moverState.tier with scanRegion := 2 } }, by decide +kernel⟩,
   ⟨{ serving with tier := { serving.tier with hints := [⟨2, 0, 1, false⟩] } }, ⟨2, 0, 1, false⟩, [], by decide +kernel⟩,
   ⟨{ serving with tier := { serving.tier with hints := [⟨1, 1, 1, false⟩] } }, ⟨1, 1, 1, false⟩, [], by decide +kernel⟩,
   ⟨running.setReg Reg.TIER_CTRL 0, by decide +kernel⟩,
   ⟨{ moverState with tier := { moverState.tier with promos := [⟨1, 0, true, 0⟩] }, pipe := { moverState.pipe with cache := [(pageKey 1 0, some { desc := { tier := 5, priSlot := 2 ^ 33, priCount := 16 } })] } }, 1, ⟨1, 0, true, 0⟩, by decide +kernel⟩,
   ⟨{ running with tier := { stands := [(7, { present := true, tierVote := true })] } }, 7, by decide +kernel⟩,
   ⟨{ running with tier := { stands := [(7, { present := true, exiting := true })] } }, 7, by decide +kernel⟩,
   ⟨{ running with tier := { reloading := true } }, by decide +kernel⟩,
   ⟨{ running with tier := { rebuild := [9] } }, 9, by decide +kernel⟩,
   ⟨running, 7, 3, by decide +kernel⟩,
   ⟨slotState memory 0 { code := opDrain, state := .running }, 0, 2, by decide +kernel⟩,
   ⟨memory, 0, 2, by decide +kernel⟩⟩

/-- The hypotheses of each clause of MoverCommands hold somewhere. -/
theorem witness_MoverCommands :
    (∃ s : State, ∃ r, ∃ p, s.thermal.relock = false ∧ s.up 8 = true ∧ s.moverOn = true ∧ (r, p) ∈ s.tier.picked ∧ s.dcPinned r p = false ∧ s.moveOf r p = none ∧ s.promoFirst = false) ∧
    (∃ s : State, ∃ r, ∃ p, ∃ e : ReadErrs, ∃ m, ∃ u, s.thermal.relock = false ∧ s.up 8 = true ∧ s.moverOn = true ∧ s.up (pipeDom r p) = true ∧ s.moveOf r p = some m ∧ m.newDesc.isSome = true ∧ m.kind ≠ .batch ∧ s.commitMove m e = some u) ∧
    (∃ s : State, ∃ r, ∃ p, ∃ k, ∃ st, ∃ fault, ∃ e, ∃ m, s.thermal.relock = false ∧ s.up 8 = true ∧ s.moverOn = true ∧ s.up 11 = true ∧ s.up (laneDom k) = true ∧ k < 16 ∧ s.moveOf r p = some m ∧ m.kind = .demoteU ∧ m.newDesc = none ∧ m.ending = none ∧ s.coh.flights = [] ∧ s.nextLane = some k ∧ s.engineFree e = true ∧ s.canRead 4 (s.pageLines m.src) = true ∧ s.pageKeys r p = none ∧ s.laneWrites (s.writeClass r).2.1 (s.writeClass r).2.2 [] st fault = true) ∧
    (∃ s : State, ∃ r, ∃ p, ∃ k, ∃ st, ∃ fault, ∃ e, ∃ m, ∃ k1, ∃ k2, ∃ u, ∃ copy, ∃ v, ∃ page, s.thermal.relock = false ∧ s.up 8 = true ∧ s.moverOn = true ∧ s.up 11 = true ∧ s.up (laneDom k) = true ∧ k < 16 ∧ s.moveOf r p = some m ∧ m.kind = .demoteU ∧ m.newDesc = none ∧ m.ending = none ∧ s.coh.flights = [] ∧ s.nextLane = some k ∧ s.engineFree e = true ∧ s.canRead 4 (s.pageLines m.src) = true ∧ s.pageKeys r p = some (k1, k2) ∧ s.laneWrites (s.writeClass r).2.1 (s.writeClass r).2.2 ((groupPlain k1 k2 r p (s.copyLines (s.slotsOf m.src))).getD []) st fault = true ∧ s.readLines 4 (s.pageLines m.src) [] = (u, copy, 0) ∧ u.groupRead 4 k1 k2 r p (s.pageLines m.src) copy [] 0 = (v, some page)) ∧
    (∃ s : State, ∃ i, s.thermal.relock = false ∧ s.up 8 = true ∧ s.moverOn = true ∧ s.openBatch = some i ∧ (s.batch i).moves ≠ []) ∧
    (∃ s : State, ∃ i, s.thermal.relock = false ∧ s.up 8 = true ∧ s.moverOn = true ∧ [0, 1].find? (fun i => (s.batch i).closed) = some i ∧ s.batchTarget (s.batch i) = none) ∧
    (∃ s : State, ∃ i, ∃ k, ∃ u, ∃ n, s.thermal.relock = false ∧ s.up 8 = true ∧ s.moverOn = true ∧ [0, 1].find? (fun i => (s.batch i).closed) = some i ∧ s.batchTarget (s.batch i) = some k ∧ s.standServes k = true ∧ (((s.useStand k).batchPlotIn k).setBatch i { s.batch i with stand := k, writing := true }).writeBatch k (s.batch i).moves (s.batch i).written = (u, [], n, false)) ∧
    (∃ s : State, ∃ r, ∃ p, ∃ k, ∃ e, ∃ m, s.thermal.relock = false ∧ s.up 8 = true ∧ s.moverOn = true ∧ s.up 11 = true ∧ s.up (laneDom k) = true ∧ k < 16 ∧ s.moveOf r p = some m ∧ m.kind = .promoteC ∧ m.newDesc = none ∧ m.ending = none ∧ s.coh.flights = [] ∧ s.dLanes.contains k = true ∧ s.engineFree e = true ∧ s.canRead 4 (s.pageLines m.src) = true ∧ s.pageKeys r p = none) ∧
    (∃ s : State, ∃ r, ∃ p, ∃ k, ∃ e, ∃ m, ∃ k1, ∃ k2, ∃ u, ∃ copy, s.thermal.relock = false ∧ s.up 8 = true ∧ s.moverOn = true ∧ s.up 11 = true ∧ s.up (laneDom k) = true ∧ k < 16 ∧ s.moveOf r p = some m ∧ m.kind = .promoteC ∧ m.newDesc = none ∧ m.ending = none ∧ s.coh.flights = [] ∧ s.dLanes.contains k = true ∧ s.engineFree e = true ∧ s.canRead 4 (s.pageLines m.src) = true ∧ s.pageKeys r p = some (k1, k2) ∧ s.chainWhole m.src = true ∧ s.readLines 4 (s.pageLines m.src) [] = (u, copy, 0)) :=
  ⟨⟨{ moverState with tier := { moverState.tier with picked := [(1, 0)] } }, 1, 0, by decide +kernel⟩,
   ⟨keyedMove, 1, 0, ReadErrs.none, { move .promoteU with newDesc := some { tier := 3 } }, _, by decide, by decide, by decide, pipes_up (by decide) (by decide) _ _, by decide, by decide, by decide, (Option.some_get commit_some).symm⟩,
   ⟨moving moverState [move .demoteU], 1, 0, 0, [], true, 11, move .demoteU, by decide +kernel⟩,
   ⟨keyed0 (moving moverState [{ move .demoteU with src := {} }]), 1, 0, 0, [], true, 11, { move .demoteU with src := {} }, 1, 2, _, _, _, [], by decide, by decide, by decide, by decide, by decide, by decide, by decide, by decide, by decide, by decide, by decide, by decide, by decide, by decide, by decide, by decide, rfl, rfl⟩,
   ⟨{ moverState with tier := { moverState.tier with batch0 := { moves := [(1, 0)] } } }, 0, by decide +kernel⟩,
   ⟨{ moverState with tier := { moverState.tier with batch0 := { moves := [(1, 0)], closed := true } } }, 0, by decide +kernel⟩,
   ⟨{ moverState.setReg (Reg.TIER_STAND_CFG 0) 2 with tier := { moverState.tier with batch0 := { moves := [(1, 0)], closed := true } } }, 0, 0, _, _, by decide, by decide, by decide, by decide, by decide, by decide, rfl⟩,
   ⟨moving moverState [move .promoteC], 1, 0, 15, 11, move .promoteC, by decide +kernel⟩,
   promoting_reads.elim fun u h => h.elim fun c h => ⟨promoting, 1, 0, 15, 11, promoted, 1, 2, u, c, by decide, by decide, by decide, by decide, by decide, by decide, by decide, by decide, by decide, by decide, by decide, by decide, by decide, by decide, by decide, by decide, h⟩⟩

/-- The hypotheses of each clause of CompressionClassCommands hold somewhere. -/
theorem witness_CompressionClassCommands :
    (∃ s : State, s.thermal.relock = false ∧ s.up 9 = true) ∧
    (∃ s : State, s.thermal.relock = false ∧ s.up 9 = true) ∧
    (∃ s : State, s.thermal.relock = false ∧ s.up 9 = true ∧ 4256 ≤ s.fld Reg.CMP_CLS_PTR 12 0) ∧
    (∃ s : State, s.thermal.relock = false ∧ s.up 9 = true ∧ s.fld Reg.CMP_CLS_PTR 12 0 < 4256) ∧
    (∃ s : State, s.thermal.relock = false ∧ s.up 9 = true ∧ s.cmp.unloading = none ∧ s.fld Reg.CMP_CLS_SEL 3 0 = 0) ∧
    (∃ s : State, ∃ codes, ∃ dict, s.thermal.relock = false ∧ s.up 9 = true ∧ s.cmp.unloading = none ∧ s.fld Reg.CMP_CLS_SEL 3 0 ≠ 0 ∧ (s.classOf? (s.fld Reg.CMP_CLS_SEL 3 0)).loaded = false ∧ s.stagedParts = (some codes, dict) ∧ codeTableOk codes = true) ∧
    (∃ s : State, ∃ c, ∃ k ∈ ([.classCommit, .classUnload, .classClearStage] : List Instr), s.thermal.relock = false ∧ s.up 9 = true ∧ s.cmp.unloading = some c) ∧
    (∃ s : State, s.thermal.relock = false ∧ s.up 9 = true ∧ s.cmp.unloading = none ∧ s.fld Reg.CMP_CLS_SEL 3 0 = 0) ∧
    (∃ s : State, s.thermal.relock = false ∧ s.up 9 = true ∧ s.cmp.unloading = none ∧ s.fld Reg.CMP_CLS_SEL 3 0 ≠ 0 ∧ (s.classOf? (s.fld Reg.CMP_CLS_SEL 3 0)).loaded = true ∧ s.classNamed (s.fld Reg.CMP_CLS_SEL 3 0) = false ∧ (s.classOf? (s.fld Reg.CMP_CLS_SEL 3 0)).pages = 0) ∧
    (∃ s : State, ∃ c, s.thermal.relock = false ∧ s.up 9 = true ∧ s.cmp.unloading = some c ∧ s.classInUse c = false) ∧
    (∃ s : State, s.thermal.relock = false ∧ s.up 9 = true ∧ s.cmp.unloading = none) :=
  ⟨⟨running, by decide +kernel⟩,
   ⟨running, by decide +kernel⟩,
   ⟨running.setReg Reg.CMP_CLS_PTR 4256, by decide +kernel⟩,
   ⟨running.setReg Reg.CMP_CLS_PTR 4255, by decide +kernel⟩,
   ⟨running, by decide +kernel⟩,
   ⟨classing 1 { stage := stagedTable }, _, _, by decide, by decide, by decide, by decide, by decide, Prod.ext rfl rfl, by decide +kernel⟩,
   ⟨classing 0 { unloading := some 15 }, 15, .classClearStage, by simp, by decide +kernel⟩,
   ⟨running, by decide +kernel⟩,
   ⟨classing 0 { classes := [(15, { loaded := true })] }, by decide +kernel⟩,
   ⟨classing 0 { unloading := some 15 }, 15, by decide +kernel⟩,
   ⟨running, by decide +kernel⟩⟩

/-- The hypotheses of each clause of KeySlotAndEraseCommands hold somewhere. -/
theorem witness_KeySlotAndEraseCommands :
    (∃ s : State, ∃ v : Word, s.thermal.relock = false ∧ s.up 11 = true ∧ bit v.toNat 0 = true ∧ s.cry.provisioned = true) ∧
    (∃ s : State, ∃ v : Word, s.thermal.relock = false ∧ s.up 11 = true ∧ bit v.toNat 0 = true ∧ s.cry.provisioned = false ∧ s.cry.burning = false ∧ s.unlocked = true) ∧
    (∃ s : State, s.thermal.relock = false ∧ s.up 11 = true ∧ s.cry.burning = true) ∧
    (∃ s : State, s.thermal.relock = false ∧ s.up 11 = true ∧ (s.keySlot (s.fld Reg.CRY_KS_SEL 11 0)).loaded = true) ∧
    (∃ s : State, ∃ u, s.thermal.relock = false ∧ s.up 11 = true ∧ (s.keySlot (s.fld Reg.CRY_KS_SEL 11 0)).loaded = false ∧ s.unwrap (s.stageBytes (Reg.CRY_KS_STAGE 0) 18) = (u, none)) ∧
    (∃ s : State, ∃ u, ∃ p, s.thermal.relock = false ∧ s.up 11 = true ∧ (s.keySlot (s.fld Reg.CRY_KS_SEL 11 0)).loaded = false ∧ s.unwrap (s.stageBytes (Reg.CRY_KS_STAGE 0) 18) = (u, some p) ∧ keyOf (p.take 32) = keyOf (p.drop 32)) ∧
    (∃ s : State, ∃ u, ∃ p, s.thermal.relock = false ∧ s.up 11 = true ∧ (s.keySlot (s.fld Reg.CRY_KS_SEL 11 0)).loaded = false ∧ s.unwrap (s.stageBytes (Reg.CRY_KS_STAGE 0) 18) = (u, some p) ∧ keyOf (p.take 32) ≠ keyOf (p.drop 32)) ∧
    (∃ s : State, s.thermal.relock = false ∧ s.up 11 = true ∧ s.keyRefs (s.fld Reg.CRY_KS_SEL 11 0) ≠ 0) ∧
    (∃ s : State, s.thermal.relock = false ∧ s.up 11 = true ∧ s.keyRefs (s.fld Reg.CRY_KS_SEL 11 0) = 0 ∧ s.rekeyHeld (s.fld Reg.CRY_KS_SEL 11 0) = false) ∧
    (∃ s : State, s.thermal.relock = false ∧ s.up 11 = true) ∧
    (∃ s : State, s.thermal.relock = false ∧ s.up 11 = true) ∧
    (∃ s : State, s.thermal.relock = false ∧ s.up 11 = true) ∧
    (∃ s : State, ∃ n, ∃ k, ∃ rec, ∃ v, s.thermal.relock = false ∧ s.up 11 = true ∧ s.rekeyOf (s.opSlot n).region = some (rec, v) ∧ (s.opSlot n).working opRekey = true ∧ v.mark < (s.region (s.opSlot n).region).pageCount ∧ s.boot.brace = false ∧ s.boot.draining = false ∧ s.tracked (s.opSlot n).region v.mark = false ∧ s.engineFree k = true) ∧
    (∃ s : State, ∃ n, s.thermal.relock = false ∧ s.up 11 = true ∧ (s.opSlot n).cursor = 0 ∧ (s.opSlot n).working opErase = true ∧ s.regionInCrypto (s.opSlot n).region = false) :=
  ⟨⟨{ running with cry := { provisioned := true } }, 1, by decide +kernel⟩,
   ⟨runningIntake fun i => { i with ticks := 999, unlockUntil := 1000 }, 1, by decide +kernel⟩,
   ⟨{ running with cry := { burning := true } }, by decide +kernel⟩,
   ⟨keyed0 running, by decide +kernel⟩,
   ⟨running, _, by decide, by decide, by decide, rfl⟩,
   ⟨keyed (Reg.CRY_KS_STAGE 0) [0, 0, 0, 0, 0, 0, 0, 0], _, _, by decide, by decide, by decide, keyed_unwraps (Reg.CRY_KS_STAGE 0) [0, 0, 0, 0, 0, 0, 0, 0], by decide +kernel⟩,
   ⟨keyed (Reg.CRY_KS_STAGE 0) [0, 0, 0, 0, 0, 0, 0, 1], _, _, by decide, by decide, by decide, keyed_unwraps (Reg.CRY_KS_STAGE 0) [0, 0, 0, 0, 0, 0, 0, 1], by decide +kernel⟩,
   ⟨serving, by decide +kernel⟩,
   ⟨running, by decide +kernel⟩,
   ⟨running, by decide +kernel⟩,
   ⟨running, by decide +kernel⟩,
   ⟨running, by decide +kernel⟩,
   ⟨{ slotState serving 0 { code := opRekey, state := .running, arg0 := 1 } with cry := { records := [(0, { valid := true, region := 1, new := 1, mark := 1 })] } }, 0, 11, 0, { valid := true, region := 1, new := 1, mark := 1 }, by decide +kernel⟩,
   ⟨slotState serving 0 { code := opErase, state := .running, arg0 := 1 }, 0, by decide +kernel⟩⟩

/-- The hypotheses of each clause of DramChannelCommands hold somewhere. -/
theorem witness_DramChannelCommands :
    (∃ s : State, ∃ n : Nat, ∃ b, ∃ w, b < 2 ∧ s.chanRuns n = true ∧ ((s.drainUpdate n b).work n b)[0]? = some w) ∧
    (∃ s : State, ∃ n : Nat, ∃ b, b < 2 ∧ s.chanRuns n = true ∧ (s.drainUpdate n b).work n b = []) ∧
    (∃ s : State, ∃ n : Nat, ∃ la, ∃ e, s.chanRuns n = true ∧ e ∈ (s.sub n 0).queue ∧ e.la = la ∧ e.aged = false) ∧
    (∃ s : State, ∃ n : Nat, ∃ r, (s.chan n).state = .ready ∧ s.up (chanDom n) = true ∧ (s.stand r).present = true ∧ (s.rank n r).selfRefresh = false) ∧
    (∃ s : State, ∃ n : Nat, ∃ b, ∃ r, ∃ k, b < 2 ∧ k < 32 ∧ s.chanRuns n = true ∧ (s.sub n b).queue.any (fun e => s.lineBank e.la == 32 * r + k && s.rowHit (s.sub n b) e) = false) ∧
    (∃ s : State, ∃ n : Nat, ∃ q, s.chanRuns n = true ∧ s.flag (Reg.DRC_CTRL n) 0 = true ∧ ((s.chan n).dimm q).present = true ∧ q ∉ (s.chan n).alert ∧ (s.chan n).reissued = []) ∧
    (∃ s : State, ∃ n : Nat, ∃ q, s.chanRuns n = true ∧ s.flag (Reg.DRC_CTRL n) 0 = true ∧ ((s.chan n).dimm q).present = true ∧ q ∈ (s.chan n).alert) ∧
    (∃ s : State, ∃ n : Nat, ∃ q, ∃ others, s.chanRuns n = true ∧ (s.chan n).alert = q :: others) :=
  ⟨⟨channel14 { state := .ready, dimm0 := dimm, ranks := [(0, { owed := 1 })] }, 14, 1, _, by decide, by decide, rfl⟩,
   ⟨memory, 14, 1, by decide +kernel⟩,
   ⟨channel14 { state := .ready, dimm0 := dimm, subA := { queue := [backEntry] } }, 14, 64, backEntry, by decide +kernel⟩,
   ⟨memory, 14, 0, by decide +kernel⟩,
   ⟨memory, 14, 1, 7, 31, by decide +kernel⟩,
   ⟨memory.setReg (Reg.DRC_CTRL 14) 1, 14, 0, by decide +kernel⟩,
   ⟨(channel14 { state := .ready, dimm0 := dimm, alert := [0] }).setReg (Reg.DRC_CTRL 14) 1, 14, 0, by decide +kernel⟩,
   ⟨channel14 { state := .ready, dimm0 := dimm, alert := [1, 0] }, 14, 1, [0], by decide +kernel⟩⟩

/-- The hypotheses of each clause of BandwidthRegulationCommands hold somewhere. -/
theorem witness_BandwidthRegulationCommands :
    (∃ s : State, ∃ x, s.thermal.relock = false ∧ s.up 12 = true ∧ s.mreg.next = some x) ∧
    (∃ s : State, s.thermal.relock = false ∧ s.up 12 = true ∧ s.mreg.next = none ∧ s.mreg.checked = true ∧ s.overAdmission (s.fld Reg.MREG_WINDOW 10 0) ((List.range 12).map fun m => if m = 10 then 0 else s.fld (Reg.MREG_BUDGET m) 23 0) = true) ∧
    (∃ s : State, s.thermal.relock = false ∧ s.up 12 = true ∧ s.mreg.next = none ∧ s.mreg.checked = true ∧ s.overAdmission (s.fld Reg.MREG_WINDOW 10 0) ((List.range 12).map fun m => if m = 10 then 0 else s.fld (Reg.MREG_BUDGET m) 23 0) = false) ∧
    (∃ s : State, s.thermal.relock = false ∧ s.up 12 = true ∧ s.mreg.next = none ∧ s.mreg.checked = false) ∧
    (∃ s : State, ∃ v : Word, s.thermal.relock = false ∧ s.up 12 = true ∧ s.pageLocked Reg.MREG_EFFICIENCY = false ∧ (bits v.toNat 6 0 < 50 ∨ 90 < bits v.toNat 6 0)) ∧
    (∃ s : State, ∃ v : Word, s.thermal.relock = false ∧ s.up 12 = true ∧ s.pageLocked Reg.MREG_EFFICIENCY = false ∧ (bits v.toNat 6 0 < 50 ∨ 90 < bits v.toNat 6 0)) ∧
    (∃ s : State, ∃ v : Word, s.thermal.relock = false ∧ s.up 12 = true ∧ s.pageLocked Reg.MREG_EFFICIENCY = false ∧ 50 ≤ bits v.toNat 6 0 ∧ bits v.toNat 6 0 ≤ 90) ∧
    (∃ s : State, ∃ v : Word, s.thermal.relock = false ∧ s.up 12 = true ∧ s.pageLocked Reg.MREG_EFFICIENCY = false ∧ 50 ≤ bits v.toNat 6 0 ∧ bits v.toNat 6 0 ≤ 90) ∧
    (∃ s : State, ∃ v : Word, s.thermal.relock = false ∧ s.up 12 = true ∧ s.pageLocked Reg.MREG_ADMIT_PCT = false ∧ 50 ≤ bits v.toNat 6 0 ∧ bits v.toNat 6 0 ≤ 95) ∧
    (∃ s : State, ∃ v : Word, s.thermal.relock = false ∧ s.up 12 = true ∧ s.pageLocked Reg.MREG_ADMIT_PCT = false ∧ 50 ≤ bits v.toNat 6 0 ∧ bits v.toNat 6 0 ≤ 95) ∧
    (∃ s : State, s.thermal.relock = false ∧ s.up 12 = true) :=
  ⟨⟨{ running with mreg := { next := some (8, 2, []) } }, (8, 2, []), by decide +kernel⟩,
   ⟨{ running.setReg (Reg.MREG_BUDGET 0) 0xFFFFFF with mreg := { checked := true } }, by decide +kernel⟩,
   ⟨(List.range 12).foldl (fun s m => s.setReg (Reg.MREG_BUDGET m) 0) { memory with mreg := { checked := true } }, by decide +kernel⟩,
   ⟨running, by decide +kernel⟩,
   ⟨running, 49, by decide +kernel⟩,
   ⟨running, 91, by decide +kernel⟩,
   ⟨running, 50, by decide +kernel⟩,
   ⟨running, 90, by decide +kernel⟩,
   ⟨running, 50, by decide +kernel⟩,
   ⟨running, 95, by decide +kernel⟩,
   ⟨running, by decide +kernel⟩⟩

/-- The hypotheses of each clause of OperatingPointAndTrainingCommands hold somewhere. -/
theorem witness_OperatingPointAndTrainingCommands :
    (∃ s : State, ∃ v : Word, s.up (chanDom 0) = true ∧ bits v.toNat 1 0 = 3) ∧
    (∃ s : State, ∃ v : Word, s.up (chanDom 0) = true ∧ bits v.toNat 1 0 ≠ 3) ∧
    (∃ s : State, s.live = true ∧ s.fpEffective ≠ s.fpNow ∧ s.flag (Reg.DRC_FP_STATUS 0) 31 = false ∧ s.boot.stage = .ready ∧ s.phaseRuns = true) ∧
    (∃ s : State, s.live = true ∧ s.fpEffective ≠ s.fpNow ∧ s.flag (Reg.DRC_FP_STATUS 0) 31 = false ∧ s.boot.stage = .ready ∧ s.phaseRuns = false) ∧
    (∃ s : State, ∃ u : State, s.live = true ∧ s.flag (Reg.DRC_FP_STATUS 0) 31 = true ∧ u = ((s.setFld (Reg.DRC_FP_STATUS 0) 31 30 0).setFld (Reg.DRC_FP_STATUS 0) 1 0 s.fpEffective).raise 0xA00A (s.fpNow * 256 + s.fpEffective)) ∧
    (∃ s : State, ∃ n : Nat, ∃ l, s.live = true ∧ s.trains n = true ∧ s.phaseSettings n (s.trainPhase n) (s.trainPoint n) l = none) ∧
    (∃ s : State, ∃ n : Nat, ∃ l, ∃ k, s.live = true ∧ s.trains n = true ∧ s.phaseSettings n (s.trainPhase n) (s.trainPoint n) l = some k) ∧
    (∃ s : State, ∃ n : Nat, s.live = true ∧ s.trains n = true) ∧
    (∃ s : State, ∃ n : Nat, ∃ r, s.chanRuns n = true ∧ (s.stand r).present = true ∧ (s.rank n r).selfRefresh = false) :=
  ⟨⟨running, 3, by decide +kernel⟩,
   ⟨running, 2, by decide +kernel⟩,
   ⟨((trained []).setReg (Reg.DRC_FP_STATUS 0) 0).setReg (Reg.DRC_FP_CTRL 0) 2, by decide +kernel⟩,
   ⟨(running.setReg (Reg.DRC_FP_STATUS 0) 0).setReg (Reg.DRC_FP_CTRL 0) 2, by decide +kernel⟩,
   ⟨running.setReg (Reg.DRC_FP_STATUS 0) 0x80000000, _, by decide, by decide, rfl⟩,
   ⟨trained [sweepRow], 14, [[false, false]], by decide +kernel⟩,
   ⟨trained [sweepRow], 14, [[false, true]], [1], by decide +kernel⟩,
   ⟨trained [sweepRow], 14, by decide +kernel⟩,
   ⟨memory, 14, 0, by decide +kernel⟩⟩

/-- The hypotheses of each clause of SensorAndSelfRefreshCommands hold somewhere. -/
theorem witness_SensorAndSelfRefreshCommands :
    (∃ s : State, ∃ n : Nat, ∃ q, s.up (chanDom n) = true ∧ ((s.chan n).dimm q).present = true ∧ (s.stand (4 * q)).power ≠ 3) ∧
    (∃ s : State, ∃ n : Nat, ∃ q, s.up (chanDom n) = true ∧ ((s.chan n).dimm q).present = true ∧ (s.stand (4 * q)).power ≠ 3) ∧
    (∃ s : State, ∃ n : Nat, ∃ q, s.up (chanDom n) = true ∧ ((s.chan n).dimm q).present = true ∧ (s.stand (4 * q)).power ≠ 3 ∧ s.flag (Reg.DRC_PMIC_STATUS n q) 29 = false) ∧
    (∃ s : State, ∃ n : Nat, ∃ q, s.up (chanDom n) = true ∧ ((s.chan n).dimm q).present = true ∧ (s.stand (4 * q)).power ≠ 3) ∧
    (∃ s : State, ∃ n : Nat, ∃ r, s.chanRuns n = true ∧ (s.pwr.current = 1 ∨ s.pwr.current = 2) ∧ (s.stand r).power ≤ 1 ∧ (s.rank n r).selfRefresh = false ∧ s.rankQueued n r = false ∧ (s.sub n 0).openBanks r = [] ∧ (s.sub n 1).openBanks r = [] ∧ (s.rank n r).owed = 0) ∧
    (∃ s : State, ∃ n : Nat, ∃ k, s.chanRuns n = true ∧ (s.stand k).present = true ∧ (s.stand k).power ≤ 1 ∧ s.standWanted k = false ∧ s.boot.stage = .ready ∧ s.sreReady n k = true ∧ n ∈ s.chanList ∧ n ∉ (s.stand k).sreDone) ∧
    (∃ s : State, ∃ k, s.live = true ∧ (s.stand k).entering = true ∧ s.standWanted k = true) ∧
    (∃ s : State, ∃ n : Nat, ∃ q, s.up (chanDom n) = true ∧ s.flag (Reg.DRC_SR_CFG n) 31 = true ∧ s.flag (Reg.DRC_FP_STATUS 0) 31 = false ∧ q < 2 ∧ (∃ r, r < 4 ∧ (s.stand (4 * q + r)).present = true) ∧ q ∉ (s.chan n).dckOff ∧ ((∀ r, r < 4 → (s.stand (4 * q + r)).present = true → (s.rank n (4 * q + r)).selfRefresh = true))) ∧
    (∃ s : State, ∃ k, s.live = true ∧ (s.stand k).present = true ∧ (s.stand k).power = 2 ∧ (s.stand k).exiting = false ∧ s.standWanted k = true ∧ (∀ m ∈ s.chanList, s.up (chanDom m) = true)) ∧
    (∃ s : State, ∃ v : Word, s.up (chanDom 0) = true ∧ bit v.toNat 0 = true ∧ s.dimmMayGo 0 = false) ∧
    (∃ s : State, s.up (chanDom 0) = true ∧ s.dimmMayGo 0 = true ∧ s.flag (Reg.DRC_DIMM_OFF_STATUS 0) 0 = false ∧ (s.stand 0).present = true) :=
  ⟨⟨memory, 14, 0, by decide +kernel⟩,
   ⟨memory, 14, 0, by decide +kernel⟩,
   ⟨memory, 14, 0, by decide +kernel⟩,
   ⟨memory, 14, 0, by decide +kernel⟩,
   ⟨{ memory with pwr := { memory.pwr with current := 1 } }, 14, 0, by decide +kernel⟩,
   ⟨memory.setReg (Reg.TIER_STAND_CFG 0) 0, 14, 0, by decide +kernel⟩,
   ⟨{ memory with tier := { memory.tier with stands := [(0, { present := true, power := 0, entering := true, implicit := true })] } }, 0, by decide +kernel⟩,
   ⟨(channel14 { state := .ready, dimm0 := dimm, ranks := (List.range 8).map fun r => (r, { selfRefresh := true }) }).setReg (Reg.DRC_SR_CFG 14) 0x80000000, 14, 0, by decide +kernel⟩,
   ⟨{ memory with tier := { memory.tier with stands := [(0, { present := true, power := 2, opVote := true })] } }, 0, by decide +kernel⟩,
   ⟨memory.setReg (Reg.TIER_STAND_CFG 0) 1, 1, by decide +kernel⟩,
   ⟨memory.setReg (Reg.TIER_STAND_CFG 0) 0, by decide +kernel⟩⟩

/-- The hypotheses of each clause of MonitorScrubAndThermalCommands hold somewhere. -/
theorem witness_MonitorScrubAndThermalCommands :
    (∃ s : State, ∃ i, s.live = true ∧ i < 20) ∧
    (∃ s : State, ∃ b, s.live = true ∧ b < 32) ∧
    (∃ s : State, ∃ n, s.live = true ∧ s.up (chanDom n) = true) ∧
    (∃ s : State, ∃ n, s.live = true ∧ s.up (chanDom n) = true) ∧
    (∃ s : State, ∃ k, ∃ n, s.live = true ∧ s.scrubOn = true ∧ (s.stand k).present = true ∧ n ∈ s.chanList ∧ tabGet (fun _ => 0) (s.scrub k).cursor n < s.standLines k ∧ s.canRead 5 [s.scrubAddr k n (tabGet (fun _ => 0) (s.scrub k).cursor n)] = true) ∧
    (∃ s : State, ∃ k, s.live = true ∧ s.scrubOn = true ∧ (s.stand k).present = true ∧ (s.stand k).power = 2 ∧ (s.stand k).scrubVote = false ∧ s.effective ≠ 3) ∧
    (∃ s : State, ∃ k, s.live = true ∧ (s.stand k).scrubVote = true ∧ s.pwr.scrubUp = false) ∧
    (∃ s : State, ∃ k, s.live = true ∧ s.scrubOn = true ∧ k ∈ s.scrubStands ∧ (∀ n ∈ s.chanList, s.standLines k ≤ tabGet (fun _ => 0) (s.scrub k).cursor n)) ∧
    (∃ s : State, ∃ k, s.live = true ∧ s.flag Reg.RAS_SCRUB_CFG 31 = true ∧ s.boot.stage = .ready ∧ k ∈ s.scrubStands) ∧
    (∃ s : State, ∃ p, ∃ k, ∃ n, ∃ i, s.live = true ∧ (s.opSlot p).working opScrub = true ∧ s.boot.brace = false ∧ s.boot.draining = false ∧ s.scrubNth (s.opSlot p) (s.opSlot p).scrubStands (s.opSlot p).cursor = some (k, n, i) ∧ (s.stand k).power = 3) ∧
    (∃ s : State, ∃ l : List Int, s.live = true ∧ l.length = 10 ∧ s.thermal.invalid = 0x3FF) ∧
    (∃ s : State, ∃ l : List Int, s.live = true ∧ l.length = 10 ∧ s.thermal.invalid = 0) ∧
    (∃ s : State, ∃ i, s.live = true ∧ i < 10 ∧ s.thermal.invalid.getLsbD i = false) ∧
    (∃ s : State, s.live = true ∧ s.thermal.relock = true) :=
  ⟨⟨running, 19, by decide +kernel⟩,
   ⟨running, 31, by decide +kernel⟩,
   ⟨memory, 14, by decide +kernel⟩,
   ⟨memory, 14, by decide +kernel⟩,
   ⟨scrubbing {}, 0, 14, by decide +kernel⟩,
   ⟨{ scrubbing {} with tier := { memory.tier with stands := [(0, { present := true, plots := 65536, power := 2 })] } }, 0, by decide, by decide, by decide, by decide, by decide, by decide +kernel⟩,
   ⟨{ memory with tier := { memory.tier with stands := [(0, { present := true, power := 2, scrubVote := true })] } }, 0, by decide +kernel⟩,
   ⟨scrubbing { cursor := (List.range 8).map fun j => (2 * j, 8388608) }, 0, by decide +kernel⟩,
   ⟨scrubbing {}, 0, by decide +kernel⟩,
   ⟨{ slotState memory 0 { code := opScrub, state := .running, arg0 := 1 } with tier := { memory.tier with stands := [(0, { present := true, plots := 65536, power := 3 })] } }, 0, 0, 0, 0, by decide +kernel⟩,
   ⟨{ running with thermal := { invalid := 0x3FF } }, List.replicate 10 100, by decide +kernel⟩,
   ⟨running, List.replicate 10 100, by decide +kernel⟩,
   ⟨running, 9, by decide +kernel⟩,
   ⟨{ running with thermal := { relock := true } }, by decide +kernel⟩⟩

/-- The hypotheses of each clause of SramBankAndWindowCommands hold somewhere. -/
theorem witness_SramBankAndWindowCommands :
    (∃ s : State, ∃ b, ∃ v : Word, s.live = true ∧ ownerCode (bits v.toNat 7 0) = false ∧ bits v.toNat 7 0 ≠ (bankReset b).owner) ∧
    (∃ s : State, ∃ b, ∃ v : Word, s.live = true ∧ ownerCode (bits v.toNat 7 0) = true ∧ bits v.toNat 7 0 ≠ (s.bankAt b).owner ∧ (s.bankAt b).lock = true) ∧
    (∃ s : State, ∃ b, ∃ v : Word, s.live = true ∧ ownerCode (bits v.toNat 7 0) = true ∧ bits v.toNat 7 0 ≠ (s.bankAt b).owner ∧ s.ownRefused b (bits v.toNat 7 0) (bits v.toNat 23 16) = false ∧ bit v.toNat 29 = true) ∧
    (∃ s : State, ∃ b, s.live = true ∧ (s.bankAt b).busy = true ∧ s.sram.winWait = none) ∧
    (∃ s : State, ∃ op, s.live = true ∧ (s.bankAt s.winBank).busy = true ∧ s.sram.winWait = some op) ∧
    (∃ s : State, ∃ x : BitVec 80, ∃ y : BitVec 80, ∃ c ∈ ([.winRead x y none, .winWrite none, .winAdd x y none, .winSwap x y none, .winSet x y none, .winClear x y none] : List Instr), s.live = true ∧ s.sram.winWait = none ∧ (368 ≤ s.winBank ∨ (s.bankAt s.winBank).owner ≠ ownMgt ∨ (s.bankAt s.winBank).lock = true)) ∧
    (∃ s : State, ∃ x : BitVec 80, ∃ y : BitVec 80, ∃ c ∈ ([.winRead x y none, .winWrite none, .winAdd x y none, .winSwap x y none, .winSet x y none, .winClear x y none] : List Instr), s.live = true ∧ s.sram.winWait = none ∧ (368 ≤ s.winBank ∨ (s.bankAt s.winBank).owner ≠ ownMgt ∨ (s.bankAt s.winBank).lock = true)) ∧
    (∃ s : State, ∃ b : Nat, ∃ w : Nat, ∃ v : DWord, s.live = true ∧ b = s.winBank ∧ w = s.winAddr ∧ v = s.winData ∧ s.sram.winWait = none ∧ b < 368 ∧ (s.bankAt b).owner = ownMgt ∧ (s.bankAt b).lock = false ∧ w < bankWords b ∧ s.up (29 + bankGroup b) = true ∧ (s.bankAt b).busy = true) ∧
    (∃ s : State, ∃ b : Nat, ∃ w : Nat, ∃ v : DWord, ∃ x : BitVec 80, ∃ y : BitVec 80, ∃ u, ∃ r, s.live = true ∧ b = s.winBank ∧ w = s.winAddr ∧ v = s.winData ∧ s.sram.winWait = none ∧ b < 368 ∧ (s.bankAt b).owner = ownMgt ∧ (s.bankAt b).lock = false ∧ w < bankWords b ∧ s.up (29 + bankGroup b) = true ∧ (s.bankAt b).busy = false ∧ s.readWord b w x y = (u, .ok r)) ∧
    (∃ s : State, ∃ b : Nat, ∃ w : Nat, ∃ v : DWord, ∃ x : BitVec 80, ∃ y : BitVec 80, ∃ u, ∃ k, s.live = true ∧ b = s.winBank ∧ w = s.winAddr ∧ v = s.winData ∧ s.sram.winWait = none ∧ b < 368 ∧ (s.bankAt b).owner = ownMgt ∧ (s.bankAt b).lock = false ∧ w < bankWords b ∧ s.up (29 + bankGroup b) = true ∧ (s.bankAt b).busy = false ∧ s.readWord b w x y = (u, .error k)) ∧
    (∃ s : State, ∃ b : Nat, ∃ w : Nat, ∃ v : DWord, s.live = true ∧ b = s.winBank ∧ w = s.winAddr ∧ v = s.winData ∧ s.sram.winWait = none ∧ b < 368 ∧ (s.bankAt b).owner = ownMgt ∧ (s.bankAt b).lock = false ∧ w < bankWords b ∧ s.up (29 + bankGroup b) = true ∧ (s.bankAt b).busy = false) ∧
    (∃ s : State, ∃ b : Nat, ∃ w : Nat, ∃ v : DWord, s.live = true ∧ b = s.winBank ∧ w = s.winAddr ∧ v = s.winData ∧ s.sram.winWait = none ∧ b < 368 ∧ (s.bankAt b).owner = ownMgt ∧ (s.bankAt b).lock = false ∧ w < bankWords b ∧ s.up (29 + bankGroup b) = true ∧ (s.bankAt b).busy = false) ∧
    (∃ s : State, ∃ b : Nat, ∃ w : Nat, ∃ v : DWord, ∃ x : BitVec 80, ∃ y : BitVec 80, ∃ u, ∃ r, s.live = true ∧ b = s.winBank ∧ w = s.winAddr ∧ v = s.winData ∧ s.sram.winWait = none ∧ b < 368 ∧ (s.bankAt b).owner = ownMgt ∧ (s.bankAt b).lock = false ∧ w < bankWords b ∧ s.up (29 + bankGroup b) = true ∧ (s.bankAt b).busy = false ∧ bankLarge b = false ∧ s.readWord b w x y = (u, .ok r)) ∧
    (∃ s : State, ∃ b : Nat, ∃ w : Nat, ∃ v : DWord, ∃ x : BitVec 80, ∃ y : BitVec 80, ∃ u, ∃ r, s.live = true ∧ b = s.winBank ∧ w = s.winAddr ∧ v = s.winData ∧ s.sram.winWait = none ∧ b < 368 ∧ (s.bankAt b).owner = ownMgt ∧ (s.bankAt b).lock = false ∧ w < bankWords b ∧ s.up (29 + bankGroup b) = true ∧ (s.bankAt b).busy = false ∧ bankLarge b = true ∧ s.readWord b w x y = (u, .ok r)) ∧
    (∃ s : State, ∃ b, ∃ r, s.live = true ∧ s.flag Reg.SRM_CTRL 0 = true ∧ s.nextTest 369 s.sram.bistBank s.sram.bistRegion = some (b, r)) ∧
    (∃ s : State, s.live = true ∧ s.flag Reg.SRM_CTRL 0 = true ∧ s.nextTest 369 s.sram.bistBank s.sram.bistRegion = none) ∧
    (∃ s : State, s.live = true ∧ s.flag Reg.SRM_CTRL 0 = true) ∧
    (∃ s : State, ∃ p, s.live = true ∧ (s.opSlot p).code = opMarch ∧ (s.opSlot p).state = .running ∧ (s.opSlot p).cursor = 0 ∧ bit (s.opSlot p).arg1.toNat 0 = true) :=
  ⟨⟨running, 0, 0x12, by decide +kernel⟩,
   ⟨{ running with sram := { banks := [(0, some { owner := 0x0E, lock := true })] } }, 0, 0xFE, by decide +kernel⟩,
   ⟨running, 120, 0x20000011, by decide +kernel⟩,
   ⟨{ running with sram := { banks := [(367, some { owner := 0x11, busy := true })] } }, 367, by decide +kernel⟩,
   ⟨{ windowAt 0 8191 with sram := { banks := [(0, some { owner := ownMgt, busy := true })], winWait := some (.write 5) } }, .write 5, by decide +kernel⟩,
   ⟨running.setReg Reg.SRM_WIN_BANK 368, 0, 0, .winRead 0 0 none, by simp, by decide +kernel⟩,
   ⟨running, 0, 0, .winClear 0 0 none, by simp, by decide +kernel⟩,
   ⟨{ windowAt 0 8191 with sram := { banks := [(0, some { owner := ownMgt, busy := true })] } }, 0, 8191, 0, by decide +kernel⟩,
   ⟨windowAt 0 8191, 0, 8191, 0, 0, 0, _, _, by decide, by decide, by decide, by decide, by decide, by decide, by decide, by decide, by decide, by decide, by decide, rfl⟩,
   ⟨{ windowAt 0 8191 with sram := { banks := [(0, some { owner := ownMgt })], words := [(8191, { data := 0, poison := true })] } }, 0, 8191, 0, 0, 0, _, _, by decide, by decide, by decide, by decide, by decide, by decide, by decide, by decide, by decide, by decide, by decide, rfl⟩,
   ⟨windowAt 0 8191, 0, 8191, 0, by decide +kernel⟩,
   ⟨windowAt 256 131071, 256, 131071, 0, by decide +kernel⟩,
   ⟨windowAt 0 8191, 0, 8191, 0, 0, 0, _, _, by decide, by decide, by decide, by decide, by decide, by decide, by decide, by decide, by decide, by decide, by decide, by decide, rfl⟩,
   ⟨windowAt 256 131071, 256, 131071, 0, 0, 0, _, _, by decide, by decide, by decide, by decide, by decide, by decide, by decide, by decide, by decide, by decide, by decide, by decide, rfl⟩,
   ⟨running.setReg Reg.SRM_CTRL 1, 0, 0, by decide, by decide, rfl⟩,
   ⟨{ running.setReg Reg.SRM_CTRL 1 with sram := { bistBank := 368 } }, by decide +kernel⟩,
   ⟨running.setReg Reg.SRM_CTRL 1, by decide +kernel⟩,
   ⟨slotState running 0 { code := opMarch, state := .running, arg1 := 1 }, 0, by decide +kernel⟩⟩

/-- The hypotheses of each clause of DomainPowerCommands hold somewhere. -/
theorem witness_DomainPowerCommands :
    (∃ s : State, ∃ d : Nat, s.live = true ∧ 1 ≤ d ∧ d ≤ 36 ∧ (s.dom d).resting = true ∧ s.wanted d = true ∧ s.pwr.exiting = none) ∧
    (∃ s : State, ∃ d : Nat, s.live = true ∧ s.wanted d = false) ∧
    (∃ s : State, ∃ d : Nat, s.live = true ∧ (s.dom d).state = .poweringUp ∧ (s.dom d).again = false ∧ (s.dom d).implicit = false ∧ ((pllsOf d).all fun p => s.pll p == .locked) = true) ∧
    (∃ s : State, ∃ d : Nat, s.live = true ∧ (s.dom d).state = .poweringUp ∧ (s.dom d).again = false) ∧
    (∃ s : State, ∃ d : Nat, s.live = true ∧ (s.dom d).state = .poweringUp ∧ (s.dom d).again = true) ∧
    (∃ s : State, ∃ d : Nat, s.live = true ∧ 1 ≤ d ∧ d ≤ 36 ∧ s.inHyst d = true) ∧
    (∃ s : State, ∃ d : Nat, s.live = true ∧ (s.dom d).state = .poweringDown) ∧
    (∃ s : State, ∃ d : Nat, s.live = true ∧ 1 ≤ d ∧ d ≤ 36 ∧ s.domFailed d = false ∧ s.chanAbsent d = false) ∧
    (∃ s : State, ∃ d : Nat, s.live = true ∧ d < 8) ∧
    (∃ s : State, ∃ d : Nat, s.live = true ∧ 1 ≤ d ∧ d ≤ 28 ∧ s.up d = true ∧ 1 ≤ s.pwr.current ∧ s.work' d = false) :=
  ⟨⟨{ running with pwr := {} }, 5, by decide +kernel⟩,
   ⟨drowsing, 10, by decide +kernel⟩,
   ⟨{ running with pwr := { doms := [(5, { state := .poweringUp })] }, logic := { running.logic with plls := [(0, .locked)] } }, 5, by decide +kernel⟩,
   ⟨{ running with pwr := { doms := [(5, { state := .poweringUp })] } }, 5, by decide +kernel⟩,
   ⟨{ running with pwr := { doms := [(5, { state := .poweringUp, again := true })] } }, 5, by decide +kernel⟩,
   ⟨drowsing, 10, by decide +kernel⟩,
   ⟨{ running with pwr := { doms := [(5, { state := .poweringDown })] } }, 5, by decide +kernel⟩,
   ⟨running, 36, by decide +kernel⟩,
   ⟨running, 7, by decide +kernel⟩,
   ⟨{ running with pwr := { running.pwr with current := 1 } }, 5, by decide +kernel⟩⟩

/-- The hypotheses of each clause of PowerStateCommands hold somewhere. -/
theorem witness_PowerStateCommands :
    (∃ s : State, ∃ v : Word, s.live = true ∧ s.fld Reg.PWR_REQ 2 0 ≠ 4 ∧ 4 < bits v.toNat 2 0) ∧
    (∃ s : State, ∃ v : Word, s.live = true ∧ s.fld Reg.PWR_REQ 2 0 ≠ 4 ∧ bits v.toNat 2 0 < s.effective ∧ s.effective ≤ 4) ∧
    (∃ s : State, s.live = true ∧ s.flag Reg.PWR_AUTO 31 = true ∧ s.pwr.auto < 2) ∧
    (∃ s : State, s.live = true ∧ s.flag Reg.PWR_AUTO 31 = true ∧ s.pwr.auto < 3) ∧
    (∃ s : State, s.live = true ∧ s.flag Reg.PWR_WAKE_CFG 1 = true ∧ s.pwr.alarmDone = false ∧ (s.reg Reg.PWR_ALARM_SEC_LO).toNat + 2 ^ 32 * s.fld Reg.PWR_ALARM_SEC_HI 15 0 ≤ s.time.sec) ∧
    (∃ s : State, ∃ e, s.live = true ∧ s.pwr.entering = some e ∧ s.pwr.ap = 1 ∧ (∀ d ∈ s.dropping e, s.hwVotes d % 512 - 2 * bitNat (s.stateVote d) = 0 ∧ s.mgrVotes d = 0) ∧ ((e = 3 → ∀ g, g < 8 → s.hwVotes (29 + g) - 2 * bitNat (s.stateVote (29 + g)) - 4 * bitNat (s.depVote g) = 0))) ∧
    (∃ s : State, s.live = true ∧ s.pwr.entering = some 2 ∧ s.pwr.ap = 2) ∧
    (∃ s : State, s.live = true ∧ s.pwr.entering = some 3 ∧ s.pwr.ap = 2) ∧
    (∃ s : State, ∃ e, s.live = true ∧ s.pwr.entering = some e ∧ s.pwr.ap = 3 ∧ ((e = 2 → s.fpNow = s.fpEffective)) ∧ ((e ≠ 2 → ∀ k ∈ s.presentStands, 2 ≤ (s.stand k).power))) ∧
    (∃ s : State, ∃ e, s.live = true ∧ s.pwr.entering = some e ∧ s.pwr.ap = 3 ∧ ((e = 2 → s.fpNow = s.fpEffective)) ∧ ((e ≠ 2 → ∀ k ∈ s.presentStands, 2 ≤ (s.stand k).power))) ∧
    (∃ s : State, s.live = true ∧ s.pwr.entering = some 2 ∧ s.pwr.ap = 4) ∧
    (∃ s : State, s.live = true ∧ s.pwr.entering = some 3 ∧ s.pwr.ap = 4) ∧
    (∃ s : State, ∃ e, s.live = true ∧ s.pwr.entering = some e ∧ s.pwr.ap = 5 ∧ s.pwr.wakeAfter = false ∧ (allDoms.all fun d => s.inSet e d || (s.dom d).resting || (s.dom d).state == .failed) = true) ∧
    (∃ s : State, ∃ e, s.live = true ∧ s.pwr.entering = some e ∧ (s.pwr.ap = 1 ∨ s.pwr.ap = 2)) ∧
    (∃ s : State, ∃ e, s.live = true ∧ s.pwr.entering = some e ∧ (s.pwr.ap = 1 ∨ s.pwr.ap = 2)) ∧
    (∃ s : State, s.live = true ∧ s.fld Reg.PWR_REQ 2 0 = 4 ∧ s.pwr.offWait = false) ∧
    (∃ s : State, ∃ timeout, s.live = true ∧ s.pwr.offWait = true ∧ (timeout = true ∨ s.liveClients = []) ∧ s.intake.linkWrite = none) ∧
    (∃ s : State, ∃ timeout, s.live = true ∧ s.pwr.offWait = true ∧ (timeout = true ∨ s.liveClients = []) ∧ s.intake.linkWrite = none) ∧
    (∃ s : State, s.live = true ∧ s.pwr.exiting = some 2) ∧
    (∃ s : State, s.live = true ∧ s.pwr.exiting = some 4 ∧ (allDoms.all fun d => decide (29 ≤ d) || !s.inSet s.effective d || s.chanAbsent d || (s.dom d).state == .up || (s.dom d).state == .failed) = true) :=
  ⟨⟨running, 5, by decide +kernel⟩,
   ⟨running.setReg Reg.PWR_REQ 2, 1, by decide +kernel⟩,
   ⟨running.setReg Reg.PWR_AUTO 0x80000000, by decide +kernel⟩,
   ⟨running.setReg Reg.PWR_AUTO 0x80000000, by decide +kernel⟩,
   ⟨running.setReg Reg.PWR_WAKE_CFG 2, by decide +kernel⟩,
   ⟨entering 2 1, 2, by decide +kernel⟩,
   ⟨entering 2 2, by decide +kernel⟩,
   ⟨entering 3 2, by decide +kernel⟩,
   ⟨(entering 2 3).setReg (Reg.DRC_FP_STATUS 0) 2, 2, by decide +kernel⟩,
   ⟨entering 3 3, 3, by decide +kernel⟩,
   ⟨entering 2 4, by decide +kernel⟩,
   ⟨entering 3 4, by decide +kernel⟩,
   ⟨entering 2 5, 2, by decide +kernel⟩,
   ⟨entering 2 1, 2, by decide +kernel⟩,
   ⟨entering 3 2, 3, by decide +kernel⟩,
   ⟨running.setReg Reg.PWR_REQ 4, by decide +kernel⟩,
   ⟨{ running with pwr := { running.pwr with offWait := true } }, true, by decide +kernel⟩,
   ⟨{ running with pwr := { running.pwr with offWait := true } }, false, by decide +kernel⟩,
   ⟨{ running with pwr := { exiting := some 2 } }, by decide +kernel⟩,
   ⟨{ running with pwr := { running.pwr with exiting := some 4 } }, by decide +kernel⟩⟩

/-- The hypotheses of each clause of RelocationAndResizeCommands hold somewhere. -/
theorem witness_RelocationAndResizeCommands :
    (∃ s : State, ∃ r : Nat, ∃ g : Nat, s.thermal.relock = false ∧ s.up 8 = true ∧ s.boot.brace = false ∧ s.boot.draining = false ∧ s.thinOn = true ∧ s.dcPinned r g = false ∧ s.moveOf r g = none) ∧
    (∃ s : State, ∃ p : Nat, ∃ r : Nat, ∃ g : Nat, ∃ k, s.thermal.relock = false ∧ s.up 8 = true ∧ s.boot.brace = false ∧ s.boot.draining = false ∧ k = bits (s.opSlot p).arg0.toNat 2 0 ∧ (s.opSlot p).working opDrain = true ∧ s.moverOn = true ∧ s.dcPinned r g = false ∧ s.moveOf r g = none) ∧
    (∃ s : State, ∃ p : Nat, ∃ r : Nat, ∃ g : Nat, s.thermal.relock = false ∧ s.up 8 = true ∧ s.boot.brace = false ∧ s.boot.draining = false ∧ (s.opSlot p).working opThin = true ∧ s.dcPinned r g = false ∧ s.moveOf r g = none) ∧
    (∃ s : State, ∃ p : Nat, s.thermal.relock = false ∧ s.up 8 = true ∧ s.boot.brace = false ∧ s.boot.draining = false ∧ (s.opSlot p).working opMigrate = true ∧ s.moverOn = true ∧ (s.opSlot p).cursor < s.migrateCount (s.opSlot p) ∧ s.dcPinned (s.opSlot p).region ((s.opSlot p).migrateFirst + (s.opSlot p).cursor) = false ∧ s.moveOf (s.opSlot p).region ((s.opSlot p).migrateFirst + (s.opSlot p).cursor) = none) ∧
    (∃ s : State, ∃ p : Nat, ∃ n, s.thermal.relock = false ∧ s.up 8 = true ∧ s.boot.brace = false ∧ s.boot.draining = false ∧ n = (s.region (s.opSlot p).region).pageCount ∧ (s.opSlot p).working opResize = true ∧ (s.opSlot p).begun = true ∧ (s.opSlot p).cursor < (s.opSlot p).total ∧ (s.opSlot p).newCount < n ∧ s.tracked (s.opSlot p).region (n - 1) = false) ∧
    (∃ s : State, ∃ p : Nat, ∃ n, s.thermal.relock = false ∧ s.up 8 = true ∧ s.boot.brace = false ∧ s.boot.draining = false ∧ n = (s.region (s.opSlot p).region).pageCount ∧ (s.opSlot p).working opResize = true ∧ (s.opSlot p).begun = true ∧ (s.opSlot p).cursor < (s.opSlot p).total ∧ n ≤ (s.opSlot p).newCount ∧ 2048 * descPlots n < (s.opSlot p).newCount ∧ s.memoryOpen (slotStand (s.region (s.opSlot p).region).descBase) = true) ∧
    (∃ s : State, ∃ p : Nat, s.thermal.relock = false ∧ s.up 8 = true ∧ s.boot.brace = false ∧ s.boot.draining = false ∧ (s.opSlot p).working opRetire = true ∧ (s.opSlot p).begun = true ∧ (s.opSlot p).kind ≠ 2 ∧ (s.opSlot p).cursor = 0) ∧
    (∃ s : State, ∃ p : Nat, s.thermal.relock = false ∧ s.up 8 = true ∧ s.boot.brace = false ∧ s.boot.draining = false ∧ (s.opSlot p).working opRetire = true ∧ (s.opSlot p).begun = true ∧ (s.opSlot p).kind = 2 ∧ (s.opSlot p).cursor = 0 ∧ s.up (29 + bankGroup (s.opSlot p).sramRegion.1) = true) ∧
    (∃ s : State, ∃ p : Nat, ∃ r : Nat, ∃ g : Nat, s.thermal.relock = false ∧ s.up 8 = true ∧ s.boot.brace = false ∧ s.boot.draining = false ∧ (s.opSlot p).working opRetire = true ∧ (s.opSlot p).begun = true ∧ (s.opSlot p).kind ≠ 2 ∧ (s.opSlot p).cursor ≠ 0 ∧ s.moverOn = true ∧ s.dcPinned r g = false ∧ s.moveOf r g = none) :=
  ⟨⟨{ moverState with tier := { moverState.tier with stands := [(0, { present := true, plots := 65536, freePlots := 0, power := 0 })] } }, 1, 0, by decide +kernel⟩,
   ⟨slotState moverState 0 { code := opDrain, state := .running }, 0, 1, 0, 0, by decide +kernel⟩,
   ⟨slotState moverState 0 { code := opThin, state := .running }, 0, 1, 0, by decide +kernel⟩,
   ⟨slotState moverState 0 { code := opMigrate, state := .running, arg0 := 1, arg3 := 1 }, 0, by decide +kernel⟩,
   ⟨slotState moverState 0 { code := opResize, state := .running, begun := true, arg0 := 1, arg1 := 1, total := 1 }, 0, 2, by decide +kernel⟩,
   ⟨slotState moverState 0 { code := opResize, state := .running, begun := true, arg0 := 1, arg1 := 5000, total := 5000 }, 0, 2, by decide +kernel⟩,
   ⟨slotState moverState 0 { code := opRetire, state := .running, begun := true }, 0, by decide +kernel⟩,
   ⟨slotState moverState 0 { code := opRetire, state := .running, begun := true, arg0 := 2 }, 0, by decide +kernel⟩,
   ⟨slotState moverState 0 { code := opRetire, state := .running, begun := true, cursor := 1 }, 0, 1, 0, by decide +kernel⟩⟩

/-- The hypotheses of each clause of FleetCommands hold somewhere. -/
theorem witness_FleetCommands :
    (∃ s : State, ∃ p : Nat, s.thermal.relock = false ∧ s.up 5 = true ∧ (s.opSlot p).working opImport = true ∧ (s.opSlot p).begun = true ∧ (s.opSlot p).cursor = 0 ∧ (s.ctx (s.importCtx (s.opSlot p))).key0.valid = false) ∧
    (∃ s : State, ∃ p : Nat, ∃ x, s.thermal.relock = false ∧ s.up 5 = true ∧ x = s.ctx (s.importCtx (s.opSlot p)) ∧ (s.opSlot p).working opImport = true ∧ (s.opSlot p).begun = true ∧ (s.opSlot p).cursor = 0 ∧ x.enable = true ∧ x.peer = true ∧ x.key0.valid = true ∧ x.sess.bound = false ∧ x.sweeping = false ∧ s.hasIp (s.peerMacNo (s.opSlot p).peerEntry) (s.peerV6 (s.opSlot p).peerEntry) = true) ∧
    (∃ s : State, ∃ m, ∃ e, ∃ u, ∃ hdr, ∃ box, s.thermal.relock = false ∧ s.up 5 = true ∧ s.boot.answers = true ∧ s.takeKct m = some (e, u) ∧ e.frame.body = .kct hdr box ∧ hdr.type.toNat = tHelloAck ∧ (u.sess (u.ctxOf hdr box)).initiator = false) ∧
    (∃ s : State, ∃ m, ∃ e, ∃ u, ∃ hdr, ∃ box, ∃ k, s.thermal.relock = false ∧ s.up 5 = true ∧ s.boot.answers = true ∧ s.takeKct m = some (e, u) ∧ e.frame.body = .kct hdr box ∧ hdr.type.toNat = tHelloAck ∧ (u.sess (u.ctxOf hdr box)).initiator = true ∧ (u.sess (u.ctxOf hdr box)).opening = true ∧ u.checkSeg (u.ctxOf hdr box) e.frame hdr box = .drop k) ∧
    (∃ s : State, ∃ m, ∃ e, ∃ u, ∃ hdr, ∃ box, ∃ k, s.thermal.relock = false ∧ s.up 5 = true ∧ s.boot.answers = true ∧ s.takeKct m = some (e, u) ∧ e.frame.body = .kct hdr box ∧ hdr.type.toNat = tHelloAck ∧ (u.sess (u.ctxOf hdr box)).initiator = true ∧ (u.sess (u.ctxOf hdr box)).opening = true ∧ u.checkSeg (u.ctxOf hdr box) e.frame hdr box = .good k) ∧
    (∃ s : State, ∃ p : Nat, ∃ l, ∃ r, s.thermal.relock = false ∧ s.up 5 = true ∧ r = (s.opSlot p).region ∧ s.up 8 = true ∧ (s.opSlot p).working opEvacuate = true ∧ (s.opSlot p).begun = true ∧ s.evacSession (s.opSlot p).evacClient = true ∧ (s.opSlot p).sent.length < (s.opSlot p).evacWindow ∧ (s.opSlot p).again = [] ∧ (s.opSlot p).cursor < (s.region r).pageCount ∧ s.boot.brace = false ∧ s.boot.draining = false ∧ s.tracked r (s.opSlot p).cursor = false ∧ l = ({ lane := 0, dlane := 16, stream := [], fault := false, dfault := false, again := false } : EvacLanes)) ∧
    (∃ s : State, ∃ m, s.thermal.relock = false ∧ s.up 5 = true ∧ s.kct.delivered.find? (·.type == tEvacData) = some m) ∧
    (∃ s : State, ∃ m, s.thermal.relock = false ∧ s.up 5 = true ∧ s.kct.delivered.find? (·.type == tEvacData) = some m ∧ ((∀ i, i < 32 → (s.opSlot i).code ≠ opImport))) ∧
    (∃ s : State, ∃ m, ∃ i, s.thermal.relock = false ∧ s.up 5 = true ∧ s.kct.delivered.find? (·.type == tEvacData) = some m ∧ s.up 8 = true ∧ s.up 11 = true ∧ opSlots.find? (fun i => (s.opSlot i).code == opImport && (s.opSlot i).region == beAt m.body 0 2 && (s.opSlot i).begun && (s.opSlot i).state.active && s.importCtx (s.opSlot i) == m.client) = some i ∧ (s.opSlot i).state ≠ .running) ∧
    (∃ s : State, ∃ m, ∃ i, s.thermal.relock = false ∧ s.up 5 = true ∧ s.kct.delivered.find? (·.type == tEvacData) = some m ∧ s.up 8 = true ∧ s.up 11 = true ∧ opSlots.find? (fun i => (s.opSlot i).code == opImport && (s.opSlot i).region == beAt m.body 0 2 && (s.opSlot i).begun && (s.opSlot i).state.active && s.importCtx (s.opSlot i) == m.client) = some i ∧ (s.opSlot i).state = .running ∧ (s.region (beAt m.body 0 2)).pageCount ≤ beAt m.body 4 8 % 2 ^ 34) ∧
    (∃ s : State, ∃ m, ∃ i, s.thermal.relock = false ∧ s.up 5 = true ∧ s.kct.delivered.find? (·.type == tEvacData) = some m ∧ s.up 8 = true ∧ s.up 11 = true ∧ opSlots.find? (fun i => (s.opSlot i).code == opImport && (s.opSlot i).region == beAt m.body 0 2 && (s.opSlot i).begun && (s.opSlot i).state.active && s.importCtx (s.opSlot i) == m.client) = some i ∧ (s.opSlot i).state = .running ∧ beAt m.body 4 8 % 2 ^ 34 < (s.region (beAt m.body 0 2)).pageCount ∧ s.boot.brace = false ∧ s.tracked (beAt m.body 0 2) (beAt m.body 4 8 % 2 ^ 34) = false ∧ s.engineFree 0 = true ∧ beAt m.body 2 1 = 3 ∧ s.lanesReady false { lane := 0, dlane := 16, stream := [], fault := false, dfault := false, again := false } = true) ∧
    (∃ s : State, ∃ m, s.thermal.relock = false ∧ s.up 5 = true ∧ s.kct.delivered.find? (·.type == tEvacAck) = some m ∧ ((∀ i, i < 32 → (s.opSlot i).code ≠ opEvacuate))) ∧
    (∃ s : State, ∃ m, ∃ i, ∃ page, ∃ raw, s.thermal.relock = false ∧ s.up 5 = true ∧ s.kct.delivered.find? (·.type == tEvacAck) = some m ∧ opSlots.findSome? (fun i => if (s.opSlot i).code == opEvacuate && (s.opSlot i).state.active && (s.opSlot i).evacClient == m.client then ((s.opSlot i).sent.find? fun x => x.2.1 == m.msgId).map fun x => (i, x.1, x.2.2) else none) = some (i, page, raw)) ∧
    (∃ s : State, ∃ p : Nat, s.thermal.relock = false ∧ s.up 5 = true ∧ (s.opSlot p).code = opImport ∧ (s.opSlot p).cursor = 1 ∧ (s.opSlot p).state = .running ∧ (s.sess (s.importCtx (s.opSlot p))).initiator = true ∧ (s.sess (s.importCtx (s.opSlot p))).closeGot = true ∧ (s.sess (s.importCtx (s.opSlot p))).closeReason = 0 ∧ ((∀ m ∈ s.kct.delivered, m.type = tEvacData → m.client ≠ s.importCtx (s.opSlot p)))) :=
  ⟨⟨slotState running 0 { code := opImport, state := .running, begun := true }, 0, by decide +kernel⟩,
   ⟨slotState ((client running 0 { enable := true, peer := true, key0 := { valid := true } }).setReg (Reg.PRT_IPV6_LL 0 0 3) 9) 0 { code := opImport, state := .running, begun := true }, 0, { enable := true, peer := true, key0 := { valid := true } }, by decide +kernel⟩,
   ⟨acking (helloAck 0) {}, 0, _, _, helloAck 0, ackBox (helloAck 0), by decide, by decide, by decide, rfl, rfl, by decide, by decide +kernel⟩,
   ⟨acking (helloAck 1) { opening := true, initiator := true, remote := 5 }, 0, _, _, helloAck 1, ackBox (helloAck 1), Reg.KCT_RX_MALFORMED, by decide, by decide, by decide, rfl, rfl, by decide, by decide, by decide, by decide +kernel⟩,
   ⟨acking (helloAck 0) { opening := true, initiator := true, remote := 5 }, 0, _, _, helloAck 0, ackBox (helloAck 0), 0, by decide, by decide, by decide, rfl, rfl, by decide, by decide, by decide, by decide +kernel⟩,
   ⟨slotState (client serving 5 { peer := true, sess := { session with features := 16 } }) 0 { code := opEvacuate, state := .running, begun := true, arg0 := 1, arg1 := 5 }, 0, { lane := 0, dlane := 16, stream := [], fault := false, dfault := false, again := false }, 1, by decide +kernel⟩,
   ⟨{ running with kct := { delivered := [message 5 tEvacData []] } }, message 5 tEvacData [], by decide +kernel⟩,
   ⟨{ running with kct := { delivered := [message 5 tEvacData []] } }, message 5 tEvacData [], by decide +kernel⟩,
   ⟨slotState (importing [0, 1]) 0 { code := opImport, state := .suspended, begun := true, arg0 := 1 }, message 0 tEvacData [0, 1], 0, by decide +kernel⟩,
   ⟨slotState (importing evacAt) 0 { code := opImport, state := .running, begun := true, arg0 := 1 }, message 0 tEvacData evacAt, 0, by decide +kernel⟩,
   ⟨slotState (importing evacTail) 0 { code := opImport, state := .running, begun := true, arg0 := 1 }, message 0 tEvacData evacTail, 0, by decide +kernel⟩,
   ⟨{ running with kct := { delivered := [message 5 tEvacAck []] } }, message 5 tEvacAck [], by decide +kernel⟩,
   ⟨slotState { running with kct := { delivered := [message 5 tEvacAck []] } } 0 { code := opEvacuate, state := .running, arg1 := 5, sent := [(9, 1, false)] }, message 5 tEvacAck [], 0, 9, false, by decide +kernel⟩,
   ⟨slotState (client running 0 { sess := { initiator := true, closeGot := true } }) 0 { code := opImport, state := .running, cursor := 1 }, 0, by decide +kernel⟩⟩

/-- The hypotheses of each clause of ClassCommitLoadsOrRefuses hold somewhere. -/
theorem witness_ClassCommitLoadsOrRefuses :
    (∃ s : State, ∃ c : Nat, s.thermal.relock = false ∧ s.up 9 = true ∧ s.cmp.unloading = none ∧ c = s.fld Reg.CMP_CLS_SEL 3 0 ∧ (c = 0 ∨ (s.classOf? c).loaded = true ∨ s.stagedParts = (none, none) ∨ (∃ l, s.stagedParts.1 = some l ∧ codeTableOk l = false))) ∧
    (∃ s : State, ∃ c : Nat, s.thermal.relock = false ∧ s.up 9 = true ∧ s.cmp.unloading = none ∧ c = s.fld Reg.CMP_CLS_SEL 3 0 ∧ (c = 0 ∨ (s.classOf? c).loaded = true ∨ s.stagedParts = (none, none) ∨ (∃ l, s.stagedParts.1 = some l ∧ codeTableOk l = false))) ∧
    (∃ s : State, ∃ c : Nat, s.thermal.relock = false ∧ s.up 9 = true ∧ s.cmp.unloading = none ∧ c = s.fld Reg.CMP_CLS_SEL 3 0 ∧ (c = 0 ∨ (s.classOf? c).loaded = true ∨ s.stagedParts = (none, none) ∨ (∃ l, s.stagedParts.1 = some l ∧ codeTableOk l = false))) ∧
    (∃ s : State, ∃ c : Nat, s.thermal.relock = false ∧ s.up 9 = true ∧ s.cmp.unloading = none ∧ c = s.fld Reg.CMP_CLS_SEL 3 0 ∧ (c = 0 ∨ (s.classOf? c).loaded = true ∨ s.stagedParts = (none, none) ∨ (∃ l, s.stagedParts.1 = some l ∧ codeTableOk l = false))) ∧
    (∃ s : State, ∃ c : Nat, s.thermal.relock = false ∧ s.up 9 = true ∧ s.cmp.unloading = none ∧ c = s.fld Reg.CMP_CLS_SEL 3 0 ∧ c ≠ 0 ∧ (s.classOf? c).loaded = false ∧ s.stagedParts ≠ (none, none) ∧ ((∀ l, s.stagedParts.1 = some l → codeTableOk l = true))) :=
  ⟨⟨running, 0, by decide +kernel⟩,
   ⟨classing 1 { classes := [(15, { loaded := true })] }, 15, by decide +kernel⟩,
   ⟨classing 0 {}, 15, by decide +kernel⟩,
   ⟨classing 1 {}, 15, by decide, by decide, by decide, by decide, Or.inr (Or.inr (Or.inr ⟨_, rfl, by decide +kernel⟩))⟩,
   ⟨classing 2 {}, 15, by decide, by decide, by decide, by decide, by decide, by decide, fun h => absurd (congrArg (fun x => x.2.isSome) h) (by decide), fun l h => by rw [show (classing 2 {}).stagedParts.1 = none from by decide] at h; cases h⟩⟩

/-- The hypotheses of each clause of WordCodeCorrectsOneAndTwoBitErrors hold somewhere. -/
theorem witness_WordCodeCorrectsOneAndTwoBitErrors :
    (∃ d : DWord, ∃ tag : Bool, ∃ w : Nat, w = encodeWord d.toNat tag) ∧
    (∃ d : DWord, ∃ tag : Bool, ∃ w : Nat, ∃ i, w = encodeWord d.toNat tag ∧ i < 80) ∧
    (∃ d : DWord, ∃ tag : Bool, ∃ w : Nat, ∃ i, ∃ j, w = encodeWord d.toNat tag ∧ i < j ∧ j < 80) :=
  ⟨⟨5, true, encodeWord 5 true, by decide +kernel⟩,
   ⟨5, true, encodeWord 5 true, 79, by decide +kernel⟩,
   ⟨5, true, encodeWord 5 true, 0, 79, by decide +kernel⟩⟩

end Sys2Proof.Tests
end

section
/-! Proofs about memory: the 64 byte writes with which a line is stored, as one run of writes at consecutive keys of a sparse
table, and from it the reading rules of a stored line and the frame of the store. -/

namespace Sys2Proof.Machine

/-! ### A run of writes at consecutive keys -/

section
variable {α : Type} [DecidableEq α] (d : Nat → α) (t : Tab α) (p n : Nat) (f : Nat → α)

/-- After `n` writes from key `p` on, the keys of the run hold what was written and every other key what it held. -/
theorem tabGet_foldl_tabSet_range (a : Nat) :
    tabGet d ((List.range n).foldl (fun u i => tabSet d u (p + i) (f i)) t) a =
      if p ≤ a ∧ a < p + n then f (a - p) else tabGet d t a := by
  induction n with
  | zero => simp [show ¬ (p ≤ a ∧ a < p) by omega]
  | succ n ih =>
    rw [List.range_succ, List.foldl_append, List.foldl_cons, List.foldl_nil]
    by_cases ha : a = p + n
    · simp [ha]
    · have hrun : (p ≤ a ∧ a < p + (n + 1)) ↔ (p ≤ a ∧ a < p + n) := by omega
      rw [tabGet_tabSet_ne d _ _ ha, ih, if_congr hrun rfl rfl]

theorem tabWf_foldl_tabSet_range (h : tabWf d t = true) :
    tabWf d ((List.range n).foldl (fun u i => tabSet d u (p + i) (f i)) t) = true := by
  induction n with
  | zero => exact h
  | succ n ih =>
    rw [List.range_succ, List.foldl_append]
    exact tabWf_tabSet d _ _ _ ih

end

/-! ### The store of a line -/

section
variable (s : State) (la : Nat) (l : List Byte) (m : LineMark)

theorem State.tabGet_bytes_setLine (a : Nat) :
    tabGet (fun _ => 0) (s.setLine la l m).dram.bytes a =
      if 64 * la ≤ a ∧ a < 64 * la + 64 then l.getD (a - 64 * la) 0 else tabGet (fun _ => 0) s.dram.bytes a :=
  tabGet_foldl_tabSet_range _ _ _ _ (fun i => l.getD i 0) a

theorem State.tabWf_bytes_setLine (h : tabWf (fun _ => 0) s.dram.bytes = true) :
    tabWf (fun _ => 0) (s.setLine la l m).dram.bytes = true :=
  tabWf_foldl_tabSet_range _ _ _ _ (fun i => l.getD i 0) h

theorem State.lineBytes_setLine_same :
    (s.setLine la l m).lineBytes la = (List.range 64).map fun i => l.getD i 0 := by
  refine List.map_congr_left fun i hi => ?_
  have hline : 64 * la ≤ 64 * la + i ∧ 64 * la + i < 64 * la + 64 := by
    have := List.mem_range.mp hi
    omega
  rw [State.tabGet_bytes_setLine, if_pos hline, Nat.add_sub_cancel_left]

theorem State.tabGet_bytes_setLine_outside {a : Nat} (ha : a < 64 * la ∨ 64 * la + 64 ≤ a) :
    tabGet (fun _ => 0) (s.setLine la l m).dram.bytes a = tabGet (fun _ => 0) s.dram.bytes a := by
  rw [State.tabGet_bytes_setLine, if_neg (by omega)]

@[simp] theorem State.lineMark_setLine_same : (s.setLine la l m).lineMark la = m :=
  tabGet_tabSet_same _ _ _ _

theorem State.lineMark_setLine_ne {lb : Nat} (hlb : lb ≠ la) : (s.setLine la l m).lineMark lb = s.lineMark lb :=
  tabGet_tabSet_ne _ _ _ hlb

end

/-- Settles O8: the store of a line is a run of 64 table writes, each of which keeps the canonical form (R4, R403; the sparse
form is log 12, and that an unwritten byte reads 0 is log 10), beside one write of the line's mark. -/
theorem lineWritesKeepMemoryCanonical : Obligations.LineWritesKeepMemoryCanonical :=
  fun s la l m =>
    ⟨s.tabWf_bytes_setLine la l m, s.lineBytes_setLine_same la l m, s.lineMark_setLine_same la l m,
      fun _ ha => s.tabGet_bytes_setLine_outside la l m ha, fun _ hlb => s.lineMark_setLine_ne la l m hlb⟩

end Sys2Proof.Machine
end

section
/-! SUPPORT. What counters, field writes and raised events leave of the registers and of the event bits: the status of an
event lies in a page's header, below offset 0x40, and most registers that commands write do not. -/

namespace Sys2Proof.Machine

open Sys2Proof

/-! ### Guards -/

theorem guarded_of {ok : Bool} (h : ok = true) (s t : State) : guarded ok s t = .next t := by rw [h, guarded_true]

/-! ### Fields of a register -/

theorem bit_toNat (w : Word) (i : Nat) : bit w.toNat i = w.getLsbD i := rfl

theorem putBits_single (w : Word) (i v : Nat) :
    putBits w i i v = (w &&& ~~~BitVec.ofNat 32 (2 ^ i)) ||| (BitVec.ofNat 32 (v <<< i) &&& BitVec.ofNat 32 (2 ^ i)) := by
  have hone : i + 1 - i = 1 := by omega
  simp [putBits, hone, Nat.one_shiftLeft]

/-- A one-bit field reads back. -/
theorem bit_putBits_same (w : Word) {i : Nat} (hi : i < 32) (b : Bool) : bit (putBits w i i (bitNat b)).toNat i = b := by
  rw [bit_toNat, putBits_single]
  simp only [BitVec.getLsbD_or, BitVec.getLsbD_and, BitVec.getLsbD_not, BitVec.getLsbD_ofNat, Nat.testBit_two_pow_self]
  cases b <;> simp [bitNat, hi, Nat.testBit_shiftLeft]

/-- A one-bit field leaves the other bits. -/
theorem bit_putBits_ne (w : Word) {i j : Nat} (v : Nat) (hij : j ≠ i) : bit (putBits w i i v).toNat j = bit w.toNat j := by
  rw [bit_toNat, bit_toNat, putBits_single]
  by_cases hj : j < 32
  · simp only [BitVec.getLsbD_or, BitVec.getLsbD_and, BitVec.getLsbD_not, BitVec.getLsbD_ofNat,
      Nat.testBit_two_pow_of_ne hij.symm]
    simp [hj]
  · rw [BitVec.getLsbD_of_ge _ _ (by omega), BitVec.getLsbD_of_ge _ _ (by omega)]

theorem State.flag_setFld_same (s : State) (a : Nat) {i : Nat} (hi : i < 32) (b : Bool) :
    (s.setFld a i i (bitNat b)).flag a i = b := by
  rw [State.flag, State.setFld, State.reg_setReg_same, bit_putBits_same _ hi]

theorem State.flag_setFld_ne (s : State) (a : Nat) {i j : Nat} (v : Nat) (hij : j ≠ i) :
    (s.setFld a i i v).flag a j = s.flag a j := by
  rw [State.flag, State.setFld, State.reg_setReg_same, bit_putBits_ne _ _ hij, State.flag]

theorem State.flag_setReg_or (s : State) (a : Nat) {i : Nat} (hi : i < 32) :
    (s.setReg a (s.reg a ||| BitVec.ofNat 32 (2 ^ i))).flag a i = true := by
  rw [State.flag, State.reg_setReg_same, bit_or_pow _ hi]

theorem State.reg_setFld_ne (s : State) {a b : Nat} (hi lo v : Nat) (h : b ≠ a) : (s.setFld a hi lo v).reg b = s.reg b :=
  s.reg_setReg_ne _ h

theorem State.reg_count64_ne (s : State) {a b : Nat} (n : Nat) (h : b ≠ a) (h' : b ≠ a + 4) :
    (s.count64 a n).reg b = s.reg b := by
  rw [State.count64, State.reg_setReg_ne _ _ h', State.reg_setReg_ne _ _ h]

theorem State.flag_congr {s t : State} {a : Nat} (h : t.reg a = s.reg a) (i : Nat) : t.flag a i = s.flag a i := by
  rw [State.flag, h, State.flag]

/-! ### Registers that a raised event leaves -/

/-- Outside the page headers an occurrence of an event changes only the count of repeats. -/
theorem State.occur_reg_body (s : State) (code inst : Nat) (f hst : Bool) (t d1 d2 : Nat) {a : Nat} (ha : 0x40 ≤ a % 0x1000)
    (hr : a ≠ Reg.RAS_EVT_REPEAT) : (s.occur code inst f hst t d1 d2).reg a = s.reg a := by
  have hpage := evtPage_mod code inst
  exact s.occur_reg_ne code inst f hst t d1 d2 (by omega) (by omega) hr

theorem State.raiseAt_reg_body (s : State) (code inst d1 d2 : Nat) {a : Nat} (ha : 0x40 ≤ a % 0x1000)
    (hr : a ≠ Reg.RAS_EVT_REPEAT) : (s.raiseAt code inst d1 d2).reg a = s.reg a :=
  s.occur_reg_body _ _ _ _ _ _ _ ha hr

theorem State.raise_reg_body (s : State) (code d1 d2 : Nat) {a : Nat} (ha : 0x40 ≤ a % 0x1000)
    (hr : a ≠ Reg.RAS_EVT_REPEAT) : (s.raise code d1 d2).reg a = s.reg a :=
  s.raiseAt_reg_body _ _ _ _ ha hr

/-! ### What leaves an event's bit set -/

theorem State.evtSet_congr {s t : State} {c i : Nat} (h : t.reg (evtPage c i + 0x014) = s.reg (evtPage c i + 0x014)) :
    t.evtSet c i = s.evtSet c i :=
  State.flag_congr h _

theorem State.evtSet_setReg_body (s : State) {a : Nat} (v : Word) (ha : 0x40 ≤ a % 0x1000) (c i : Nat) :
    (s.setReg a v).evtSet c i = s.evtSet c i := by
  have hpage := evtPage_mod c i
  exact State.evtSet_congr (s.reg_setReg_ne v (by omega))

theorem State.evtSet_setFld_body (s : State) {a : Nat} (hi lo v : Nat) (ha : 0x40 ≤ a % 0x1000) (c i : Nat) :
    (s.setFld a hi lo v).evtSet c i = s.evtSet c i :=
  s.evtSet_setReg_body _ ha c i

theorem State.evtSet_count64_body (s : State) {a : Nat} (n : Nat) (ha : 0x40 ≤ a % 0x1000) (ha' : 0x40 ≤ (a + 4) % 0x1000)
    (c i : Nat) : (s.count64 a n).evtSet c i = s.evtSet c i := by
  rw [State.count64, State.evtSet_setReg_body _ _ ha', State.evtSet_setReg_body _ _ ha]

/-- Status bits are only added to a page by an occurrence of one of its events. -/
theorem State.setEvt_keeps_evtSet (s : State) (code inst : Nat) {c i : Nat} (h : s.evtSet c i = true) :
    (s.setEvt code inst).evtSet c i = true := by
  by_cases hpage : evtPage c i = evtPage code inst
  · have hbit : bit (s.reg (evtPage code inst + 0x014)).toNat (evtBit c) = true := by
      rw [← hpage]
      exact h
    rw [State.evtSet, State.flag, hpage, State.setEvt_status, BitVec.toNat_or]
    simp only [bit, Nat.testBit_or, Bool.or_eq_true] at hbit ⊢
    exact .inl hbit
  · have hmod := evtPage_mod c i
    have hmod' := evtPage_mod code inst
    rw [State.evtSet_congr (s.setEvt_reg_ne code inst (by omega) (by omega))]
    exact h

/-- An occurrence of an event leaves every event set that was. -/
theorem State.occur_keeps_evtSet (s : State) (code inst : Nat) (f hst : Bool) (t d1 d2 : Nat) {c i : Nat}
    (h : s.evtSet c i = true) : (s.occur code inst f hst t d1 d2).evtSet c i = true := by
  by_cases hs : s.evtSet code inst = true
  · have hmod := evtPage_mod c i
    rw [State.occur, if_pos hs, State.evtSet_congr (s.reg_count_ne _)]
    · exact h
    · simp only [Reg.RAS_EVT_REPEAT]
      omega
  · rw [State.evtSet_congr (s := s.setEvt code inst)]
    · exact s.setEvt_keeps_evtSet code inst h
    · simp only [State.occur, hs, if_false, Bool.false_eq_true]
      by_cases he : s.evtEnabled code inst = true <;> by_cases hf : severity code = 3 <;> simp [he, hf]

theorem State.raise_keeps_evtSet (s : State) (code d1 d2 : Nat) {c i : Nat} (h : s.evtSet c i = true) :
    (s.raise code d1 d2).evtSet c i = true :=
  s.occur_keeps_evtSet _ _ _ _ _ _ _ h

end Sys2Proof.Machine
end

section
/-! Proofs about the monitors, the scrubber and the sensors (16, 22): one lemma for each command that says what it answers, over the
rules of the state that it changes. -/

namespace Sys2Proof.Machine

open Sys2Proof

/-! ### The promise -/

section
variable (s : State) (b : Nat) (on : Bool)

theorem State.setPromise_reg_body {a : Nat} (ha : 0x40 ≤ a % 0x1000) (hp : a ≠ Reg.RAS_PROMISE_STATUS)
    (hr : a ≠ Reg.RAS_EVT_REPEAT) : (s.setPromise b on).reg a = s.reg a := by
  unfold State.setPromise
  dsimp only
  split
  · rw [State.raise_reg_body _ _ _ _ ha hr, State.reg_setFld_ne _ _ _ _ hp, State.reg_setFld_ne _ _ _ _ hp]
  · rw [State.reg_setFld_ne _ _ _ _ hp, State.reg_setFld_ne _ _ _ _ hp]

theorem State.setPromise_keeps_evtSet {c i : Nat} (h : s.evtSet c i = true) : (s.setPromise b on).evtSet c i = true := by
  have hflds : ∀ (t : State) hi lo v, (t.setFld Reg.RAS_PROMISE_STATUS hi lo v).evtSet c i = t.evtSet c i :=
    fun t hi lo v => t.evtSet_setFld_body hi lo v (by decide) c i
  unfold State.setPromise
  dsimp only
  split
  · exact State.raise_keeps_evtSet _ _ _ _ (by rw [hflds, hflds, h])
  · rw [hflds, hflds, h]

/-- A condition shows in its own bit, which HOLDS and the event of a fall leave. -/
theorem State.flag_setPromise_same (hb : b < 31) : (s.setPromise b on).flag Reg.RAS_PROMISE_STATUS b = on := by
  unfold State.setPromise
  dsimp only
  split
  · rw [State.flag_congr (State.raise_reg_body _ _ _ _ (by decide) (by decide)), State.flag_setFld_ne _ _ _ (by omega),
      State.flag_setFld_same _ _ (by omega)]
  · rw [State.flag_setFld_ne _ _ _ (by omega), State.flag_setFld_same _ _ (by omega)]

@[simp] theorem State.setPromise_scrubs : (s.setPromise b on).scrubs = s.scrubs := by
  unfold State.setPromise
  dsimp only
  split <;> simp

end

/-! ### The passes, the stands and the channels -/

section
variable (s : State) (k : Nat)

@[simp] theorem State.scrub_setScrub_same (v : Scrub) : (s.setScrub k v).scrub k = v := tabGet_tabSet_same ..

@[simp] theorem State.setScrub_stand (v : Scrub) (j : Nat) : (s.setScrub k v).stand j = s.stand j := rfl

@[simp] theorem State.stand_setStand_same (v : Stand) : (s.setStand k v).stand k = v := tabGet_tabSet_same ..

@[simp] theorem State.chan_setChan_same (v : Chan) : (s.setChan k v).chan k = v := tabGet_tabSet_same ..

@[simp] theorem State.wrote_chan (st n : Nat) : (s.wrote st).chan n = s.chan n := rfl

theorem State.scrub_congr {s t : State} (h : t.scrubs = s.scrubs) (k : Nat) : t.scrub k = s.scrub k := by
  rw [State.scrub, h, State.scrub]

/-- A lapse of SCRUB writes passes and the promise alone. -/
theorem State.scrubLapse_eq (stand : Option Nat) :
    ∃ u : State, s.scrubLapse stand = u.setPromise promiseScrub false ∧ u.regs = s.regs :=
  ⟨_, rfl, List.foldlRecOn (motive := fun t : State => t.regs = s.regs) _ _ rfl fun _ h _ _ => h⟩

end

/-! ### The monitors (R19, R629, R630) -/

section
variable {s : State} (hs : s.live = true)
include hs

theorem clockMonitor_answers {i : Nat} (hi : i < 20) :
    ∃ t, exec (.clockMonitor i) s = .next t ∧ t.evtSet 0x0307 0 = true ∧ t.flag Reg.RAS_CLK_MON_STATUS i = true
      ∧ t.flag Reg.RAS_PROMISE_STATUS promiseConditions = false := by
  refine ⟨_, guarded_of hs _ _, ?_, ?_, ?_⟩
  · exact State.setPromise_keeps_evtSet _ _ _ (State.raise_evtSet ..)
  · rw [State.flag_congr (State.setPromise_reg_body _ _ _ (by decide) (by decide) (by decide)),
      State.flag_congr (State.raise_reg_body _ _ _ _ (by decide) (by decide)), State.flag_setReg_or _ _ (by omega)]
  · exact State.flag_setPromise_same _ _ _ (by decide)

theorem dupStateMismatch_answers {b : Nat} (hb : b < 32) :
    ∃ t, exec (.dupStateMismatch b) s = .next t ∧ t.evtSet 0x0308 0 = true ∧ t.flag Reg.RAS_DUP_STATUS b = true := by
  refine ⟨_, guarded_of hs _ _, State.raise_evtSet .., ?_⟩
  rw [State.flag_congr (State.raise_reg_body _ _ _ _ (by decide) (by decide)), State.flag_setReg_or _ _ hb]

end

/-! ### The combining table (R636) -/

section
variable {s : State} {n : Nat} (hn : s.up (chanDom n) = true)
include hn

theorem commanding_chan (ok : Bool) (t : State) : commanding (chanDom n) ok s t = guarded ok s t :=
  commanding_up (by simp only [chanDom]; omega) hn (s.coreStalled_out (by simp only [chanDom]; omega)) ok t

theorem cetClearSel_answers :
    ∃ t, exec (.cetClearSel n) s = .next t ∧ tabGet (fun _ => none) (t.chan n).cet (s.fld (Reg.DRC_CET_SEL n) 5 0) = none
      ∧ ∀ i, i ≠ s.fld (Reg.DRC_CET_SEL n) 5 0 → tabGet (fun _ => none) (t.chan n).cet i = tabGet (fun _ => none) (s.chan n).cet i := by
  refine ⟨_, commanding_chan hn .., ?_, fun i hi => ?_⟩ <;> simp only [if_true, State.wrote_chan, State.chan_setChan_same]
  · exact tabGet_tabSet_same ..
  · exact tabGet_tabSet_ne _ _ _ hi

theorem cetClearAll_answers : ∃ t, exec (.cetClearAll n) s = .next t ∧ (t.chan n).cet = [] :=
  ⟨_, commanding_chan hn .., by simp⟩

end

/-! ### The scrubber (R617 to R623, R727, R750) -/

section
variable {s : State} {k : Nat}

theorem scrubLine_answers {n : Nat} {e r : ReadErrs} (hon : s.scrubOn = true) (hk : (s.stand k).present = true)
    (hn : n ∈ s.chanList) (hi : tabGet (fun _ => 0) (s.scrub k).cursor n < s.standLines k)
    (hread : s.canRead 5 [s.scrubAddr k n (tabGet (fun _ => 0) (s.scrub k).cursor n)] = true) :
    ∃ t, exec (.scrubLine k n e r) s = .next t
      ∧ tabGet (fun _ => 0) (t.scrub k).cursor n = tabGet (fun _ => 0) (s.scrub k).cursor n + 1 := by
  refine ⟨_, guarded_of (by simp [hon, hk, hn, hi, hread]) _ _, ?_⟩
  simp only [State.scrub_setScrub_same, tabGet_tabSet_same]

theorem scrubTargetReached_answers (hon : s.scrubOn = true) (hk : (s.stand k).present = true) (hp : (s.stand k).power = 2)
    (hv : (s.stand k).scrubVote = false) (heff : s.effective ≠ 3) :
    ∃ t, exec (.scrubTargetReached k) s = .next t ∧ (t.stand k).scrubVote = true ∧ (t.scrub k).burst = true := by
  refine ⟨_, guarded_of (by simp [hon, hk, hp, hv]) _ _, ?_, ?_⟩ <;> simp [heff]

/-- Without a SCRUB wake the vote and the burst end and the device stays in its state. -/
theorem scrubLeadReached_answers (hs : s.live = true) (hv : (s.stand k).scrubVote = true) (hup : s.pwr.scrubUp = false) :
    ∃ t, exec (.scrubLeadReached k) s = .next t ∧ (t.stand k).scrubVote = false ∧ (t.scrub k).burst = false := by
  have hstays : ∀ (x : Stand) (y : Scrub), ((s.setStand k x).setScrub k y).effective = s.effective := fun _ _ => rfl
  refine ⟨_, guarded_of (by simp [hs, hv]) _ _, ?_, ?_⟩ <;> simp [hup, hstays]

/-- A pass has ended with `x` as the stand's next one; `met` where no stand owes a pass any more. -/
def State.passEnded (s : State) (k : Nat) (x : Scrub) (met : Bool) : State :=
  if met then ((s.setScrub k x).raise 0xA016 k).setPromise promiseScrub true else (s.setScrub k x).raise 0xA016 k

theorem State.passEnded_evtSet (x : Scrub) (met : Bool) : (s.passEnded k x met).evtSet 0xA016 0 = true := by
  cases met
  · exact (s.setScrub k x).raise_evtSet 0xA016 k 0
  · exact State.setPromise_keeps_evtSet _ promiseScrub true ((s.setScrub k x).raise_evtSet 0xA016 k 0)

theorem State.passEnded_scrub (x : Scrub) (met : Bool) : (s.passEnded k x met).scrub k = x := by
  have hraise : ((s.setScrub k x).raise 0xA016 k).scrub k = x := by
    rw [State.scrub_congr (State.raise_scrubs ..), State.scrub_setScrub_same]
  cases met
  · exact hraise
  · exact (State.scrub_congr (State.setPromise_scrubs _ promiseScrub true) k).trans hraise

theorem scrubPassEnd_answers (hon : s.scrubOn = true) (hk : k ∈ s.scrubStands)
    (hdone : ∀ n ∈ s.chanList, s.standLines k ≤ tabGet (fun _ => 0) (s.scrub k).cursor n) :
    ∃ t, exec (.scrubPassEnd k) s = .next t ∧ t.evtSet 0xA016 0 = true ∧ (t.scrub k).passes = ((s.scrub k).passes + 1) % 65536
      ∧ (t.scrub k).cursor = []
      ∧ (t.scrub k).late = if (s.scrub k).late ≠ 2 ∧ s.now ≤ (s.scrub k).startAt + s.scrubPeriod then 0 else min 1 (s.scrub k).late := by
  have hall : (s.chanList.all fun n => decide (s.standLines k ≤ tabGet (fun _ => 0) (s.scrub k).cursor n)) = true := by
    simpa using hdone
  refine ⟨s.passEnded k _ _, guarded_of (by simp only [hon, List.contains_iff_mem.mpr hk, hall, Bool.and_self]) _ _, ?_⟩
  rw [State.passEnded_scrub]
  exact ⟨State.passEnded_evtSet .., rfl, rfl, by simp⟩

/-- The stand's pass is late and the SCRUB promise falls (R623, R634; log 117). -/
theorem scrubPassLate_answers (hs : s.live = true) (hen : s.flag Reg.RAS_SCRUB_CFG 31 = true) (hready : s.boot.stage = .ready)
    (hk : k ∈ s.scrubStands) :
    ∃ t, exec (.scrubPassLate k) s = .next t ∧ t.evtSet 0xA017 0 = true ∧ t.flag Reg.RAS_PROMISE_STATUS promiseScrub = false := by
  obtain ⟨u, hu, hregs⟩ := (s.raise 0xA017 k).scrubLapse_eq (some k)
  refine ⟨u.setPromise promiseScrub false, ?_, ?_, State.flag_setPromise_same _ _ _ (by decide)⟩
  · change execScrubPassLate k s = _
    simp [execScrubPassLate, hs, hen, hready, hk, hu]
  · refine State.setPromise_keeps_evtSet _ _ _ ?_
    rw [State.evtSet_congr (congrArg (tabGet resetOf · _) hregs)]
    exact State.raise_evtSet ..

/-- SCRUB_NOW passes over the lines of an Unpowered stand (log 118). -/
theorem scrubNowLine_unpowered {p n i : Nat} {e r : ReadErrs} (hs : s.live = true) (hw : (s.opSlot p).working opScrub = true)
    (hb : s.boot.brace = false) (hd : s.boot.draining = false)
    (hnth : s.scrubNth (s.opSlot p) (s.opSlot p).scrubStands (s.opSlot p).cursor = some (k, n, i)) (hp : (s.stand k).power = 3) :
    exec (.scrubNowLine p e r) s = .next (s.setOp p { s.opSlot p with
      cursor := (s.opSlot p).cursor + 1, progress := (s.opSlot p).progress + 1 }) := by
  change execScrubNowLine p e r s = _
  simp [execScrubNowLine, hs, hw, hb, hd, hnth, hp]

end

/-! ### The sensors (R765, R771) -/

/-- Ten sensors' registers written in a run, each read back. -/
theorem State.reg_foldl_sensors (s : State) (f : Nat → Word) (n : Nat) {i : Nat} (hi : i < n) :
    ((List.range n).foldl (fun t i => t.setReg (Reg.GLB_TEMP_SENSOR i) (f i)) s).reg (Reg.GLB_TEMP_SENSOR i) = f i := by
  induction n with
  | zero => omega
  | succ n ih =>
    rw [List.range_succ, List.foldl_append, List.foldl_cons, List.foldl_nil]
    by_cases h : i = n
    · rw [h, State.reg_setReg_same]
    · rw [State.reg_setReg_ne _ _ (by simp only [Reg.GLB_TEMP_SENSOR]; omega), ih (by omega)]

section
variable {s : State} (hs : s.live = true)
include hs

theorem thermalSample_allInvalid {l : List Int} (hl : l.length = 10) (hinv : s.thermal.invalid = 0x3FF) :
    ∃ t, exec (.thermalSample l) s = .next t ∧ t.flag Reg.GLB_TEMP 31 = false := by
  have hgood : ((List.range 10).filter fun i => !(0x3FF : BitVec 10).getLsbD i) = [] := by decide
  refine ⟨_, guarded_of (by simp [hs, hl]) _ _, ?_⟩
  simp only [hinv, hgood]
  exact State.flag_setFld_same _ _ (by decide) false

/-- With every sensor valid the junction temperature is the highest reading. -/
theorem thermalSample_allValid {l : List Int} (hl : l.length = 10) (hinv : s.thermal.invalid = 0) :
    ∃ t u : State, exec (.thermalSample l) s = .next t
      ∧ t = u.junction ((List.range 10).foldl (fun m j => max m (l.getD j 0)) (l.getD 0 0))
      ∧ ∀ i, i < 10 → u.reg (Reg.GLB_TEMP_SENSOR i) = tempWord (l.getD i 0) := by
  have hvalid : ∀ i, s.thermal.invalid.getLsbD i = false := fun i => by simp [hinv]
  have hrange : List.range 10 = 0 :: List.range' 1 9 := by decide
  have hgood : ((List.range 10).filter fun i => !s.thermal.invalid.getLsbD i) = 0 :: List.range' 1 9 := by
    simp [hvalid, hrange]
  have htop : (List.range 10).foldl (fun m j => max m (l.getD j 0)) (l.getD 0 0)
      = (List.range' 1 9).foldl (fun m j => max m (l.getD j 0)) (l.getD 0 0) := by
    rw [hrange, List.foldl_cons, max_self]
  refine ⟨_, (List.range 10).foldl (fun t i => t.setReg (Reg.GLB_TEMP_SENSOR i) (tempWord (l.getD i 0))) s,
    guarded_of (by simp [hs, hl]) _ _, ?_, fun i hi => State.reg_foldl_sensors s (fun i => tempWord (l.getD i 0)) 10 hi⟩
  rw [hgood, htop]
  simp only [hvalid, Bool.false_eq_true, if_false]

theorem sensorInvalid_answers {i : Nat} (hi : i < 10) (hinv : s.thermal.invalid.getLsbD i = false) :
    ∃ t, exec (.sensorInvalid i) s = .next t ∧ t.thermal.invalid.getLsbD i = true ∧ t.evtSet 0x0103 0 = true
      ∧ t.flag (Reg.GLB_TEMP_SENSOR i) 31 = false := by
  refine ⟨_, guarded_of (by simp [hs, hinv]) _ _, ?_, State.raise_evtSet .., ?_⟩
  · rw [State.raise_thermal, State.setFld_thermal, BitVec.getLsbD_or, BitVec.getLsbD_ofNat, Nat.testBit_two_pow_self]
    simp [hi]
  · rw [State.flag_congr (State.raise_reg_body _ _ _ _ (by simp only [Reg.GLB_TEMP_SENSOR]; omega)
      (by simp only [Reg.GLB_TEMP_SENSOR, Reg.RAS_EVT_REPEAT]; omega))]
    exact State.flag_setFld_same _ _ (by decide) false

theorem coreClockRelock_answers (hr : s.thermal.relock = true) :
    exec .coreClockRelock s = .next { s with thermal := { s.thermal with relock := false } } :=
  guarded_of (by simp [hs, hr]) _ _

end

/-- Settles O52: each command answers as its lemma above says. That a pass which is late owes another within its target is log 117,
that SCRUB_NOW passes over Unpowered stands log 118, and that a sensor stays invalid log 124. -/
theorem monitorScrubAndThermalCommands : Obligations.MonitorScrubAndThermalCommands :=
  fun _ hs =>
    ⟨fun _ => clockMonitor_answers hs, fun _ => dupStateMismatch_answers hs, fun _ => cetClearSel_answers,
      fun _ => cetClearAll_answers, fun _ _ _ _ => scrubLine_answers, fun _ => scrubTargetReached_answers,
      fun _ => scrubLeadReached_answers hs, fun _ => scrubPassEnd_answers, fun _ => scrubPassLate_answers hs,
      fun _ _ _ _ _ _ => scrubNowLine_unpowered hs, fun _ => thermalSample_allInvalid hs, fun _ => thermalSample_allValid hs,
      fun _ => sensorInvalid_answers hs, coreClockRelock_answers hs⟩

end Sys2Proof.Machine
end

section
/-! Proofs about delivered requests (09, 10): what an answer leaves, what translation depends on, and the rows of the request
commands. -/

namespace Sys2Proof.Machine

open Sys2Proof

/-! ### What an answer leaves (R222, R257)

A message that is sent changes sessions and queues of the transport, and nothing else of the device. -/

section
variable (s : State) (c t ch : Nat) (id : BitVec 24) (st : Nat)

theorem State.sendSegs_eq (limit n idx : Nat) (l : List Byte) :
    s.sendSegs c t ch id st limit n idx l = { s with kct := (s.sendSegs c t ch id st limit n idx l).kct } := by
  induction n generalizing s idx l with
  | zero => rfl
  | succ n ih =>
    unfold State.sendSegs
    split
    · rfl
    · exact (ih ..).trans rfl

theorem State.sendMsg_eq (l : List Byte) : s.sendMsg c t id st l = { s with kct := (s.sendMsg c t id st l).kct } := by
  unfold State.sendMsg
  split
  · exact s.sendSegs_eq ..
  · rfl

theorem State.reply_eq (e : BitVec 4) (l : List Byte) :
    s.reply c e t id st l = { s with kct := (s.reply c e t id st l).kct } := by
  unfold State.reply
  split
  · exact s.sendMsg_eq ..
  · rfl

theorem State.reply_coh (e : BitVec 4) (l : List Byte) : (s.reply c e t id st l).coh = s.coh := by rw [State.reply_eq]

theorem State.reply_dram (e : BitVec 4) (l : List Byte) : (s.reply c e t id st l).dram = s.dram := by rw [State.reply_eq]

theorem State.reply_pipe (e : BitVec 4) (l : List Byte) : (s.reply c e t id st l).pipe = s.pipe := by rw [State.reply_eq]

theorem State.answer_tier (m : InMsg) (info : Nat) : (s.answer m st info).tier = s.tier := by
  rw [State.answer, State.complete, State.reply_eq]

end

/-! ### Counters of the pipelines -/

section
variable (s : State) (region page k : Nat)

@[simp] theorem State.pipeCount_tier : (s.pipeCount region page k).tier = s.tier := rfl

/-- A counter of PIPE_CNT does not reach the registers of the earlier pages. -/
theorem State.pipeCount_reg_below {a : Nat} (ha : a < 0x405040) : (s.pipeCount region page k).reg a = s.reg a :=
  s.reg_count64_ne 1 (by simp only [Reg.PIPE_CNT]; omega) (by simp only [Reg.PIPE_CNT]; omega)

end

/-! ### Translation -/

theorem State.grantWalk_congr {s t : State} (h : t.pipe = s.pipe) (c r n i : Nat) : t.grantWalk c r n i = s.grantWalk c r n i := by
  induction n generalizing i with
  | zero => rfl
  | succ n ih =>
    have hat : t.grantAt i = s.grantAt i := by rw [State.grantAt, h, State.grantAt]
    rw [State.grantWalk, State.grantWalk, hat, ih]

/-- Translation depends on the tables of the pipelines and on the retry time of a region that is being cleared. -/
theorem State.translate_congr {s t : State} (h : t.pipe = s.pipe) (hr : t.reg Reg.PIPE_INIT_RETRY = s.reg Reg.PIPE_INIT_RETRY)
    (c ty : Nat) (b : List Byte) : t.translate c ty b = s.translate c ty b := by
  have hregion : t.region (bodyRegion b) = s.region (bodyRegion b) := by rw [State.region, h, State.region]
  have hgrant : t.grantOf c (bodyRegion b) = s.grantOf c (bodyRegion b) := State.grantWalk_congr h ..
  rw [State.translate, hregion, hgrant, hr, State.translate]

theorem State.translate_pipeCount (s : State) (r p k c ty : Nat) (b : List Byte) :
    (s.pipeCount r p k).translate c ty b = s.translate c ty b :=
  State.translate_congr (s := s) (t := s.pipeCount r p k) rfl (s.pipeCount_reg_below r p k (by decide)) c ty b

theorem State.translate_setKct (s : State) (x : Kct) (c ty : Nat) (b : List Byte) :
    ({ s with kct := x } : State).translate c ty b = s.translate c ty b :=
  State.translate_congr (s := s) (t := { s with kct := x }) rfl rfl c ty b

/-! ### The request rows (R12, R345, R369, R396, R745) -/

theorem pipeDom_ne_zero (region page : Nat) : pipeDom region page ≠ 0 := by
  simp only [pipeDom]
  omega

/-- A pipeline that is Up serves while the core clock does not relock. -/
theorem needing_of_up {s : State} {d : Nat} (hrelock : s.thermal.relock = false) (hup : s.up d = true) (ok : Bool) (t : State) :
    needing d ok s t = guarded ok s t :=
  needing_up hup (State.coreStalled_of_locked hrelock d) ok t

theorem exec_of_mem_requestCommands {c : BitVec 12} {i : BitVec 24} {crc : Nat} {e : Nat × Instr} (he : e ∈ requestCommands c i crc)
    (s : State) : exec e.2 s = requestRow e.1 c i crc s := by
  simp only [requestCommands, List.mem_cons, List.not_mem_nil, or_false] at he
  rcases he with rfl | rfl | rfl | rfl | rfl | rfl | rfl | rfl | rfl | rfl <;> rfl

section
variable {s : State} {c : BitVec 12} {i : BitVec 24} {before rest : List InMsg} {m : InMsg}

theorem requestRow_up {t crc : Nat} (hrelock : s.thermal.relock = false)
    (htake : takeMsg c.toNat t i [] s.kct.delivered = some (before, m, rest))
    (hup : s.up (pipeDom (bodyRegion m.body) (bodyPage m.body)) = true) :
    requestRow t c i crc s = guarded (mayServe before rest m) s
      (({ s with kct := { s.kct with delivered := rest } } : State).serve m crc) := by
  simp only [requestRow, htake, State.up_not_failed (pipeDom_ne_zero _ _) hup, needing_of_up hrelock hup, Bool.false_eq_true,
    if_false]

theorem requestRow_failed {t crc : Nat} (htake : takeMsg c.toNat t i [] s.kct.delivered = some (before, m, rest))
    (hfailed : s.domFailed (pipeDom (bodyRegion m.body) (bodyPage m.body)) = true) :
    requestRow t c i crc s = guarded (s.live && mayServe before rest m) s
      (({ s with kct := { s.kct with delivered := rest } } : State).answer m stDomainFailed 0) := by
  simp only [requestRow, htake, hfailed, if_true]

/-! ### Hints (R349, R391) -/

/-- Stage 3 does not look at the messages that wait. -/
theorem State.stage3_delivered (s : State) (l : List InMsg) (c t : Nat) (b : List Byte) :
    ({ s with kct := { s.kct with delivered := l } } : State).stage3 c t b = s.stage3 c t b := rfl

variable (hrelock : s.thermal.relock = false) (htake : takeMsg c.toNat tHint i [] s.kct.delivered = some (before, m, rest))
  (hup : s.up (pipeDom (bodyRegion m.body) (bodyPage m.body)) = true) (hup8 : s.up 8 = true)
  (hserve : mayServe before rest m = true) (hcredit : bits m.credit.toNat 15 14 = 0)
include hrelock htake hup hup8 hserve hcredit

theorem hint_busy {us : Nat} (hbusy : s.stage3 m.client m.type m.body = some us) :
    exec (.hint c i 0) s = .next (({ s with kct := { s.kct with delivered := rest } } : State).answer m stBusy us) := by
  change execHint c i 0 s = _
  simp [execHint, htake, State.up_not_failed (pipeDom_ne_zero _ _) hup, State.up_not_failed (d := 8) (by decide) hup8, hup,
    needing_of_up hrelock hup8, hserve, hcredit, State.stage3_delivered, hbusy]

theorem hint_joins (hgo : s.stage3 m.client m.type m.body = none) (htr : s.translate m.client tHint m.body = none)
    (hroom : s.tier.hints.length < 4096) :
    ∃ t, exec (.hint c i 0) s = .next t ∧ t.tier.hints = s.tier.hints ++
      [{ region := bodyRegion m.body, page := bodyPage m.body, left := bodyLen m.body, cold := beAt m.body 10 1 == 2 }] := by
  change ∃ t, execHint c i 0 s = .next t ∧ _
  simp only [execHint, htake, State.up_not_failed (pipeDom_ne_zero _ _) hup, State.up_not_failed (d := 8) (by decide) hup8, hup,
    needing_of_up hrelock hup8, hcredit, State.stage3_delivered, hgo]
  refine ⟨_, guarded_of hserve _ _, ?_⟩
  simp [State.translate_pipeCount, State.translate_setKct, htr, hroom, State.answer_tier]

end

/-- Settles O37: the ten request commands are one row, which its pipeline's domain decides; a Hint that spends no credit passes
stage 3 and the translation checks of the state itself. -/
theorem requestCommandsAreServed : Obligations.RequestCommandsAreServed := by
  intro s c i hrelock
  refine ⟨fun crc e he before m rest htake => ?_, fun before m rest htake hup hup8 hserve => ?_⟩
  · rw [exec_of_mem_requestCommands he]
    refine ⟨fun hup hserve => ?_, fun hup hwait => ?_, fun hs hfailed hserve => ?_⟩
    · rw [requestRow_up hrelock htake hup, guarded_of hserve]
    · rw [requestRow_up hrelock htake hup, hwait, guarded_false]
    · rw [requestRow_failed htake hfailed, hs, hserve, Bool.and_self, guarded_true]
  · exact ⟨fun us hcredit => hint_busy hrelock htake hup hup8 hserve hcredit,
      fun hgo hcredit => hint_joins hrelock htake hup hup8 hserve hcredit hgo⟩

end Sys2Proof.Machine
end

section
/-! Proofs about requests on their way (09, 10): bulk completions, descriptor fetches, locks, trackers, credits, page queues and
snoop responses. -/

namespace Sys2Proof.Machine

open Sys2Proof

/-! ### A request's unit -/

/-- A unit in an Up domain serves while the core clock does not relock. -/
theorem serving_of_up {s : State} {d : Nat} (hd : d ≠ 0) (hrelock : s.thermal.relock = false) (hup : s.up d = true) (f : Flight)
    (ok : Bool) (t : State) : serving d f ok s t = guarded ok s t := by
  simp [serving, State.up_not_failed hd hup, needing_of_up hrelock hup]

/-! ### Bulk completions (R262) -/

section
variable (s : State) (f : Flight) (st : Nat)

/-- A response's status is counted in a register alone. -/
theorem State.countStatus_eq : s.countStatus f st = { s with regs := (s.countStatus f st).regs } := by
  unfold State.countStatus
  split <;> rfl

@[simp] theorem State.countStatus_coh : (s.countStatus f st).coh = s.coh := by rw [State.countStatus_eq]

@[simp] theorem State.countStatus_dram : (s.countStatus f st).dram = s.dram := by rw [State.countStatus_eq]

@[simp] theorem State.countStatus_pipe : (s.countStatus f st).pipe = s.pipe := by rw [State.countStatus_eq]

/-- A counter that stays at all ones is a register alone. -/
theorem State.count_eq (a : Nat) : s.count a = { s with regs := (s.count a).regs } := by
  unfold State.count
  split <;> rfl

theorem State.crcFail_coh (b : Nat) : (s.crcFail b).coh = s.coh := by rw [State.crcFail, State.raise_coh, State.count_eq]

theorem State.crcFail_dram (b : Nat) : (s.crcFail b).dram = s.dram := by rw [State.crcFail, State.raise_dram, State.count_eq]

theorem State.crcFail_pipe (b : Nat) : (s.crcFail b).pipe = s.pipe := by rw [State.crcFail, State.raise_pipe, State.count_eq]

end

theorem bulkCompletion_answers {s : State} {c : BitVec 12} {i : BitVec 24} (k : Bool) {b : Bulk} (hs : s.live = true)
    (hb : s.coh.bulks.find? (fun b => b.client == c.toNat && b.msgId == i && b.results.all Option.isSome) = some b) :
    ∃ t, exec (.bulkCompletion c i k) s = .next t ∧ t.coh.bulks = s.coh.bulks.filter (·.id != b.id) ∧ t.dram = s.dram
      ∧ t.pipe = s.pipe := by
  change ∃ t, execBulkCompletion c i k s = .next t ∧ _
  simp only [execBulkCompletion, hb]
  cases k
  · obtain ⟨st, info, data⟩ := bulkStatus b.write (b.results.map fun r => r.getD (stInternalFault, []))
    exact ⟨_, guarded_of hs _ _, by simp [State.reply_coh], by simp [State.reply_dram], by simp [State.reply_pipe]⟩
  · exact ⟨_, guarded_of hs _ _, by simp [State.reply_coh, State.crcFail_coh], by simp [State.reply_dram, State.crcFail_dram],
      by simp [State.reply_pipe, State.crcFail_pipe]⟩

/-! ### Descriptors and locks (R9, R327, R352, R354) -/

/-- A lock's timeout is logged and counted. -/
theorem State.lockTimedOut_evtSet (s : State) (r p : Nat) : ((s.raise 0x4004).pipeCount r p 17).evtSet 0x4004 0 = true := by
  have hpipe : pipeOf r p ≤ 1 := by
    unfold pipeOf bitNat
    split <;> decide
  rw [State.pipeCount, State.evtSet_count64_body _ _ (by simp only [Reg.PIPE_CNT]; omega) (by simp only [Reg.PIPE_CNT]; omega)]
  exact State.raise_evtSet ..

section
variable {s : State} {n : Nat} {f : Flight} (hf : s.flight? n = some f)
include hf

section
variable (hs : s.live = true) (hrelock : s.thermal.relock = false) (hstage : f.stage = .fetch)
  (hup : s.up (pipeDom f.region f.page) = true)
  (hstand : s.standServes (slotStand ((descLine (s.region f.region).descBase f.page).1 / 4)) = true)
  (hchan : s.chanOpen (s.slotChan ((descLine (s.region f.region).descBase f.page).1 / 4)) = true)
include hs hrelock hstage hup hstand hchan

theorem descriptorFetchDone_installs {e : ReadErrs} {u w : State} {d : Desc}
    (hfetch : s.fetchDesc 3 f.region f.page e = (u, .ok d)) (hroom : u.dcRoom f.region f.page = some w) :
    exec (.descriptorFetchDone n e) s = .next (w.fetched f.region f.page d) := by
  change execDescriptorFetchDone n e s = _
  simp [execDescriptorFetchDone, hf, hstage, hs, hstand, hchan, hfetch, hroom, serving_of_up (pipeDom_ne_zero _ _) hrelock hup]

theorem descriptorFetchDone_uncorrectable {e : ReadErrs} {u : State} {st : LineStatus}
    (hfetch : s.fetchDesc 3 f.region f.page e = (u, .error st)) :
    exec (.descriptorFetchDone n e) s
      = .next (((u.raise 0x4003 (pageDetail f.region f.page)).respond f stUncorrectable 0 []).lockFreed f.region f.page) := by
  change execDescriptorFetchDone n e s = _
  simp [execDescriptorFetchDone, hf, hstage, hs, hstand, hchan, hfetch, serving_of_up (pipeDom_ne_zero _ _) hrelock hup]

end

theorem cacheWayUnpinned_goesOn (hrelock : s.thermal.relock = false) (hstage : f.stage = .way)
    (hroom : (s.dcRoom f.region f.page).isSome = true) (hup : s.up (pipeDom f.region f.page) = true) :
    exec (.cacheWayUnpinned n) s = .next ((s.translate7 f).wakeWaiters f.region f.page .way) := by
  change execCacheWayUnpinned n s = _
  simp [execCacheWayUnpinned, hf, hstage, hroom, serving_of_up (pipeDom_ne_zero _ _) hrelock hup]

theorem lockTimeout_home (hs : s.live = true) (hstage : f.stage = .home) :
    ∃ t u, exec (.lockTimeout n) s = .next t ∧ u.evtSet 0x4004 0 = true
      ∧ t = State.lockFreed (State.respond u f stInternalFault 0 []) f.region f.page := by
  refine ⟨_, _, ?_, s.lockTimedOut_evtSet f.region f.page, rfl⟩
  change execLockTimeout n s = _
  simp [execLockTimeout, hf, hstage, hs, State.keepsLock]

/-- A service agent whose turn at the lock passes loses it (log 206). -/
theorem lockTimeout_agent {p : LockPlace} (hs : s.live = true) (hstage : f.stage = .lock)
    (hfree : s.lockTaken f.region f.page = false) (hp : s.firstPlace f.region f.page = some p) (hwho : p.who ≠ agentMover) :
    ∃ t u, exec (.lockTimeout n) s = .next t ∧ u.evtSet 0x4004 0 = true ∧ t = State.leavePlace u p.who f.region f.page := by
  refine ⟨_, _, ?_, s.lockTimedOut_evtSet f.region f.page, rfl⟩
  change execLockTimeout n s = _
  simp [execLockTimeout, hf, hstage, hs, hfree, hp, bne_iff_ne.mpr hwho]

/-! ### Trackers, credits and page queues (R363, R367, R390, R391) -/

theorem trackerFree_closes (hrelock : s.thermal.relock = false) (hup : s.up 7 = true) (hstage : f.stage = .ackWait)
    (hack : s.acknowledged f = true) :
    exec (.trackerFree n) s = .next (if f.trk = .shared then (s.dropFlight f.id).poolFree else s.dropFlight f.id) := by
  change execTrackerFree n s = _
  simp [execTrackerFree, hf, hstage, hack, needing_of_up hrelock hup]

end

section
variable {s : State} (hrelock : s.thermal.relock = false) (hup : s.up 7 = true)
include hrelock hup

theorem creditExpire_answers {c tag : BitVec 12} {x : Credit}
    (hx : s.coh.credits.find? (fun x => x.client == c.toNat && x.tag == tag.toNat) = some x) :
    ∃ t u, exec (.creditExpire c tag) s = .next t ∧ t = State.poolFree u ∧ u.evtSet 0x5005 0 = true
      ∧ u.coh.credits = (s.dropCredit x).coh.credits := by
  refine ⟨_, (((s.dropCredit x).raise 0x5005 x.client).cohCount 8 1), ?_, rfl, ?_, ?_⟩
  · change execCreditExpire c tag s = _
    simp [execCreditExpire, hx, needing_of_up hrelock hup]
  · rw [State.cohCount, State.evtSet_count64_body _ _ (by decide) (by decide)]
    exact State.raise_evtSet ..
  · exact congrArg Coh.credits (State.raise_coh ..)

theorem pageQueueAdvance_activates {r p : Nat} {f : Flight} (hhead : s.queueHead r p = some f)
    (hfree : s.activeOn r p f.id = none) : exec (.pageQueueAdvance r p) s = .next (s.activate f) := by
  change execPageQueueAdvance r p s = _
  simp [execPageQueueAdvance, hhead, hfree, needing_of_up hrelock hup]

/-! ### Snoop responses (R376) -/

section
variable {c : BitVec 12} {i : BitVec 24} {before rest : List InMsg} {m : InMsg}
  (htake : takeMsg c.toNat tSnpResp i [] s.kct.delivered = some (before, m, rest))
include htake

theorem snpResp_unasked (hnone : s.coh.flights = []) :
    exec (.snpResp c i) s = .next { s with kct := { s.kct with delivered := rest } } := by
  change execSnpResp c i s = _
  simp [execSnpResp, htake, hnone, needing_of_up hrelock hup]

theorem snpResp_asked {f : Flight} {x : Snoop} (hf : s.coh.flights = [f]) (hx : f.snoops = [x]) (hc : x.client = c.toNat)
    (hi : x.msgId = i) (hres : x.result = none) (hwb : x.wbWait = false) :
    exec (.snpResp c i) s = .next (({ s with kct := { s.kct with delivered := rest } } : State).snpResp f x m.body) := by
  change execSnpResp c i s = _
  simp [execSnpResp, htake, hf, hx, hc, hi, hres, hwb, needing_of_up hrelock hup]

end

end

/-- Settles O39: each command answers as its lemma above says. That a service agent whose turn passes loses it is log 206. -/
theorem requestProgressCommands : Obligations.RequestProgressCommands := by
  intro s hs hrelock
  refine ⟨fun _ _ k _ => bulkCompletion_answers k hs,
    fun _ _ _ _ _ _ hf hstage hup hstand hchan hfetch hroom =>
      descriptorFetchDone_installs hf hs hrelock hstage hup hstand hchan hfetch hroom,
    fun _ _ _ _ _ hf hstage hup hstand hchan hfetch =>
      descriptorFetchDone_uncorrectable hf hs hrelock hstage hup hstand hchan hfetch,
    fun _ _ hf => cacheWayUnpinned_goesOn hf hrelock, fun _ _ hf => lockTimeout_home hf hs,
    fun _ _ _ hf => lockTimeout_agent hf hs, fun _ _ hup hf hstage hack htrk => ?_, fun _ _ hup hf hstage hack htrk => ?_,
    fun _ _ _ hup => creditExpire_answers hrelock hup, fun _ _ _ hup => pageQueueAdvance_activates hrelock hup,
    fun _ _ _ _ _ hup => snpResp_unasked hrelock hup, fun _ _ _ _ _ _ _ hup htake => snpResp_asked hrelock hup htake⟩
  · rw [trackerFree_closes hf hrelock hup hstage hack, if_neg htrk]
  · rw [trackerFree_closes hf hrelock hup hstage hack, if_pos htrk]

end Sys2Proof.Machine
end

section
/-! Proofs about a request's data (01, 12 to 16): handshakes, the lanes, the engines, the channels and the commit. -/

namespace Sys2Proof.Machine

open Sys2Proof

/-! ### A channel's lines (R552) -/

section
variable (s : State)

/-- The return of a line reaches no request's record. -/
@[simp] theorem State.returned_flight (n : Nat) (e : Entry) (i : Nat) : (s.returned n e).flight? i = s.flight? i := by
  unfold State.returned
  dsimp only
  split <;> rfl

/-- The return of a line leaves the domains. -/
@[simp] theorem State.returned_domFailed (n : Nat) (e : Entry) (d : Nat) : (s.returned n e).domFailed d = s.domFailed d := by
  unfold State.returned
  dsimp only
  split <;> rfl

@[simp] theorem State.setSub_flight (n b : Nat) (x : SubChan) (i : Nat) : (s.setSub n b x).flight? i = s.flight? i := rfl

@[simp] theorem State.setSub_domFailed (n b : Nat) (x : SubChan) (d : Nat) : (s.setSub n b x).domFailed d = s.domFailed d := rfl

end

theorem laneDom_ne_zero (k : Nat) : laneDom k ≠ 0 := by
  unfold laneDom
  split <;> decide

section
variable {s : State} {n : Nat} {f : Flight} (hf : s.flight? n = some f)
include hf

/-! ### Handshakes (R17; log 207 for the stages at which one can wait) -/

theorem handshakeTimeout_read {k : Nat} (hs : s.live = true) (hk : k ∈ [6, 7, 8]) (hstage : f.stage = .read)
    (hgo : s.stalled f = false) (cleared : Bool) :
    exec (.handshakeTimeout (.flight n) k cleared) s
      = .next (if cleared then s.handshake k true else (s.handshake k false).abort f stInternalFault) := by
  change execHandshakeTimeout (.flight n) k cleared s = _
  have hwaits : f.handshakes.contains k = true := by
    rw [Flight.handshakes, hstage]
    exact List.contains_iff_mem.mpr hk
  cases cleared <;> simp only [execHandshakeTimeout, hf, hs, hwaits, hgo, hstage] <;> rfl

omit hf in
theorem handshakeTimeout_message {c : BitVec 12} {i : BitVec 24} {m : InMsg} {k : Nat} (hs : s.live = true)
    (hrelock : s.thermal.relock = false) (hm : s.deliveredMsg c.toNat i = some m) (h2 : 2 ≤ k) (h4 : k ≤ 4)
    (hup : s.up (pipeDom (bodyRegion m.body) (bodyPage m.body)) = true) :
    exec (.handshakeTimeout (.message c i) k true) s = .next ((s.count Reg.RAS_HS_RETRY_OK).raise 0x0306) := by
  change execHandshakeTimeout (.message c i) k true s = _
  simp [execHandshakeTimeout, hm, hs, hrelock, h2, h4, hup, State.handshake]

/-! ### Demand lanes (R484, R485; log 74 for the boundary) -/

/-- What a demand lane makes of a page whose decode does not go wrong in the lane. -/
theorem decompressDone_lane {k : Nat} (hrelock : s.thermal.relock = false) (hstage : f.stage = .decode) (hk : k < 16)
    (hlane : s.dLanes.contains k = true) (hup : s.up (laneDom k) = true) (hreads : f.reads = true) (hturn : s.letsGreen f = false)
    (crc : Bool) :
    exec (.decompressDone n k false false crc) s = .next (
      if crc then (s.cmpCount 10 1).crcAbort f 9
      else match s.decode f.loc.format f.loc.dict f.plain with
        | some p => (s.cmpCount 10 1).decoded f p
        | none => ((((s.cmpCount 10 1).cmpCount 12 1).poisonRead f).raise 0x7003 (pageDetail f.region f.page)).abort f
            stUncorrectable) := by
  change execDecompressDone n k false false crc s = _
  simp only [execDecompressDone, hf, if_pos hk, needing_of_up hrelock hup, hstage, hlane, hreads, hturn]
  rw [guarded_of (by rfl)]
  cases crc <;> cases s.decode f.loc.format f.loc.dict f.plain <;> rfl

/-! ### Compression lanes (R481) -/

theorem compressDone_lane {k : Nat} {st : List Byte} (hrelock : s.thermal.relock = false) (hstage : f.stage = .compress) (hk : k < 16)
    (hup : s.up (laneDom k) = true) (hheld : f.laneHeld s = some k)
    (hwrites : s.laneWrites (s.writeClass f.region).2.1 (s.writeClass f.region).2.2 f.plain st false = true) :
    exec (.compressDone n k st false true) s = .next (s.crcAbort f 6) ∧
      (isZeroPage f.plain = true → exec (.compressDone n k st false false) s = .next (s.storePlain f f.plain false)) := by
  refine ⟨?_, fun hzero => ?_⟩
  · change execCompressDone n k st false true s = _
    simp [execCompressDone, hf, hk, needing_of_up hrelock hup, hstage, hheld, hwrites]
  · change execCompressDone n k st false false s = _
    simp [execCompressDone, hf, hk, needing_of_up hrelock hup, hstage, hheld, hwrites, hzero]

/-! ### Encryption (R505, R512, R513) -/

/-- A request's record once its unit `u`, with `r` left, has been encrypted. -/
def Flight.encrypted (f : Flight) (u : XUnit) (r : List XUnit) (k1 k2 : BitVec 256) : Flight :=
  { f with
    units := r
    cipher := f.cipher ++ [(u, xtsEnc k1 k2 (xtsTweak f.region f.page u.slotForm u.ordinal) u.plain)] }

omit hf in
theorem State.unitCheck_passes (s : State) (k : Nat) (again : Bool) : s.unitCheck k true again = (s.cryCount 0 1, true) := rfl

omit hf in
theorem State.unitCheck_failsTwice (s : State) (k : Nat) :
    s.unitCheck k false false = (((s.cryCount 0 1).cryCount 2 1).engineFail k, false) := rfl

section
variable {k : Nat} (hrelock : s.thermal.relock = false) (hstage : f.stage = .check) (hup : s.up 11 = true)
  (hengine : s.xtsEngines.contains k = true) (htype : f.type ≠ tAtomic) (hturn : s.letsGreen f = false)
include hrelock hstage hup hengine htype hturn

theorem xtsUnitCheck_noKey {u : XUnit} {r : List XUnit} (hunits : f.units = u :: r) (hkeys : s.pageKeys f.region f.page = none) :
    exec (.xtsUnitCheck n k true false false) s = .next ((s.emptySlot f.region).abort f stAccessDenied) := by
  change execXtsUnitCheck n k true false false s = _
  simp only [execXtsUnitCheck, hf, hunits, hkeys, serving_of_up (by decide) hrelock hup]
  exact guarded_of (by simp [hstage, htype, hturn, List.contains_iff_mem.mp hengine]) _ _

/-- What follows an encryption with its check, for a page with a key. -/
theorem xtsUnitCheck_keyed {u : XUnit} {r : List XUnit} {k1 k2 : BitVec 256} {ok good : Bool} {t : State} (crc : Bool)
    (hunits : f.units = u :: r) (hkeys : s.pageKeys f.region f.page = some (k1, k2))
    (hcheck : s.unitCheck k ok false = (t, good)) :
    exec (.xtsUnitCheck n k ok false crc) s = .next (
      if crc then t.crcAbort f 8
      else if good then
        if r.isEmpty then (t.putFlight (f.encrypted u r k1 k2)).allocate (f.encrypted u r k1 k2)
        else t.putFlight (f.encrypted u r k1 k2)
      else (t.raise 0x8002 (pageDetail f.region f.page)).abort f stInternalFault) := by
  change execXtsUnitCheck n k ok false crc s = _
  simp only [execXtsUnitCheck, hf, hunits, hkeys, hcheck, serving_of_up (show 11 ≠ 0 by decide) hrelock hup]
  exact guarded_of (by simp [hstage, htype, hturn, List.contains_iff_mem.mp hengine]) _ _

end

/-! ### The memory write (R15, R532, R552, R672) -/

section
variable {c : Nat} {w : LineWr} {r : List LineWr} (hs : s.live = true) (hstage : f.stage = .write) (hw : f.writes = w :: r)
  (hc : s.slotChan (w.la / 4) = c)
include hs hstage hw hc

theorem memoryWriteAccept_lost (hlost : s.chanLost c = true) :
    exec (.memoryWriteAccept n c false) s = .next (s.abort { f with writes := [] } stInternalFault) := by
  change execMemoryWriteAccept n c false s = _
  simp [execMemoryWriteAccept, hf, hstage, hs, hw, hc, hlost]

section
variable (hlost : s.chanLost c = false) (hstand : s.standServes (slotStand (w.la / 4)) = true) (hopen : s.chanOpen c = true)
include hlost hstand hopen

theorem memoryWriteAccept_overBudget (hbudget : s.withinBudget c f.master = false) :
    exec (.memoryWriteAccept n c false) s = .next (s.holdWrite f c) := by
  change execMemoryWriteAccept n c false s = _
  simp [execMemoryWriteAccept, hf, hstage, hs, hw, hc, hlost, hstand, hopen, hbudget]

omit hc in
/-- A channel in which all the lines of a write fall takes them at once. -/
theorem memoryWriteAccept_whole {es : List Entry}
    (hes : es = ((f.writes.filter fun w => s.slotChan (w.la / 4) == c).map fun w =>
      ({ la := w.la, access := .wr, cls := 2, master := f.master, bytes := w.bytes, tag := w.tag } : Entry)))
    (hbudget : s.withinBudget c f.master = true) (hyields : s.yields c f.master 2 = false) (hgreen : s.letsGreenAt f c = false)
    (hheld : f.held = []) (hfits : s.fits c 2 es = true) (hall : ∀ x ∈ f.writes, s.slotChan (x.la / 4) = c) :
    exec (.memoryWriteAccept n c false) s = .next ((((s.turned c f.master).acceptAll c f.master es).useStand
      (slotStand (w.la / 4))).putFlight { f with writes := [], stage := .commit }) := by
  have hmine : f.writes.filter (fun w => s.slotChan (w.la / 4) == c) = w :: r := by
    rw [← hw, List.filter_eq_self]
    exact fun x hx => beq_iff_eq.mpr (hall x hx)
  have hrest : f.writes.filter (fun w => s.slotChan (w.la / 4) != c) = [] :=
    List.filter_eq_nil_iff.mpr fun x hx => by simp [hall x hx]
  rw [hmine] at hes
  change execMemoryWriteAccept n c false s = _
  simp only [execMemoryWriteAccept, hf, hmine, hrest, ← hes]
  simp [hstage, hs, hlost, hstand, hopen, hbudget, hyields, hgreen, hheld, hfits]

end

end

/-! ### The commit (R13, R780) -/

theorem writeCommit_answers (hrelock : s.thermal.relock = false) (hstage : f.stage = .commit)
    (hup : s.up (pipeDom f.region f.page) = true) (crc : Bool) :
    exec (.writeCommit n crc) s = .next (if crc then s.crcAfterWrite f
      else (s.commit f).opDone { f with slots := [], newDesc := none, cipher := [], before := none }) := by
  change execWriteCommit n crc s = _
  simp only [execWriteCommit, hf, serving_of_up (pipeDom_ne_zero _ _) hrelock hup, hstage]
  rfl

/-! ### Reads that return (R552) -/

theorem memoryReadReturn_line {c b : Nat} {e : Entry} {r : List Entry} {x : ReadErrs} (hrelock : s.thermal.relock = false)
    (hret : (s.sub c b).ret = e :: r) (hacc : e.access = .rd) (hsrc : e.src = some n) (herr : e.err1 = none)
    (honce : s.mustRetry e x.first = false) (hstage : f.stage = .read) (hup : s.up 11 = true) (hwant : e.la ∈ f.want) (crc : Bool) :
    exec (.memoryReadReturn c b x crc) s
      = .next (if crc then ((s.setSub c b { s.sub c b with ret := r }).returned c e).crcAbort f 7
          else ((s.setSub c b { s.sub c b with ret := r }).returned c e).lineBack f e x) := by
  change execMemoryReadReturn c b x crc s = _
  simp [execMemoryReadReturn, hret, hacc, hsrc, herr, honce, hf, hstage, hwant, State.up_not_failed (d := 11) (by decide) hup,
    needing_of_up hrelock hup]

end

/-- Settles O43: each command answers as its lemma above says. The boundary numbers of the failing checks are log 74, the map of
handshakes to stages is log 207. -/
theorem requestDataCommands : Obligations.RequestDataCommands := by
  intro s n f hs hrelock hf
  refine ⟨fun k hk hstage hgo => ⟨handshakeTimeout_read hf hs hk hstage hgo true, handshakeTimeout_read hf hs hk hstage hgo false⟩,
    fun _ _ _ _ => handshakeTimeout_message hs hrelock, fun k hstage hk hlane hup hreads hturn => ?_,
    fun _ _ hstage hk => compressDone_lane hf hrelock hstage hk, fun k hstage hup hengine htype hturn => ?_,
    fun c w r hstage hw hc => ?_, fun hstage hup => ?_, fun c b e r x hret hacc hsrc herr honce hstage hup hwant => ?_⟩
  · have hdone := decompressDone_lane hf hrelock hstage hk hlane hup hreads hturn
    exact ⟨hdone true, fun p hp => by rw [hdone false, hp]; rfl, fun hnone => by rw [hdone false, hnone]; rfl⟩
  · refine ⟨fun u r => xtsUnitCheck_noKey hf hrelock hstage hup hengine htype hturn, fun u v r k1 k2 hunits hkeys => ?_,
      fun u r k1 k2 hunits hkeys => ⟨?_, ?_⟩⟩
    · rw [xtsUnitCheck_keyed hf hrelock hstage hup hengine htype hturn false hunits hkeys (s.unitCheck_passes k false)]
      rfl
    · exact xtsUnitCheck_keyed hf hrelock hstage hup hengine htype hturn true hunits hkeys (s.unitCheck_passes k false)
    · exact xtsUnitCheck_keyed hf hrelock hstage hup hengine htype hturn false hunits hkeys (s.unitCheck_failsTwice k)
  · exact ⟨memoryWriteAccept_lost hf hs hstage hw hc, memoryWriteAccept_overBudget hf hs hstage hw hc,
      fun es hes hlost hstand hopen => memoryWriteAccept_whole hf hs hstage hw hlost hstand hopen hes⟩
  · have hcommit := writeCommit_answers hf hrelock hstage hup
    exact ⟨fun hnone => by rw [hcommit true, if_pos rfl, State.crcAfterWrite, hnone]; rfl,
      fun hsome => by rw [hcommit true, if_pos rfl, State.crcAfterWrite, if_pos hsome], hcommit false⟩
  · have hline := memoryReadReturn_line hf hrelock hret hacc hsrc herr honce hstage hup hwant
    exact ⟨hline true, hline false⟩

end Sys2Proof.Machine
end

section
/-! SUPPORT. What every command leaves while the logic die does not run: the intake die, the power and the reset of the logic die,
and the queue. Only the rows that take a frame already received change anything else; every other row ends in a guard that fails. -/

namespace Sys2Proof.Machine

open Sys2Proof

/-! ### Changes that leave power and queue -/

/-- The state `t` has the intake die of `s`, its logic die powered, held in reset and clocked as in `s`, and the queue of `s`. -/
structure KeepsPower (s t : State) : Prop where
  intake : t.intake = s.intake
  on : t.logic.on = s.logic.on
  sysRst : t.logic.sysRst = s.logic.sysRst
  plls : t.logic.plls = s.logic.plls
  pending : t.pending = s.pending

namespace KeepsPower

variable {s t : State}

theorem refl (s : State) : KeepsPower s s := ⟨rfl, rfl, rfl, rfl, rfl⟩

theorem trans {u : State} (h : KeepsPower s t) (k : KeepsPower t u) : KeepsPower s u :=
  ⟨k.intake.trans h.intake, k.on.trans h.on, k.sysRst.trans h.sysRst, k.plls.trans h.plls,
    k.pending.trans h.pending⟩

theorem live (h : KeepsPower s t) : t.live = s.live := by rw [State.live, h.on, h.sysRst, State.live]

theorem foldl {α : Type} {f : State → α → State} (hf : ∀ t a, KeepsPower t (f t a)) (l : List α) (s : State) :
    KeepsPower s (l.foldl f s) :=
  List.foldlRecOn (motive := KeepsPower s) l f (refl s) fun t h a _ => h.trans (hf t a)

theorem ite {c : Prop} [Decidable c] {u : State} (h : KeepsPower s t) (k : KeepsPower s u) : KeepsPower s (if c then t else u) := by
  split
  · exact h
  · exact k

/-! Each change `f` as a step: what has kept power and queue so far still does after `f`. -/

variable (h : KeepsPower s t)
include h

theorem raiseAt (code inst d1 d2 : Nat) : KeepsPower s (t.raiseAt code inst d1 d2) :=
  h.trans ⟨by simp, by simp, by simp, by rw [State.raiseAt, State.occur_logic], by simp⟩

theorem setReg (a : Nat) (v : Word) : KeepsPower s (t.setReg a v) := h.trans ⟨rfl, rfl, rfl, rfl, rfl⟩

theorem setFld (a hi lo v : Nat) : KeepsPower s (t.setFld a hi lo v) := h.trans ⟨rfl, rfl, rfl, rfl, rfl⟩

theorem count64 (a n : Nat) : KeepsPower s (t.count64 a n) := setReg (h.setReg ..) ..

theorem emit (e : Emit) : KeepsPower s (t.emit e) := h.trans ⟨rfl, rfl, rfl, rfl, rfl⟩

theorem setMac (m : Nat) (v : Mac) : KeepsPower s (t.setMac m v) := h.trans ⟨rfl, rfl, rfl, rfl, rfl⟩

theorem setTime (v : TimeBase) : KeepsPower s { t with time := v } := h.trans ⟨rfl, rfl, rfl, rfl, rfl⟩

/-! ### Frames received and sent -/

theorem macCount (m c n : Nat) : KeepsPower s (t.macCount m c n) := h.count64 ..

theorem onAir (m len : Nat) : KeepsPower s (t.onAir m len) := h.trans ⟨rfl, rfl, rfl, rfl, rfl⟩

theorem setSa (m i : Nat) (v : MsSa) : KeepsPower s (t.setSa m i v) := h.trans ⟨rfl, rfl, rfl, rfl, rfl⟩

theorem txFrame (m len : Nat) : KeepsPower s (t.txFrame m len) := by
  unfold State.txFrame
  extract_lets s1 an pn v s2 s3 x
  have h1 : KeepsPower s s1 := macCount (macCount (h.onAir ..) ..) ..
  have h2 : KeepsPower s s2 := h1.setSa ..
  have h3 : KeepsPower s s3 := ite (raiseAt h2 ..) h2
  exact ite h1 (ite (raiseAt (setMac h3 ..) ..) h3)

theorem sendOwn (m len : Nat) (e : Emit) : KeepsPower s (t.sendOwn m len e) :=
  ite ((h.txFrame m _).emit _) h

theorem sendPfc (m c q : Nat) : KeepsPower s (t.sendPfc m c q) := (h.macCount ..).emit _

theorem pfcCross (m c : Nat) : KeepsPower s (t.pfcCross m c) :=
  ite h (ite (setMac (h.sendPfc ..) ..) (ite (setMac (h.sendPfc ..) ..) h))

theorem takeRx {m : Nat} {p : FrameBody → Bool} {e : RxEntry} {u : State} (hu : t.takeRx m p = some (e, u)) : KeepsPower s u := by
  unfold State.takeRx at hu
  split at hu
  · cases hu
  · rename_i x r _
    have hrx : KeepsPower s { t with ports := { t.ports with rx := r } } := h.trans ⟨rfl, rfl, rfl, rfl, rfl⟩
    cases hu
    exact ite (hrx.pfcCross ..) hrx

theorem learnGw4 (m : Nat) (ip : BitVec 32) (a : BitVec 48) : KeepsPower s (t.learnGw4 m ip a) := ite (h.setMac ..) h

theorem learnGw6 (m : Nat) (ip : BitVec 128) (a : BitVec 48) : KeepsPower s (t.learnGw6 m ip a) := ite (h.setMac ..) h

/-! ### The time base and the gates that follow it -/

theorem setGates (p : Nat) (g : Gates) : KeepsPower s (t.setGates p g) := h.trans ⟨rfl, rfl, rfl, rfl, rfl⟩

theorem gateEntry (p : Nat) (j : Bool) : KeepsPower s (t.gateEntry p j) := by
  unfold State.gateEntry
  extract_lets g i s1 x s2
  have h2 : KeepsPower s s2 := h.trans ⟨rfl, rfl, rfl, rfl, rfl⟩
  exact h2.setReg ..

theorem showGates (p : Nat) : KeepsPower s (t.showGates p) := by
  unfold State.showGates
  extract_lets g s1 s2 s3 s4
  have h1 : KeepsPower s s1 := h.trans (foldl (fun u _ => setReg (setReg (refl u) ..) ..) _ t)
  exact setReg (setReg (setReg (setReg h1 ..) ..) ..) ..

theorem gateSwitch (p T : Nat) : KeepsPower s (t.gateSwitch p T) := by
  unfold State.gateSwitch
  extract_lets g s1 st s2
  have h2 : KeepsPower s s2 := setFld (setFld (h.setGates ..) ..) ..
  exact raiseAt (gateEntry (showGates h2 p) p false) ..

theorem rephase : KeepsPower s t.rephase := by
  refine h.trans (foldl (fun u p => ite (refl u) (raiseAt ?_ _ _ _ _)) _ t)
  have hentry : KeepsPower u (if (u.gates p).oper.isEmpty then u else u.gateEntry p true) :=
    ite (refl u) (gateEntry (refl u) p true)
  split
  · exact ite (hentry.gateSwitch ..) hentry
  · exact hentry

theorem gatePps : KeepsPower s t.gatePps := h.setTime _

theorem unsync : KeepsPower s t.unsync := ite (raiseAt (gatePps (h.setTime _)) ..) h

theorem steer (x : Int) : KeepsPower s (t.steer x) := ite (h.setTime _).unsync.rephase (h.trans ⟨rfl, rfl, rfl, rfl, rfl⟩)

theorem discipline (x : Int) : KeepsPower s (t.discipline x) :=
  have hsteer := (h.setTime { t.time with offset := x }).steer x
  ite (raiseAt (setTime (setTime hsteer _) _) _ _ _ _) (hsteer.setTime _)

theorem takeSync (x y : Int) : KeepsPower s (t.takeSync x y) := discipline (h.setTime _) _

theorem takePtp (m at_ : Nat) (msg : PtpMsg) : KeepsPower s (t.takePtp m at_ msg) := by
  cases msg with
  | announce a => exact ite (h.setTime _) h
  | sync src q two x => exact ite h (ite (h.setTime _) (h.takeSync ..))
  | followUp src q x =>
    simp only [State.takePtp]
    split
    · exact ite (h.takeSync ..) h
    · exact h
  | delayResp src req q x li =>
    simp only [State.takePtp]
    split
    · exact ite (h.setTime _) h
    · exact h
  | other => exact h

end KeepsPower
end Sys2Proof.Machine
end

section
/-! SUPPORT. The answer of a row to a device whose logic die does not run, guard by guard. -/

namespace Sys2Proof.Machine

open Sys2Proof

/-- The command leaves power and queue as they are. -/
def Rests (s : State) (r : Host.Outcome State Fault Refusal) : Prop := ∃ t, r = .next t ∧ KeepsPower s t

/-! ### Guards -/

section
variable {s : State}

theorem rests_next {t : State} (h : KeepsPower s t) : Rests s (.next t) := ⟨t, rfl, h⟩

theorem rests_self : Rests s (.next s) := rests_next (.refl s)

theorem rests_wrote (c : Nat) : Rests s (.next (s.wrote c)) := rests_next ⟨rfl, rfl, rfl, rfl, rfl⟩

theorem rests_guarded {ok : Bool} (h : ok = false) (t : State) : Rests s (guarded ok s t) := by
  rw [h, guarded_false]
  exact rests_self

theorem rests_ite {c : Prop} [Decidable c] {r q : Host.Outcome State Fault Refusal} (h : Rests s r) (k : Rests s q) :
    Rests s (if c then r else q) := by
  split
  · exact h
  · exact k

end

section
variable {s : State} (hs : s.live = false)
include hs

theorem State.macUp_dead (m : Nat) : s.macUp m = false := by simp [State.macUp, State.up_dead hs]

theorem State.chanRuns_dead (n : Nat) : s.chanRuns n = false := by simp [State.chanRuns, State.up_dead hs]

theorem rests_stall (d : Nat) : Rests s (.next (s.stall d)) := by
  rw [State.stall_dead hs]
  exact rests_self

theorem rests_needing (d : Nat) (ok : Bool) (t : State) : Rests s (needing d ok s t) := by
  rw [needing_dead hs]
  exact rests_self

theorem rests_commanding (d : Nat) (ok : Bool) (t : State) : Rests s (commanding d ok s t) := by
  unfold commanding
  split
  · exact rests_wrote _
  · exact rests_needing hs ..

theorem rests_commanding2 (d e : Nat) (ok : Bool) (t : State) : Rests s (commanding2 d e ok s t) := by
  unfold commanding2
  rw [State.up_dead hs, State.stall_dead hs]
  split
  · exact rests_wrote _
  · exact rests_self

theorem rests_serving (d : Nat) (f : Flight) (ok : Bool) (t : State) : Rests s (serving d f ok s t) := by
  rw [serving, hs, Bool.false_and, Bool.false_and, if_neg Bool.false_ne_true]
  exact rests_needing hs ..

end

/-! ### Rows that take a received frame, which no guard on the logic die stops -/

section
variable (s : State) (m : Nat)

theorem rests_execPfcReceive : Rests s (execPfcReceive m s) := by
  unfold execPfcReceive
  split
  · rename_i e t ht
    have hkeep : KeepsPower s t := (KeepsPower.refl s).takeRx ht
    split
    · exact rests_next (.setMac (.ite (hkeep.macCount ..) ((hkeep.macCount ..).macCount ..)) ..)
    · exact rests_self
  · exact rests_self

theorem rests_execArpRequest : Rests s (execArpRequest m s) := by
  unfold execArpRequest
  split
  · rename_i e t ht
    have hkeep : KeepsPower s t := (KeepsPower.refl s).takeRx ht
    split
    · exact rests_next (.ite ((hkeep.learnGw4 ..).sendOwn ..) (hkeep.learnGw4 ..))
    · exact rests_self
  · exact rests_self

theorem rests_execNeighborSolicitation : Rests s (execNeighborSolicitation m s) := by
  unfold execNeighborSolicitation
  split
  · rename_i e t ht
    have hkeep : KeepsPower s t := (KeepsPower.refl s).takeRx ht
    split
    · exact rests_next (.ite ((hkeep.learnGw6 ..).sendOwn ..) (hkeep.learnGw6 ..))
    · exact rests_self
  · exact rests_self

theorem rests_execEchoRequest : Rests s (execEchoRequest m s) := by
  unfold execEchoRequest
  split
  · rename_i e t ht
    have hkeep : KeepsPower s t := (KeepsPower.refl s).takeRx ht
    split
    · exact rests_ite (rests_next ((hkeep.setMac ..).sendOwn ..)) (rests_next (hkeep.macCount ..))
    · exact rests_self
  · exact rests_self

theorem rests_execPtpMessage : Rests s (execPtpMessage m s) := by
  unfold execPtpMessage
  split
  · rename_i e t ht
    have hkeep : KeepsPower s t := (KeepsPower.refl s).takeRx ht
    split
    · exact rests_next (.ite (hkeep.takePtp ..) hkeep)
    · exact rests_self
  · exact rests_self

end

/-! ### Rows whose guard depends on what waits -/

section
variable {s : State} (hs : s.live = false)
include hs

theorem rests_kctRow (m : Nat) (p : Nat → Bool) (f : State → EthFrame → BaseHeader → Sealed → State) :
    Rests s (kctRow m p f s) := by
  unfold kctRow
  split
  · exact rests_self
  · split
    · exact rests_needing hs ..
    · exact rests_self

theorem rests_requestRow (t : Nat) (c : BitVec 12) (i : BitVec 24) (crc : Nat) : Rests s (requestRow t c i crc s) := by
  unfold requestRow
  split
  · exact rests_self
  · exact rests_ite (rests_guarded (by simp [hs]) _) (rests_needing hs ..)

theorem rests_winCmd (x y : BitVec 80) (op : SramOp) (meet : Option SramMeet) : Rests s (winCmd s x y op meet) := by
  have hguard (t : State) : Rests s (guarded s.live s t) := rests_guarded hs t
  exact rests_ite (hguard _) (rests_ite (hguard _) (rests_ite (hguard _) (rests_commanding hs ..)))

theorem rests_execWarmReset (auto : Bool) (v : Word) : Rests s (execWarmReset auto v s) :=
  rests_ite (rests_guarded (by simp [State.warmable, hs]) _) (rests_guarded hs _)

theorem rests_execPllLockTimeout (p : Pll) : Rests s (execPllLockTimeout p s) := by
  unfold execPllLockTimeout
  split
  · exact rests_guarded hs _
  · exact rests_guarded hs _
  · exact rests_self

theorem rests_execHint (c : BitVec 12) (i : BitVec 24) (crc : Nat) : Rests s (execHint c i crc s) := by
  unfold execHint
  split
  · exact rests_self
  · exact rests_ite (rests_guarded (by simp [hs]) _) (rests_ite (rests_needing hs ..) (rests_stall hs _))

theorem rests_execDescriptorFetchDone (i : Nat) (e : ReadErrs) : Rests s (execDescriptorFetchDone i e s) := by
  unfold execDescriptorFetchDone
  split
  · exact rests_self
  · rw [hs]
    simp only [Bool.not_false, or_true, if_true]
    exact rests_self

theorem rests_execMemoryWriteAccept (i n : Nat) (crc : Bool) : Rests s (execMemoryWriteAccept i n crc s) := by
  unfold execMemoryWriteAccept
  split
  · exact rests_self
  · rw [hs]
    simp only [Bool.not_false, or_true, if_true]
    exact rests_self

theorem rests_execMemoryReadReturn (n b : Nat) (e : ReadErrs) (crc : Bool) : Rests s (execMemoryReadReturn n b e crc s) := by
  unfold execMemoryReadReturn
  extract_lets x
  split
  · exact rests_self
  · refine rests_ite (rests_guarded hs _) (rests_ite (rests_guarded hs _) ?_)
    split
    · exact rests_guarded hs _
    · exact rests_ite (rests_guarded hs _) (rests_needing hs ..)

theorem rests_execLockTimeout (i : Nat) : Rests s (execLockTimeout i s) := by
  unfold execLockTimeout
  split
  · exact rests_self
  · refine rests_ite ?_ (rests_guarded (by simp [hs]) _)
    split
    · exact rests_guarded (by simp [hs]) _
    · exact rests_self

theorem rests_execHandshakeTimeout (w : HsRef) (k : Nat) (b : Bool) : Rests s (execHandshakeTimeout w k b s) := by
  unfold execHandshakeTimeout
  dsimp only
  split <;> split
  · exact rests_self
  · exact rests_guarded (by simp [hs]) _
  · exact rests_self
  · exact rests_guarded (by simp [hs]) _

theorem rests_execCompressDone (i k : Nat) (l : List Byte) (b crc : Bool) : Rests s (execCompressDone i k l b crc s) := by
  unfold execCompressDone
  split
  · exact rests_self
  · exact rests_ite (rests_needing hs ..) rests_self

theorem rests_execDecompressDone (i k : Nat) (a b crc : Bool) : Rests s (execDecompressDone i k a b crc s) := by
  unfold execDecompressDone
  split
  · exact rests_self
  · exact rests_ite (rests_needing hs ..) rests_self

theorem rests_execXtsUnitCheck (i k : Nat) (a b crc : Bool) : Rests s (execXtsUnitCheck i k a b crc s) := by
  unfold execXtsUnitCheck
  split
  · exact rests_self
  · split
    · exact rests_self
    · exact rests_serving hs ..

theorem rests_execEvacData (a b : Nat) (l : List Byte) (x y z : Bool) (k : Nat) (u v w : Bool) (e : ReadErrs) :
    Rests s (execEvacData a b l x y z k u v w e s) := by
  have hguard (t : State) : Rests s (guarded s.live s t) := rests_guarded hs t
  unfold execEvacData
  split
  · exact rests_self
  · refine rests_ite (hguard _) ?_
    split
    · exact hguard _
    · refine rests_ite (hguard _) (rests_ite (hguard _) (rests_ite (hguard _) (rests_ite ?_ ?_)))
      · exact rests_needing hs ..
      · exact rests_stall hs _

end

/-! ### Every row -/

/-- The rows that the intake die, VSTBY or the release from reset answer: whether they act is no matter of the logic die. -/
def ofSupply (c : Instr) : Bool :=
  match c with
  | .intakeLinkTimeout | .thermalTrip | .vstbyRise | .vstbyFall | .intakeStrapSample _ _ | .profileWordProgrammed |
    .plausibilityFault | .senseDisagree | .feedValid _ | .feedInvalid _ | .feedSwitch | .feedBreakEnd | .feedBelowVrst |
    .feedOvervoltage | .feedReturn | .softStart | .passFetDrive | .currentLimitEnter | .currentLimitLeave |
    .ftimerExpired | .pgOutAssert | .curveTrip | .i2tTrip | .fastTrip | .fetOvertemp | .retryCoolEnd | .retryEnd |
    .faultCountReset | .shortFet | .openFet | .removal _ _ | .insertionComplete | .earlyWarning | .dipRecovered |
    .seqInAssert | .seqTimeout | .seqOutAssert | .offPassFetOff | .seqWakeEdge | .porRelease _ _ | .vrmPgTimeout |
    .vrmPgLost | .sysRstAssert | .sysRstRelease _ _ | .evaluationTick _ _ _ _ _ => true
  | _ => false

/-- While the logic die does not run, a row that the supply does not answer leaves power and queue as they are. -/
theorem exec_rests_of_dead {s : State} {c : Instr} (hs : s.live = false) (hc : ofSupply c = false) : Rests s (exec c s) := by
  have hup : ∀ d, s.up d = false := State.up_dead hs
  cases c
  -- The guard asks that the logic die runs, or that a domain, a MAC or a channel does.
  case intakeLinkFrame | logicLinkTimeout | faultWireAssert | pllLock | intEvtHistDelivery | braceEntry | lastGaspWritten |
    offReq | bootStart | imageHeadersRead | imageVerified | imageApply | regPollTimeout | bootMarchDone | dimmDiscovery |
    pmicPowerGood | pmicGoodTimeout | channelResetRelease | trainingComplete | bootReady | bootHalt | limitedEntry |
    bootContinue | warmDrainEnd | warmSweepDone | flashRead | flashProgram | flashErase | fuseProg | registerWrite |
    pageEnable | pageSoftReset | softResetDone | pageLock | evtStatusClear | evtForce | eventRaise | eventDelivery |
    parityScan | mgmtRead | mgmtWrite | mgrLock | opStart | opSuspend | opResume | opCancel | opAdmit | opSuspendPoint |
    opFinished | opCleanupDone | linkDown | pfcPauseExpire | ptpTimeout | ptpSet | ppsOutSecond | ppsInEdge |
    ppsInMissing | clockMonitor | dupStateMismatch | epochAdvance | standWakeDone | fpChange | fpChangeDone |
    trainingPhaseEnd | phaseLimitExpire | selfRefreshAbort | selfRefreshExit | scrubLeadReached | scrubPassLate |
    bankOwnerWrite | bankClearDone | bistCycleLate | pwrReqWrite | idleDrowsyExpire | idleDormantExpire | alarm |
    entryLimitExpire | offRequest | offSessionsEnded | domainPowerUp | domainUp | domainWakeTimeout |
    domainHysteresisExpire | domainPowerDownDone | pwrVoteWrite | thermalSample | sensorInvalid | coreClockRelock |
    marchSramDone | importClose | ppsOutFall | scrubLine | scrubTargetReached | scrubPassEnd | intUnlock | intProfileProg |
    intCfgCommit | intFaultClear =>
    exact rests_guarded (by simp [hs, State.scrubOn, State.linkTakes]) _
  case linkUp | failback | fecAlarm | sessionEnd | ackSend | nakDelayExpire | deadTimeExpire | keepaliveTimer |
    rekeyGraceExpire | rateIncrease | dwkProvisioned | refreshDue | sensorPoll | sensorUnreadable | selfRefreshEntry |
    clkStopDelayExpire | frameTransmit | yellowAgeExpire | clockIdleGate | gateListEntryEnd =>
    exact rests_guarded (by simp [hup]) _
  case frameReceive | pfcRepeat | gatewayResolve | wakeFrameMatch | delayReqSend =>
    exact rests_guarded (by simp [State.txOk, State.macUp_dead hs]) _
  case dramCommandIssue | entryAged | rowIdleExpire | parityAlert | recalibrate | pdIdleExpire =>
    exact rests_guarded (by simp [State.chanRuns_dead hs]) _
  case regionInitDone | regionDisableDrained | regionReleased | dcFlushDone | scanPassEnd | moveStart | promoHoldExpire |
    floorLingerExpire | moverStop | thinningRun | stretchRebuildDone | regWindowBoundary | migrateTierPage |
    drainStandMove | thinStandMove | importOpen | evacSend | summaryReloadDone =>
    exact rests_needing hs ..
  case sessCtrlClose | sessCtrlSwitch | sgRead | sgAdd | sgRemove | sgClear | regionRead | regionCreate | regionModify |
    regionDisable | regionEnable | regionDestroy | grantRead | grantAdd | grantModify | grantRemove | descRead |
    descSetPin | descClearPin | dcFlush | tierPolCommit | tierStandCfgWrite | claneReturn | dlaneReturn | classDataWrite |
    classCommit | classUnload | classClearStage | dwkBurn | keySlotLoad | keySlotZeroise | keySlotRead | xtsEngineReturn |
    fpTargetWrite | dimmOff | cetClearSel | cetClearAll | mregCommit | mregEfficiencyWrite | sessShapeWrite | cshpWrite |
    gclCommit | ingSessCfgWrite | ingProfileRead | ingProfileWrite =>
    exact rests_commanding hs ..
  case msSaInstall | keyInstall =>
    exact rests_commanding2 hs ..
  case eraseRegionStep | resizeRegionStep =>
    exact rests_ite (rests_needing hs ..) (rests_needing hs ..)
  case retireStep =>
    exact rests_ite (rests_needing hs ..) (rests_ite (rests_needing hs ..) (rests_needing hs ..))
  -- The TAP and the keepalive frame act whatever is powered.
  case tapReset => exact rests_next ⟨rfl, rfl, rfl, rfl, rfl⟩
  case tapInstruction i b =>
    refine rests_next (.ite ⟨rfl, rfl, rfl, rfl, rfl⟩ ?_)
    cases i <;> exact ⟨rfl, rfl, rfl, rfl, rfl⟩
  case intakeKeepaliveFrame => exact rests_next (.ite ⟨rfl, rfl, rfl, rfl, rfl⟩ (.refl s))
  -- Nothing waits, or the guard on what waits fails.
  case sessionOpenDeferred | hintPage | trackerFree | creditExpire | pageQueueAdvance | snpResp | holderSweepStart |
    holderSweepPage | holderSweepEnd | scanVisit | batchClose | batchWrite | classUnloadDone | gcmSegmentVerify |
    rekeyPage =>
    unfold exec
    simp only [execSessionOpenDeferred, execHintPage, execTrackerFree, execCreditExpire, execPageQueueAdvance,
      execSnpResp, execHolderSweepStart, execHolderSweepPage, execHolderSweepEnd, execScanVisit, execBatchClose,
      execBatchWrite, execClassUnloadDone, execGcmSegmentVerify, execRekeyPage]
    split
    · exact rests_self
    · exact rests_needing hs ..
  case moveCommit | demoteUnderstory | promoteCanopy =>
    unfold exec
    simp only [execMoveCommit, execDemoteUnderstory, execPromoteCanopy]
    split
    · exact rests_self
    · simp only [hup, Bool.false_and, Bool.false_eq_true, if_false, State.stall_dead hs]
      exact rests_self
  case warmSweepDescriptor | lastGaspErase | flashOpDone | opCommand | opError | bulkCompletion | entryQuiesced |
    entrySaved | entryDramDone | pointOfNoReturn | entryDone | scrubNowLine | evacAck | intLinkWriteAck =>
    unfold exec
    simp only [execWarmSweepDescriptor, execLastGaspErase, execFlashOpDone, execOpCommand, execOpError,
      execBulkCompletion, execEntryQuiesced, execEntrySaved, execEntryDramDone, execPointOfNoReturn, execEntryDone,
      execScrubNowLine, execEvacAck, execIntLinkWriteAck]
    split
    · exact rests_self
    · exact rests_guarded (by simp [hs]) _
  case anTimeout | retransmitTimeout | snoopTimeout =>
    unfold exec
    simp only [execAnTimeout, execRetransmitTimeout, execSnoopTimeout]
    split
    · exact rests_self
    · exact rests_guarded (by simp [hup]) _
  case egressQueueRoom | gclSwitch =>
    unfold exec
    simp only [execEgressQueueRoom, execGclSwitch]
    split
    · exact rests_guarded (by simp [hup]) _
    · exact rests_self
  case alertWaitEnd =>
    unfold exec
    simp only [execAlertWaitEnd]
    split
    · exact rests_self
    · exact rests_guarded (State.chanRuns_dead hs _) _
  case wheelSlot =>
    unfold exec
    simp only [execWheelSlot]
    split <;> exact rests_guarded (by simp [hup]) _
  case bistRegionTest =>
    unfold exec
    simp only [execBistRegionTest]
    split <;> exact rests_guarded (by simp [hs]) _
  case exitWave =>
    unfold exec
    simp only [execExitWave]
    split
    · exact rests_self
    · exact rests_ite (rests_guarded hs _) (rests_guarded (by simp [hs]) _)
  case cacheWayUnpinned | writeCommit =>
    unfold exec
    simp only [execCacheWayUnpinned, execWriteCommit]
    split
    · exact rests_self
    · exact rests_serving hs ..
  case hello | segmentReceive | ackReceive | keepaliveReceive | nakReceive | closeReceive | helloAckReceive =>
    unfold exec
    simp only [execHello, execSegmentReceive, execAckReceive, execKeepaliveReceive, execNakReceive, execCloseReceive,
      execHelloAckReceive]
    exact rests_kctRow hs ..
  case readShared | readOwn | upgrade | readCurrent | writeThrough | writeBackDirty | evictClean | atomic | readBulk |
    writeBulk =>
    exact rests_requestRow hs ..
  case winRead | winWrite | winAdd | winSwap | winSet | winClear =>
    exact rests_winCmd hs ..
  case warmReset => exact rests_execWarmReset hs ..
  case pllLockTimeout => exact rests_execPllLockTimeout hs ..
  case hint => exact rests_execHint hs ..
  case descriptorFetchDone => exact rests_execDescriptorFetchDone hs ..
  case memoryWriteAccept => exact rests_execMemoryWriteAccept hs ..
  case memoryReadReturn => exact rests_execMemoryReadReturn hs ..
  case lockTimeout => exact rests_execLockTimeout hs ..
  case handshakeTimeout => exact rests_execHandshakeTimeout hs ..
  case compressDone => exact rests_execCompressDone hs ..
  case decompressDone => exact rests_execDecompressDone hs ..
  case xtsUnitCheck => exact rests_execXtsUnitCheck hs ..
  case evacData => exact rests_execEvacData hs ..
  case pfcReceive => exact rests_execPfcReceive ..
  case arpRequest => exact rests_execArpRequest ..
  case neighborSolicitation => exact rests_execNeighborSolicitation ..
  case echoRequest => exact rests_execEchoRequest ..
  case ptpMessage => exact rests_execPtpMessage ..
  all_goals exact nomatch hc

end Sys2Proof.Machine
end

section
/-! Proofs about the device without VSTBY (02, 03): no row but VSTBY_RISE ends that state, since each row of the supply asks for
something that an intake die without power does not hold, and every other row rests while the logic die does not run. -/

namespace Sys2Proof.Machine

open Sys2Proof

/-! ### A step -/

theorem step_nil {s : State} (h : s.pending = []) : step s = .next s.idle := by rw [step, h]

theorem step_cons {s : State} {c : Instr} {r : List Instr} (h : s.pending = c :: r) : step s = exec c { s with pending := r } := by
  rw [step, h]

/-! ### The device without VSTBY -/

section
variable {s : State}

/-- What `dark` says: of the intake die nothing but its fuses, and no power at the logic die. -/
theorem State.dark_iff :
    s.dark = true ↔ s.intake = { profile := s.intake.profile, burned := s.intake.burned } ∧ s.logic.on = false := by
  simp [State.dark]

theorem State.dark_of_keepsPower {t : State} (h : KeepsPower s t) (hs : s.dark = true) : t.dark = true := by
  rw [State.dark, h.intake, h.on]
  exact hs

theorem State.live_of_dark (hs : s.dark = true) : s.live = false := by
  rw [State.live, (State.dark_iff.mp hs).2, Bool.false_and]

/-- Without VSTBY no row of the supply but VSTBY_RISE acts (R35, R36, R82). -/
theorem exec_rests_of_dark {c : Instr} (hs : s.dark = true) (hc : ofSupply c = true) (hrise : c ≠ .vstbyRise) :
    Rests s (exec c s) := by
  obtain ⟨hintake, hon⟩ := State.dark_iff.mp hs
  generalize s.intake.profile = p, s.intake.burned = b at hintake
  cases c
  case vstbyRise => exact absurd rfl hrise
  case intakeLinkTimeout | vstbyFall | intakeStrapSample | plausibilityFault | senseDisagree | feedValid | feedBelowVrst |
    feedReturn | passFetDrive | currentLimitEnter | currentLimitLeave | ftimerExpired | pgOutAssert | curveTrip | i2tTrip |
    fastTrip | fetOvertemp | retryCoolEnd | retryEnd | faultCountReset | shortFet | openFet | removal | insertionComplete |
    earlyWarning | dipRecovered | seqInAssert | seqTimeout | seqOutAssert | offPassFetOff | seqWakeEdge | porRelease |
    vrmPgTimeout | vrmPgLost | evaluationTick =>
    exact rests_guarded (by simp [hintake]) _
  case thermalTrip | sysRstAssert | sysRstRelease => exact rests_guarded (by simp [hon]) _
  case softStart => exact rests_guarded (by simp [State.startReady, Intake.fed, hintake]) _
  case feedInvalid f => exact rests_guarded (by cases f <;> simp [Intake.valid, hintake]) _
  case profileWordProgrammed | feedSwitch | feedBreakEnd | feedOvervoltage =>
    unfold exec
    simp only [execProfileWordProgrammed, execFeedSwitch, execFeedBreakEnd, execFeedOvervoltage, hintake]
    exact rests_self
  all_goals exact nomatch hc

/-- A row that is not VSTBY_RISE leaves a device without VSTBY as the supply has left it. -/
theorem exec_rests_of_dark_of_ne {c : Instr} (hs : s.dark = true) (hrise : c ≠ .vstbyRise) : Rests s (exec c s) := by
  cases hc : ofSupply c
  · exact exec_rests_of_dead (State.live_of_dark hs) hc
  · exact exec_rests_of_dark hs hc hrise

end

/-- Settles O6, by what the row at the front of the queue does: neither a row of the logic die, which does not run, nor a row of
the supply acts, and an empty queue lets time pass alone. -/
theorem nothingRunsWithoutVstby : Obligations.NothingRunsWithoutVstby := by
  intro s t hs hq hstep
  cases hp : s.pending with
  | nil =>
    rw [step_nil hp] at hstep
    cases hstep
    exact ⟨hs, hq⟩
  | cons c r =>
    obtain ⟨hc, hr⟩ := List.forall_mem_cons.mp (hp ▸ hq)
    have hrests : Rests { s with pending := r } (exec c { s with pending := r }) := exec_rests_of_dark_of_ne hs hc
    obtain ⟨u, hu, hkeep⟩ := hrests
    rw [step_cons hp, hu] at hstep
    cases hstep
    exact ⟨State.dark_of_keepsPower hkeep hs, hkeep.pending ▸ hr⟩

end Sys2Proof.Machine
end

section
/-! SUPPORT. What a request at a home page leaves as it goes on or is given up: the intake die, the power, reset and clocks of the
logic die, and the queue (08, 10 to 13). -/

namespace Sys2Proof.Machine

open Sys2Proof

namespace KeepsPower

variable {s t : State} (h : KeepsPower s t)
include h

/-! ### Counters and tables -/

theorem raise (code d1 d2 : Nat) : KeepsPower s (t.raise code d1 d2) := h.raiseAt ..

theorem count (a : Nat) : KeepsPower s (t.count a) := ite h (h.setReg ..)

theorem setBank (b : Nat) (v : SramBank) : KeepsPower s (t.setBank b v) := h.trans ⟨rfl, rfl, rfl, rfl, rfl⟩

theorem setDom (d : Nat) (v : Dom) : KeepsPower s (t.setDom d v) := h.trans ⟨rfl, rfl, rfl, rfl, rfl⟩

theorem setCtx (c : Nat) (v : Ctx) : KeepsPower s (t.setCtx c v) := h.trans ⟨rfl, rfl, rfl, rfl, rfl⟩

theorem setChan (n : Nat) (v : Chan) : KeepsPower s (t.setChan n v) := h.trans ⟨rfl, rfl, rfl, rfl, rfl⟩

theorem setSub (n b : Nat) (v : SubChan) : KeepsPower s (t.setSub n b v) := h.setChan ..

theorem setStand (k : Nat) (v : Stand) : KeepsPower s (t.setStand k v) := h.trans ⟨rfl, rfl, rfl, rfl, rfl⟩

theorem setTier (v : Tier) : KeepsPower s { t with tier := v } := h.trans ⟨rfl, rfl, rfl, rfl, rfl⟩

theorem setRegion (r : Nat) (v : Region) : KeepsPower s (t.setRegion r v) := h.trans ⟨rfl, rfl, rfl, rfl, rfl⟩

theorem setDc (r p : Nat) (e : Option DcEntry) : KeepsPower s (t.setDc r p e) := h.trans ⟨rfl, rfl, rfl, rfl, rfl⟩

theorem putFlight (f : Flight) : KeepsPower s (t.putFlight f) := h.trans ⟨rfl, rfl, rfl, rfl, rfl⟩

theorem dropFlight (id : Nat) : KeepsPower s (t.dropFlight id) := h.trans ⟨rfl, rfl, rfl, rfl, rfl⟩

theorem bulkResult (b i st : Nat) (l : List Byte) : KeepsPower s (t.bulkResult b i st l) := h.trans ⟨rfl, rfl, rfl, rfl, rfl⟩

theorem addClassPages (c : Nat) (n : Int) : KeepsPower s (t.addClassPages c n) := h.trans ⟨rfl, rfl, rfl, rfl, rfl⟩

theorem addHeld (c : Nat) (n o : Int) : KeepsPower s (t.addHeld c n o) := h.setCtx ..

theorem stall (d : Nat) : KeepsPower s (t.stall d) := ite (h.setDom ..) h

/-- A fold of steps goes on from what has kept power and queue. -/
theorem steps {α : Type} {f : State → α → State} (hf : ∀ u a, KeepsPower u (f u a)) (l : List α) :
    KeepsPower s (l.foldl f t) :=
  h.trans (foldl hf l t)

/-! ### Answers to clients -/

theorem sendSeg (c k ch : Nat) (m : BitVec 24) (st i : Nat) (last ar : Bool) (l : List Byte) (d : Option Dest) :
    KeepsPower s (t.sendSeg c k ch m st i last ar l d) := h.trans ⟨rfl, rfl, rfl, rfl, rfl⟩

theorem sendSegs (c k ch : Nat) (m : BitVec 24) (st lim n i : Nat) (l : List Byte) :
    KeepsPower s (t.sendSegs c k ch m st lim n i l) := by
  induction n generalizing t i l with
  | zero => exact h
  | succ n ih => exact ite (h.sendSeg ..) (ih (h.sendSeg ..) ..)

theorem sendMsg (c k : Nat) (m : BitVec 24) (st : Nat) (l : List Byte) : KeepsPower s (t.sendMsg c k m st l) :=
  ite (h.sendSegs ..) h

theorem reply (c : Nat) (e : BitVec 4) (k : Nat) (m : BitVec 24) (st : Nat) (l : List Byte) : KeepsPower s (t.reply c e k m st l) :=
  ite (h.sendMsg ..) h

theorem countStatus (f : Flight) (st : Nat) : KeepsPower s (t.countStatus f st) := by
  unfold State.countStatus
  split
  · exact h.count64 ..
  · exact h

/-! ### Slots and releases -/

theorem judgePressure : KeepsPower s t.judgePressure := by
  unfold State.judgePressure
  extract_lets awake tier u free low
  have hu : KeepsPower s u := ite (h.setTier _) h
  exact ite (hu.setTier _) (ite (ite (hu.setTier _) hu) (ite (raise (hu.setTier _) ..) hu))

theorem setBitmap (p : Nat) (b : BitVec 256) : KeepsPower s (t.setBitmap p b) := setStand (h.setTier _) ..

theorem freeSlots (l : List Nat) : KeepsPower s (t.freeSlots l) :=
  judgePressure (h.steps (fun u _ => ite (ite (refl u) ((refl u).setTier _)) ((refl u).setBitmap ..)) l)

theorem released (r : Release) : KeepsPower s (t.released r) := by
  unfold State.released
  split
  · exact (h.freeSlots _).addClassPages ..
  · exact h.freeSlots _

theorem passed (i : Nat) : KeepsPower s (t.passed i) := (h.setTier _).steps (fun u r => (refl u).released r) _

/-! ### The end of a request -/

theorem unlock (f : Flight) : KeepsPower s (t.unlock f) := by
  unfold State.unlock
  split
  · exact ite (h.setDc ..) h
  · exact h

theorem respond (f : Flight) (st info : Nat) (l : List Byte) : KeepsPower s (t.respond f st info l) := by
  unfold State.respond
  extract_lets s0 s1 s2
  have h0 : KeepsPower s s0 := (h.unlock f).passed _
  refine ite (h0.dropFlight _) ?_
  split
  · have h1 := h0.bulkResult
    exact ite ((h1 ..).dropFlight _) ((h1 ..).putFlight _)
  · have h1 : KeepsPower s s1 := ite h0 (h0.countStatus ..)
    have h2 : KeepsPower s s2 := ite h1 (ite (h1.reply ..) (h1.reply ..))
    exact ite (h2.dropFlight _) (h2.putFlight _)

theorem tellAll (st : Nat) (l : List PageOp) : KeepsPower s (t.tellAll st l) := by
  refine h.steps (fun u op => ?_) l
  cases op with
  | tell g =>
    show KeepsPower u (match u.flight? g with | some x => u.respond x st 0 [] | none => u)
    split
    · exact (refl u).respond ..
    · exact refl u
  | _ => exact refl u

theorem abort (f : Flight) (st : Nat) : KeepsPower s (t.abort f st) := ((h.freeSlots _).respond ..).tellAll ..

theorem failStage (st : Stage) : KeepsPower s (t.failStage st) := by
  refine h.steps (fun u x => ?_) _
  split
  · exact ite ((refl u).abort ..) (refl u)
  · exact refl u

/-! ### Descriptors -/

theorem account (r : Nat) (a b : Desc) : KeepsPower s (t.account r a b) := by
  unfold State.account
  extract_lets x s1 s2 s3 s4 s5 canopy
  have h2 : KeepsPower s s2 := (h.setRegion ..).steps (fun u c => (refl u).addHeld ..) _
  have h3 : KeepsPower s s3 := h2.steps (fun u c => (refl u).addHeld ..) _
  have h4 : KeepsPower s s4 := ite (h3.addClassPages ..) h3
  have h5 : KeepsPower s s5 := ite (h4.addClassPages ..) h4
  have hc : ∀ {u} d n, KeepsPower s u → KeepsPower s (canopy u d n) := fun d n hu => ite (hu.setStand ..) hu
  exact hc b 1 (hc a (-1) h5)

theorem putDesc (r p : Nat) (d : Desc) : KeepsPower s (t.putDesc r p d) := by
  unfold State.putDesc
  split
  · exact h
  · exact ite h ((h.setDc ..).account ..)

theorem deadHolder (r p c : Nat) : KeepsPower s (t.deadHolder r p c).1 := by
  unfold State.deadHolder
  extract_lets d
  split
  · exact ((h.putDesc ..).raise ..).count64 ..
  · split
    · exact h.putDesc ..
    · exact h

theorem restoreBefore (f : Flight) : KeepsPower s (t.restoreBefore f) := by
  unfold State.restoreBefore
  split
  · exact h
  · exact (h.putDesc ..).steps (fun u c => (refl u).deadHolder ..) _

theorem crcAbort (f : Flight) (b : Nat) : KeepsPower s (t.crcAbort f b) :=
  (((h.count _).raise ..).restoreBefore f).abort ..

theorem finish (f : Flight) : KeepsPower s (t.finish f) := by
  unfold State.finish
  extract_lets s1 status
  have h1 : KeepsPower s s1 := ite (h.putDesc ..) h
  exact ite (h.crcAbort ..) (h1.respond ..)

theorem inferTransit (r p : Nat) : KeepsPower s (t.inferTransit r p) := ite (((h.putDesc ..).count64 ..).raise ..) h

theorem restoreTransit (r p : Nat) : KeepsPower s (t.restoreTransit r p) := by
  unfold State.restoreTransit
  extract_lets d
  refine ite ?_ h
  split
  · exact (h.putDesc ..).count64 ..
  · exact h.inferTransit ..

/-! ### Entries at a memory channel -/

theorem chargeMem (m n k : Nat) : KeepsPower s (t.chargeMem m n k) := by
  unfold State.chargeMem
  extract_lets c s1 g s2
  have h1 : KeepsPower s s1 := h.setChan ..
  have h2 : KeepsPower s s2 := h1.trans ⟨rfl, rfl, rfl, rfl, rfl⟩
  exact h2.count64 ..

theorem acceptEntry (n : Nat) (e : Entry) : KeepsPower s (t.acceptEntry n e) := by
  unfold State.acceptEntry
  extract_lets b x e' own
  have hown : KeepsPower s own := h.setSub ..
  split
  · exact ite (ite ((h.setSub ..).count64 ..) hown) (h.setSub ..)
  · exact hown

theorem acceptAll (n m : Nat) (l : List Entry) : KeepsPower s (t.acceptAll n m l) :=
  (h.chargeMem ..).steps (fun u e => (refl u).acceptEntry n e) l

theorem stallChan (n : Nat) : KeepsPower s (t.stallChan n) := (h.stall 12).stall _

theorem setPortReq (n : Nat) (r : PortReq) (x : Option PortReq) : KeepsPower s (t.setPortReq n r x) := h.setChan ..

theorem turned (n m : Nat) : KeepsPower s (t.turned n m) := by
  unfold State.turned
  extract_lets c
  split
  · exact h
  · exact h.setChan ..
  · exact h.setChan ..

theorem holdMax (m x : Nat) : KeepsPower s (t.holdMax m x) := ite (h.setReg ..) h

theorem pumpGo (n k : Nat) (l : List Nat) (lim : Nat) : KeepsPower s (t.pumpGo n k l lim) := by
  induction k generalizing t l lim with
  | zero => exact h
  | succ k ih =>
    unfold State.pumpGo
    split
    · exact h
    · extract_lets s1 s2
      have h1 : KeepsPower s s1 := ite h ((h.count64 ..).setPortReq ..)
      have h2 : KeepsPower s s2 := ((h.setPortReq ..).turned ..).acceptAll ..
      exact ite (ih h1 ..) (ite (ih h ..) (ih (ite (h2.holdMax ..) h2) ..))

theorem pump (n : Nat) : KeepsPower s (t.pump n) :=
  ite ((h.setChan ..).steps (fun u _ => (refl u).setSub ..) _) (ite (h.pumpGo ..) h)

theorem sendReads (m cls : Nat) (src : Option Nat) (l : List Nat) : KeepsPower s (t.sendReads m cls src l) :=
  h.steps (fun u n => (((refl u).setChan ..).stallChan n).pump n) _

/-! ### The operations of a request -/

theorem wakeStand (k : Nat) : KeepsPower s (t.wakeStand k) := by
  unfold State.wakeStand
  extract_lets x s1
  have h1 : KeepsPower s s1 := (h.setStand ..).count _
  exact ite h (ite (h1.count64 ..) h1)

theorem stallLanes (l : List Nat) : KeepsPower s (t.stallLanes l) := by
  unfold State.stallLanes
  refine ite h ?_
  split
  · exact h.stall _
  · exact h

theorem startRead (f : Flight) (d : Desc) (chain l : List Nat) : KeepsPower s (t.startRead f d chain l) :=
  ((h.setStand ..).putFlight _).sendReads ..

theorem emptySlot (r : Nat) : KeepsPower s (t.emptySlot r) := (h.raise ..).count64 ..

theorem beginRead (f : Flight) (d : Desc) (l : List Nat) : KeepsPower s (t.beginRead f d l) :=
  ite (h.abort ..) <| ite ((h.emptySlot _).abort ..) <| ite (h.abort ..) <| ite (h.abort ..) <| ite ((h.raise ..).abort ..) <|
    ite (ite (h.abort ..) ((h.putFlight _).wakeStand _)) <| ite (h.startRead ..) (h.startRead ..)

theorem beginCheck (f : Flight) (l : List XUnit) (g : Target) (d : Option Desc) : KeepsPower s (t.beginCheck f l g d) :=
  ite ((h.emptySlot _).abort ..) <| ite (h.abort ..) ((h.putFlight _).stall _)

theorem storePlain (f : Flight) (l : List Byte) (raw : Bool) : KeepsPower s (t.storePlain f l raw) :=
  have hcount (a b : Nat) := (h.count64 a 1).count64 b 1
  ite ((hcount ..).putFlight _) <| ite ((hcount ..).putFlight _) <| ite (h.beginCheck ..) (h.beginCheck ..)

theorem beginWhole (f : Flight) (l : List Byte) : KeepsPower s (t.beginWhole f l) :=
  ite (storePlain (ite h (h.raise ..)) ..) (((h.count64 ..).putFlight _).stallLanes _)

theorem intoCanopy (f : Flight) (l : List Byte) : KeepsPower s (t.intoCanopy f l) := by
  unfold State.intoCanopy
  split
  · exact h.beginCheck ..
  · exact h.beginCheck ..
  · exact h

theorem runOps (i n : Nat) : KeepsPower s (t.runOps i n) := by
  induction n generalizing t with
  | zero => exact h
  | succ n ih =>
    unfold State.runOps
    split
    · exact h
    · split
      · exact h.finish _
      · extract_lets s1
        have h1 : KeepsPower s s1 := h.putFlight _
        refine ih ?_
        split
        · exact h1.respond ..
        · exact h1
      · refine ite (h.abort ..) (ite ((h.putFlight _).stall _) ?_)
        extract_lets u d
        have hu : KeepsPower s u := by
          dsimp only [u]
          split
          · exact h
          · exact h.restoreTransit ..
        split
        · split
          · exact ih (hu.putFlight _)
          · exact hu.beginRead ..
        · refine ite (hu.beginWhole ..) (ite (hu.abort ..) (ite (ih (hu.putFlight _)) ?_))
          split
          · exact hu.intoCanopy ..
          · extract_lets part
            exact ite (ite (hu.beginCheck ..) (hu.beginRead ..)) (hu.beginRead ..)
        · refine ite (hu.abort ..) ?_
          split
          · exact hu.intoCanopy ..
          · exact hu.beginRead ..
        · exact hu

theorem go (f : Flight) : KeepsPower s (t.go f) := (h.putFlight f).runOps ..

theorem resumeStage (st : Stage) (p : Flight → Bool) : KeepsPower s (t.resumeStage st p) := by
  refine h.steps (fun u x => ?_) _
  split
  · exact ite ((refl u).go _) (refl u)
  · exact refl u

/-! ### Domains that fail -/

theorem failDomain (d c : Nat) : KeepsPower s (t.failDomain d c) := by
  unfold State.failDomain
  extract_lets x s1
  have h1 : KeepsPower s s1 := (h.setDom ..).raise ..
  refine ite (h1.failStage _) (ite (h1.failStage _) (ite ?_ (ite (h1.resumeStage ..) (ite ?_ h1))))
  · have h2 := ite (c := s1.cLanes.isEmpty = true) (h1.failStage .compress) h1
    exact ite (h2.failStage _) h2
  · exact h1.steps (fun u b => ite ((refl u).setBank ..) (refl u)) _

theorem pllAgain (p : Pll) : KeepsPower s (t.pllAgain p) :=
  h.steps (fun u _ => ite ((refl u).failDomain ..) ((refl u).setDom ..)) _

end KeepsPower

end Sys2Proof.Machine
end

section
/-! Proofs about the intake link and the wires between the dies (02; R23 to R26, R34, R54): one lemma for each outcome of a frame, and
one for each command on a wire. -/

namespace Sys2Proof.Machine

open Sys2Proof

variable {s : State}

/-! ### Frames -/

/-- A frame is taken only while both dies are powered, and by its CRC it is good or bad. -/
theorem exec_intakeLinkFrame (hs : s.live = true) (hv : s.intake.vstby = true) (d : LinkDir) (f : BitVec 48) :
    exec (.intakeLinkFrame d f) s = .next (if linkFrameOk f then s.linkGood d else s.linkBad d) :=
  guarded_of (by rw [hs, hv, Bool.and_self]) _ _

theorem exec_intakeLinkFrame_good (hs : s.live = true) (hv : s.intake.vstby = true) (d : LinkDir) {f : BitVec 48}
    (hf : linkFrameOk f = true) : exec (.intakeLinkFrame d f) s = .next (s.linkGood d) := by
  rw [exec_intakeLinkFrame hs hv, if_pos hf]

theorem exec_intakeLinkFrame_bad (hs : s.live = true) (hv : s.intake.vstby = true) (d : LinkDir) {f : BitVec 48}
    (hf : linkFrameOk f = false) : exec (.intakeLinkFrame d f) s = .next (s.linkBad d) := by
  rw [exec_intakeLinkFrame hs hv, hf, if_neg Bool.false_ne_true]

/-- The first bad frame to the logic die is counted, and asked for again. -/
theorem State.linkBad_toLogic_first (h : s.logic.resendLogic = false) :
    s.linkBad .toLogic = { s with regs := (s.count Reg.INT_LINK_ERR).regs, logic := { s.logic with resendLogic := true } } := by
  unfold State.linkBad
  dsimp only
  rw [h, if_neg Bool.false_ne_true, State.count_eq]

/-- The first bad frame to the intake die is counted, and asked for again. -/
theorem State.linkBad_toIntake_first (h : s.logic.resendIntake = false) :
    s.linkBad .toIntake = { s with regs := (s.count Reg.INT_LINK_ERR).regs, logic := { s.logic with resendIntake := true } } := by
  unfold State.linkBad
  dsimp only
  rw [h, if_neg Bool.false_ne_true, State.count_eq]

/-- The second bad frame to the intake die raises 0x0514 at a logic die that has its link up, and ends a write not yet sent. -/
theorem State.linkBad_toIntake_second (hs : s.live = true) (hl : s.logic.linkUp = true) (h : s.logic.resendIntake = true) :
    (s.linkBad .toIntake).logic.resendIntake = false ∧ (s.linkBad .toIntake).evtSet 0x0514 0 = true
      ∧ (s.linkBad .toIntake).intake = { s.intake with linkWrite := if s.intake.unsent then none else s.intake.linkWrite }
      ∧ (s.intake.unsent = true → (s.linkBad .toIntake).mgmt.lastStatus = stInternalFault) := by
  have hevent : (s.count Reg.INT_LINK_ERR).intakeEvent 0x0514 = (s.count Reg.INT_LINK_ERR).raise 0x0514 :=
    State.intakeEvent_linked (by rw [State.live, State.count_logic]; exact hs) (by rw [State.count_logic]; exact hl) _
  unfold State.linkBad
  dsimp only
  rw [if_pos h, hevent]
  refine ⟨rfl, State.raise_evtSet (s.count Reg.INT_LINK_ERR) 0x0514 0 0, ?_, fun hu => if_pos hu⟩
  simp

/-! ### Timeouts and wires -/

theorem State.faultN_of_linkLost (h : s.intake.linkLost = true) : s.faultN = true := by simp [State.faultN, h]

theorem State.faultN_of_thermTrip (h : s.intake.thermTrip = true) : s.faultN = true := by simp [State.faultN, h]

theorem State.faultN_of_vrmFault (h : s.intake.vrmFault = true) : s.faultN = true := by simp [State.faultN, h]

theorem State.faultN_of_faultWire (h : s.logic.on = true) (hw : s.logic.faultWire = true) : s.faultN = true := by
  simp [State.faultN, h, hw]

theorem State.on_of_live (h : s.live = true) : s.logic.on = true := (Bool.and_eq_true_iff.mp h).1

theorem exec_logicLinkTimeout (hs : s.live = true) :
    ∃ t, exec .logicLinkTimeout s = .next t ∧ t.evtSet 0x0515 0 = true ∧ t.logic.linkUp = false
      ∧ t.logic.faultWire = true ∧ t.faultN = true ∧ t.intake = s.intake := by
  refine ⟨_, guarded_of hs _ _, s.raise_evtSet 0x0515 0 0, rfl, rfl, State.faultN_of_faultWire ?_ rfl, ?_⟩
  · simpa using State.on_of_live hs
  · simp

theorem exec_intakeLinkTimeout (hv : s.intake.vstby = true) (hp : s.intake.pgOut = true) :
    ∃ t, exec .intakeLinkTimeout s = .next t ∧ t.faultN = true
      ∧ t = { s with intake := { s.intake with linkLost := true } } :=
  ⟨_, guarded_of (by rw [hv, hp, Bool.and_self]) _ _, State.faultN_of_linkLost rfl, rfl⟩

theorem exec_faultWireAssert (hs : s.live = true) (hr : s.faultReason = true) :
    ∃ t, exec .faultWireAssert s = .next t ∧ t.faultN = true ∧ t = { s with logic := { s.logic with faultWire := true } } :=
  ⟨_, guarded_of (by rw [hs, hr, Bool.and_self]) _ _, State.faultN_of_faultWire (State.on_of_live hs) rfl, rfl⟩

/-- A fall of PG_OUT takes the dies behind it to power-on reset. -/
theorem State.dropPg_of_pgOut (h : s.intake.pgOut = true) (c : Word) : s.dropPg c =
    (s.powerOn c).setIntake { s.intake with pgOut := false, seqOut := false, linkWrite := none, braceSent := false } := if_pos h

theorem exec_thermalTrip (ho : s.logic.on = true) (hp : s.intake.pgOut = true) :
    ∃ t, exec .thermalTrip s = .next t ∧ t.live = false ∧ t.logic.thermTrip = true ∧ t.faultN = true
      ∧ t.intake = { s.intake with
          pgOut := false, seqOut := false, linkWrite := none, braceSent := false, thermTrip := true
          phase := if s.intake.phase.latched || s.intake.phase.retrying then s.intake.phase else .tripHold } := by
  refine ⟨_, guarded_of ho _ _, ?_, rfl, State.faultN_of_thermTrip rfl, ?_⟩
  · rw [State.dropPg_of_pgOut hp]
    rfl
  · rw [State.dropPg_of_pgOut hp]
    rfl

/-! ### The obligation -/

/-- Settles O9, one command after another. That the fault wire stays as it is when the link comes back is log 179. -/
theorem intakeLinkAndWireCommands : Obligations.IntakeLinkAndWireCommands := by
  intro s
  refine ⟨?_, ?_, ?_, ?_, ?_, exec_logicLinkTimeout, exec_intakeLinkTimeout, exec_faultWireAssert, exec_thermalTrip, ?_, ?_⟩
  · exact fun f hs hv hf => exec_intakeLinkFrame_good hs hv .toLogic hf
  · exact fun f hs hv hf => exec_intakeLinkFrame_good hs hv .toIntake hf
  · intro f hs hv hf h
    rw [exec_intakeLinkFrame_bad hs hv .toLogic hf, State.linkBad_toLogic_first h]
  · intro f hs hv hf h
    rw [exec_intakeLinkFrame_bad hs hv .toIntake hf, State.linkBad_toIntake_first h]
  · exact fun f hs hv hf h hl => ⟨_, exec_intakeLinkFrame_bad hs hv .toIntake hf, State.linkBad_toIntake_second hs hl h⟩
  · exact fun hv => guarded_of hv _ _
  · exact fun hs => guarded_of hs _ _

end Sys2Proof.Machine
end

section
/-! Proofs about VSTBY, the intake's straps, the PLLs and the TAP (02; R35 to R37, R42, R43, R45 to R47, R49): one lemma for each
outcome of a command. -/

namespace Sys2Proof.Machine

open Sys2Proof

variable {s : State}

/-! ### VSTBY -/

/-- The profile is applied whole where it passes the check of a commit, and discarded whole where it does not. -/
theorem exec_vstbyRise (hv : s.intake.vstby = false) :
    ∃ t, exec .vstbyRise s = .next t ∧ t.intake.vstby = true ∧ t.intake.profile = s.intake.profile
      ∧ t = { s with intake := t.intake, regs := t.intake.cfg }
      ∧ (intakeCheck (applyProfile s.intake.profile).1 = none →
          t.intake.cfg = (applyProfile s.intake.profile).1 ∧ t.intake.profilePairs = (applyProfile s.intake.profile).2
            ∧ t.intake.profileErr = false ∧ t.intake.hist = [])
      ∧ (intakeCheck (applyProfile s.intake.profile).1 ≠ none →
          t.intake.cfg = [] ∧ t.intake.profileErr = true ∧ t.intake.hist = [(0, 0x0517#16)]) := by
  refine ⟨_, guarded_of (by rw [hv, Bool.not_false]) _ _, rfl, rfl, rfl, fun h => ?_, fun h => ?_⟩
  · simp [h]
  · have hbad := Option.isSome_iff_ne_none.mpr h
    simp [hbad]

theorem exec_vstbyFall (hv : s.intake.vstby = true) :
    ∃ t, exec .vstbyFall s = .next t ∧ t.dark = true ∧ t.intake.profile = s.intake.profile
      ∧ t.boot.flash = s.boot.flash ∧ t.boot.rollback = s.boot.rollback ∧ t.cry.fuseF = s.cry.fuseF
      ∧ ∀ a, t.reg a = resetOf a :=
  ⟨_, guarded_of hv _ _, State.dark_iff.mpr ⟨rfl, rfl⟩, rfl, rfl, rfl, rfl, fun _ => rfl⟩

/-! ### Straps -/

/-- A word with a bit set does not vanish under a mask that holds the bit. -/
theorem or_and_ne_zero (x : Word) {w m : Word} {i : Nat} (hw : w.getLsbD i = true) (hm : m.getLsbD i = true) :
    (x ||| w) &&& m ≠ 0 := by
  intro h
  have hi : ((x ||| w) &&& m).getLsbD i = true := by rw [BitVec.getLsbD_and, BitVec.getLsbD_or, hw, hm, Bool.or_true, Bool.and_true]
  rw [h] at hi
  simp at hi

theorem State.faultN_of_faults (h : s.intake.faults &&& intakeFaultMask ≠ 0) : s.faultN = true := by
  rw [State.faultN, decide_eq_true h]
  simp only [Bool.true_or]

theorem State.not_startReady_of_faults (h : s.intake.faults &&& 0x842 ≠ 0) : s.startReady = false := by
  rw [State.startReady, decide_eq_false h]
  simp only [Bool.and_false, Bool.false_and]

theorem exec_intakeStrapSample (hv : s.intake.vstby = true) (hn : s.intake.strapped = false) (first : Bool) (mode : BitVec 2) :
    exec (.intakeStrapSample first mode) s = .next
      (let s1 := s.setIntake { s.intake with strapped := true, seqFirst := first, feedMode := mode.toNat }
       if mode = 3#2 then (s1.setIntake { s1.intake with faults := s1.intake.faults ||| 0x800 }).intakeEvent 0x0513 else s1) :=
  guarded_of (by rw [hv, hn, Bool.not_false, Bool.and_self]) _ _

theorem exec_intakeStrapSample_reserved (hv : s.intake.vstby = true) (hn : s.intake.strapped = false) (first : Bool) :
    ∃ t, exec (.intakeStrapSample first 3#2) s = .next t ∧ t.intake.faults = s.intake.faults ||| 0x800 ∧ t.faultN = true
      ∧ t.startReady = false := by
  refine ⟨_, exec_intakeStrapSample hv hn first _, ?_⟩
  rw [if_pos rfl]
  have hfaults := State.intakeEvent_faults
    (s.setIntake { s.intake with
      strapped := true, seqFirst := first, feedMode := (3#2).toNat, faults := s.intake.faults ||| 0x800 }) 0x0513
  refine ⟨hfaults, State.faultN_of_faults ?_, State.not_startReady_of_faults ?_⟩
  · exact hfaults ▸ or_and_ne_zero (i := 11) _ rfl rfl
  · exact hfaults ▸ or_and_ne_zero (i := 11) _ rfl rfl

/-! ### PLLs -/

theorem State.pll_setPll (s : State) (p : Pll) (v : PllState) : (s.setPll p v).pll p = v := tabGet_tabSet_same _ _ _ _

theorem KeepsPower.pll {t : State} (h : KeepsPower s t) (p : Pll) : t.pll p = s.pll p := by rw [State.pll, h.plls, State.pll]

theorem exec_pllLock {p : Pll} {again : Bool} (hs : s.live = true) (hp : s.pll p = .locking again) :
    exec (.pllLock p) s = .next (s.setPll p .locked) :=
  guarded_of (by rw [hs, hp, Bool.true_and, pllLocking]) _ _

/-- A PLL that has not locked is enabled once more, whatever its domains make of it. -/
theorem exec_pllLockTimeout_first {p : Pll} (hs : s.live = true) (hp : s.pll p = .locking false) :
    ∃ t, exec (.pllLockTimeout p) s = .next t ∧ t.pll p = .locking true := by
  have hexec : exec (.pllLockTimeout p) s = .next ((s.setPll p (.locking true)).pllAgain p) := by
    change execPllLockTimeout p s = _
    rw [execPllLockTimeout, hp]
    exact guarded_of hs _ _
  have hkeeps := (KeepsPower.refl (s.setPll p (.locking true))).pllAgain p
  exact ⟨_, hexec, (hkeeps.pll p).trans (s.pll_setPll p _)⟩

/-! ### The TAP -/

/-- Every instruction but IDCODE, whose register is shifted out, is loaded with no output; it acts where R47 lets it. -/
theorem exec_tapInstruction {i : TapInstr} (hi : i ≠ .idcode) : exec (.tapInstruction i false) s = .next { s with
    logic := { s.logic with
      trst := false
      tapInstr := some i
      tapActive := if tapAlways i || (s.logic.on && decide (2 ≤ s.logic.bootSel)) then i else s.logic.tapActive } } := by
  cases i
  case idcode => exact absurd rfl hi
  all_goals rfl

theorem tapAlways_ne_idcode {i : TapInstr} (h : tapAlways i = false) : i ≠ .idcode := by
  rintro rfl
  cases h

/-! ### The obligation -/

/-- Settles O10, one command after another. -/
theorem standbyStrapPllAndTapCommands : Obligations.StandbyStrapPllAndTapCommands := by
  intro s
  refine ⟨exec_vstbyRise, exec_vstbyFall, ?_, fun first hv hn => exec_intakeStrapSample_reserved hv hn first,
    fun p _ => exec_pllLock, fun p => exec_pllLockTimeout_first, fun _ => rfl, fun _ => rfl, rfl, ?_, ?_, ?_⟩
  · intro first mode hv hn hmode
    rw [exec_intakeStrapSample hv hn, if_neg hmode]
    rfl
  · intro i hi h
    rw [exec_tapInstruction hi, h, Bool.true_or, if_pos rfl]
  · intro i h ho hb
    rw [exec_tapInstruction (tapAlways_ne_idcode h), h, ho, if_pos (by simp [hb])]
  · intro i h hb
    rw [exec_tapInstruction (tapAlways_ne_idcode h), h, if_neg (by simp [hb])]

end Sys2Proof.Machine
end

section
/-! Why the release of the dies from reset does not enable a core PLL whatever state it is in (04; R42, R100). -/

namespace Sys2Proof.Machine

open Sys2Proof

variable {s : State}

theorem State.pll_setPll_ne (s : State) {p q : Pll} (v : PllState) (h : pllKey q ≠ pllKey p) : (s.setPll p v).pll q = s.pll q :=
  tabGet_tabSet_ne _ _ _ h

/-- Only a PLL that is off is enabled. -/
theorem State.enablePll_of_ne_off {p : Pll} (h : s.pll p ≠ .off) : s.enablePll p = s := if_neg h

theorem State.pll_enablePll_ne (s : State) {p q : Pll} (h : pllKey q ≠ pllKey p) : (s.enablePll p).pll q = s.pll q := by
  unfold State.enablePll
  split
  · exact s.pll_setPll_ne _ h
  · rfl

/-- The dies leave reset with a core PLL that was not off as it was. -/
theorem State.leaveReset_pll_core (h : s.pll .core ≠ .off) (b : BitVec 2) (k : BitVec 6) :
    (s.leaveReset b k).pll .core = s.pll .core := by
  unfold State.leaveReset
  extract_lets l i x s1
  have h1 : s1.pll .core ≠ .off := h
  rw [State.pll_enablePll_ne _ (by decide), State.enablePll_of_ne_off h1]
  rfl

theorem exec_porRelease (hv : s.intake.vstby = true) (hp : s.intake.pgOut = true) (ho : s.logic.on = false)
    (b : BitVec 2) (k : BitVec 6) : exec (.porRelease b k) s = .next (s.leaveReset b k) :=
  guarded_of (by rw [hv, hp, ho, Bool.not_false, Bool.and_self, Bool.and_self]) _ _

/-- Refutes O17: its first clause has POR_RELEASE leave the core PLL enabled and not yet locked in every state of an unpowered logic
die, also in one whose core PLL is recorded as locked, which the release leaves so. Power-on reset turns every PLL off
(`State.powerOn_logic`), so the device does not come to such a state: the clause lacks the condition that the PLL is off. -/
theorem not_releaseAndResetCommands : ¬ Obligations.ReleaseAndResetCommands := by
  intro h
  obtain ⟨hpor, -⟩ := h { State.reset with
    intake := { vstby := true, pgOut := true }
    logic := { plls := [(pllKey .core, .locked)] } }
  obtain ⟨t, hexec, -, -, -, -, -, hcore, -⟩ := hpor 0 0 rfl rfl rfl
  rw [exec_porRelease rfl rfl rfl] at hexec
  cases hexec
  rw [State.leaveReset_pll_core (by decide)] at hcore
  exact absurd hcore (by decide)

end Sys2Proof.Machine
end

section
/-! Proofs about the first boot stages (04; R39, R105, R109, R112 to R117): what a slot that is tried or rejected leaves, and one
lemma for each outcome of a command. -/

namespace Sys2Proof.Machine

open Sys2Proof

variable {s : State}

/-- The guard that most commands of a boot stage end in. -/
theorem stage_guard {st : BootStage} (hs : s.live = true) (hb : s.boot.stage = st) (hf : s.boot.failed = false) :
    (s.live && s.boot.stage == st && !s.boot.failed) = true := by
  simp [hs, hb, hf]

/-! ### BOOT_START -/

/-- BOOT_SEL names the next stage, whatever device `u` the lock of the key banks and the wrap key have left (R39, R47). -/
theorem exec_bootStart (hs : s.live = true) (hb : s.boot.stage = .start) (hp : s.pll .core = .locked) (p : Bool) :
    ∃ u, exec (.bootStart p) s = .next
      (if s.logic.bootSel = 3 then (State.raise u 0x020E).toStage .testHold
       else if s.logic.bootSel = 2 then u.toStage .testHold else u.toStage .imageRead) :=
  ⟨_, guarded_of (by simp [hs, hb, hp]) _ _⟩

theorem exec_bootStart_boots (hs : s.live = true) (hb : s.boot.stage = .start) (hp : s.pll .core = .locked)
    (hsel : s.logic.bootSel < 2) (p : Bool) : ∃ t, exec (.bootStart p) s = .next t ∧ t.boot.stage = .imageRead := by
  obtain ⟨u, hexec⟩ := exec_bootStart hs hb hp p
  rw [if_neg (by omega), if_neg (by omega)] at hexec
  exact ⟨_, hexec, rfl⟩

theorem exec_bootStart_reserved (hs : s.live = true) (hb : s.boot.stage = .start) (hp : s.pll .core = .locked)
    (hsel : s.logic.bootSel = 3) (p : Bool) :
    ∃ t, exec (.bootStart p) s = .next t ∧ t.boot.stage = .testHold ∧ t.evtSet 0x020E 0 = true := by
  obtain ⟨u, hexec⟩ := exec_bootStart hs hb hp p
  rw [if_pos hsel] at hexec
  exact ⟨_, hexec, rfl, u.raise_evtSet 0x020E 0 0⟩

/-! ### Headers read -/

theorem exec_imageHeadersRead_both (hs : s.live = true) (hb : s.boot.stage = .imageRead) (hf : s.boot.failed = false)
    (h0 : s.readable false = true) (h1 : s.readable true = true) :
    ∃ t, exec .imageHeadersRead s = .next t ∧ t.boot.stage = .imageVerify ∧ t = { s with boot := t.boot, out := t.out }
      ∧ t.out = s.imageRead t.boot.slotB :: headerRead true :: headerRead false :: s.out
      ∧ t.boot.slotB = decide (s.slotWord false 0x0C 4 < s.slotWord true 0x0C 4) := by
  refine ⟨_, guarded_of (stage_guard hs hb hf) _ _, ?_⟩
  simp only [h0, h1, Bool.not_true, Bool.and_self, Bool.true_and, Bool.false_eq_true, if_false]
  exact ⟨rfl, rfl, rfl, rfl⟩

theorem exec_imageHeadersRead_none (hs : s.live = true) (hb : s.boot.stage = .imageRead) (hf : s.boot.failed = false)
    (h0 : s.readable false = false) (h1 : s.readable true = false) :
    ∃ t, exec .imageHeadersRead s = .next t ∧ t.boot.failed = true ∧ t.boot.errCode = 0x01 := by
  refine ⟨_, guarded_of (stage_guard hs hb hf) _ _, ?_⟩
  simp only [h0, h1, Bool.not_false, Bool.and_self, if_true]
  exact ⟨rfl, rfl⟩

/-! ### Slots rejected -/

/-- A slot rejected after the other one ends the boot with the error of its own (R114, R117). -/
theorem State.rejectSlot_second (h : s.boot.triedOther = true) (code detail : Nat) :
    s.rejectSlot code detail = s.bootFail code detail := if_pos h

/-- The first slot rejected gives way to the other, with event 0x0202 (R114). -/
theorem State.rejectSlot_first (h : s.boot.triedOther = false) (code detail : Nat) :
    (s.rejectSlot code detail).boot.stage = .imageVerify ∧ (s.rejectSlot code detail).boot.triedOther = true
      ∧ (s.rejectSlot code detail).boot.slotB = !s.boot.slotB ∧ (s.rejectSlot code detail).evtSet 0x0202 0 = true := by
  unfold State.rejectSlot
  rw [h, if_neg Bool.false_ne_true]
  exact ⟨rfl, rfl, rfl, ((s.bootErr code detail).resetBlocks false).raise_evtSet 0x0202 0 0⟩

theorem exec_imageVerified_valid (hs : s.live = true) (hb : s.boot.stage = .imageVerify) (hf : s.boot.failed = false)
    (h : s.slotFault s.boot.slotB = none) :
    ∃ t, exec .imageVerified s = .next t ∧ t.boot.stage = .apply ∧ t.regs = s.regs := by
  refine ⟨_, guarded_of (stage_guard hs hb hf) _ _, ?_⟩
  rw [h]
  exact ⟨rfl, rfl⟩

theorem exec_imageVerified_fault {code detail : Nat} (hs : s.live = true) (hb : s.boot.stage = .imageVerify)
    (hf : s.boot.failed = false) (h : s.slotFault s.boot.slotB = some (code, detail)) :
    exec .imageVerified s = .next (s.rejectSlot code detail) := by
  refine (guarded_of (stage_guard hs hb hf) _ _).trans ?_
  rw [h]

/-! ### The image applied -/

/-- Past the last section, with no provisioning under way, the image has been applied. -/
theorem State.applyRun_end (hn : s.slotWord s.boot.slotB 6 2 ≤ s.boot.section_) (hc : s.cry.burning = false) (n : Nat) :
    s.applyRun (n + 1) = s.applied := by
  have hstep : s.applyStep = (s, .ends) := by
    unfold State.applyStep
    exact if_pos hn
  rw [State.applyRun, hstep]
  exact if_neg (Bool.eq_false_iff.mp hc)

theorem exec_imageApply_end (hs : s.live = true) (hb : s.boot.stage = .apply) (hf : s.boot.failed = false)
    (hn : s.slotWord s.boot.slotB 6 2 ≤ s.boot.section_) (hc : s.cry.burning = false) :
    ∃ t, exec .imageApply s = .next t ∧ t.boot.stage = .march
      ∧ t.boot.imgVer = BitVec.ofNat 32 (s.slotWord s.boot.slotB 0x0C 4) := by
  refine ⟨_, guarded_of (stage_guard hs hb hf) _ _, ?_⟩
  rw [State.applyRun_end hn hc]
  exact ⟨rfl, rfl⟩

theorem exec_regPollTimeout (hs : s.live = true) (hb : s.boot.stage = .apply) (hf : s.boot.failed = false)
    (hp : s.boot.polling = true) (ht : (s.sectionAt s.boot.slotB s.boot.offset).type = 2) :
    exec .regPollTimeout s = .next (s.rejectSlot 0x07 s.boot.section_) :=
  guarded_of (by simp [hs, hb, hf, hp, ht]) _ _

/-- A march that finds no bank failing, and is not to leave the banks zeroed, changes the stage alone. -/
theorem exec_bootMarchDone_nil (hs : s.live = true) (hb : s.boot.stage = .march) (hf : s.boot.failed = false)
    (hm : s.boot.march ≠ 2) :
    exec (.bootMarchDone []) s = .next { s with boot := { s.boot with stage := .discover, discovered := false } } := by
  refine (guarded_of (stage_guard hs hb hf) _ _).trans ?_
  have hbad : (allBanks.filter fun b => ([] : List Nat).contains b && s.marches b && !(s.bankAt b).failed) = [] := by simp
  have hzeroed : (s.boot.march == 2 && !s.boot.warm) = false := by simp [hm]
  rw [hbad, hzeroed]
  simp only [List.foldl_nil, hf, Bool.false_eq_true, if_false]

/-! ### The obligation -/

/-- Settles O18, one command after another; a slot that fails gives way or ends the boot as `State.rejectSlot` does. -/
theorem bootImageStages : Obligations.BootImageStages := by
  intro s hs
  refine ⟨fun p hb hp h => exec_bootStart_boots hs hb hp h p, fun p hb hp h => exec_bootStart_reserved hs hb hp h p,
    exec_imageHeadersRead_both hs, exec_imageHeadersRead_none hs, exec_imageVerified_valid hs, ?_, ?_, exec_imageApply_end hs, ?_,
    exec_bootMarchDone_nil hs⟩
  · intro code detail hb hf h htried
    refine ⟨_, exec_imageVerified_fault hs hb hf h, ?_⟩
    rw [State.rejectSlot_second htried]
    exact ⟨rfl, rfl, rfl⟩
  · exact fun code detail hb hf h htried => ⟨_, exec_imageVerified_fault hs hb hf h, State.rejectSlot_first htried code detail⟩
  · intro hb hf hp ht htried
    refine ⟨_, exec_regPollTimeout hs hb hf hp ht, ?_⟩
    rw [State.rejectSlot_second htried]
    exact ⟨rfl, rfl, rfl⟩

end Sys2Proof.Machine
end

section
/-! SUPPORT. What an intake event and a fall of PG_OUT leave, and the status of an intake event that the logic die takes (02, 03; R55,
R72). -/

namespace Sys2Proof.Machine

open Sys2Proof

variable {s : State}

@[simp] theorem State.setIntake_reg (s : State) (i : Intake) (a : Nat) : (s.setIntake i).reg a = s.reg a := rfl

/-! ### Intake events -/

/-- Of the intake die an event changes the history alone. -/
theorem State.intakeEvent_intake (s : State) (code : Nat) :
    ∃ h, (s.intakeEvent code).intake = { s.intake with hist := h } := by
  unfold State.intakeEvent
  split
  · exact ⟨s.intake.hist, s.raise_intake code 0 0⟩
  · exact ⟨_, rfl⟩

/-- Of the boot machinery it changes at most the call for a warm reset (R123). -/
theorem State.intakeEvent_boot (s : State) (code : Nat) : ∃ w, (s.intakeEvent code).boot = { s.boot with autoWarm := w } := by
  unfold State.intakeEvent
  split
  · exact ⟨_, s.occur_boot ..⟩
  · exact ⟨s.boot.autoWarm, rfl⟩

/-- An event that the logic die can take has its status bit set. -/
theorem State.intakeEvent_evtSet (hs : s.live = true) (hl : s.logic.linkUp = true) (code : Nat) :
    (s.intakeEvent code).evtSet code 0 = true := by
  rw [State.intakeEvent_linked hs hl]
  exact s.raise_evtSet code 0 0

theorem State.intakeEvent_keeps_evtSet (code : Nat) {c i : Nat} (h : s.evtSet c i = true) :
    (s.intakeEvent code).evtSet c i = true := by
  unfold State.intakeEvent
  split
  · exact s.raise_keeps_evtSet code 0 0 h
  · exact h

/-! The same of the event that a row raises for what it has made of the intake die. -/

theorem State.setIntake_event_intake (s : State) (i : Intake) (code : Nat) :
    ∃ h, ((s.setIntake i).intakeEvent code).intake = { i with hist := h } :=
  (s.setIntake i).intakeEvent_intake code

theorem State.setIntake_event_evtSet (hs : s.live = true) (hl : s.logic.linkUp = true) (i : Intake) (code : Nat) :
    ((s.setIntake i).intakeEvent code).evtSet code 0 = true :=
  State.intakeEvent_evtSet (s := s.setIntake i) hs hl code

/-! ### The fall of PG_OUT (R72) -/

/-- A fall of PG_OUT changes of the intake die only SEQ_OUT, the link write and the brace with it, also where PG_OUT was low before. -/
theorem State.dropPg_intake (s : State) (c : Word) : ∃ q l b, (s.dropPg c).intake
    = { s.intake with pgOut := false, seqOut := q, linkWrite := l, braceSent := b } := by
  cases hp : s.intake.pgOut
  · refine ⟨s.intake.seqOut, s.intake.linkWrite, s.intake.braceSent, ?_⟩
    rw [State.dropPg, hp, if_neg Bool.false_ne_true, ← hp]
  · exact ⟨false, none, false, by rw [State.dropPg_of_pgOut hp, State.setIntake_intake]⟩

/-- The same with the event that tells of it. -/
theorem State.dropPg_event_intake (s : State) (c : Word) (code : Nat) : ∃ q l b h, ((s.dropPg c).intakeEvent code).intake
    = { s.intake with pgOut := false, seqOut := q, linkWrite := l, braceSent := b, hist := h } := by
  obtain ⟨q, l, b, hdrop⟩ := s.dropPg_intake c
  obtain ⟨h, hevent⟩ := (s.dropPg c).intakeEvent_intake code
  exact ⟨q, l, b, h, by rw [hevent, hdrop]⟩

end Sys2Proof.Machine
end

section
/-! Proofs about the trips (03; R68, R75 to R78, R80): each trip row is one operation with a cause and an event code of its own, and
what the operation leaves does not depend on which row it is. -/

namespace Sys2Proof.Machine

open Sys2Proof

variable {s : State}

/-! ### The trip rows -/

theorem exec_ftimerExpired (hl : s.intake.inLimit = true) (ht : s.icfg Reg.INT_FTIMER 31 0 * 100 ≤ s.intake.cnt.ftimer) :
    exec .ftimerExpired s = .next (s.trip 0x004 0x0505) :=
  guarded_of (by rw [hl, decide_eq_true ht, Bool.and_self]) _ _

theorem exec_curveTrip (hp : s.intake.passFet = true) (ha : 1000000000000 ≤ s.intake.curveAcc) :
    exec .curveTrip s = .next (s.trip 0x008 0x0506) :=
  guarded_of (by rw [hp, decide_eq_true ha, Bool.and_self]) _ _

theorem exec_i2tTrip (hp : s.intake.passFet = true) (ha : s.icfg Reg.INT_I2T_LIMIT 31 0 * 1000000000000 ≤ s.intake.i2tAcc) :
    exec .i2tTrip s = .next (s.trip 0x010 0x0507) :=
  guarded_of (by rw [hp, decide_eq_true ha, Bool.and_self]) _ _

theorem exec_fastTrip (hp : s.intake.passFet = true) : exec .fastTrip s = .next (s.trip 0x020 0x0508) :=
  guarded_of hp _ _

theorem exec_fetOvertemp (hp : s.intake.passFet = true) (hh : 1000 ≤ s.intake.cnt.hot) :
    exec .fetOvertemp s = .next (s.trip 0x100 0x0512) :=
  guarded_of (by rw [hp, decide_eq_true hh, Bool.and_self]) _ _

/-! ### What a trip leaves -/

theorem State.trip_intake (s : State) (cause : Word) (code : Nat) :
    ∃ h, (s.trip cause code).intake = { s.tripState cause with hist := h } := by
  unfold State.trip
  extract_lets s1
  obtain ⟨h, h1⟩ : ∃ h, s1.intake = { s.tripState cause with hist := h } := State.setIntake_event_intake ..
  split
  · obtain ⟨h', h2⟩ := s1.intakeEvent_intake 0x050F
    exact ⟨h', by rw [h2, h1]⟩
  · exact ⟨h, h1⟩

/-- The event of the trip stands in its page, also where latch-off has raised another. -/
theorem State.trip_evtSet (hs : s.live = true) (hl : s.logic.linkUp = true) (cause : Word) (code : Nat) :
    (s.trip cause code).evtSet code 0 = true := by
  unfold State.trip
  extract_lets s1
  have h1 : s1.evtSet code 0 = true := State.setIntake_event_evtSet hs hl _ code
  split
  · exact State.intakeEvent_keeps_evtSet _ h1
  · exact h1

/-- A word set over another shows under itself. -/
theorem word_or_and_self (x w : Word) : (x ||| w) &&& w = w := by
  ext i hi
  cases hw : w[i] <;> simp [hw]

/-- The cause shows in INT_FAULT whether or not RETRY_EXHAUSTED is latched over it. -/
theorem State.tripState_cause (s : State) (cause : Word) : (s.tripState cause).faults &&& cause = cause := by
  unfold State.tripState
  extract_lets i n last auto
  change (i.faults ||| cause ||| if last = true then 0x002 else 0) &&& cause = cause
  rw [BitVec.or_assoc, BitVec.or_comm cause, ← BitVec.or_assoc, word_or_and_self]

/-- A trip that counts up to RETRY_MAX latches off (R80). -/
theorem State.tripState_last (h : s.icfg Reg.INT_RETRY_MAX 3 0 ≤ min 15 (s.intake.faultCount + 1)) (cause : Word) :
    (s.tripState cause).phase = .latchedOff ∧ (s.tripState cause).faults = s.intake.faults ||| cause ||| 0x002 := by
  simp [State.tripState, h]

/-- An earlier one starts the retry timer under AUTO_RETRY (R79). -/
theorem State.tripState_retry (h : min 15 (s.intake.faultCount + 1) < s.icfg Reg.INT_RETRY_MAX 3 0)
    (ha : bit (s.icfg Reg.INT_CTRL 31 0) 4 = true) (cause : Word) : (s.tripState cause).phase = .retryCool := by
  simp [State.tripState, Nat.not_le.mpr h, ha]

/-- Latch-off shows in INT_FAULT and asserts FAULT_N. -/
theorem State.trip_last (h : s.icfg Reg.INT_RETRY_MAX 3 0 ≤ min 15 (s.intake.faultCount + 1)) (cause : Word) (code : Nat) :
    (s.trip cause code).intake.phase = .latchedOff ∧ (s.trip cause code).intake.faults &&& 0x002 = 0x002
      ∧ (s.trip cause code).faultN = true := by
  obtain ⟨hist, hintake⟩ := s.trip_intake cause code
  obtain ⟨hphase, hfaults⟩ := State.tripState_last h cause
  have hlatched : (s.trip cause code).intake.faults = s.intake.faults ||| cause ||| 0x002 := by rw [hintake, hfaults]
  refine ⟨by rw [hintake, hphase], ?_, State.faultN_of_faults ?_⟩
  · rw [hlatched, word_or_and_self]
  · rw [hlatched]
    exact or_and_ne_zero (i := 1) _ rfl rfl

/-! ### The obligation -/

/-- Settles O14: the rows differ in cause and event code alone, and a trip does the rest. That FET_OVERTEMP needs a pass FET that is on
is log 186. -/
theorem tripsPullTheGateAndLatchTheirCause : Obligations.TripsPullTheGateAndLatchTheirCause := by
  intro s c cause code hrow
  have hexec : exec c s = .next (s.trip cause code) := by
    rcases hrow with ⟨rfl, rfl, rfl, hl, ht⟩ | ⟨rfl, rfl, rfl, hp, ha⟩ | ⟨rfl, rfl, rfl, hp, ha⟩ | ⟨rfl, rfl, rfl, hp⟩
      | ⟨rfl, rfl, rfl, hp, hh⟩
    · exact exec_ftimerExpired hl ht
    · exact exec_curveTrip hp ha
    · exact exec_i2tTrip hp ha
    · exact exec_fastTrip hp
    · exact exec_fetOvertemp hp hh
  have hlast := fun h => State.trip_last (s := s) h cause code
  obtain ⟨hist, hintake⟩ := s.trip_intake cause code
  rw [hintake] at hlast
  refine ⟨_, hexec, ?_⟩
  rw [hintake]
  exact ⟨rfl, rfl, rfl, s.tripState_cause cause, rfl, rfl, rfl, rfl, rfl, fun hs hl => State.trip_evtSet hs hl cause code, hlast,
    fun hmore hauto => State.tripState_retry hmore hauto cause⟩

end Sys2Proof.Machine
end

section
/-! Proofs about the intake configuration (03; R50, R52, R54, R55, R80, R82): what a link write leaves, what each register that it goes
to makes of it, and the history that the logic die takes. -/

namespace Sys2Proof.Machine

open Sys2Proof

variable {s : State}

/-! ### Link writes (R54) -/

theorem State.live_of_linkReady (h : s.linkReady = true) : s.live = true := by
  simp only [State.linkReady, Bool.and_eq_true] at h
  obtain ⟨⟨⟨hs, -⟩, -⟩, -⟩ := h
  exact hs

theorem State.linkTakes_of_linkReady (h : s.linkReady = true) (a : Nat) (v : Word) : s.linkTakes a v = true := by
  simp only [State.linkReady, Bool.and_eq_true] at h
  obtain ⟨⟨⟨hs, hl⟩, hv⟩, hw⟩ := h
  simp only [State.linkTakes, hs, hl, hv, hw, Bool.true_or, Bool.and_self]

/-- A write whose effect leaves the logic die running awaits its acknowledgement. -/
theorem State.linkAct_eq {a : Nat} {v : Word} {t : State} (he : s.linkEffect a v = t) (ht : t.live = true) :
    s.linkAct a v = t.setIntake { t.intake with linkWrite := some { addr := a, value := v, done := true } } := by
  subst he
  exact if_pos ht

/-- The outcome of a row that writes over a free link. -/
theorem guarded_linkAct {a : Nat} {v : Word} {t : State} (h : s.linkReady = true) (he : s.linkEffect a v = t)
    (ht : t.live = true) : guarded (s.linkTakes a v) s (s.linkAct a v)
      = .next (t.setIntake { t.intake with linkWrite := some { addr := a, value := v, done := true } }) := by
  rw [guarded_of (State.linkTakes_of_linkReady h a v), State.linkAct_eq he ht]

/-! ### INT_UNLOCK and the profile (R50) -/

theorem exec_intUnlock (h : s.linkReady = true) (v : Word) : exec (.intUnlock v) s = .next { s with intake := { s.intake with
    unlockUntil := if v = 0x4E53 then s.intake.ticks + 1000 else s.intake.unlockUntil
    linkWrite := some { addr := Reg.INT_UNLOCK, value := v, done := true } } } :=
  guarded_linkAct (t := s.openUnlock v) h rfl (State.live_of_linkReady h)

theorem exec_intProfileProg (h : s.linkReady = true) (v : Word) : exec (.intProfileProg v) s = .next { s with intake := { s.intake with
    burning := if s.unlocked && s.intake.burning.isNone && !s.intake.burned.getLsbD (bits v.toNat 4 0) then
      some (bits v.toNat 4 0, s.reg Reg.INT_PROFILE_DATA) else s.intake.burning
    linkWrite := some { addr := Reg.INT_PROFILE_PROG, value := v, done := true } } } :=
  guarded_linkAct (t := s.profileProg v) h rfl (State.live_of_linkReady h)

theorem exec_profileWordProgrammed {w : Nat} {v : Word} (h : s.intake.burning = some (w, v)) :
    exec .profileWordProgrammed s = .next { s with intake := { s.intake with
      profile := tabSet (fun _ => 0) s.intake.profile w v
      burned := s.intake.burned ||| BitVec.ofNat 32 (2 ^ w), burning := none } } := by
  change execProfileWordProgrammed s = _
  rw [execProfileWordProgrammed, h]
  rfl

/-! ### INT_CFG_COMMIT (R52) -/

theorem State.cfgCommit_passes (h : intakeCheck (stagedCfg s) = none) :
    s.cfgCommit = (s.setIntake { s.intake with cfg := stagedCfg s }).setReg Reg.INT_CFG_STATUS 0 :=
  (State.cfgCommit.eq_1 s).trans (by rw [h])

theorem State.cfgCommit_fails {off : Nat} (h : intakeCheck (stagedCfg s) = some off) :
    s.cfgCommit = (s.setReg Reg.INT_CFG_STATUS (BitVec.ofNat 32 (0x8000_0000 + off % 2 ^ 15))).raise 0x0516 :=
  (State.cfgCommit.eq_1 s).trans (by rw [h])

theorem State.linkEffect_cfgCommit (v : Word) : s.linkEffect Reg.INT_CFG_COMMIT v = s.cfgCommit := by
  rw [State.linkEffect, if_neg (by decide), if_neg (by decide), if_pos rfl]

theorem exec_intCfgCommit {v : Word} {t : State} (h : s.linkReady = true) (hgo : bit v.toNat 0 = true) (hc : s.cfgCommit = t)
    (ht : t.live = true) : exec (.intCfgCommit v) s
      = .next (t.setIntake { t.intake with linkWrite := some { addr := Reg.INT_CFG_COMMIT, value := v, done := true } }) := by
  change guarded (s.linkTakes Reg.INT_CFG_COMMIT v && bit v.toNat 0) s (s.linkAct Reg.INT_CFG_COMMIT v) = _
  rw [hgo, Bool.and_true]
  exact guarded_linkAct h ((s.linkEffect_cfgCommit v).trans hc) ht

theorem exec_intCfgCommit_passes {v : Word} (h : s.linkReady = true) (hgo : bit v.toNat 0 = true)
    (hc : intakeCheck (stagedCfg s) = none) :
    ∃ t, exec (.intCfgCommit v) s = .next t ∧ t.reg Reg.INT_CFG_STATUS = 0
      ∧ t = { s with
          regs := t.regs
          intake := { s.intake with
            cfg := stagedCfg s, linkWrite := some { addr := Reg.INT_CFG_COMMIT, value := v, done := true } } } := by
  have hcommit := State.cfgCommit_passes hc
  generalize stagedCfg s = c at hcommit ⊢
  exact ⟨_, exec_intCfgCommit h hgo hcommit (State.live_of_linkReady h),
    by rw [State.setIntake_reg, State.reg_setReg_same], rfl⟩

theorem exec_intCfgCommit_fails {v : Word} {off : Nat} (h : s.linkReady = true) (hgo : bit v.toNat 0 = true)
    (hc : intakeCheck (stagedCfg s) = some off) :
    ∃ t, exec (.intCfgCommit v) s = .next t
      ∧ t.intake = { s.intake with linkWrite := some { addr := Reg.INT_CFG_COMMIT, value := v, done := true } }
      ∧ t.reg Reg.INT_CFG_STATUS = BitVec.ofNat 32 (0x8000_0000 + off % 2 ^ 15) ∧ t.evtSet 0x0516 0 = true := by
  have hs := State.live_of_linkReady h
  refine ⟨_, exec_intCfgCommit h hgo (State.cfgCommit_fails hc) (by simpa [State.live] using hs), ?_, ?_, ?_⟩
  · simp
  · rw [State.setIntake_reg, State.raise_reg_body _ _ _ _ (by decide) (by decide), State.reg_setReg_same]
  · exact State.raise_evtSet _ 0x0516 0 0

/-! ### Acknowledgement, history and INT_FAULT (R54, R55, R80, R82) -/

theorem exec_intLinkWriteAck_done {a : Nat} {v : Word} (hs : s.live = true)
    (hw : s.intake.linkWrite = some { addr := a, value := v, done := true }) : exec .intLinkWriteAck s
      = .next { s with intake := { s.intake with linkWrite := none }, mgmt := { s.mgmt with lastStatus := stOK } } := by
  change execIntLinkWriteAck s = _
  rw [execIntLinkWriteAck, hw]
  refine (guarded_of hs _ _).trans ?_
  simp only [if_true, hs]

theorem State.deliverHist_intake (l : List (Nat × BitVec 16)) (s : State) : (s.deliverHist l).intake = s.intake := by
  induction l generalizing s with
  | nil => rfl
  | cons e r ih =>
    obtain ⟨t, c⟩ := e
    rw [State.deliverHist, ih, State.occur_intake]

theorem State.deliverHist_keeps_evtSet (l : List (Nat × BitVec 16)) {c i : Nat} (h : s.evtSet c i = true) :
    (s.deliverHist l).evtSet c i = true := by
  induction l generalizing s with
  | nil => exact h
  | cons e r ih =>
    obtain ⟨t, c'⟩ := e
    exact ih (s.occur_keeps_evtSet _ _ _ _ _ _ _ h)

/-- Every event of the history is logged, whatever comes before it and after. -/
theorem State.deliverHist_evtSet (l : List (Nat × BitVec 16)) (s : State) :
    ∀ e ∈ l, (s.deliverHist l).evtSet e.2.toNat 0 = true := by
  induction l generalizing s with
  | nil => exact fun e he => nomatch he
  | cons x r ih =>
    obtain ⟨t, c⟩ := x
    rintro e (_ | ⟨_, he⟩)
    · exact State.deliverHist_keeps_evtSet r (s.occur_evtSet _ _ _ _ _ _ _)
    · exact ih _ e he

theorem exec_intEvtHistDelivery (hs : s.live = true) (hl : s.logic.linkUp = true) :
    ∃ t, exec .intEvtHistDelivery s = .next t
      ∧ t.intake = { s.intake with hist := [] } ∧ ∀ e ∈ s.intake.hist, t.evtSet e.2.toNat 0 = true :=
  ⟨_, guarded_of (by rw [hs, hl, Bool.and_self]) _ _, State.deliverHist_intake _ _, State.deliverHist_evtSet _ _⟩

theorem exec_intFaultClear (h : s.linkReady = true) (v : Word) : ∃ t, exec (.intFaultClear v) s = .next t
    ∧ t = { s with intake := { s.intake with
        faults := s.intake.faults &&& ~~~(if s.unlocked then v else v &&& ~~~0x040)
        held := t.intake.held, phase := t.intake.phase
        linkWrite := some { addr := Reg.INT_FAULT, value := v, done := true } } } :=
  ⟨_, guarded_linkAct (t := s.faultClear v) h rfl (State.live_of_linkReady h), rfl⟩

/-! ### The obligation -/

/-- Settles O11, one command after another. That the history is empty after its delivery is log 181. -/
theorem intakeConfigurationCommands : Obligations.IntakeConfigurationCommands := by
  intro s
  refine ⟨fun h => exec_intUnlock h _, ?_, ?_, ?_, ?_, fun v => exec_intCfgCommit_passes, fun v off => exec_intCfgCommit_fails,
    fun a v => exec_intLinkWriteAck_done, exec_intEvtHistDelivery, fun v h => exec_intFaultClear h v⟩
  · intro v h hv
    rw [exec_intUnlock h, if_neg hv]
  · intro v h hu hburning hburned
    rw [exec_intProfileProg h, if_pos (by simp [hu, hburning, hburned])]
  · intro v h hshut
    rw [exec_intProfileProg h, if_neg (by rcases hshut with hu | hburned <;> simp [*])]
  · intro w v hburning
    exact ⟨_, exec_profileWordProgrammed hburning, rfl, fun j => tabGet_tabSet _ _ _ _ _⟩

end Sys2Proof.Machine
end

section
/-! SUPPORT. What a feed's validity, the choice of a feed and the start of the SEQ wait leave of the intake die (03; R61, R62, R94,
R95). -/

namespace Sys2Proof.Machine

open Sys2Proof

/-! ### Feeds -/

@[simp] theorem Intake.setValid_feed (i : Intake) (f : Feed) (v : Bool) : (i.setValid f v).feed = i.feed := by cases f <;> rfl

theorem Intake.usable_setValid_same (i : Intake) (f : Feed) (v : Bool) : (i.setValid f v).usable f = (i.permits f && v) := by
  cases f <;> rfl

/-- Feed validity is the only field that changes with it. -/
theorem Intake.setValid_eq (i : Intake) (f : Feed) (v : Bool) : ∃ a b, i.setValid f v = { i with validA := a, validB := b } := by
  cases f <;> exact ⟨_, _, rfl⟩

theorem Intake.rechoose_eq (i : Intake) : ∃ f w, i.rechoose = { i with feed := f, switchTo := w } := by
  unfold Intake.rechoose
  split
  · exact ⟨i.feed, i.switchTo, rfl⟩
  · split
    · exact ⟨_, _, rfl⟩
    · exact ⟨i.feed, i.switchTo, rfl⟩

/-- A usable feed is never passed over for none. -/
theorem Intake.choose_ne_none {i : Intake} {f : Feed} (h : i.usable f = true) : i.choose ≠ none := by
  unfold Intake.choose
  split
  · exact nofun
  · next ha =>
    cases f with
    | a => exact absurd h ha
    | b => rw [if_pos h]; exact nofun

/-- With no feed's isolation FETs on and no break running, a usable feed makes one active. -/
theorem Intake.rechoose_feed_ne_none {i : Intake} {f : Feed} (ha : i.isoA = false) (hb : i.isoB = false)
    (hbreak : i.breaking = false) (h : i.usable f = true) : i.rechoose.feed ≠ none := by
  obtain ⟨g, hg⟩ := Option.ne_none_iff_exists'.mp (Intake.choose_ne_none h)
  simp [Intake.rechoose, ha, hb, hbreak, hg]

/-! ### The SEQ wait -/

theorem Intake.seqStart_eq (i : Intake) : ∃ n p, i.seqStart = { i with needSeq := n, phase := p } := by
  unfold Intake.seqStart
  split
  · split <;> exact ⟨_, _, rfl⟩
  · exact ⟨i.needSeq, i.phase, rfl⟩

/-- The start of the wait does not lead to Off. -/
theorem Intake.seqStart_phase_ne_off {i : Intake} (h : i.phase ≠ .off) : i.seqStart.phase ≠ .off := by
  unfold Intake.seqStart
  split
  · split
    · exact h
    · exact nofun
  · exact h

/-- Only SEQ_FIRST ends the wait at once. -/
theorem Intake.seqStart_needSeq {i : Intake} (h : i.seqFirst = false) : i.seqStart.needSeq = i.needSeq := by
  unfold Intake.seqStart
  rw [h, if_neg Bool.false_ne_true]
  split
  · rfl
  · rfl

end Sys2Proof.Machine
end

section
/-! Proofs about sensing and the choice of a feed (03; R56 to R58, R61 to R65): one lemma for each outcome of a command. -/

namespace Sys2Proof.Machine

open Sys2Proof

variable {s : State}

/-! ### Sensing (R56 to R58) -/

@[simp] theorem State.peak_intake (s : State) (j v : Nat) : (s.peak j v).intake = s.intake := by
  unfold State.peak
  split <;> rfl

theorem exec_evaluationTick (hv : s.intake.vstby = true) (a b : Reading) (tf : Option (Int × Int)) (g q : Bool) :
    ∃ t, exec (.evaluationTick a b tf g q) s = .next t
      ∧ t.intake.ticks = s.intake.ticks + 1 ∧ t.intake.pathA = (a :: s.intake.pathA).take 8
      ∧ t.intake.pathB = (b :: s.intake.pathB).take 8 ∧ t.intake.passFet = s.intake.passFet
      ∧ t.intake.cfg = s.intake.cfg ∧ t.intake.profile = s.intake.profile ∧ t.intake.faults = s.intake.faults := by
  refine ⟨_, guarded_of hv _ _, ?_⟩
  extract_lets i
  split
  extract_lets i1 s1 diffs diff cnt vds power i2 s2 s3 s4
  have h3 : s3.intake = i2 := by simp only [s3, State.peak_intake, s2, State.setIntake_intake]
  have h4 : s4.intake = i2 := by
    dsimp only [s4]
    split
    · exact h3
    · exact h3
  split
  · obtain ⟨q, l, b, hdrop⟩ := s4.dropPg_intake causePgOut
    rw [hdrop, h4]
    exact ⟨rfl, rfl, rfl, rfl, rfl, rfl, rfl⟩
  · rw [h4]
    exact ⟨rfl, rfl, rfl, rfl, rfl, rfl, rfl⟩

/-- A count that one tick has brought to its end is found among the others. -/
theorem any_of_mem {l : List Nat} {n : Nat} (hn : n ∈ l) (h : 500 ≤ n) : (l.any fun n => decide (500 ≤ n)) = true :=
  List.any_eq_true.mpr ⟨n, hn, decide_eq_true h⟩

/-! ### Feeds that become valid, or cease to be (R61, R62) -/

/-- The feed chosen is the active one, or it is to be left for the one that has become valid. -/
theorem exec_feedValid {f : Feed} (hs : s.intake.strapped = true) (hf : s.intake.valid f = false)
    (hq : s.icfg Reg.INT_FEED_TIMES 21 12 * 1000 ≤ s.intake.qualCount f) : ∃ w, exec (.feedValid f) s
      = .next (s.setIntake ({ (s.intake.setValid f true).rechoose with switchTo := w } : Intake).seqStart) := by
  have hexec := fun t => guarded_of (ok := s.intake.strapped && !s.intake.valid f
    && decide (s.icfg Reg.INT_FEED_TIMES 21 12 * 1000 ≤ s.intake.qualCount f)) (by simp [hs, hf, hq]) s t
  change ∃ w, execFeedValid f s = _
  unfold execFeedValid
  extract_lets i j
  rw [hexec]
  split
  · exact ⟨j.switchTo, rfl⟩
  · split
    · exact ⟨some f, rfl⟩
    · exact ⟨j.switchTo, rfl⟩

theorem feedValid_answers {f : Feed} (hs : s.intake.strapped = true) (hf : s.intake.valid f = false)
    (hq : s.icfg Reg.INT_FEED_TIMES 21 12 * 1000 ≤ s.intake.qualCount f) :
    ∃ t, exec (.feedValid f) s = .next t ∧ t = { s with intake := t.intake } ∧ t.intake.valid f = true
      ∧ t.intake.valid (otherFeed f) = s.intake.valid (otherFeed f) ∧ t.intake.passFet = s.intake.passFet
      ∧ (s.intake.isoA = false → s.intake.isoB = false → s.intake.breaking = false → s.intake.permits f = true →
          t.intake.feed ≠ none) := by
  obtain ⟨w, hexec⟩ := exec_feedValid hs hf hq
  obtain ⟨n, p, hseq⟩ := ({ (s.intake.setValid f true).rechoose with switchTo := w } : Intake).seqStart_eq
  obtain ⟨g, w', hrechoose⟩ := (s.intake.setValid f true).rechoose_eq
  refine ⟨_, hexec, rfl, ?_⟩
  rw [State.setIntake_intake, hseq]
  refine ⟨?_, ?_, ?_, fun ha hb hbreak hpermits => ?_⟩
  · rw [hrechoose]
    cases f <;> rfl
  · rw [hrechoose]
    cases f <;> rfl
  · rw [hrechoose]
    cases f <;> rfl
  · refine Intake.rechoose_feed_ne_none (f := f) ?_ ?_ ?_ ?_
    · cases f <;> exact ha
    · cases f <;> exact hb
    · cases f <;> exact hbreak
    · rw [Intake.usable_setValid_same, hpermits, Bool.and_true]

/-- A feed that ceases to be valid is left where it is the active one and the other is usable. -/
theorem exec_feedInvalid {f : Feed} (hf : s.intake.valid f = true)
    (hc : s.tFilt ≤ s.intake.swCount f ∨ s.tFilt ≤ s.intake.ovCount f) : exec (.feedInvalid f) s = .next (s.setIntake
      (if s.intake.feed = some f ∧ (s.intake.setValid f false).usable (otherFeed f) = true then
        { s.intake.setValid f false with switchTo := some (otherFeed f) }
      else s.intake.setValid f false)) := by
  have hdue : ((s.intake.valid f || decide (s.intake.feed = some f))
      && (decide (s.tFilt ≤ s.intake.swCount f) || decide (s.tFilt ≤ s.intake.ovCount f))) = true := by simp [hf, hc]
  refine (guarded_of hdue _ _).trans ?_
  extract_lets i
  have hfeed : i.feed = s.intake.feed := s.intake.setValid_feed f false
  rw [hfeed]

/-! ### A switch (R63, R64) -/

theorem exec_feedSwitch {f : Feed} (hsw : s.intake.switchTo = some f) :
    ∃ i, exec .feedSwitch s = .next ((s.setIntake i).intakeEvent 0x0501)
      ∧ i = { (s.intake.setIso (otherFeed f) false) with
        feed := some f, switchTo := none, breaking := s.intake.breaking || s.intake.iso (otherFeed f)
        cnt := { s.intake.cnt with warn := 0, recov := 0, rst := 0, openFet := 0 } } := by
  change ∃ i, execFeedSwitch s = _ ∧ _
  rw [execFeedSwitch, hsw]
  exact ⟨_, rfl, rfl⟩

theorem feedSwitch_answers {f : Feed} (hsw : s.intake.switchTo = some f) : ∃ t, exec .feedSwitch s = .next t
    ∧ t.intake.feed = some f
    ∧ t.intake.iso (otherFeed f) = false ∧ t.intake.iso f = s.intake.iso f ∧ t.intake.switchTo = none
    ∧ t.intake.breaking = (s.intake.breaking || s.intake.iso (otherFeed f)) ∧ t.intake.passFet = s.intake.passFet
    ∧ (s.live = true → s.logic.linkUp = true → t.evtSet 0x0501 0 = true) := by
  obtain ⟨i, hexec, hi⟩ := exec_feedSwitch hsw
  obtain ⟨h, hintake⟩ := s.setIntake_event_intake i 0x0501
  refine ⟨_, hexec, ?_⟩
  rw [hintake, hi]
  have hevent := fun hs hl => State.setIntake_event_evtSet (s := s) hs hl i 0x0501
  rw [hi] at hevent
  cases f with
  | a => exact ⟨rfl, rfl, rfl, rfl, rfl, rfl, hevent⟩
  | b => exact ⟨rfl, rfl, rfl, rfl, rfl, rfl, hevent⟩

theorem exec_feedBreakEnd {f : Feed} (hf : s.intake.feed = some f) (hb : s.intake.breaking = true) :
    exec .feedBreakEnd s = .next { s with intake := { s.intake.setIso f true with breaking := false } } := by
  change execFeedBreakEnd s = _
  rw [execFeedBreakEnd, hf]
  exact guarded_of hb _ _

theorem exec_feedReturn (hc : bit (s.icfg Reg.INT_CTRL 31 0) 5 = true) (hf : s.intake.feed = some .b)
    (ha : s.intake.usable .a = true) (hl : s.intake.inLimit = false) (hw : s.intake.feedWarn = false) :
    exec .feedReturn s = .next { s with intake := { s.intake with switchTo := some .a } } :=
  guarded_of (by simp [hc, hf, ha, hl, hw]) _ _

/-! ### The loss of the active feed (R62, R65, R72) -/

/-- A retry, latch-off, lockout, Off or trip hold goes on through the loss of a feed, and feed qualification follows otherwise. -/
theorem Intake.requalify_of_stays {i : Intake} (h : (i.phase.latched || i.phase.retrying) = true) : i.requalify.phase = i.phase :=
  if_pos h

theorem Intake.requalify_of_not_stays {i : Intake} (h : (i.phase.latched || i.phase.retrying) = false) :
    i.requalify.phase = .qualify ∧ i.requalify.needSeq = false := by
  simp [Intake.requalify, h]

theorem exec_feedBelowVrst (hf : s.intake.feed.isSome = true) (hc : s.tFilt ≤ s.intake.cnt.rst) :
    ∃ u w, exec .feedBelowVrst s = .next (State.setIntake u { u.intake.requalify with warnCause := w })
      ∧ u = (s.dropPg causePgOut).intakeEvent 0x0502 :=
  ⟨_, _, guarded_of (by rw [hf, decide_eq_true hc, Bool.and_self]) _ _, rfl⟩

theorem feedBelowVrst_answers (hf : s.intake.feed.isSome = true) (hc : s.tFilt ≤ s.intake.cnt.rst) :
    ∃ t, exec .feedBelowVrst s = .next t
      ∧ t.intake.pgOut = false ∧ t.intake.passFet = false ∧ t.intake.isoA = false ∧ t.intake.isoB = false
      ∧ t.intake.feed = none ∧ t.intake.validA = false ∧ t.intake.validB = false ∧ t.intake.faultCount = s.intake.faultCount
      ∧ t.intake.feedWarn = s.intake.feedWarn
      ∧ ((s.intake.phase.latched || s.intake.phase.retrying) = false → t.intake.phase = .qualify ∧ t.intake.needSeq = false)
      ∧ ((s.intake.phase.latched || s.intake.phase.retrying) = true → t.intake.phase = s.intake.phase) := by
  obtain ⟨q, l, b, h, hdrop⟩ := s.dropPg_event_intake causePgOut 0x0502
  obtain ⟨u, w, hexec, hu⟩ := exec_feedBelowVrst hf hc
  rw [← hu] at hdrop
  refine ⟨_, hexec, ?_⟩
  rw [State.setIntake_intake, hdrop]
  exact ⟨rfl, rfl, rfl, rfl, rfl, rfl, rfl, rfl, rfl, fun hgoes => Intake.requalify_of_not_stays hgoes,
    fun hstays => Intake.requalify_of_stays hstays⟩

theorem exec_feedOvervoltage {f : Feed} (hf : s.intake.feed = some f) (hc : s.tFilt ≤ s.intake.ovCount f) :
    ∃ i u, exec .feedOvervoltage s = .next
        (if (s.intake.setValid f false).usable (otherFeed f) then
          s.setIntake { s.intake.setValid f false with switchTo := some (otherFeed f) }
        else State.setIntake u u.intake.requalify)
      ∧ i = { s.intake.setValid f false with faults := (s.intake.setValid f false).faults ||| 0x001 }
      ∧ u = ((s.setIntake i).dropPg causePgOut).intakeEvent 0x0518 := by
  change ∃ i u, execFeedOvervoltage s = _ ∧ _ ∧ _
  rw [execFeedOvervoltage, hf]
  exact ⟨_, _, guarded_of (decide_eq_true hc) _ _, rfl, rfl⟩

theorem feedOvervoltage_switches {f : Feed} (hf : s.intake.feed = some f) (hc : s.tFilt ≤ s.intake.ovCount f)
    (hother : (s.intake.setValid f false).usable (otherFeed f) = true) : exec .feedOvervoltage s
      = .next { s with intake := { s.intake.setValid f false with switchTo := some (otherFeed f) } } := by
  obtain ⟨i, u, hexec, -, -⟩ := exec_feedOvervoltage hf hc
  rw [hexec, if_pos hother]
  rfl

theorem feedOvervoltage_last {f : Feed} (hf : s.intake.feed = some f) (hc : s.tFilt ≤ s.intake.ovCount f)
    (hother : (s.intake.setValid f false).usable (otherFeed f) = false) : ∃ t, exec .feedOvervoltage s = .next t
      ∧ t.intake.pgOut = false ∧ t.intake.passFet = false ∧ t.intake.isoA = false ∧ t.intake.isoB = false
      ∧ t.intake.faults = s.intake.faults ||| 0x001
      ∧ ((s.intake.phase.latched || s.intake.phase.retrying) = false → t.intake.phase = .qualify ∧ t.intake.needSeq = false) := by
  obtain ⟨i, u, hexec, hi, hu⟩ := exec_feedOvervoltage hf hc
  rw [hother, if_neg Bool.false_ne_true] at hexec
  obtain ⟨a, b, hvalid⟩ := s.intake.setValid_eq f false
  obtain ⟨q, l, b', h, hdrop⟩ := (s.setIntake i).dropPg_event_intake causePgOut 0x0518
  rw [← hu, State.setIntake_intake, hi, hvalid] at hdrop
  refine ⟨_, hexec, ?_⟩
  rw [State.setIntake_intake, hdrop]
  exact ⟨rfl, rfl, rfl, rfl, rfl, fun hgoes => Intake.requalify_of_not_stays hgoes⟩

/-! ### The obligation -/

/-- Settles O12, one command after another. That a feed no longer valid is left again as it falls below V_SW is log 185. -/
theorem sensingAndFeedCommands : Obligations.SensingAndFeedCommands := by
  intro s
  refine ⟨fun a b tf g q hv => exec_evaluationTick hv a b tf g q, ?_, ?_, fun f => feedValid_answers, fun f => exec_feedInvalid,
    fun f => feedSwitch_answers, fun f => exec_feedBreakEnd, feedBelowVrst_answers, fun f => feedOvervoltage_switches,
    fun f => feedOvervoltage_last, exec_feedReturn⟩
  · exact fun n hn hv h => guarded_of (by rw [hv, any_of_mem hn h, Bool.and_self]) _ _
  · exact fun n hn hv h => guarded_of (by rw [hv, any_of_mem hn h, Bool.and_self]) _ _

end Sys2Proof.Machine
end

section
/-! Proofs about retry, the FET tests and presence (03; R79 to R86): one lemma for each outcome of a command. -/

namespace Sys2Proof.Machine

open Sys2Proof

variable {s : State}

/-! ### Retry (R79, R81) -/

theorem exec_retryCoolEnd (h : s.intake.phase = .retryCool) : exec .retryCoolEnd s = .next { s with intake := { s.intake with
    phase := if s.intake.inserted then .retryDelay else .qualify, cnt := { s.intake.cnt with retry := 0 } } } :=
  guarded_of (decide_eq_true h) _ _

/-- Soft start waits for the end of a thermal trip and for a FET below T_START (R67). -/
theorem State.startReady_cool (h : s.startReady = true) :
    s.intake.thermTrip = false ∧ s.intake.tFet < (s.icfg Reg.INT_FET_TEMP_CFG 31 16 * 10 : Int) := by
  simp only [State.startReady, Bool.and_eq_true, Bool.not_eq_true', decide_eq_true_eq] at h
  obtain ⟨⟨⟨⟨⟨-, htherm⟩, -⟩, -⟩, -⟩, hcool⟩ := h
  exact ⟨htherm, hcool⟩

theorem Intake.softStart_eq (i : Intake) :
    ∃ a b e p, i.softStart = { i with isoA := a, isoB := b, enhancing := e, phase := p } ∧ (p = .softStart ∨ p = i.phase) := by
  unfold Intake.softStart
  split
  · next f _ => cases f <;> exact ⟨_, _, _, _, rfl, .inl rfl⟩
  · exact ⟨i.isoA, i.isoB, i.enhancing, i.phase, rfl, .inr rfl⟩

theorem exec_retryEnd (h : s.intake.phase = .retryDelay) :
    ∃ i, exec .retryEnd s = .next (if (s.setIntake i).startReady then (s.setIntake i).setIntake i.softStart else s.setIntake i)
      ∧ i = { s.intake with phase := if s.intake.thermTrip then .tripHold else .qualify, needSeq := false } :=
  ⟨_, guarded_of (decide_eq_true h) _ _, rfl⟩

/-- Soft start follows the delay where nothing holds it off; otherwise the device waits for it in the phase that the delay leaves. -/
theorem retryEnd_answers (h : s.intake.phase = .retryDelay) : ∃ t, exec .retryEnd s = .next t ∧ t.intake.needSeq = false
    ∧ t = { s with intake := t.intake } ∧ t.intake.passFet = s.intake.passFet
    ∧ (s.intake.thermTrip = true → t.intake.phase = .tripHold)
    ∧ (s.intake.thermTrip = false → t.intake.phase = .softStart ∨ t.intake.phase = .qualify)
    ∧ ((s.icfg Reg.INT_FET_TEMP_CFG 31 16 * 10 : Int) ≤ s.intake.tFet → t.intake.phase ≠ .softStart) := by
  obtain ⟨i, hexec, hi⟩ := exec_retryEnd h
  have hheld : s.intake.thermTrip = true → i.phase = .tripHold := fun htherm => by rw [hi]; exact if_pos htherm
  have hfree : s.intake.thermTrip = false → i.phase = .qualify := fun htherm => by rw [hi, htherm]; rfl
  by_cases hready : (s.setIntake i).startReady = true
  · obtain ⟨htherm, hcool⟩ := State.startReady_cool hready
    rw [State.setIntake_intake, hi] at htherm
    rw [State.icfg, State.setIntake_intake, hi] at hcool
    obtain ⟨a, b, e, p, hsoft, hp⟩ := i.softStart_eq
    rw [if_pos hready] at hexec
    refine ⟨_, hexec, ?_⟩
    rw [State.setIntake_intake, hsoft]
    refine ⟨?_, ?_, ?_, fun hn => ?_, fun _ => ?_, fun hhot => absurd hcool (Int.not_lt.mpr hhot)⟩
    · rw [hi]
    · rfl
    · rw [hi]
    · exact absurd htherm (by rw [hn]; exact nofun)
    · rwa [hfree htherm] at hp
  · rw [if_neg hready] at hexec
    refine ⟨_, hexec, ?_⟩
    rw [State.setIntake_intake]
    refine ⟨by rw [hi], rfl, by rw [hi], hheld, fun htherm => .inr (hfree htherm), fun _ => ?_⟩
    cases htherm : s.intake.thermTrip
    · rw [hfree htherm]
      exact nofun
    · rw [hheld htherm]
      exact nofun

/-! ### Presence (R84 to R86) -/

/-- A removal opens the pass FET with a warning, and ends a retry or latch-off with its count. -/
theorem removal_answers {l sh : Bool} (hv : s.intake.vstby = true) (hpins : (l && sh) = false) :
    ∃ t, exec (.removal l sh) s = .next t ∧ t.intake.passFet = false
      ∧ t.intake.feedWarn = true ∧ t.intake.warnCause = .removal ∧ t.intake.inLimit = false ∧ t.intake.cnt.ftimer = 0
      ∧ t.intake.inserted = false ∧ t.intake.pin0 = !l ∧ t.intake.pin1 = !sh
      ∧ t.intake.pgOut = s.intake.pgOut ∧ t.intake.isoA = s.intake.isoA ∧ t.intake.isoB = s.intake.isoB
      ∧ (s.intake.phase = .latchedOff → t.intake.faultCount = 0 ∧ t.intake.faults = s.intake.faults &&& ~~~0x002)
      ∧ (s.intake.phase = .retryCool → t.intake.phase = .retryCool ∧ t.intake.faultCount = 0)
      ∧ (s.live = true → s.logic.linkUp = true → t.evtSet 0x0510 0 = true) := by
  refine ⟨_, guarded_of (by rw [hv, hpins, Bool.not_false, Bool.and_self]) _ _, ?_⟩
  obtain ⟨h, hintake⟩ := State.setIntake_event_intake s _ 0x0510
  rw [hintake]
  refine ⟨rfl, rfl, rfl, rfl, rfl, rfl, rfl, rfl, rfl, rfl, rfl, fun hlatched => ?_, fun hcool => ?_,
    fun hs hl => State.setIntake_event_evtSet hs hl _ _⟩
  · simp [hlatched]
  · simp [hcool, Phase.retrying]

theorem exec_insertionComplete (hs : s.intake.strapped = true) (hin : s.intake.inserted = false) (hp : s.intake.phase ≠ .retryCool) :
    ∃ i : Intake, exec .insertionComplete s = .next ((s.setIntake i.rechoose.seqStart).intakeEvent 0x0511)
      ∧ i = { s.intake with
        pin0 := false, pin1 := false, inserted := true, needSeq := true, offPending := false
        phase := if s.intake.phase = .off then .qualify else s.intake.phase } :=
  ⟨_, guarded_of (by simp [hs, hin, hp]) _ _, rfl⟩

theorem insertionComplete_answers (hs : s.intake.strapped = true) (hin : s.intake.inserted = false)
    (hp : s.intake.phase ≠ .retryCool) : ∃ t, exec .insertionComplete s = .next t
      ∧ t.intake.inserted = true ∧ t.intake.pin0 = false ∧ t.intake.pin1 = false ∧ t.intake.passFet = s.intake.passFet
      ∧ t.intake.phase ≠ .off ∧ (s.live = true → s.logic.linkUp = true → t.evtSet 0x0511 0 = true) := by
  obtain ⟨i, hexec, hi⟩ := exec_insertionComplete hs hin hp
  obtain ⟨h, hintake⟩ := s.setIntake_event_intake i.rechoose.seqStart 0x0511
  obtain ⟨f, w, hrechoose⟩ := i.rechoose_eq
  obtain ⟨n, p, hseq⟩ := i.rechoose.seqStart_eq
  have hphase : i.rechoose.seqStart.phase ≠ .off := by
    refine Intake.seqStart_phase_ne_off ?_
    rw [hrechoose, hi]
    dsimp only
    split
    · exact nofun
    · assumption
  refine ⟨_, hexec, ?_⟩
  rw [hintake]
  refine ⟨?_, ?_, ?_, ?_, hphase, fun hlive hl => State.setIntake_event_evtSet hlive hl _ _⟩
  all_goals rw [hseq, hrechoose, hi]

/-! ### The obligation -/

/-- Settles O15, one command after another. -/
theorem retryFetAndPresenceCommands : Obligations.RetryFetAndPresenceCommands := by
  intro s
  refine ⟨?_, ?_, retryEnd_answers, ?_, ?_, ?_, fun l sh => removal_answers, insertionComplete_answers⟩
  · intro h hin
    rw [exec_retryCoolEnd h, if_pos hin]
  · intro h hin
    rw [exec_retryCoolEnd h, hin, if_neg Bool.false_ne_true]
  · exact fun hp => guarded_of hp _ _
  · exact fun hp h => guarded_of (by rw [hp, decide_eq_true h, Bool.not_false, Bool.and_self]) _ _
  · exact fun h h' => guarded_of (by rw [decide_eq_true h, decide_eq_true h', Bool.and_self]) _ _

end Sys2Proof.Machine
end

section
/-! Proofs about early warning and sequencing (03; R72, R87, R91, R94 to R97): one lemma for each outcome of a command. -/

namespace Sys2Proof.Machine

open Sys2Proof

variable {s : State}

/-! ### Early warning (R87, R91) -/

theorem exec_earlyWarning (hf : s.intake.feed.isSome = true) (hw : s.intake.feedWarn = false) (hc : s.tFilt ≤ s.intake.cnt.warn) :
    exec .earlyWarning s = .next (({ s with intake := { s.intake with
      feedWarn := true, warnCause := .early, braceSent := true } }).intakeEvent 0x0503) :=
  guarded_of (by rw [hf, hw, decide_eq_true hc, Bool.not_false, Bool.and_self, Bool.and_self]) _ _

theorem exec_dipRecovered (hw : s.intake.warnCause = .early)
    (hc : s.icfg Reg.INT_FEED_TIMES2 9 0 * 1000 ≤ s.intake.cnt.recov) :
    ∃ i, exec .dipRecovered s = .next ((s.setIntake i).intakeEvent 0x0504).leaveBrace
      ∧ i = { s.intake with feedWarn := false, warnCause := .none, braceSent := false } :=
  ⟨_, guarded_of (by rw [decide_eq_true hw, decide_eq_true hc, Bool.and_self]) _ _, rfl⟩

/-- Brace ends with the dip, or goes on until the record under way is written. -/
theorem dipRecovered_answers (hw : s.intake.warnCause = .early)
    (hc : s.icfg Reg.INT_FEED_TIMES2 9 0 * 1000 ≤ s.intake.cnt.recov) : ∃ t, exec .dipRecovered s = .next t
      ∧ t.intake.feedWarn = false ∧ t.intake.warnCause = .none ∧ t.logic.on = s.logic.on ∧ t.logic.sysRst = s.logic.sysRst
      ∧ t.boot.brace = (s.boot.brace && s.boot.lgWriting) ∧ t.boot.braceEnd = (s.boot.brace && s.boot.lgWriting)
      ∧ (s.live = true → s.logic.linkUp = true → t.evtSet 0x0504 0 = true) := by
  obtain ⟨i, hexec, hi⟩ := exec_dipRecovered hw hc
  obtain ⟨h, hintake⟩ := s.setIntake_event_intake i 0x0504
  obtain ⟨w, hboot⟩ := (s.setIntake i).intakeEvent_boot 0x0504
  have hbrace : (((s.setIntake i).intakeEvent 0x0504).boot.brace && ((s.setIntake i).intakeEvent 0x0504).boot.lgWriting)
      = (s.boot.brace && s.boot.lgWriting) := by rw [hboot, State.setIntake_boot]
  refine ⟨_, hexec, ?_, ?_, State.intakeEvent_logic_on _ _, State.intakeEvent_logic_sysRst _ _, hbrace, hbrace,
    fun hs hl => State.setIntake_event_evtSet hs hl i _⟩
  · exact (congrArg Intake.feedWarn hintake).trans (by rw [hi])
  · exact (congrArg Intake.warnCause hintake).trans (by rw [hi])

/-! ### Sequencing (R94, R95) -/

theorem exec_seqInAssert (hv : s.intake.vstby = true) (hc : 1000 ≤ s.intake.cnt.seqHigh) :
    exec .seqInAssert s = .next { s with intake := { s.intake with
      seqIn := true, needSeq := s.intake.needSeq && decide (s.intake.phase ≠ .seqWait) } } :=
  guarded_of (by rw [hv, decide_eq_true hc, Bool.and_self]) _ _

/-! ### Off (R72, R97) -/

theorem offReq_answers (hs : s.live = true) (hl : s.logic.linkUp = true) (hp : s.intake.pgOut = true) :
    ∃ t, exec .offReq s = .next t ∧ t.intake.pgOut = false
      ∧ t.intake.seqOut = false ∧ t.intake.offPending = true ∧ t.live = false ∧ t.intake.passFet = s.intake.passFet := by
  refine ⟨_, guarded_of (by rw [hs, hl, hp, Bool.and_self, Bool.and_self]) _ _, ?_⟩
  rw [State.requestOff, State.dropPg_of_pgOut hp]
  exact ⟨rfl, rfl, rfl, rfl, rfl⟩

theorem exec_seqWakeEdge (hp : s.intake.phase = .off) (hw : bit (s.icfg Reg.INT_CTRL 31 0) 7 = true) :
    ∃ i : Intake, exec .seqWakeEdge s = .next (s.setIntake i.rechoose.seqStart)
      ∧ i = { s.intake with phase := .qualify, needSeq := true } :=
  ⟨_, guarded_of (by rw [decide_eq_true hp, hw, Bool.and_self]) _ _, rfl⟩

theorem seqWakeEdge_answers (hp : s.intake.phase = .off) (hw : bit (s.icfg Reg.INT_CTRL 31 0) 7 = true) :
    ∃ t, exec .seqWakeEdge s = .next t
      ∧ t.intake.phase ≠ .off ∧ (s.intake.seqFirst = false → t.intake.needSeq = true)
      ∧ t.intake.passFet = s.intake.passFet ∧ t = { s with intake := t.intake } := by
  obtain ⟨i, hexec, hi⟩ := exec_seqWakeEdge hp hw
  obtain ⟨f, w, hrechoose⟩ := i.rechoose_eq
  obtain ⟨n, p, hseq⟩ := i.rechoose.seqStart_eq
  refine ⟨_, hexec, ?_⟩
  rw [State.setIntake_intake]
  refine ⟨Intake.seqStart_phase_ne_off ?_, fun hfirst => ?_, ?_, rfl⟩
  · rw [hrechoose, hi]
    exact nofun
  · rw [Intake.seqStart_needSeq (by rw [hrechoose, hi]; exact hfirst), hrechoose, hi]
  · rw [hseq, hrechoose, hi]

/-! ### The obligation -/

/-- Settles O16, one command after another. That SEQ_TIMED_OUT stays is log 188. -/
theorem warningAndSequencingCommands : Obligations.WarningAndSequencingCommands := by
  intro s
  refine ⟨exec_earlyWarning, dipRecovered_answers, ?_, ?_, ?_, offReq_answers, fun h => guarded_of h _ _, seqWakeEdge_answers⟩
  · intro hv hc hp
    rw [exec_seqInAssert hv hc, hp, decide_eq_false (not_not_intro rfl), Bool.and_false]
  · intro hv hc hp
    rw [exec_seqInAssert hv hc, decide_eq_true hp, Bool.and_true]
  · exact fun hp hn => guarded_of (by rw [decide_eq_true hp, hn, Bool.and_self]) _ _

end Sys2Proof.Machine
end

section
/-! SUPPORT. What a request leaves of the device as it takes its descriptor, goes on to memory or is given up (08 to 13): all but the
tables and registers of the units that it passes, the event log, and what a Fatal event asserts. `KeepsPower` says as much of power and
queue alone; the boot machinery, whose sweep waits for locks as requests do, needs the whole. -/

namespace Sys2Proof.Machine

open Sys2Proof

/-! ### The relation -/

/-- The device without what requests change. -/
def State.aside (s : State) : State :=
  { s with
    fresh := 0, regs := [], log := {}, kct := {}, pwr := {}, pipe := {}, coh := {}, tier := {}, cmp := {}, dram := {}, mreg := {}
    logic := { s.logic with faultWire := false }
    boot := { s.boot with autoWarm := false } }

/-- From `s` to `t` only what requests change has changed. -/
structure RequestStep (s t : State) : Prop where
  aside : t.aside = s.aside

namespace RequestStep

variable {s t : State}

theorem refl (s : State) : RequestStep s s := ⟨rfl⟩

theorem trans {u : State} (h : RequestStep s t) (k : RequestStep t u) : RequestStep s u := ⟨k.aside.trans h.aside⟩

theorem ite {c : Prop} [Decidable c] {u : State} (h : RequestStep s t) (k : RequestStep s u) : RequestStep s (if c then t else u) := by
  split
  · exact h
  · exact k

variable (h : RequestStep s t)
include h

/-- A fold of steps is a step. -/
theorem steps {α : Type} {f : State → α → State} (hf : ∀ u a, RequestStep u (f u a)) (l : List α) :
    RequestStep s (l.foldl f t) :=
  List.foldlRecOn (motive := RequestStep s) l f h fun u hu a _ => hu.trans (hf u a)

/-! The parts of the state that requests change, one by one. -/

theorem fresh (x : Nat) : RequestStep s { t with fresh := x } := h.trans ⟨rfl⟩

theorem regs (x : Tab Word) : RequestStep s { t with regs := x } := h.trans ⟨rfl⟩

theorem log (x : EventLog) : RequestStep s { t with log := x } := h.trans ⟨rfl⟩

theorem kct (x : Kct) : RequestStep s { t with kct := x } := h.trans ⟨rfl⟩

theorem pwr (x : Pwr) : RequestStep s { t with pwr := x } := h.trans ⟨rfl⟩

theorem pipe (x : Pipe) : RequestStep s { t with pipe := x } := h.trans ⟨rfl⟩

theorem coh (x : Coh) : RequestStep s { t with coh := x } := h.trans ⟨rfl⟩

theorem tier (x : Tier) : RequestStep s { t with tier := x } := h.trans ⟨rfl⟩

theorem cmp (x : Cmp) : RequestStep s { t with cmp := x } := h.trans ⟨rfl⟩

theorem dram (x : Dram) : RequestStep s { t with dram := x } := h.trans ⟨rfl⟩

theorem mreg (x : Mreg) : RequestStep s { t with mreg := x } := h.trans ⟨rfl⟩

theorem fatalSet : RequestStep s t.fatalSet := h.trans ⟨rfl⟩

/-! ### Registers, counters and events -/

theorem setReg (a : Nat) (v : Word) : RequestStep s (t.setReg a v) := h.regs _

theorem count (a : Nat) : RequestStep s (t.count a) := ite h (h.setReg ..)

theorem count64 (a n : Nat) : RequestStep s (t.count64 a n) := (h.setReg ..).setReg ..

theorem setEvt (code inst : Nat) : RequestStep s (t.setEvt code inst) := (ite (h.setReg ..) h).setReg ..

theorem logEvent (code inst : Nat) (f hst : Bool) (time d1 d2 : Nat) : RequestStep s (t.logEvent code inst f hst time d1 d2) := h.log _

theorem raiseAt (code inst d1 d2 : Nat) : RequestStep s (t.raiseAt code inst d1 d2) := by
  have hset := h.setEvt code inst
  have hlog := ite (c := t.evtEnabled code inst = true) (hset.logEvent code inst false false t.time.nanos d1 d2) hset
  exact ite (h.count _) (ite hlog.fatalSet hlog)

theorem raise (code d1 d2 : Nat) : RequestStep s (t.raise code d1 d2) := h.raiseAt ..

/-! ### Tables -/

theorem setDom (d : Nat) (v : Dom) : RequestStep s (t.setDom d v) := h.pwr _

theorem stall (d : Nat) : RequestStep s (t.stall d) := ite (h.setDom ..) h

theorem setCtx (c : Nat) (v : Ctx) : RequestStep s (t.setCtx c v) := h.kct _

theorem setChan (n : Nat) (v : Chan) : RequestStep s (t.setChan n v) := h.dram _

theorem setSub (n b : Nat) (v : SubChan) : RequestStep s (t.setSub n b v) := h.setChan ..

theorem setLine (la : Nat) (l : List Byte) (m : LineMark) : RequestStep s (t.setLine la l m) := h.dram _

theorem setStand (k : Nat) (v : Stand) : RequestStep s (t.setStand k v) := h.tier _

theorem setRegion (r : Nat) (v : Region) : RequestStep s (t.setRegion r v) := h.pipe _

theorem setDc (r p : Nat) (e : Option DcEntry) : RequestStep s (t.setDc r p e) := h.pipe _

theorem dropPlace (w r p : Nat) : RequestStep s (t.dropPlace w r p) := h.pipe _

theorem putFlight (f : Flight) : RequestStep s (t.putFlight f) := h.coh _

theorem dropFlight (i : Nat) : RequestStep s (t.dropFlight i) := h.coh _

theorem stamp : RequestStep s t.stamp.2 := h.coh _

theorem bulkResult (b i st : Nat) (l : List Byte) : RequestStep s (t.bulkResult b i st l) := h.coh _

theorem addClassPages (c : Nat) (n : Int) : RequestStep s (t.addClassPages c n) := h.cmp _

/-! ### Messages to clients -/

theorem sendSeg (c k ch : Nat) (m : BitVec 24) (st i : Nat) (last ar : Bool) (l : List Byte) (d : Option Dest) :
    RequestStep s (t.sendSeg c k ch m st i last ar l d) := (h.setCtx ..).kct _

theorem sendSegs (c k ch : Nat) (m : BitVec 24) (st lim n i : Nat) (l : List Byte) :
    RequestStep s (t.sendSegs c k ch m st lim n i l) := by
  induction n generalizing t i l with
  | zero => exact h
  | succ n ih => exact ite (h.sendSeg ..) (ih (h.sendSeg ..) ..)

theorem sendMsg (c k : Nat) (m : BitVec 24) (st : Nat) (l : List Byte) : RequestStep s (t.sendMsg c k m st l) := ite (h.sendSegs ..) h

theorem reply (c : Nat) (e : BitVec 4) (k : Nat) (m : BitVec 24) (st : Nat) (l : List Byte) :
    RequestStep s (t.reply c e k m st l) := ite (h.sendMsg ..) h

/-! ### Slots and releases -/

theorem judgePressure : RequestStep s t.judgePressure := by
  unfold State.judgePressure
  extract_lets awake tier u free low
  have hu : RequestStep s u := ite (h.tier _) h
  exact ite (hu.tier _) (ite (ite (hu.tier _) hu) (ite ((hu.tier _).raise ..) hu))

theorem setBitmap (p : Nat) (b : BitVec 256) : RequestStep s (t.setBitmap p b) := (h.tier _).setStand ..

theorem freeSlots (l : List Nat) : RequestStep s (t.freeSlots l) :=
  (h.steps (fun u _ => ite (ite (refl u) ((refl u).tier _)) ((refl u).setBitmap ..)) l).judgePressure

theorem released (r : Release) : RequestStep s (t.released r) := by
  unfold State.released
  split
  · exact (h.freeSlots _).addClassPages ..
  · exact h.freeSlots _

theorem passed (i : Nat) : RequestStep s (t.passed i) := (h.tier _).steps (fun u r => (refl u).released r) _

/-! ### Descriptors -/

theorem addHeld (c : Nat) (n o : Int) : RequestStep s (t.addHeld c n o) := h.setCtx ..

theorem account (r : Nat) (a b : Desc) : RequestStep s (t.account r a b) := by
  unfold State.account
  extract_lets x s1 s2 s3 s4 s5 canopy
  have h2 : RequestStep s s2 := (h.setRegion ..).steps (fun u c => (refl u).addHeld ..) _
  have h3 : RequestStep s s3 := h2.steps (fun u c => (refl u).addHeld ..) _
  have h4 : RequestStep s s4 := ite (h3.addClassPages ..) h3
  have h5 : RequestStep s s5 := ite (h4.addClassPages ..) h4
  have hcanopy : ∀ {u} d n, RequestStep s u → RequestStep s (canopy u d n) := fun d n hu => ite (hu.setStand ..) hu
  exact hcanopy b 1 (hcanopy a (-1) h5)

theorem putDesc (r p : Nat) (d : Desc) : RequestStep s (t.putDesc r p d) := by
  unfold State.putDesc
  split
  · exact h
  · exact ite h ((h.setDc ..).account ..)

theorem deadHolder (r p c : Nat) : RequestStep s (t.deadHolder r p c).1 := by
  unfold State.deadHolder
  extract_lets d
  split
  · exact ((h.putDesc ..).raise ..).count64 ..
  · split
    · exact h.putDesc ..
    · exact h

theorem lockHandling (r p : Nat) : RequestStep s (t.lockHandling r p) := by
  unfold State.lockHandling
  extract_lets d dead s1
  have h1 : RequestStep s s1 := h.steps (fun u c => (refl u).deadHolder ..) _
  exact ite (h1.putDesc ..) h1

theorem touch (r p : Nat) : RequestStep s (t.touch r p) := by
  unfold State.touch
  split
  · exact (h.setDc ..).pipe _
  · exact h

theorem inferTransit (r p : Nat) : RequestStep s (t.inferTransit r p) := ite (((h.putDesc ..).count64 ..).raise ..) h

theorem restoreTransit (r p : Nat) : RequestStep s (t.restoreTransit r p) := by
  unfold State.restoreTransit
  extract_lets d
  refine ite ?_ h
  split
  · exact (h.putDesc ..).count64 ..
  · exact h.inferTransit ..

/-! ### A descriptor written back (R352) -/

theorem chargeMem (m n k : Nat) : RequestStep s (t.chargeMem m n k) := ((h.setChan ..).mreg _).count64 ..

theorem settle (la : Nat) : RequestStep s (t.settle la) := ite ((h.setLine ..).setSub ..) h

theorem cetEnter (n r o la w : Nat) (l : List Nat) (ue : Bool) : RequestStep s (t.cetEnter n r o la w l ue) := by
  unfold State.cetEnter
  extract_lets put
  split
  · exact h.setChan ..
  · split
    · exact h.setChan ..
    · exact (h.count _).raiseAt ..

theorem writeStored (la : Nat) (l : List (Option Byte)) (tag : Option Byte) : RequestStep s (t.writeStored la l tag).1 :=
  (h.setLine ..).steps (fun u _ => (((refl u).count _).cetEnter ..).raiseAt ..) _

theorem writeDirect (m la : Nat) (l : List (Option Byte)) (tag : Option Byte) : RequestStep s (t.writeDirect m la l tag) := by
  unfold State.writeDirect
  extract_lets n s0 s1
  have h0 : RequestStep s s0 := (h.chargeMem ..).count64 ..
  have h1 : RequestStep s s1 := ite h0 ((h0.count64 ..).count64 ..)
  exact ite h1 ((h1.settle la).writeStored ..)

theorem writeBack (k : Nat) (e : DcEntry) : RequestStep s (t.writeBack k e) := ite (((h.writeDirect ..).setDc ..).count64 ..) h

theorem dcRoom {r p : Nat} {u : State} (hu : t.dcRoom r p = some u) : RequestStep s u := by
  unfold State.dcRoom at hu
  dsimp only at hu
  split at hu
  · cases hu
    exact h
  · split at hu
    · cases hu
    · cases hu
      exact (h.writeBack ..).setDc ..

/-! ### The end of a request -/

theorem unlock (f : Flight) : RequestStep s (t.unlock f) := by
  unfold State.unlock
  split
  · exact ite (h.setDc ..) h
  · exact h

theorem countStatus (f : Flight) (st : Nat) : RequestStep s (t.countStatus f st) := by
  unfold State.countStatus
  split
  · exact h.count64 ..
  · exact h

theorem respond (f : Flight) (st info : Nat) (l : List Byte) : RequestStep s (t.respond f st info l) := by
  unfold State.respond
  extract_lets s0 s1 s2
  have h0 : RequestStep s s0 := (h.unlock f).passed _
  refine ite (h0.dropFlight _) ?_
  split
  · exact ite ((h0.bulkResult ..).dropFlight _) ((h0.bulkResult ..).putFlight _)
  · have h1 : RequestStep s s1 := ite h0 (h0.countStatus ..)
    have h2 : RequestStep s s2 := ite h1 (ite (h1.reply ..) (h1.reply ..))
    exact ite (h2.dropFlight _) (h2.putFlight _)

/-- A request that is told of another's end answers, if it is still there. -/
theorem respondIf (x : Option Flight) (st : Nat) :
    RequestStep s (match x with | some f => t.respond f st 0 [] | none => t) := by
  cases x with
  | none => exact h
  | some f => exact h.respond ..

theorem tellAll (st : Nat) (l : List PageOp) : RequestStep s (t.tellAll st l) := by
  refine h.steps (fun u op => ?_) l
  cases op with
  | tell g => exact (refl u).respondIf (u.flight? g) st
  | get => exact refl u
  | put => exact refl u
  | atom => exact refl u

theorem abort (f : Flight) (st : Nat) : RequestStep s (t.abort f st) := ((h.freeSlots _).respond ..).tellAll ..

theorem restoreBefore (f : Flight) : RequestStep s (t.restoreBefore f) := by
  unfold State.restoreBefore
  split
  · exact h
  · exact (h.putDesc ..).steps (fun u c => (refl u).deadHolder ..) _

theorem crcAbort (f : Flight) (b : Nat) : RequestStep s (t.crcAbort f b) := (((h.count _).raise ..).restoreBefore f).abort ..

theorem finish (f : Flight) : RequestStep s (t.finish f) := by
  unfold State.finish
  extract_lets s1 status
  have h1 : RequestStep s s1 := ite (h.putDesc ..) h
  exact ite (h.crcAbort ..) (h1.respond ..)

theorem retry (f : Flight) (n : Nat) : RequestStep s (t.retry f n) := by
  have hreply := (h.unlock f).reply f.client f.epoch tRetry f.msgId stRetry [BitVec.ofNat 8 n, 0, 0, 0]
  have hcount := ite (c := n = 1) (hreply.count64 (Reg.COH_CNT 5) 1) ((hreply.count64 (Reg.COH_CNT 6) 1).count Reg.PIPE_DC_ALLPINNED)
  exact (hcount.stamp.coh _).dropFlight _

/-! ### Reads of memory -/

theorem acceptEntry (n : Nat) (e : Entry) : RequestStep s (t.acceptEntry n e) := by
  unfold State.acceptEntry
  extract_lets b x e' own
  have hown : RequestStep s own := h.setSub ..
  split
  · exact ite (ite ((h.setSub ..).count64 ..) hown) (h.setSub ..)
  · exact hown

theorem acceptAll (n m : Nat) (l : List Entry) : RequestStep s (t.acceptAll n m l) :=
  (h.chargeMem ..).steps (fun u e => (refl u).acceptEntry n e) l

theorem setPortReq (n : Nat) (r : PortReq) (x : Option PortReq) : RequestStep s (t.setPortReq n r x) := h.setChan ..

theorem turned (n m : Nat) : RequestStep s (t.turned n m) := by
  unfold State.turned
  extract_lets c
  split
  · exact h
  · exact h.setChan ..
  · exact h.setChan ..

theorem holdMax (m x : Nat) : RequestStep s (t.holdMax m x) := ite (h.setReg ..) h

theorem pumpGo (n k : Nat) (l : List Nat) (lim : Nat) : RequestStep s (t.pumpGo n k l lim) := by
  induction k generalizing t l lim with
  | zero => exact h
  | succ k ih =>
    unfold State.pumpGo
    split
    · exact h
    · extract_lets s1 s2
      have h1 : RequestStep s s1 := ite h ((h.count64 ..).setPortReq ..)
      have h2 : RequestStep s s2 := ((h.setPortReq ..).turned ..).acceptAll ..
      exact ite (ih h1 ..) (ite (ih h ..) (ih (ite (h2.holdMax ..) h2) ..))

theorem pump (n : Nat) : RequestStep s (t.pump n) :=
  ite ((h.setChan ..).steps (fun u _ => (refl u).setSub ..) _) (ite (h.pumpGo ..) h)

theorem sendReads (m cls : Nat) (src : Option Nat) (l : List Nat) : RequestStep s (t.sendReads m cls src l) :=
  h.steps (fun u n => ((((refl u).setChan ..).stall _).stall _).pump n) _

theorem wakeStand (k : Nat) : RequestStep s (t.wakeStand k) := by
  have h1 := (h.setStand k { t.stand k with implicit := true }).count (Reg.TIER_STAND_WAKES k)
  exact ite h (ite (h1.count64 ..) h1)

theorem startRead (f : Flight) (d : Desc) (chain l : List Nat) : RequestStep s (t.startRead f d chain l) :=
  ((h.setStand ..).putFlight _).sendReads ..

/-! ### The operations of a request -/

theorem emptySlot (r : Nat) : RequestStep s (t.emptySlot r) := (h.raise ..).count64 ..

theorem stallLanes (l : List Nat) : RequestStep s (t.stallLanes l) := by
  unfold State.stallLanes
  refine ite h ?_
  split
  · exact h.stall _
  · exact h

theorem beginRead (f : Flight) (d : Desc) (l : List Nat) : RequestStep s (t.beginRead f d l) :=
  ite (h.abort ..) <| ite ((h.emptySlot _).abort ..) <| ite (h.abort ..) <| ite (h.abort ..) <| ite ((h.raise ..).abort ..) <|
    ite (ite (h.abort ..) ((h.putFlight _).wakeStand _)) <| ite (h.startRead ..) (h.startRead ..)

theorem beginCheck (f : Flight) (l : List XUnit) (g : Target) (d : Option Desc) : RequestStep s (t.beginCheck f l g d) :=
  ite ((h.emptySlot _).abort ..) <| ite (h.abort ..) ((h.putFlight _).stall _)

theorem storePlain (f : Flight) (l : List Byte) (raw : Bool) : RequestStep s (t.storePlain f l raw) :=
  ite (((h.count64 ..).count64 ..).putFlight _) <| ite (((h.count64 ..).count64 ..).putFlight _) <|
    ite (h.beginCheck ..) (h.beginCheck ..)

theorem beginWhole (f : Flight) (l : List Byte) : RequestStep s (t.beginWhole f l) :=
  ite ((ite h (h.raise ..)).storePlain ..) (((h.count64 ..).putFlight _).stallLanes _)

theorem intoCanopy (f : Flight) (l : List Byte) : RequestStep s (t.intoCanopy f l) := by
  unfold State.intoCanopy
  split
  · exact h.beginCheck ..
  · exact h.beginCheck ..
  · exact h

theorem runOps (i n : Nat) : RequestStep s (t.runOps i n) := by
  induction n generalizing t with
  | zero => exact h
  | succ n ih =>
    unfold State.runOps
    split
    · exact h
    · split
      · exact h.finish _
      · exact ih ((h.putFlight _).respondIf ..)
      · refine ite (h.abort ..) (ite ((h.putFlight _).stall _) ?_)
        extract_lets u d
        have hu : RequestStep s u := by
          dsimp only [u]
          split
          · exact h
          · exact h.restoreTransit ..
        split
        · split
          · exact ih (hu.putFlight _)
          · exact hu.beginRead ..
        · refine ite (hu.beginWhole ..) (ite (hu.abort ..) (ite (ih (hu.putFlight _)) ?_))
          split
          · exact hu.intoCanopy ..
          · exact ite (ite (hu.beginCheck ..) (hu.beginRead ..)) (hu.beginRead ..)
        · refine ite (hu.abort ..) ?_
          split
          · exact hu.intoCanopy ..
          · exact hu.beginRead ..
        · exact hu

theorem go (f : Flight) : RequestStep s (t.go f) := (h.putFlight f).runOps ..

theorem start (f : Flight) (l : List PageOp) : RequestStep s (t.start f l) := ite (h.crcAbort ..) (h.go _)

/-! ### Snoops -/

theorem drawMsgId (c : Nat) : RequestStep s (t.drawMsgId c).2 := h.setCtx ..

theorem fwdBody (f : Flight) : RequestStep s (t.fwdBody f).2 := (h.setCtx ..).fresh _

theorem sendSnoop (f : Flight) (c k : Nat) : RequestStep s (t.sendSnoop f c k).1 := by
  unfold State.sendSnoop
  split
  · exact h
  · split
    · exact h
    · have hid : RequestStep s (t.drawMsgId c).2 := h.drawMsgId c
      generalize t.drawMsgId c = x at hid ⊢
      dsimp only
      have hbody : RequestStep s (if k = 2 then x.2.fwdBody f else (pageAddr f.region f.page 0 ++ [0, 0, 0, 0], x.2)).2 := by
        split
        · exact hid.fwdBody f
        · exact hid
      generalize (if k = 2 then x.2.fwdBody f else (pageAddr f.region f.page 0 ++ [0, 0, 0, 0], x.2)) = y at hbody ⊢
      have hsent := hbody.sendMsg c (if k = 0 then tSnpInv else if k = 1 then tSnpShare else tSnpFwd) x.1 0 y.1
      exact ite ((hsent.count64 ..).count _) (hsent.count64 ..)

theorem sendSnoops (f : Flight) (k : Nat) (l : List Nat) : RequestStep s (t.sendSnoops f k l).1 :=
  List.foldlRecOn (motive := fun acc : State × List Snoop => RequestStep s acc.1) l _ h fun _ hu c _ => hu.sendSnoop f c k

end RequestStep

end Sys2Proof.Machine
end

section
/-! SUPPORT. What a request leaves as the home decides it and as waiting requests go on at a free lock (01, 09, 10; R9, R325, R367 to
R373, R386). -/

namespace Sys2Proof.Machine

open Sys2Proof

namespace RequestStep

variable {s t : State} (h : RequestStep s t)
include h

/-! ### Deciding (R369 to R373) -/

theorem broadcast (f : Flight) (d : Desc) (x : Option Nat) : RequestStep s (t.broadcast f d x) :=
  ((h.putDesc ..).raise ..).count64 ..

theorem addSharer (f : Flight) (l : List Nat) (x : Option Nat) (b : Bool) : RequestStep s (t.addSharer f l x b) := by
  unfold State.addSharer
  refine ite ((h.putDesc ..).start ..) (ite ((h.broadcast ..).start ..) ?_)
  split
  · exact h.start ..
  · exact ((((h.putDesc ..).count64 ..).sendSnoop ..).putFlight _)

theorem recalled (f : Flight) : RequestStep s (t.recalled f) := by
  unfold State.recalled
  split
  · exact (h.putDesc ..).start ..
  · exact h

/-- The answer to a forwarded snoop is counted as forwarded or as a fallback. -/
theorem countForward (c : Prop) [Decidable c] : RequestStep s
    (if c then (t.cohCount 3 1).count Reg.KCT_FWD_DONE else (t.cohCount 4 1).count Reg.KCT_FWD_FALLBACK) :=
  ite ((h.count64 ..).count _) ((h.count64 ..).count _)

theorem resolve (f : Flight) : RequestStep s (t.resolve f) := by
  unfold State.resolve
  extract_lets d R put kept
  have hput : ∀ {u} e, RequestStep s u → RequestStep s (put e u) := fun e hu => hu.putDesc ..
  refine ite (ite (h.start ..) (ite ?_ (ite ((hput _ h).start ..) (ite ?_ ((hput _ h).start ..))))) ?_
  · split
    · exact ite ((ite h (h.count _)).addSharer ..) ((h.countForward _).addSharer ..)
    · exact h.addSharer ..
  · split
    · exact ite (h.start ..) (ite ((ite h (h.count _)).start ..) ((hput _ (h.countForward _)).start ..))
    · exact (hput _ h).start ..
  refine ite ((hput _ h).start ..) (ite (ite ((hput _ h).start ..) ((h.count64 ..).respond ..)) ?_)
  refine ite ((hput _ h).start ..) (ite ((hput _ h).start ..) (ite ((hput _ (h.count64 ..)).start ..) ?_))
  exact ite (ite (h.start ..) ((h.raise ..).respond ..)) (ite ((hput _ h).start ..) (ite ((hput _ h).start ..) h))

/-! ### Taking a page (R367, R386, R426) -/

theorem queuePromo (r p : Nat) (b : Bool) : RequestStep s (t.queuePromo r p b) := ite h (ite (h.count64 ..) (h.tier _))

theorem warm (f : Flight) : RequestStep s (t.warm f) := by
  unfold State.warm
  split
  · exact h
  · exact ite ((h.putDesc ..).queuePromo ..) (h.putDesc ..)

theorem activate (f : Flight) : RequestStep s (t.activate f) := by
  unfold State.activate
  extract_lets s0 d s1 f'
  have h0 : RequestStep s s0 := h.lockHandling ..
  have h1 : RequestStep s s1 := h0.warm f
  refine ite (h0.respond ..) ?_
  generalize s1.snoopPlan f' d = x
  dsimp only
  have h2 := h1.sendSnoops f' x.1 x.2
  exact ite (h1.resolve _) (ite (h2.resolve _) (h2.putFlight _))

theorem joinData (f : Flight) (l : List PageOp) (x : List Snoop) : RequestStep s (t.joinData f l x) :=
  ite (ite (h.recalled _) (h.putFlight _)) (ite (ite (h.resolve _) (h.putFlight _)) (h.putFlight _))

theorem cross (f a : Flight) : RequestStep s (t.cross f a) := by
  unfold State.cross
  extract_lets s1 a' dirty put g waiting sn s2 d s2'
  have h1 : RequestStep s s1 := (h.count64 ..).warm f
  have h2 : RequestStep s s2 := ite (h1.putFlight _) (h1.respond ..)
  have h2' : RequestStep s s2' := h1.putDesc ..
  exact ite (h2.joinData ..) <| ite ((h2'.putFlight _).respond ..) <| ite (h2'.start ..) ((h2'.putFlight _).putFlight _)

theorem enqueuePage (f : Flight) : RequestStep s (t.enqueuePage f) := h.stamp.putFlight _

theorem queuePage (f : Flight) : RequestStep s (t.queuePage f) := by
  unfold State.queuePage
  extract_lets queued
  split
  · exact ite (h.enqueuePage f) (h.activate f)
  · exact ite (h.cross ..) (h.enqueuePage f)

theorem atHome (f : Flight) : RequestStep s (t.atHome f) := by
  unfold State.atHome
  extract_lets s1
  have h1 : RequestStep s s1 := h.unlock f
  refine ite (h1.queuePage _) ?_
  split
  · exact ite (h1.stamp.putFlight _) (h1.retry ..)
  · exact h1.queuePage _

/-! ### The lock of a descriptor (R9, R323, R325) -/

theorem restoreMoved (m : Move) (b : Bool) : RequestStep s (t.restoreMoved m b) :=
  (ite (h.putDesc ..) (ite (h.putDesc ..) h)).tier _

theorem settleMove (r p n : Nat) : RequestStep s (t.settleMove r p n) := by
  unfold State.settleMove
  split
  · split
    · exact ite ((h.restoreMoved ..).dropPlace ..) h
    · exact h
  · exact h

theorem locked (f : Flight) : RequestStep s (t.locked f) := by
  unfold State.locked
  extract_lets s0 d s1
  have h0 : RequestStep s s0 := h.lockHandling ..
  have h1 : RequestStep s s1 := ite (h0.restoreTransit ..) (h0.inferTransit ..)
  refine ite (h0.crcAbort ..) <| ite (((h0.raise ..).count64 ..).respond ..) <| ite (h1.respond ..) <| ite (h1.atHome f) <|
    ite (h1.respond ..) ?_
  split
  · exact ((h1.setDc ..).putFlight _).stall _
  · exact h1

theorem translate7 (f : Flight) : RequestStep s (t.translate7 f) := by
  unfold State.translate7
  extract_lets u full
  have hu : RequestStep s u := h.settleMove ..
  split
  · exact ite (hu.retry ..) (hu.putFlight _)
  · split
    · exact ite (hu.putFlight _) ((hu.touch ..).locked f)
    · split
      · next hroom => exact (hu.dcRoom hroom).putFlight _
      · exact ite (hu.retry ..) (hu.putFlight _)

theorem lockWaited (f : Flight) : RequestStep s (t.lockWaited f) := ite (h.setReg ..) h

theorem wakeWaiters (r p : Nat) (st : Stage) : RequestStep s (t.wakeWaiters r p st) := by
  refine h.steps (fun u x => ?_) _
  split
  · exact ite ((ite ((refl u).lockWaited _) (refl u)).translate7 _) (refl u)
  · exact refl u

theorem lockFreed (r p : Nat) : RequestStep s (t.lockFreed r p) := (h.wakeWaiters r p .lock).settleMove ..

theorem leavePlace (w r p : Nat) : RequestStep s (t.leavePlace w r p) := (h.dropPlace w r p).lockFreed r p

end RequestStep

end Sys2Proof.Machine
end

section
/-! Proofs about warm reset, brace, the flash window and the rollback fuse (04; R88, R91, R104, R110, R116, R123, R124, R126 to R128): one
lemma for each outcome of a command. -/

namespace Sys2Proof.Machine

open Sys2Proof

variable {s : State}

/-! ### The boot machinery through events, requests and an abandoned entry -/

/-- An event changes of the boot machinery at most the call for a warm reset (R123). -/
theorem State.raise_boot (s : State) (code d1 d2 : Nat) : ∃ w, (s.raise code d1 d2).boot = { s.boot with autoWarm := w } :=
  ⟨_, s.occur_boot ..⟩

theorem RequestStep.intake_eq {t : State} (h : RequestStep s t) : t.intake = s.intake := by
  have hintake := congrArg State.intake h.aside
  exact hintake

/-- Requests change no more of it than events do. -/
theorem RequestStep.boot_eq {t : State} (h : RequestStep s t) : ∃ w, t.boot = { s.boot with autoWarm := w } := by
  have hboot := congrArg State.boot h.aside
  exact ⟨t.boot.autoWarm, congrArg (fun b : Boot => { b with autoWarm := t.boot.autoWarm }) hboot⟩

theorem RequestStep.clocksOn {t : State} (h : RequestStep s t) (n : Nat) : RequestStep s (t.clocksOn n) :=
  h.steps (fun u _ => ite (refl u) ((refl u).setDom ..)) _

/-- An entry given up changes domains, registers and the log, as requests do (R731, R735 to R737). -/
theorem RequestStep.abandonEntry (s : State) (n : Nat) : RequestStep s (s.abandonEntry n) := by
  have hclocks : RequestStep s (if s.pwr.ap = 4 then s.clocksOn (s.pwr.entering.getD 0) else s) :=
    ite ((refl s).clocksOn _) (refl s)
  exact ite ((((hclocks.pwr _).setReg ..).raise ..).count64 ..) (refl s)

/-! ### WARM_RESET and its drain (R123, R124) -/

theorem exec_warmReset (hs : s.live = true) (v : Word) : exec (.warmReset false v) s
    = .next (if bits v.toNat 31 16 == 0x5752 && bit v.toNat 0 && s.warmable then (s.startWarm causeWarm).wrote else s.wrote) := by
  change execWarmReset false v s = _
  rw [execWarmReset, if_neg Bool.false_ne_true]
  exact guarded_of hs _ _

theorem warmReset_unkeyed (hs : s.live = true) {v : Word} (hkey : bits v.toNat 31 16 ≠ 0x5752) :
    ∃ t, exec (.warmReset false v) s = .next t ∧ t = { s with mgmt := { s.mgmt with lastStatus := stOK } } := by
  refine ⟨_, exec_warmReset hs v, ?_⟩
  rw [if_neg (by simp [hkey])]
  rfl

theorem State.startWarm_eq (s : State) (c : Word) :
    ∃ u : State, s.startWarm c = u.raise 0x0205 ∧ u.boot.draining = true ∧ u.boot.resetCause = c :=
  ⟨_, rfl, rfl, rfl⟩

theorem warmReset_keyed (hs : s.live = true) {v : Word} (hkey : bits v.toNat 31 16 = 0x5752) (hgo : bit v.toNat 0 = true)
    (hd : s.boot.draining = false) (hst : s.boot.stage = .ready) : ∃ t, exec (.warmReset false v) s = .next t
      ∧ t.boot.draining = true ∧ t.boot.resetCause = 0x10 ∧ t.evtSet 0x0205 0 = true := by
  refine ⟨_, exec_warmReset hs v, ?_⟩
  rw [if_pos (by simp [hkey, hgo, State.warmable, hs, hd, hst])]
  obtain ⟨u, hstart, hdraining, hcause⟩ := s.startWarm_eq causeWarm
  obtain ⟨w, hboot⟩ := u.raise_boot 0x0205 0 0
  rw [hstart, State.wrote_boot, hboot]
  exact ⟨hdraining, hcause, u.raise_evtSet 0x0205 0 0⟩

theorem warmDrainEnd_answers (hs : s.live = true) {late : Bool} (hd : s.boot.draining = true)
    (hend : late = true ∨ (s.writesInFlight = 0 ∧ s.tier.moves = [] ∧ s.coh.flights = [])) :
    ∃ t, exec (.warmDrainEnd late) s = .next t ∧ t.boot.stage = .imageRead ∧ t.boot.warm = true ∧ t.boot.draining = false
      ∧ t.mgmt.jobs = [] := by
  refine ⟨_, guarded_of ?_ _ _, rfl, rfl, rfl, rfl⟩
  rcases hend with hlate | ⟨hwrites, hmoves, hflights⟩
  · rw [hs, hd, hlate, Bool.or_true, Bool.and_self, Bool.and_self]
  · simp [hs, hd, hwrites, hmoves, hflights]

/-! ### The warm-reset sweep (R126, R127) -/

theorem warmSweepDone_answers (hs : s.live = true) (hsw : s.boot.sweeping = true) (hnext : s.warmNext = none) :
    ∃ t, exec .warmSweepDone s = .next t ∧ t.boot.sweeping = false ∧ t.evtSet 0x0206 0 = true := by
  obtain ⟨w, hboot⟩ := State.raise_boot { s with boot := { s.boot with sweeping := false } } 0x0206 0 0
  refine ⟨_, guarded_of (by rw [hs, hsw, hnext]; rfl) _ _, ?_, State.raise_evtSet _ 0x0206 0 0⟩
  rw [hboot]

/-- An agent whose turn it is at a descriptor that the cache holds works on it and leaves its place. -/
theorem State.agent_cached {who r p m : Nat} {e : ReadErrs} {u : State} {d : Desc} (f : State → Desc → State)
    (bad : State → LineStatus → State) (hup : s.up (pipeDom r p) = true) (hlock : s.lockWait who r p = false)
    (hc : (s.dcEntry r p).isSome = true) (hd : s.descOf? r p m e = some (u, .ok d)) :
    s.agent who r p m e f bad = (f u d).leavePlace who r p := by
  have hnone : (s.dcEntry r p).isNone = false := by rw [← Option.not_isSome, hc, Bool.not_true]
  simp only [State.agent, hup, hlock, hnone, hd, Bool.not_true, Bool.false_and, Bool.false_eq_true, if_false]

/-- The sweep stands behind the descriptor that it has handled, whatever the requests that waited for its lock do next. -/
theorem warmSweepDescriptor_answers (hs : s.live = true) {errs : ReadErrs} {r p : Nat} {u : State} {d : Desc}
    (hsw : s.boot.sweeping = true) (hst : s.boot.stage = .ready) (hnext : s.warmNext = some (r, p))
    (hup : s.up (pipeDom r p) = true) (hlock : s.lockWait agentWarm r p = false) (hc : (s.dcEntry r p).isSome = true)
    (hd : s.descOf? r p 11 errs = some (u, .ok d)) : ∃ t, exec (.warmSweepDescriptor errs) s = .next t
      ∧ t.boot.sweepRegion = r ∧ t.boot.sweepPage = p + 1 := by
  change ∃ t, execWarmSweepDescriptor errs s = _ ∧ _
  rw [execWarmSweepDescriptor, hnext]
  refine ⟨_, guarded_of (by rw [hs, hsw, hst]; rfl) _ _, ?_⟩
  rw [State.agent_cached _ _ hup hlock hc hd]
  obtain ⟨w, hboot⟩ := ((RequestStep.refl ((u.lockHandling r p).sweptPast r p)).leavePlace agentWarm r p).boot_eq
  rw [hboot]
  exact ⟨rfl, rfl⟩

/-! ### Brace and the last-gasp area (R88, R91, R128) -/

theorem exec_braceEntry (hs : s.live = true) (hl : s.logic.linkUp = true) (hsent : s.intake.braceSent = true)
    (hb : s.boot.brace = false) : ∃ u : State, exec .braceEntry s = .next (u.abandonEntry 3)
      ∧ u.boot.brace = true ∧ u.boot.braceEnd = false ∧ u.boot.lgWriting = true ∧ u.boot.note.faults = s.intake.faults
      ∧ u.intake = s.intake :=
  ⟨_, guarded_of (by rw [hs, hl, hsent, hb]; rfl) _ _, rfl, rfl, rfl, rfl, rfl⟩

theorem braceEntry_answers (hs : s.live = true) (hl : s.logic.linkUp = true) (hsent : s.intake.braceSent = true)
    (hb : s.boot.brace = false) : ∃ t, exec .braceEntry s = .next t
      ∧ t.boot.brace = true ∧ t.boot.braceEnd = false ∧ t.boot.lgWriting = true ∧ t.boot.note.faults = s.intake.faults
      ∧ t.intake = s.intake := by
  obtain ⟨u, hexec, hbrace, hend, hwriting, hfaults, hintake⟩ := exec_braceEntry hs hl hsent hb
  have hstep := RequestStep.abandonEntry u 3
  obtain ⟨w, hboot⟩ := hstep.boot_eq
  refine ⟨_, hexec, ?_⟩
  rw [hboot]
  exact ⟨hbrace, hend, hwriting, hfaults, hstep.intake_eq.trans hintake⟩

theorem exec_lastGaspWritten (hs : s.live = true) (hw : s.boot.lgWriting = true) :
    ∃ u : State, exec .lastGaspWritten s = .next (u.raise 0x0207 (s.boot.lgSeq + 1).toNat).lgJudge
      ∧ u.boot.lgWriting = false ∧ u.boot.lgNext = (s.boot.lgNext + 1) % 1024
      ∧ u.boot.brace = (s.boot.brace && !s.boot.braceEnd) :=
  ⟨_, guarded_of (by rw [hs, hw]; rfl) _ _, rfl, rfl, rfl⟩

theorem lastGaspWritten_answers (hs : s.live = true) (hw : s.boot.lgWriting = true) :
    ∃ t, exec .lastGaspWritten s = .next t ∧ t.boot.lgWriting = false
      ∧ t.boot.lgNext = (s.boot.lgNext + 1) % 1024 ∧ t.boot.brace = (s.boot.brace && !s.boot.braceEnd)
      ∧ t.evtSet 0x0207 0 = true := by
  obtain ⟨u, hexec, hwriting, hnext, hbrace⟩ := exec_lastGaspWritten hs hw
  obtain ⟨w, hboot⟩ := u.raise_boot 0x0207 (s.boot.lgSeq + 1).toNat 0
  refine ⟨_, hexec, ?_⟩
  rw [State.lgJudge, hboot]
  exact ⟨hwriting, hnext, hbrace, u.raise_evtSet 0x0207 _ 0⟩

theorem tabGet_filter_not {α : Type} (d : Nat → α) (t : Tab α) (q : Nat → Bool) (a : Nat) :
    tabGet d (t.filter fun e => !q e.1) a = if q a then d a else tabGet d t a := by
  induction t with
  | nil => simp [tabGet]
  | cons e r ih =>
    obtain ⟨k, v⟩ := e
    by_cases hk : a = k
    · subst hk
      by_cases hq : q a = true
      · simpa [hq] using ih
      · simp [hq, tabGet]
    · by_cases hq : q k = true
      · simpa [hq, tabGet, hk] using ih
      · simpa [hq, tabGet, hk] using ih

/-- An erase leaves 0xFF in its range and every other byte as it was. -/
theorem State.flashAt_eraseFlash (s : State) (a n b : Nat) :
    (s.eraseFlash a n).flashAt b = if a ≤ b ∧ b < a + n then 0xFF else s.flashAt b := by
  have hfilter := tabGet_filter_not (fun _ => (0xFF : Byte)) s.boot.flash (fun k => decide (a ≤ k ∧ k < a + n)) b
  simp only [decide_eq_true_eq] at hfilter
  exact hfilter

theorem lastGaspErase_answers (hs : s.live = true) {p : Nat} (hp : s.lgBlocked = some p) (hon : s.boot.portsOn = true) :
    ∃ t, exec (.lastGaspErase true) s = .next t
      ∧ ∀ a, t.flashAt a = if lgAddr (p / 16 * 16) ≤ a ∧ a < lgAddr (p / 16 * 16) + 4096 then 0xFF else s.flashAt a := by
  change ∃ t, execLastGaspErase true s = _ ∧ _
  rw [execLastGaspErase, hp]
  exact ⟨_, guarded_of (by rw [hs, hon]; rfl) _ _, s.flashAt_eraseFlash _ _⟩

/-! ### The flash window and the rollback fuse (R110, R116) -/

/-- An idle flash window takes a read, and a program or erase outside the guarded areas. -/
theorem State.flashStart_accepts {op base n : Nat} (h : s.boot.flashOp = none)
    (hbase : (if op = 1 then s.fld Reg.MGT_FLASH_ADDR 23 0 / 256 * 256
      else if op = 2 then s.fld Reg.MGT_FLASH_ADDR 23 0 / 4096 * 4096 else s.fld Reg.MGT_FLASH_ADDR 23 0) = base)
    (hn : (if op = 1 then 256 else 4096) = n) (hg : op = 0 ∨ s.boot.flashGuarded base n = false) :
    (s.flashStart op).mgmt.lastStatus = stOK ∧ (s.flashStart op).boot.flashOp = some { op := op, addr := base } := by
  have hfree : (s.boot.flashOp.isSome || (op != 0 && s.boot.flashGuarded base n)) = false := by
    rw [h]
    rcases hg with rfl | hg
    · rfl
    · rw [hg, Bool.and_false]
      rfl
  simp only [State.flashStart, hbase, hn, hfree, Bool.false_eq_true, if_false]
  exact ⟨rfl, rfl⟩

theorem flashOpDone_erased (hs : s.live = true) {a : Nat} (h : s.boot.flashOp = some { op := 2, addr := a }) :
    ∃ t, exec (.flashOpDone true) s = .next t ∧ t.boot.flashOp = none ∧ t.boot.flashErr = false
      ∧ ∀ b, t.flashAt b = if a ≤ b ∧ b < a + 4096 then 0xFF else s.flashAt b := by
  change ∃ t, execFlashOpDone true s = _ ∧ _
  rw [execFlashOpDone, h]
  exact ⟨_, guarded_of hs _ _, rfl, rfl, s.flashAt_eraseFlash a 4096⟩

theorem exec_fuseProg (hs : s.live = true) (v : Word) : exec (.fuseProg v) s
    = .next (if s.unlocked then
        ({ s with boot := { s.boot with rollback := max s.boot.rollback (bits v.toNat 7 0) } } : State).wrote
      else s.wrote stAccessDenied) :=
  guarded_of hs _ _

/-! ### The obligation -/

/-- Settles O20, one command after another. That the larger level is fused is log 153, and that brace entry starts a record whether or
not the area is ready is log 143. -/
theorem warmResetBraceAndFlashCommands : Obligations.WarmResetBraceAndFlashCommands := by
  intro s hs
  refine ⟨fun v => warmReset_keyed hs, fun v => warmReset_unkeyed hs, fun late => warmDrainEnd_answers hs, warmSweepDone_answers hs,
    fun errs r p u d => warmSweepDescriptor_answers hs, braceEntry_answers hs, lastGaspWritten_answers hs,
    fun p => lastGaspErase_answers hs, ?_, ?_, ?_, fun a => flashOpDone_erased hs, ?_, ?_⟩
  · exact fun h => ⟨_, guarded_of hs _ _, State.flashStart_accepts h rfl rfl (.inl rfl)⟩
  · exact fun h hg => ⟨_, guarded_of hs _ _, State.flashStart_accepts h rfl rfl (.inr hg)⟩
  · exact fun h hg => ⟨_, guarded_of hs _ _, State.flashStart_accepts h rfl rfl (.inr hg)⟩
  · intro v hu
    rw [exec_fuseProg hs, if_pos hu]
    rfl
  · intro v hu
    rw [exec_fuseProg hs, hu, if_neg Bool.false_ne_true]
    rfl

end Sys2Proof.Machine
end

section
/-! Proofs about a logic die that does not run (02 to 04; R35, R36, R72, R100 to R103): whatever the supply does, only the release from
power-on reset or from SYS_RST_N starts the die again. A row of the supply can pull PG_OUT down and with it return the die to power-on
reset, so power and reset of the die are not kept (`KeepsPower`); that the die does not run is. -/

namespace Sys2Proof.Machine

open Sys2Proof

/-! ### Changes that do not start the logic die -/

/-- In the state `t` the logic die does not run, and the queue is that of `s`. -/
structure StaysDead (s t : State) : Prop where
  live : t.live = false
  pending : t.pending = s.pending

theorem KeepsPower.staysDead {s t : State} (h : KeepsPower s t) (hs : s.live = false) : StaysDead s t :=
  ⟨h.live.trans hs, h.pending⟩

namespace StaysDead

variable {s t : State}

theorem refl (hs : s.live = false) : StaysDead s s := ⟨hs, rfl⟩

theorem ite {c : Prop} [Decidable c] {u : State} (h : StaysDead s t) (k : StaysDead s u) : StaysDead s (if c then t else u) := by
  split
  · exact h
  · exact k

variable (h : StaysDead s t)
include h

theorem setReg (a : Nat) (v : Word) : StaysDead s (t.setReg a v) := ⟨h.live, h.pending⟩

theorem setIntake (i : Intake) : StaysDead s (t.setIntake i) := ⟨h.live, h.pending⟩

theorem leaveBrace : StaysDead s t.leaveBrace := ⟨h.live, h.pending⟩

theorem intakeEvent (code : Nat) : StaysDead s (t.intakeEvent code) where
  live := by
    rw [State.live, State.intakeEvent_logic_on, State.intakeEvent_logic_sysRst]
    exact h.live
  pending := (t.intakeEvent_pending code).trans h.pending

/-- Where PG_OUT falls, the die comes to be in power-on reset (R72). -/
theorem dropPg (c : Word) : StaysDead s (t.dropPg c) := ite ⟨rfl, h.pending⟩ h

/-! ### The operations of the supply -/

theorem peak (j v : Nat) : StaysDead s (t.peak j v) := ite (h.setReg ..) h

theorem trip (cause : Word) (code : Nat) : StaysDead s (t.trip cause code) :=
  have htrip := (h.setIntake (t.tripState cause)).intakeEvent code
  ite (htrip.intakeEvent _) htrip

theorem vrmFail (code : Nat) : StaysDead s (t.vrmFail code) := ((h.dropPg causeVrm).setIntake _).intakeEvent code

end StaysDead

/-! ### Rows that do not start the logic die -/

/-- The row leaves a logic die that does not run, and the queue as it was. -/
def LeavesDead (s : State) (r : Host.Outcome State Fault Refusal) : Prop := ∃ t, r = .next t ∧ StaysDead s t

section
variable {s : State} (hs : s.live = false)
include hs

theorem leavesDead_of_rests {r : Host.Outcome State Fault Refusal} (h : Rests s r) : LeavesDead s r := by
  obtain ⟨t, hr, hkeep⟩ := h
  exact ⟨t, hr, hkeep.staysDead hs⟩

theorem leavesDead_self : LeavesDead s (.next s) := ⟨s, rfl, .refl hs⟩

/-- Whether or not the guard holds. -/
theorem leavesDead_guarded (ok : Bool) {t : State} (h : StaysDead s t) : LeavesDead s (guarded ok s t) := ⟨_, rfl, .ite h (.refl hs)⟩

theorem leavesDead_execFeedOvervoltage : LeavesDead s (execFeedOvervoltage s) := by
  unfold execFeedOvervoltage
  split
  · exact leavesDead_self hs
  · exact leavesDead_guarded hs _ (.ite (.setIntake (.refl hs) _) (.setIntake (.intakeEvent (.dropPg (.setIntake (.refl hs) _) _) _) _))

theorem leavesDead_execEvaluationTick (a b : Reading) (tf : Option (Int × Int)) (g q : Bool) :
    LeavesDead s (execEvaluationTick a b tf g q s) := by
  refine leavesDead_guarded hs _ ?_
  extract_lets i
  split
  extract_lets i1 s1 diffs diff cnt vds power i2 s2 s3 s4
  have h2 : StaysDead s s2 := .setIntake (.setIntake (.refl hs) _) _
  have h3 : StaysDead s s3 := (((((h2.peak ..).peak ..).peak ..).peak ..).peak ..).peak ..
  have h4 : StaysDead s s4 := .ite (h3.setReg ..) h3
  exact .ite (h4.dropPg _) h4

/-- Of the rows of the supply only the two releases start the logic die (R100, R103). -/
theorem exec_leavesDead_of_supply {c : Instr} (hc : ofSupply c = true) (hstart : startsLogic c = false) : LeavesDead s (exec c s) := by
  have h : StaysDead s s := .refl hs
  cases c
  case porRelease | sysRstRelease => exact nomatch hstart
  -- The row changes the intake die alone.
  case intakeLinkTimeout | feedValid | feedInvalid | feedReturn | softStart | passFetDrive | currentLimitLeave | retryCoolEnd |
    faultCountReset | seqInAssert | seqOutAssert | offPassFetOff | seqWakeEdge =>
    exact leavesDead_guarded hs _ (h.setIntake _)
  case retryEnd => exact leavesDead_guarded hs _ (.ite ((h.setIntake _).setIntake _) (h.setIntake _))
  case profileWordProgrammed =>
    change LeavesDead s (execProfileWordProgrammed s)
    unfold execProfileWordProgrammed
    split
    · exact ⟨_, rfl, h.setIntake _⟩
    · exact leavesDead_self hs
  case feedBreakEnd =>
    change LeavesDead s (execFeedBreakEnd s)
    unfold execFeedBreakEnd
    split
    · exact leavesDead_guarded hs _ (h.setIntake _)
    · exact leavesDead_self hs
  -- It raises an event with the change.
  case plausibilityFault | senseDisagree | shortFet | openFet | removal | insertionComplete | earlyWarning | seqTimeout =>
    exact leavesDead_guarded hs _ ((h.setIntake _).intakeEvent _)
  case intakeStrapSample =>
    exact leavesDead_guarded hs _ (.ite (((h.setIntake _).setIntake _).intakeEvent _) (h.setIntake _))
  case currentLimitEnter => exact leavesDead_guarded hs _ (.ite ((h.setIntake _).intakeEvent _) (h.setIntake _))
  case feedSwitch =>
    change LeavesDead s (execFeedSwitch s)
    unfold execFeedSwitch
    split
    · exact ⟨_, rfl, (h.setIntake _).intakeEvent _⟩
    · exact leavesDead_self hs
  case ftimerExpired | curveTrip | i2tTrip | fastTrip | fetOvertemp => exact leavesDead_guarded hs _ (h.trip ..)
  -- Brace ends with it.
  case pgOutAssert => exact leavesDead_guarded hs _ (h.setIntake _).leaveBrace
  case dipRecovered => exact leavesDead_guarded hs _ ((h.setIntake _).intakeEvent _).leaveBrace
  -- PG_OUT can fall.
  case feedBelowVrst => exact leavesDead_guarded hs _ (((h.dropPg _).intakeEvent _).setIntake _)
  case feedOvervoltage => exact leavesDead_execFeedOvervoltage hs
  case vrmPgTimeout | vrmPgLost => exact leavesDead_guarded hs _ (h.vrmFail _)
  case evaluationTick => exact leavesDead_execEvaluationTick hs ..
  case thermalTrip =>
    have hdrop := h.dropPg causePgOut
    exact leavesDead_guarded hs _ ⟨hdrop.live, hdrop.pending⟩
  -- Standby power comes or goes, or SYS_RST_N holds the die.
  case vstbyRise => exact leavesDead_guarded hs _ ⟨hs, rfl⟩
  case vstbyFall | sysRstAssert => exact leavesDead_guarded hs _ ⟨rfl, rfl⟩
  all_goals exact nomatch hc

/-- No command but the two releases starts the logic die. -/
theorem exec_leavesDead {c : Instr} (hstart : startsLogic c = false) : LeavesDead s (exec c s) := by
  cases hc : ofSupply c
  · exact leavesDead_of_rests hs (exec_rests_of_dead hs hc)
  · exact exec_leavesDead_of_supply hs hc hstart

end

/-- Settles O5, by what the row at the front of the queue does: a row of the logic die rests, a row of the supply that is no release
leaves the die off or in reset, and an empty queue lets time pass alone. -/
theorem onlyReleasesStartTheLogicDie : Obligations.OnlyReleasesStartTheLogicDie := by
  intro s t hs hq hstep
  cases hp : s.pending with
  | nil =>
    rw [step_nil hp] at hstep
    cases hstep
    exact ⟨hs, hq⟩
  | cons c r =>
    obtain ⟨hc, hr⟩ := List.forall_mem_cons.mp (hp ▸ hq)
    obtain ⟨u, hu, hdead⟩ := exec_leavesDead (s := { s with pending := r }) hs hc
    rw [step_cons hp, hu] at hstep
    cases hstep
    exact ⟨hdead.live, hdead.pending ▸ hr⟩

end Sys2Proof.Machine
end

section
/-! Proofs about the later boot stages (04, 15; R106, R117, R119 to R122, R527, R561 to R565, R571): what discovery, the PMICs, training
and the last-gasp scan leave of the boot machinery, and one lemma for each outcome of a command. -/

namespace Sys2Proof.Machine

open Sys2Proof

/-! ### What the operations of discovery leave (R120, R561 to R564) -/

/-- What each step of a fold leaves, the fold leaves. -/
theorem State.foldl_keeps {α β : Type} {f : State → α → State} (g : State → β) (hf : ∀ t a, g (f t a) = g t) (l : List α)
    (s : State) : g (l.foldl f s) = g s :=
  List.foldlRecOn (motive := fun t => g t = g s) l f rfl fun t h a _ => (hf t a).trans h

section
variable (s : State)

theorem State.recordDimms_boot (l : List (Option SpdReport)) : (s.recordDimms l).boot = s.boot := by
  refine State.foldl_keeps State.boot (fun t n => ?_) _ s
  split
  · rfl
  · rfl

/-- The transfers of discovery leave whatever depends neither on what the device has sent nor on the mode of the buses. -/
theorem State.busScan_keeps {β : Type} (g : State → β) (hemit : ∀ t e, g (State.emit t e) = g t)
    (hmode : ∀ t : State, g { t with dram := { t.dram with i3c := true } } = g t) (l : List (Option SpdReport)) :
    g (s.busScan l) = g s := by
  refine State.foldl_keeps g (fun t k => ?_) _ s
  refine (State.foldl_keeps g (fun u x => ?_) _ _).trans ?_
  · split
    · exact (hemit _ _).trans (hemit _ _)
    · rfl
  · rw [hmode, hemit]
    exact State.foldl_keeps g (fun u x => hemit u _) _ t

theorem State.busScan_boot (l : List (Option SpdReport)) : (s.busScan l).boot = s.boot :=
  s.busScan_keeps State.boot (fun _ _ => rfl) (fun _ => rfl) l

theorem State.busScan_population (l : List (Option SpdReport)) : (s.busScan l).population = s.population :=
  s.busScan_keeps State.population (fun _ _ => rfl) (fun _ => rfl) l

theorem State.loadTiming_boot (n : Nat) (a b : Option SpdReport) : (s.loadTiming n a b).boot = s.boot := by
  unfold State.loadTiming
  rw [State.foldl_keeps State.boot]
  exact fun _ _ => rfl

/-- Of the boot machinery the population found changes the flag of a degraded device alone. -/
theorem State.populate_boot : ∃ d, s.populate.boot = { s.boot with degraded := d } := by
  refine ⟨s.boot.degraded || s.reg Reg.MGT_BOOT_EXCLUDE != 0, ?_⟩
  unfold State.populate
  dsimp only
  rw [State.setFld_boot, State.foldl_keeps State.boot, State.foldl_keeps State.boot]
  · exact fun _ _ => rfl
  · intro t k
    rw [apply_ite State.boot]
    exact ite_self _

theorem State.enableNext_boot (k : Nat) : (s.enableNext k).boot = s.boot := by
  unfold State.enableNext
  split
  · rfl
  · rfl

/-- Of the boot machinery it changes the stage alone, and that to stage 7. -/
theorem State.pmicsDone_boot : ∃ st, s.pmicsDone.boot = { s.boot with stage := st } ∧ (st = s.boot.stage ∨ st = .train) := by
  unfold State.pmicsDone
  split
  · exact ⟨_, rfl, .inr rfl⟩
  · exact ⟨_, rfl, .inl rfl⟩

/-! ### What training and the scan of the last-gasp area leave (R128, R130, R546, R571) -/

theorem State.seed_chan_state (n : Nat) : ((s.seed n).chan n).state = (s.chan n).state :=
  (congrArg Chan.state (State.chan_setChan_same ..)).trans rfl

theorem State.startPass_chan_state (n point phase : Nat) (h : (s.chan n).state ≠ .failed) :
    ((s.startPass n point phase).chan n).state = .training := by
  unfold State.startPass
  rw [State.chan_setChan_same]
  exact if_neg h

/-- The scan finds the next position and the number of the last record. -/
theorem State.lgScan_boot : ∃ n q, s.lgScan.boot = { s.boot with lgNext := n, lgSeq := q } := by
  unfold State.lgScan
  extract_lets best
  generalize best = x
  cases x
  · exact ⟨_, _, rfl⟩
  · exact ⟨_, _, rfl⟩

theorem State.portsStart_boot (st : BootStage) : ∃ n q r, (s.portsStart st).boot
    = { s.boot with lgNext := n, lgSeq := q, lgReady := r, stage := st, portsOn := true } := by
  obtain ⟨n, q, hscan⟩ := s.lgScan_boot
  refine ⟨n, q, s.lgScan.lgBlocked.isNone, ?_⟩
  unfold State.portsStart State.lgJudge
  dsimp only
  rw [hscan]

end

variable {s : State}

/-! ### DIMM_DISCOVERY (R120, R527, R561 to R564) -/

/-- Without a warm reset before it, a discovery whose population holds waits for its PMICs. -/
theorem State.discoverEnd_cold (hw : s.boot.warm = false) (old : State) :
    (s.discoverEnd old).boot.discovered = true ∧ (s.discoverEnd old).boot.failed = s.boot.failed := by
  unfold State.discoverEnd
  rw [hw, Bool.false_and, if_neg Bool.false_ne_true]
  extract_lets s1 b s2
  obtain ⟨d, hpop⟩ := s.populate_boot
  obtain ⟨st, hdone, -⟩ := State.pmicsDone_boot ((List.range 4).foldl (fun t k => t.enableNext k) s2)
  rw [hdone, State.foldl_keeps State.boot State.enableNext_boot]
  have hfailed := congrArg Boot.failed hpop
  exact ⟨rfl, hfailed⟩

/-- A report that is found was given: past the end of the list there is none. -/
theorem mem_of_getD_eq_some {α : Type} {l : List (Option α)} {i : Nat} {x : α} (h : l.getD i none = some x) : some x ∈ l := by
  rw [List.getD_eq_getElem?_getD] at h
  cases hget : l[i]? with
  | none => simp [hget] at h
  | some y =>
    rw [hget, Option.getD_some] at h
    exact h ▸ List.mem_of_getElem? hget

/-- Where every DIMM answers, the population recorded decides. One that holds is taken over with the timing of its SPD; a rule that it
breaks is logged and ends the boot. -/
theorem exec_dimmDiscovery_answered {l : List (Option SpdReport)} (hs : s.live = true) (hb : s.boot.stage = .discover)
    (hf : s.boot.failed = false) (hd : s.boot.discovered = false) (hl : ∀ r ∈ l, ∀ x, r = some x → x.answers = true) :
    ∃ t, exec (.dimmDiscovery l) s = .next t
      ∧ (popFault (s.recordDimms l).population = none → ∃ u : State, u.boot = s.boot ∧ t = u.discoverEnd s)
      ∧ ∀ code n slot, popFault (s.recordDimms l).population = some (code, n, slot) →
          ∃ u : State, t = (u.raiseAt 0xA005 n (code * 256 + slot) 0).bootFail 0x0A (2 ^ n) := by
  have hguard : (s.live && s.boot.stage == .discover && !s.boot.failed && !s.boot.discovered) = true := by
    rw [stage_guard hs hb hf, hd, Bool.not_false, Bool.and_self]
  change ∃ t, execDimmDiscovery l s = _ ∧ _
  unfold execDimmDiscovery
  extract_lets s1 silent s2 t
  have hpop : s1.population = (s.recordDimms l).population := State.busScan_population ..
  have hboot : s1.boot = s.boot := (State.busScan_boot ..).trans (s.recordDimms_boot l)
  have hsilent : (List.range 16).any silent = false := by
    refine List.any_eq_false.mpr fun n _ => ?_
    simp only [silent, Bool.and_eq_true, List.any_eq_true, not_and, not_exists]
    rintro - i - hi
    split at hi
    · next r hr =>
      rw [hl _ (mem_of_getD_eq_some hr) r rfl] at hi
      exact absurd hi Bool.false_ne_true
    · exact absurd hi Bool.false_ne_true
  refine ⟨t, guarded_of hguard _ _, fun hnone => ?_, fun code n slot hsome => ?_⟩
  · have hboot2 : s2.boot = s1.boot := by
      refine State.foldl_keeps State.boot (fun u n => ?_) _ s1
      rw [apply_ite State.boot, State.setReg_boot, State.loadTiming_boot]
      exact ite_self _
    refine ⟨s2, hboot2.trans hboot, ?_⟩
    simp only [t, hsilent, hpop, hnone, Bool.false_eq_true, if_false]
  · refine ⟨s1.setReg (Reg.DRC_POP_STATUS n) (BitVec.ofNat 32 (slot * 256 + code)), ?_⟩
    simp only [t, hsilent, hpop, hsome, Bool.false_eq_true, if_false]

/-! ### The PMICs (R564) -/

section
variable {c q : Nat} (hs : s.live = true) (hb : s.boot.stage = .discover) (hf : s.boot.failed = false)
  (hd : s.boot.discovered = true) (hon : s.flag (Reg.DRC_PMIC_STATUS c q) 31 = true) (hgood : s.pmicGood (c, q) = false)
include hs hb hf hd hon hgood

/-- The guard of the two rows that a PMIC that has been enabled waits for. -/
theorem pmic_guard : (s.live && s.boot.stage == .discover && s.boot.discovered && !s.boot.failed
    && s.flag (Reg.DRC_PMIC_STATUS c q) 31 && !s.pmicGood (c, q)) = true := by
  simp [hs, hb, hf, hd, hon, hgood]

theorem pmicPowerGood_answers : ∃ t, exec (.pmicPowerGood c q) s = .next t ∧ t.boot.failed = false
    ∧ (t.boot.stage = .discover ∨ t.boot.stage = .train) := by
  refine ⟨_, guarded_of (pmic_guard hs hb hf hd hon hgood) _ _, ?_⟩
  obtain ⟨st, hdone, hst⟩ := ((s.setFld (Reg.DRC_PMIC_STATUS c q) 30 30 1).enableNext (c / 4)).pmicsDone_boot
  rw [State.enableNext_boot, State.setFld_boot] at hdone hst
  rw [hdone]
  exact ⟨hf, hst.imp_left fun h => h.trans hb⟩

theorem exec_pmicGoodTimeout : exec (.pmicGoodTimeout c q) s = .next (s.bootFail 0x09 (2 ^ c)) :=
  guarded_of (pmic_guard hs hb hf hd hon hgood) _ _

end

/-! ### Training (R119, R546, R565, R571) -/

/-- The generators of the channel take two free values, and its first pass starts. -/
theorem channelResetRelease_answers {c : Nat} (hs : s.live = true) (hb : s.boot.stage = .train) (hf : s.boot.failed = false)
    (hc : s.chanList.contains c = true) (hoff : (s.chan c).state = .off)
    (hgood : ∀ q ∈ [0, 1], s.dimmWanted (c, q) = true → s.pmicGood (c, q) = true) :
    ∃ t, exec (.channelResetRelease c) s = .next t ∧ t.fresh = s.fresh + 2 ∧ (t.chan c).state = .training := by
  have hall : ([0, 1].all fun q => !s.dimmWanted (c, q) || s.pmicGood (c, q)) = true := by
    refine List.all_eq_true.mpr fun q hq => ?_
    cases hwant : s.dimmWanted (c, q)
    · rfl
    · exact hgood q hq hwant
  refine ⟨_, guarded_of ?_ _ _, rfl, State.startPass_chan_state _ _ _ _ ?_⟩
  · rw [stage_guard hs hb hf, hc, hoff, hall]
    rfl
  · rw [State.chan_setChan_same]
    exact (s.seed_chan_state c).trans_ne (by rw [hoff]; exact nofun)

section
variable (hs : s.live = true) (hb : s.boot.stage = .train) (hf : s.boot.failed = false) (hend : s.trainingEnded = true)
include hs hb hf hend

/-- The channels whose training has failed twice decide how stage 7 ends. -/
theorem exec_trainingComplete : ∃ u : State, exec .trainingComplete s = .next
    (if (s.chanList.filter fun n => s.flag (Reg.DRC_TRAIN_STATUS n) 29).isEmpty then u.trained
      else s.bootFail 0x0B ((s.chanList.filter fun n => s.flag (Reg.DRC_TRAIN_STATUS n) 29).map (2 ^ ·)).sum) :=
  ⟨_, guarded_of (by rw [stage_guard hs hb hf, hend, Bool.and_self]) _ _⟩

theorem trainingComplete_fails {n : Nat} (hn : n ∈ s.chanList) (hbad : s.flag (Reg.DRC_TRAIN_STATUS n) 29 = true) :
    ∃ t, exec .trainingComplete s = .next t ∧ t.boot.failed = true ∧ t.boot.errCode = 0x0B := by
  obtain ⟨u, hexec⟩ := exec_trainingComplete hs hb hf hend
  rw [if_neg (by simpa using ⟨n, hn, hbad⟩)] at hexec
  exact ⟨_, hexec, rfl, rfl⟩

theorem trainingComplete_trained (hgood : ∀ n ∈ s.chanList, s.flag (Reg.DRC_TRAIN_STATUS n) 29 = false) :
    ∃ t, exec .trainingComplete s = .next t ∧ t.boot.stage = .portsUp := by
  obtain ⟨u, hexec⟩ := exec_trainingComplete hs hb hf hend
  rw [if_pos (by simpa using hgood)] at hexec
  exact ⟨_, hexec, rfl⟩

end

/-! ### Ready, Halted and Limited (R106, R117, R121, R126) -/

section
variable (hs : s.live = true)
include hs

theorem exec_bootReady (hb : s.boot.stage = .portsUp) (hf : s.boot.failed = false) :
    ∃ u : State, exec .bootReady s = .next (u.raise 0x0201) ∧ u.boot.stage = .ready ∧ u.boot.sweeping = s.boot.warm
      ∧ u.boot.bootTime = (s.now - s.boot.porAt) / 1000 % 2 ^ 32 :=
  ⟨_, guarded_of (stage_guard hs hb hf) _ _, rfl, rfl, rfl⟩

theorem bootReady_answers (hb : s.boot.stage = .portsUp) (hf : s.boot.failed = false) :
    ∃ t, exec .bootReady s = .next t ∧ t.boot.stage = .ready ∧ t.evtSet 0x0201 0 = true ∧ t.boot.sweeping = s.boot.warm
      ∧ t.boot.bootTime = (s.now - s.boot.porAt) / 1000 % 2 ^ 32 := by
  obtain ⟨u, hexec, hstage, hsweep, htime⟩ := exec_bootReady hs hb hf
  obtain ⟨w, hboot⟩ := u.raise_boot 0x0201 0 0
  refine ⟨_, hexec, ?_⟩
  rw [hboot]
  exact ⟨hstage, u.raise_evtSet 0x0201 0 0, hsweep, htime⟩

theorem exec_bootHalt (hf : s.boot.failed = true) (hl : s.boot.limitable = false) :
    ∃ u : State, exec .bootHalt s = .next (u.raise 0x0203) ∧ u.boot.stage = .halted :=
  ⟨_, guarded_of (by rw [hs, hf, hl]; rfl) _ _, rfl⟩

theorem bootHalt_answers (hf : s.boot.failed = true) (hl : s.boot.limitable = false) :
    ∃ t, exec .bootHalt s = .next t ∧ t.boot.stage = .halted ∧ t.evtSet 0x0203 0 = true := by
  obtain ⟨u, hexec, hstage⟩ := exec_bootHalt hs hf hl
  obtain ⟨w, hboot⟩ := u.raise_boot 0x0203 0 0
  refine ⟨_, hexec, ?_⟩
  rw [hboot]
  exact ⟨hstage, u.raise_evtSet 0x0203 0 0⟩

theorem exec_limitedEntry (hf : s.boot.failed = true) (hl : s.boot.limitable = true) : ∃ u : State,
    exec .limitedEntry s = .next (u.raise 0x0204) ∧ u.boot.stage = .limited ∧ u.boot.failedStage = s.boot.stage := by
  obtain ⟨n, q, r, hports⟩ :=
    State.portsStart_boot { s with boot := { s.boot with failedStage := s.boot.stage, failed := false } } .limited
  refine ⟨_, guarded_of (by rw [hs, hf, hl]; rfl) _ _, ?_⟩
  rw [hports]
  exact ⟨rfl, rfl⟩

theorem limitedEntry_answers (hf : s.boot.failed = true) (hl : s.boot.limitable = true) : ∃ t, exec .limitedEntry s = .next t
    ∧ t.boot.stage = .limited ∧ t.boot.failedStage = s.boot.stage ∧ t.evtSet 0x0204 0 = true := by
  obtain ⟨u, hexec, hstage, hfailed⟩ := exec_limitedEntry hs hf hl
  obtain ⟨w, hboot⟩ := u.raise_boot 0x0204 0 0
  refine ⟨_, hexec, ?_⟩
  rw [hboot]
  exact ⟨hstage, hfailed, u.raise_evtSet 0x0204 0 0⟩

end

/-! ### BOOT_CONTINUE (R122, R125) -/

/-- Boot goes on at the stage that failed. -/
theorem State.resumeBoot_stage (h : s.boot.failedStage ≠ .train) : s.resumeBoot.boot.stage = s.boot.failedStage := by
  unfold State.resumeBoot
  extract_lets out
  rw [if_neg h]
  split
  · rfl
  · rfl

theorem bootContinue_resumes (hs : s.live = true) (hb : s.boot.stage = .limited) (hd : s.boot.draining = false)
    (hm : s.boot.failedStage = .march) :
    ∃ t, exec .bootContinue s = .next t ∧ t.boot.stage = .march ∧ t.mgmt.lastStatus = stOK := by
  refine ⟨s.resumeBoot.wrote, ?_, ?_, rfl⟩
  · refine (guarded_of hs _ _).trans ?_
    simp [hb, hd, hm]
  · rw [State.wrote_boot, State.resumeBoot_stage (by rw [hm]; exact nofun), hm]

/-- A population that breaks a rule still keeps the device in Limited. -/
theorem bootContinue_popFault (hs : s.live = true) {code n slot : Nat} (hb : s.boot.stage = .limited) (hd : s.boot.draining = false)
    (hstage : s.boot.failedStage = .discover) (hp : popFault s.population = some (code, n, slot)) :
    ∃ t, exec .bootContinue s = .next t ∧ t.boot.stage = .limited ∧ t.boot.errCode = 0x0A ∧ t.boot.errDetail = 2 ^ n
      ∧ t.mgmt.lastStatus = stOK := by
  refine ⟨_, guarded_of hs _ _, ?_⟩
  simp [hb, hd, hstage, hp]

/-! ### The obligation -/

/-- Settles O19, one command after another. -/
theorem bootMemoryStages : Obligations.BootMemoryStages := by
  intro s hs
  refine ⟨?_, ?_, ?_, fun c hb hf hc => channelResetRelease_answers hs hb hf hc,
    fun n hb hf hend => trainingComplete_fails hs hb hf hend, fun hb hf hend => trainingComplete_trained hs hb hf hend,
    bootReady_answers hs, bootHalt_answers hs, limitedEntry_answers hs, bootContinue_resumes hs,
    fun code n slot => bootContinue_popFault hs⟩
  · intro l code n slot hb hf hd hl hp
    obtain ⟨t, hexec, -, hfault⟩ := exec_dimmDiscovery_answered hs hb hf hd hl
    obtain ⟨u, rfl⟩ := hfault code n slot hp
    exact ⟨_, hexec, rfl, rfl, rfl, u.raiseAt_evtSet 0xA005 n (code * 256 + slot) 0⟩
  · intro l hb hf hd hw hl hp
    obtain ⟨t, hexec, hholds, -⟩ := exec_dimmDiscovery_answered hs hb hf hd hl
    obtain ⟨u, hboot, rfl⟩ := hholds hp
    obtain ⟨hdisc, hfailed⟩ := State.discoverEnd_cold (s := u) (by rw [hboot, hw]) s
    exact ⟨_, hexec, hdisc, by rw [hfailed, hboot, hf]⟩
  · intro c q hb hf hd hon hgood
    exact ⟨pmicPowerGood_answers hs hb hf hd hon hgood, _, exec_pmicGoodTimeout hs hb hf hd hon hgood, rfl, rfl, rfl⟩

end Sys2Proof.Machine
end

section
/-! Proofs about tables and raised events (05; R133, R151 to R157): what a write to a table leaves, what one occurrence of an event
changes, and the length of the event log. -/

namespace Sys2Proof.Machine

open Sys2Proof

/-! ### Tables -/

/-- Settles O7, by the laws of the sparse tables; the canonical form is log 12. -/
theorem tablesReadBackAndStayCanonical : Obligations.TablesReadBackAndStayCanonical :=
  fun d t a b v => ⟨tabGet_tabSet d t a b v, tabWf_tabSet d t a v⟩

/-! ### What an occurrence of an event changes -/

section
variable (s : State) (code inst : Nat) (f h : Bool) (t d1 d2 : Nat)

/-- The log entry that an occurrence makes. -/
def State.entryOf : LogEntry :=
  { code := BitVec.ofNat 16 code, inst := inst, sev := severity code, forced := f, hist := h
    tbSet := s.time.tbSet && !h, seq := s.log.wseq, time := BitVec.ofNat 64 t
    detail := BitVec.ofNat 64 d1, detail2 := BitVec.ofNat 32 d2 }

theorem State.logEvent_log : (s.logEvent code inst f h t d1 d2).log =
    { s.log with
      ring := (s.log.ring ++ [s.entryOf code inst f h t d1 d2]).drop (s.log.ring.length + 1 - 1024)
      wseq := s.log.wseq + 1 } := by
  simp [State.logEvent, State.entryOf]

theorem State.setEvt_eq : s.setEvt code inst = { s with regs := (s.setEvt code inst).regs } := by
  unfold State.setEvt
  dsimp only
  split
  · rfl
  · rfl

variable {s code inst f h t d1 d2}

theorem State.occur_repeat (hs : s.evtSet code inst = true) : s.occur code inst f h t d1 d2 = s.count Reg.RAS_EVT_REPEAT := by
  rw [State.occur, if_pos hs]

/-- A first occurrence sets the bit, is logged where it is enabled, and asserts the fault wire where it is Fatal. -/
theorem State.occur_first (hs : s.evtSet code inst = false) : s.occur code inst f h t d1 d2 =
    let u := if s.evtEnabled code inst then (s.setEvt code inst).logEvent code inst f h t d1 d2 else s.setEvt code inst
    if severity code = 3 then u.fatalSet else u := by
  simp [State.occur, hs]

/-- Only registers, the log, the fault wire and AUTO_WARM change. -/
theorem State.occur_eq : s.occur code inst f h t d1 d2 = { s with
    regs := (s.occur code inst f h t d1 d2).regs
    log := (s.occur code inst f h t d1 d2).log
    logic := { s.logic with faultWire := (s.occur code inst f h t d1 d2).logic.faultWire }
    boot := { s.boot with autoWarm := (s.occur code inst f h t d1 d2).boot.autoWarm } } := by
  cases hs : s.evtSet code inst
  · rw [State.occur_first hs, s.setEvt_eq]
    dsimp only
    split
    · split
      · rfl
      · rfl
    · split
      · rfl
      · rfl
  · rw [State.occur_repeat hs, s.count_eq]

theorem State.occur_log_repeat (hs : s.evtSet code inst = true) : (s.occur code inst f h t d1 d2).log = s.log := by
  rw [State.occur_repeat hs, State.count_log]

theorem State.occur_log_disabled (hs : s.evtSet code inst = false) (he : s.evtEnabled code inst = false) :
    (s.occur code inst f h t d1 d2).log = s.log := by
  rw [State.occur_first hs, he]
  dsimp only [Bool.false_eq_true, if_false]
  split
  · exact s.setEvt_log code inst
  · exact s.setEvt_log code inst

theorem State.occur_log_enabled (hs : s.evtSet code inst = false) (he : s.evtEnabled code inst = true) :
    (s.occur code inst f h t d1 d2).log = (s.logEvent code inst f h t d1 d2).log := by
  have hlog : ((s.setEvt code inst).logEvent code inst f h t d1 d2).log = (s.logEvent code inst f h t d1 d2).log := by
    rw [s.setEvt_eq]
    rfl
  rw [State.occur_first hs, he]
  dsimp only [if_true]
  split
  · exact hlog
  · exact hlog

theorem State.occur_fatal (hs : s.evtSet code inst = false) (hfatal : severity code = 3) :
    (s.occur code inst f h t d1 d2).logic.faultWire = true := by
  rw [State.occur_first hs, hfatal]
  rfl

theorem State.occur_ring_length (hlen : s.log.ring.length ≤ 1024) :
    (s.occur code inst f h t d1 d2).log.ring.length ≤ 1024 := by
  cases hs : s.evtSet code inst
  · cases he : s.evtEnabled code inst
    · rw [State.occur_log_disabled hs he]
      exact hlen
    · rw [State.occur_log_enabled hs he]
      exact s.logEvent_ring_length code inst f h t d1 d2
  · rw [State.occur_log_repeat hs]
    exact hlen

end

/-! ### Events forced, and events of the intake's history -/

theorem State.evtForce_ring_length (s : State) (a : Nat) (v : Word) (hlen : s.log.ring.length ≤ 1024) :
    (s.evtForce a v).log.ring.length ≤ 1024 := by
  unfold State.evtForce
  refine List.foldlRecOn (motive := fun t : State => t.log.ring.length ≤ 1024) _ _ hlen fun t ht i _ => ?_
  split
  · split
    · exact State.occur_ring_length ht
    · exact ht
  · exact ht

theorem State.deliverHist_ring_length (l : List (Nat × BitVec 16)) (s : State) (hlen : s.log.ring.length ≤ 1024) :
    (s.deliverHist l).log.ring.length ≤ 1024 := by
  induction l generalizing s with
  | nil => exact hlen
  | cons e l ih => exact ih _ (State.occur_ring_length hlen)

/-! ### The obligations -/

/-- Settles O21, by what a first occurrence and a repeat change. -/
theorem raisedEventIsLoggedOnce : Obligations.RaisedEventIsLoggedOnce := by
  intro s code inst d1 d2
  refine ⟨s.raiseAt_evtSet code inst d1 d2, State.occur_repeat, State.occur_log_disabled, fun hs he => ?_, State.occur_fatal,
    fun _ => s.occur_reg_ne _ _ _ _ _ _ _, State.occur_eq⟩
  rw [State.raiseAt, State.occur_log_enabled hs he, State.logEvent_log]
  dsimp only
  exact ⟨s.entryOf code inst false false s.time.nanos d1 d2, rfl, rfl, rfl, rfl, rfl, rfl, rfl, rfl, rfl, Bool.and_true _, rfl, rfl⟩

/-- Settles O22: no occurrence makes a log of at most 1,024 entries longer, and events that are forced or come from the intake are
occurrences one after another. -/
theorem eventLogStaysWithinRing : Obligations.EventLogStaysWithinRing := fun s hlen =>
  ⟨fun _ _ _ _ _ _ _ => State.occur_ring_length hlen, fun a v => s.evtForce_ring_length a v hlen,
    fun l => s.deliverHist_ring_length l hlen⟩

end Sys2Proof.Machine
end

section
/-! SUPPORT. Where registers lie (R132, R133, R151): the page of an address, the page of an event's bit, and the event of a bit. -/

namespace Sys2Proof.Machine

open Sys2Proof

/-! ### Pages -/

theorem blocks_aligned : ∀ b ∈ blocks, b.stride = 0x10000 ∧ b.base % 0x1000 = 0 := by decide

theorem findSome?_congr_mem {α β : Type} {f g : α → Option β} {l : List α} (h : ∀ x ∈ l, f x = g x) :
    l.findSome? f = l.findSome? g := by
  induction l with
  | nil => rfl
  | cons x l ih =>
    rw [List.findSome?_cons, List.findSome?_cons, h x List.mem_cons_self, ih fun y hy => h y (List.mem_cons_of_mem x hy)]

/-- A register lies in the page that its page's first register lies in. -/
theorem pageOf_add {p off : Nat} (hp : p % 0x1000 = 0) (hoff : off < 0x1000) : pageOf (p + off) = pageOf p := by
  refine findSome?_congr_mem fun b hb => ?_
  obtain ⟨hstride, hbase⟩ := blocks_aligned b hb
  have hlt : p + off < b.base ↔ p < b.base := by omega
  rw [hstride]
  by_cases hbelow : p < b.base
  · rw [if_pos hbelow, if_pos (hlt.mpr hbelow)]
  · have hinst : (p + off - b.base) / 0x10000 = (p - b.base) / 0x10000 := by omega
    have hpage : (p + off - b.base) % 0x10000 / 0x1000 = (p - b.base) % 0x10000 / 0x1000 := by omega
    rw [if_neg hbelow, if_neg (fun h => hbelow (hlt.mp h)), hinst, hpage]

/-- The pages of a block, as far as its stride reaches. -/
theorem pageOf_block : ∀ b ∈ blocks, ∀ i < b.insts, ∀ p < min b.pages 16,
    pageOf (b.base + i * b.stride + p * 0x1000) = some (b, i, p) := by
  decide

theorem pageBase_add {p off : Nat} (hp : p % 0x1000 = 0) (hoff : off < 0x1000) : pageBase (p + off) = p := by
  unfold pageBase
  omega

theorem pageBase_mod (a : Nat) : pageBase a % 0x1000 = 0 := by
  unfold pageBase
  omega

theorem blockBase_mod (a : Nat) : blockBase a % 0x1000 = 0 := by
  unfold blockBase
  split
  · next b i p hpage =>
    obtain ⟨c, hc, hin⟩ := List.exists_of_findSome?_eq_some hpage
    have hb : b ∈ blocks := by
      split at hin
      · cases hin
      · dsimp only at hin
        split at hin
        · cases hin
          exact hc
        · cases hin
    obtain ⟨hstride, hbase⟩ := blocks_aligned b hb
    rw [hstride]
    omega
  · exact pageBase_mod a

/-! ### Events -/

theorem evtPage_of_block {code : Nat} {b : Block} (hb : blocks.find? (fun b => b.code == code / 256) = some b) (inst : Nat) :
    evtPage code inst = b.base + inst * b.stride + (code % 256 - 1) / 32 * 0x1000 := by
  rw [evtPage, hb]

/-- The bits of the defined events lie in pages that their blocks have. -/
theorem events_lie_in_pages : ∀ e ∈ eventTable, e.1 % 256 ≠ 0 ∧
    ∀ b ∈ blocks, b.code = e.1 / 256 → (e.1 % 256 - 1) / 32 < min b.pages 16 := by
  decide +kernel

section
variable {code inst : Nat} {b : Block} (hknown : (eventTable.any fun e => e.1 == code) = true)
  (hblock : blocks.find? (fun b => b.code == code / 256) = some b) (hinst : inst < b.insts)
include hknown hblock

theorem event_lies_in_page : code % 256 ≠ 0 ∧ (code % 256 - 1) / 32 < min b.pages 16 ∧ b.code = code / 256 := by
  obtain ⟨e, he, hcode⟩ := List.any_eq_true.mp hknown
  obtain rfl := beq_iff_eq.mp hcode
  have hb : b.code = e.1 / 256 := by simpa using List.find?_some hblock
  obtain ⟨hpos, hpage⟩ := events_lie_in_pages e he
  exact ⟨hpos, hpage b (List.mem_of_find?_eq_some hblock) hb, hb⟩

include hinst

theorem pageOf_evtPage {off : Nat} (hoff : off < 0x1000) :
    pageOf (evtPage code inst + off) = some (b, inst, (code % 256 - 1) / 32) := by
  obtain ⟨-, hpage, -⟩ := event_lies_in_page hknown hblock
  rw [pageOf_add (evtPage_mod code inst) hoff, evtPage_of_block hblock,
    pageOf_block b (List.mem_of_find?_eq_some hblock) inst hinst _ hpage]

/-- The bit of an event in its page is the bit of no other. -/
theorem eventAt_evtPage {off : Nat} (hoff : off < 0x1000) : eventAt (evtPage code inst + off) (evtBit code) = some (code, inst) := by
  obtain ⟨hpos, -, hb⟩ := event_lies_in_page hknown hblock
  have hcode : b.code * 256 + 32 * ((code % 256 - 1) / 32) + evtBit code + 1 = code := by
    unfold evtBit
    omega
  unfold eventAt
  rw [pageOf_evtPage hknown hblock hinst hoff]
  dsimp only
  rw [hcode, if_pos hknown]

end

end Sys2Proof.Machine
end

section
/-! Proofs about register writes (05; R133 to R135, R139, R142, R153, R778): how a write ends, what a write to a page's header leaves, and
from it the event commands of a page. -/

namespace Sys2Proof.Machine

open Sys2Proof

/-! ### How a write ends -/

theorem State.single_done {s t : State} {a st : Nat} {v : Word} {who : Option Nat}
    (h : s.writeReg a v who RecordErrs.none = (t, .done st)) : s.single a v who = t.wrote st := by
  rw [State.single, h]

theorem State.writeReg_unimplemented (s : State) {a : Nat} (hi : implemented a = false) (v : Word) (who : Option Nat)
    (e : RecordErrs) : s.writeReg a v who e = (s, .done stOutOfRange) := by
  simp [State.writeReg, hi]

theorem State.writeReg_failed {s : State} {a : Nat} (hi : implemented a = true) (hbody : 0x40 ≤ a % 0x1000)
    (hf : s.domFailed (regDomain a) = true) (v : Word) (who : Option Nat) (e : RecordErrs) :
    s.writeReg a v who e = (s, .done stDomainFailed) := by
  simp [State.writeReg, hi, hf, show ¬ a % 0x1000 < 0x40 by omega]

/-- Registers whose write needs a second domain are commands that a write of 1 starts. -/
theorem secondDomain_none {a : Nat} (h : accessOf a ≠ .w1s) (v : Word) : secondDomain a v = none := by
  have h0 : a ≠ Reg.PRT_MS_SA_INSTALL 0 := fun ha => h (by rw [ha]; decide)
  have h1 : a ≠ Reg.PRT_MS_SA_INSTALL 1 := fun ha => h (by rw [ha]; decide)
  have h2 : a ≠ Reg.KCT_KEY_INSTALL := fun ha => h (by rw [ha]; decide)
  rw [secondDomain, if_neg (by simp [h0, h1, h2])]

/-! ### Registers of a block whose domain runs -/

section
variable {s : State} {a : Nat} (hi : implemented a = true) (hbody : 0x40 ≤ a % 0x1000) (hup : s.up (regDomain a) = true)
  (hgood : s.domFailed (regDomain a) = false)
include hi hbody hup hgood

theorem State.writeReg_denied
    (hacc : accessOf a = .ro ∨ accessOf a = .rc ∨ (accessOf a = .rwl ∧ s.pageLocked a = true)) (v : Word) (who : Option Nat)
    (e : RecordErrs) : s.writeReg a v who e = (s, .done stAccessDenied) := by
  have hsecond : secondDomain a v = none :=
    secondDomain_none (by rcases hacc with h | h | ⟨h, -⟩ <;> rw [h] <;> exact nofun) v
  have hdenied : accessOf a = .ro ∨ accessOf a = .rc ∨ copyOnly a = true ∨ (accessOf a = .rwl ∧ s.pageLocked a = true) := by
    tauto
  simp [State.writeReg, hi, hup, hgood, hsecond, hdenied, show ¬ a % 0x1000 < 0x40 by omega]

theorem State.writeReg_outOfRange (hacc : accessOf a = .rw ∨ accessOf a = .w1c) (hcopy : copyOnly a = false) {v : Word}
    (hrange : rangesOk a v = false) (who : Option Nat) (e : RecordErrs) :
    s.writeReg a v who e = (s.reservedCode a, .done stOutOfRange) := by
  have hsecond : secondDomain a v = none := secondDomain_none (by rcases hacc with h | h <;> rw [h] <;> exact nofun) v
  have hwritable : ¬ (accessOf a = .ro ∨ accessOf a = .rc ∨ copyOnly a = true ∨ (accessOf a = .rwl ∧ s.pageLocked a = true)) := by
    rcases hacc with h | h <;> simp [h, hcopy]
  simp [State.writeReg, hi, hup, hgood, hsecond, hwritable, hrange, show ¬ a % 0x1000 < 0x40 by omega]

/-- A plain RW register takes the value where its fields are in range. -/
theorem State.writeReg_plain (hacc : accessOf a = .rw) (hcopy : copyOnly a = false) {v : Word} (hrange : rangesOk a v = true)
    (hallowed : s.writeRefused a v = none) (hlink : linkReg a = false) (hcfg : a ≠ Reg.INT_CFG_COMMIT) {who : Option Nat}
    {e : RecordErrs} (hplain : s.wrote.commandWrite a v who e = none) :
    s.writeReg a v who e = (s.plainWrite a v, .done stOK) := by
  have hsecond : secondDomain a v = none := secondDomain_none (by rw [hacc]; exact nofun) v
  simp [State.writeReg, hi, hup, hgood, hsecond, hacc, hcopy, hrange, hallowed, hlink, hcfg, hplain,
    show ¬ a % 0x1000 < 0x40 by omega]

end

theorem State.reservedCode_mgmt (s : State) (a : Nat) : (s.reservedCode a).mgmt = s.mgmt := by
  simp only [State.reservedCode]
  split_ifs <;> rfl

/-- Settles O24: the four ways in which a write is refused before it reaches its register. The CODE that a reserved command leaves is
log 155 (R778); a Failed domain is R139. -/
theorem refusedRegisterWritesChangeNothing : Obligations.RefusedRegisterWritesChangeNothing := by
  intro s addr v hs
  have hexec {t : State} {st : Nat} (h : s.writeReg addr.toNat v none RecordErrs.none = (t, .done st)) :
      exec (.registerWrite addr v) s = .next (t.wrote st) :=
    (guarded_of hs _ _).trans (congrArg _ (State.single_done h))
  refine ⟨fun hi => hexec (s.writeReg_unimplemented hi v none _),
    fun hi hbody hup hgood hacc => hexec (State.writeReg_denied hi hbody hup hgood hacc v none _), ?_,
    fun hi hbody hf => hexec (State.writeReg_failed hi hbody hf v none _)⟩
  intro hi hbody hup hgood hacc hcopy hrange
  rw [hexec (State.writeReg_outOfRange hi hbody hup hgood hacc hcopy hrange none _), State.wrote, State.reservedCode_mgmt]

/-! ### The common page header (R138) -/

/-- Apart from the parity that it renews, a write to a page's header does what its register does. -/
theorem State.writeReg_header (s : State) {a : Nat} (hi : implemented a = true) (hlow : a % 0x1000 < 0x40) (v : Word)
    (who : Option Nat) (e : RecordErrs) : ∃ t bad, s.writeReg a v who e = (t, .done t.mgmt.lastStatus)
      ∧ t = { s.headerWrite a v with mgmt := { (s.headerWrite a v).mgmt with parityBad := bad } } := by
  by_cases hfresh : accessOf a = .rw ∧ (s.headerWrite a v).mgmt.lastStatus = stOK
  · refine ⟨(s.headerWrite a v).freshParity a, _, ?_, rfl⟩
    simp only [State.writeReg, hi, hlow, hfresh, Bool.not_true, Bool.false_eq_true, if_false, if_true, and_self]
    exact congrArg (fun st => (_, WriteEnd.done st)) hfresh.2.symm
  · refine ⟨s.headerWrite a v, (s.headerWrite a v).mgmt.parityBad, ?_, rfl⟩
    simp only [State.writeReg, hi, hlow, hfresh, Bool.not_true, Bool.false_eq_true, if_false, if_true]

section
variable (s : State) {a : Nat} (hi : implemented a = true) (hlow : a % 0x1000 < 0x40) (v : Word) (who : Option Nat)
include hi hlow

theorem State.single_header :
    ∃ bad, s.single a v who = { s.headerWrite a v with mgmt := { (s.headerWrite a v).mgmt with parityBad := bad } } := by
  obtain ⟨t, bad, hw, ht⟩ := s.writeReg_header hi hlow v who RecordErrs.none
  refine ⟨bad, ?_⟩
  rw [State.single_done hw, ← ht]
  rfl

theorem State.single_header_reg (b : Nat) : (s.single a v who).reg b = (s.headerWrite a v).reg b := by
  obtain ⟨bad, h⟩ := s.single_header hi hlow v who
  rw [h]
  rfl

theorem State.single_header_log : (s.single a v who).log = (s.headerWrite a v).log := by
  obtain ⟨bad, h⟩ := s.single_header hi hlow v who
  rw [h]

theorem State.single_header_status : (s.single a v who).mgmt.lastStatus = (s.headerWrite a v).mgmt.lastStatus := by
  obtain ⟨bad, h⟩ := s.single_header hi hlow v who
  rw [h]

end

@[simp] theorem State.wrote_reg (s : State) (st a : Nat) : (s.wrote st).reg a = s.reg a := rfl

@[simp] theorem State.wrote_evtSet (s : State) (st c i : Nat) : (s.wrote st).evtSet c i = s.evtSet c i := rfl

@[simp] theorem State.wrote_flag (s : State) (st a i : Nat) : (s.wrote st).flag a i = s.flag a i := rfl

section
variable (s : State) {a : Nat} (v : Word)

theorem State.headerWrite_ctrl (h : a % 0x1000 = 0x00C) : s.headerWrite a v = s.pageCtrlWrite a v := by
  simp [State.headerWrite, h]

theorem State.headerWrite_status (h : a % 0x1000 = 0x014) : s.headerWrite a v = (s.evtClear a v).wrote := by
  simp [State.headerWrite, h]

theorem State.headerWrite_enable (h : a % 0x1000 = 0x018) : s.headerWrite a v = (s.setReg a v).wrote := by
  simp [State.headerWrite, h]

theorem State.headerWrite_force (h : a % 0x1000 = 0x01C) : s.headerWrite a v = (s.evtForce a v).wrote := by
  simp [State.headerWrite, h]

end

/-! ### Plain registers (R134) -/

section
variable (s : State) (v : Word)

theorem State.plainWrite_deliveryCfg : s.plainWrite Reg.RAS_DELIVERY_CFG v =
    (s.setReg Reg.RAS_DELIVERY_CFG ((s.reg Reg.RAS_DELIVERY_CFG &&& ~~~writeMask Reg.RAS_DELIVERY_CFG)
      ||| (v &&& writeMask Reg.RAS_DELIVERY_CFG))).freshParity Reg.RAS_DELIVERY_CFG := rfl

theorem State.single_deliveryCfg (hs : s.live = true) (hgood : s.domFailed 0 = false) (who : Option Nat) :
    s.single Reg.RAS_DELIVERY_CFG v who = if rangesOk Reg.RAS_DELIVERY_CFG v = true
      then (s.plainWrite Reg.RAS_DELIVERY_CFG v).wrote else s.wrote stOutOfRange := by
  have hdom : regDomain Reg.RAS_DELIVERY_CFG = 0 := by decide
  have hup : s.up (regDomain Reg.RAS_DELIVERY_CFG) = true := by rw [hdom, State.up, hs]; rfl
  have hgood : s.domFailed (regDomain Reg.RAS_DELIVERY_CFG) = false := by rw [hdom, hgood]
  have hi : implemented Reg.RAS_DELIVERY_CFG = true := by decide
  have hacc : accessOf Reg.RAS_DELIVERY_CFG = .rw := by decide
  split
  · next hrange => exact State.single_done (State.writeReg_plain hi (by decide) hup hgood hacc rfl hrange rfl rfl (by decide) rfl)
  · next hrange =>
    exact State.single_done (State.writeReg_outOfRange hi (by decide) hup hgood (.inl hacc) rfl (by simpa using hrange) who _)

theorem registerWrite_deliveryCfg (hs : s.live = true) (hgood : s.domFailed 0 = false) :
    ∃ t, exec (.registerWrite (BitVec.ofNat 24 Reg.RAS_DELIVERY_CFG) v) s = .next t
      ∧ (rangesOk Reg.RAS_DELIVERY_CFG v = true →
          t.reg Reg.RAS_DELIVERY_CFG
              = (s.reg Reg.RAS_DELIVERY_CFG &&& ~~~writeMask Reg.RAS_DELIVERY_CFG) ||| (v &&& writeMask Reg.RAS_DELIVERY_CFG)
            ∧ t.mgmt.lastStatus = stOK)
      ∧ (∀ a, a ≠ Reg.RAS_DELIVERY_CFG → t.reg a = s.reg a) := by
  refine ⟨_, (guarded_of hs _ _).trans (congrArg _ (s.single_deliveryCfg v hs hgood none)), fun hrange => ?_, fun a ha => ?_⟩
  · rw [if_pos hrange, State.plainWrite_deliveryCfg]
    exact ⟨s.reg_setReg_same _ _, rfl⟩
  · split
    · rw [State.plainWrite_deliveryCfg]
      exact s.reg_setReg_ne _ ha
    · rfl

/-- The whole stored word is written (R134); R154 is what a read of it shows (log 13). -/
theorem registerWrite_evtEnable (hs : s.live = true) {addr : BitVec 24} (hi : implemented addr.toNat = true)
    (hoff : addr.toNat % 0x1000 = 0x018) :
    ∃ t, exec (.registerWrite addr v) s = .next t ∧ t.reg addr.toNat = v ∧ t.mgmt.lastStatus = stOK
      ∧ ∀ a, a ≠ addr.toNat → t.reg a = s.reg a := by
  have hlow : addr.toNat % 0x1000 < 0x40 := by omega
  refine ⟨_, guarded_of hs _ _, ?_, ?_, fun a ha => ?_⟩
  · rw [s.single_header_reg hi hlow, s.headerWrite_enable v hoff, State.wrote_reg, State.reg_setReg_same]
  · rw [s.single_header_status hi hlow, s.headerWrite_enable v hoff]
    rfl
  · rw [s.single_header_reg hi hlow, s.headerWrite_enable v hoff, State.wrote_reg, s.reg_setReg_ne v ha]

end

/-- Settles O25, for the one register of a block and the one register of every page that it names. -/
theorem acceptedPlainWritesLandInTheirRegister : Obligations.AcceptedPlainWritesLandInTheirRegister := fun s v hs hgood =>
  ⟨registerWrite_deliveryCfg s v hs hgood, fun _ hi hoff => registerWrite_evtEnable s v hs hi hoff⟩

end Sys2Proof.Machine
end

section
/-! Proofs about the event commands (05; R138, R151, R153, R155): EVENT_RAISE, EVT_STATUS_CLEAR and EVT_FORCE of an event that the
tables define. -/

namespace Sys2Proof.Machine

open Sys2Proof

/-! ### EVT_STATUS written -/

/-- Bits are cleared and, where none stays set, the first-event register of the page; the fault wire follows. -/
theorem State.evtClear_reg_eq (s : State) (a : Nat) (v : Word) (b : Nat) : (s.evtClear a v).reg b =
    (if s.reg a &&& ~~~v = 0 then (s.setReg a (s.reg a &&& ~~~v)).setReg (pageBase a + 0x020) 0
      else s.setReg a (s.reg a &&& ~~~v)).reg b := by
  simp only [State.evtClear, State.reg_setReg_same]
  rfl

section
variable (s : State) {p : Nat} (hp : p % 0x1000 = 0) (v : Word)
include hp

theorem State.evtClear_reg : (s.evtClear (p + 0x014) v).reg (p + 0x014) = s.reg (p + 0x014) &&& ~~~v := by
  rw [s.evtClear_reg_eq, pageBase_add hp (by decide)]
  split
  · rw [State.reg_setReg_ne _ _ (by omega), State.reg_setReg_same]
  · rw [State.reg_setReg_same]

theorem State.evtClear_reg_ne {a : Nat} (h1 : a ≠ p + 0x014) (h2 : a ≠ p + 0x020) :
    (s.evtClear (p + 0x014) v).reg a = s.reg a := by
  rw [s.evtClear_reg_eq, pageBase_add hp (by decide)]
  split
  · rw [State.reg_setReg_ne _ _ h2, State.reg_setReg_ne _ _ h1]
  · rw [State.reg_setReg_ne _ _ h1]

end

theorem State.evtClear_log (s : State) (a : Nat) (v : Word) : (s.evtClear a v).log = s.log := by
  unfold State.evtClear
  dsimp only
  split
  · rfl
  · rfl

theorem bit_and_not_pow (x : Word) {k : Nat} (hk : k < 32) : bit (x &&& ~~~BitVec.ofNat 32 (2 ^ k)).toNat k = false := by
  rw [bit_toNat, BitVec.getLsbD_and, BitVec.getLsbD_not, BitVec.getLsbD_ofNat, Nat.testBit_two_pow_self]
  simp [hk]

theorem State.evtClear_evtSet (s : State) (code inst : Nat) :
    (s.evtClear (evtPage code inst + 0x014) (BitVec.ofNat 32 (2 ^ evtBit code))).evtSet code inst = false := by
  rw [State.evtSet, State.flag, s.evtClear_reg (evtPage_mod code inst), bit_and_not_pow _ (evtBit_lt code)]

/-! ### EVT_FORCE written -/

/-- What one step of a fold brings about, and no step undoes, holds at its end. -/
theorem foldl_establishes {α β : Type} {P : α → Prop} {f : α → β → α} (hkeep : ∀ x y, P x → P (f x y)) {k : β}
    (hset : ∀ x, P (f x k)) {l : List β} (hk : k ∈ l) (x : α) : P (l.foldl f x) := by
  induction l generalizing x with
  | nil => cases hk
  | cons y l ih =>
    rcases List.mem_cons.mp hk with rfl | hmem
    · exact List.foldlRecOn (motive := P) l f (hset x) fun z hz y _ => hkeep z y hz
    · exact ih hmem (f x y)

theorem State.evtForce_evtSet (s : State) {a k code inst : Nat} {v : Word} (hk : k < 32) (hbit : bit v.toNat k = true)
    (hat : eventAt a k = some (code, inst)) : (s.evtForce a v).evtSet code inst = true := by
  refine foldl_establishes (P := fun t : State => t.evtSet code inst = true) (fun t i ht => ?_) (fun t => ?_)
    (List.mem_range.mpr hk) s
  · split
    · split
      · exact t.occur_keeps_evtSet _ _ _ _ _ _ _ ht
      · exact ht
    · exact ht
  · rw [if_pos hbit, hat]
    exact t.occur_evtSet _ _ _ _ _ _ _

/-! ### The commands -/

section
variable {s : State} (hs : s.live = true) {code inst : Nat} {b : Block}
  (hknown : (eventTable.any fun e => e.1 == code) = true)
  (hblock : blocks.find? (fun b => b.code == code / 256) = some b) (hinst : inst < b.insts)
include hknown hblock hinst

theorem implemented_evtPage {off : Nat} (hoff : off < 0x40) (hword : off % 4 = 0) :
    implemented (evtPage code inst + off) = true := by
  have hmod := evtPage_mod code inst
  rw [implemented, if_pos (by omega), pageOf_evtPage hknown hblock hinst (by omega)]
  simp only [Option.isSome_some, Bool.and_true, beq_iff_eq]
  omega

include hs

theorem evtStatusClear_answers {addr : BitVec 24} (hpage : pageBase addr.toNat = evtPage code inst) :
    ∃ t, exec (.evtStatusClear addr (BitVec.ofNat 32 (2 ^ evtBit code))) s = .next t
      ∧ t.evtSet code inst = false ∧ t.log = s.log
      ∧ ∀ a, a ≠ evtPage code inst + 0x014 → a ≠ evtPage code inst + 0x020 → t.reg a = s.reg a := by
  have hmod := evtPage_mod code inst
  have hi := implemented_evtPage hknown hblock hinst (off := 0x014) (by decide) rfl
  have hlow : (evtPage code inst + 0x014) % 0x1000 < 0x40 := by omega
  refine ⟨_, guarded_of hs _ _, ?_⟩
  rw [hpage]
  refine ⟨?_, ?_, fun a h1 h2 => ?_⟩
  · rw [State.evtSet_congr (s.single_header_reg hi hlow _ none _), State.headerWrite_status _ _ (by omega), State.wrote_evtSet,
      State.evtClear_evtSet]
  · rw [s.single_header_log hi hlow, State.headerWrite_status _ _ (by omega), State.wrote_log, State.evtClear_log]
  · rw [s.single_header_reg hi hlow, State.headerWrite_status _ _ (by omega), State.wrote_reg, s.evtClear_reg_ne hmod _ h1 h2]

theorem evtForce_answers {addr : BitVec 24} (hpage : pageBase addr.toNat = evtPage code inst) :
    ∃ t, exec (.evtForce addr (BitVec.ofNat 32 (2 ^ evtBit code))) s = .next t ∧ t.evtSet code inst = true := by
  have hmod := evtPage_mod code inst
  have hi := implemented_evtPage hknown hblock hinst (off := 0x01C) (by decide) rfl
  have hlow : (evtPage code inst + 0x01C) % 0x1000 < 0x40 := by omega
  have hbit : bit (BitVec.ofNat 32 (2 ^ evtBit code)).toNat (evtBit code) = true := by
    rw [pow_toNat (evtBit_lt code)]
    exact Nat.testBit_two_pow_self
  refine ⟨_, guarded_of hs _ _, ?_⟩
  rw [hpage, State.evtSet_congr (s.single_header_reg hi hlow _ none _), State.headerWrite_force _ _ (by omega),
    State.wrote_evtSet]
  exact s.evtForce_evtSet (evtBit_lt code) hbit (eventAt_evtPage hknown hblock hinst (by decide))

end

theorem exec_eventRaise {s : State} (hs : s.live = true) {code : BitVec 16} {inst : Nat} {b : Block}
    (hknown : (eventTable.any fun e => e.1 == code.toNat) = true)
    (hblock : blocks.find? (fun b => b.code == code.toNat / 256) = some b) (hinst : inst < b.insts) (d : DWord) (d2 : Word) :
    exec (.eventRaise code inst d d2) s = .next (s.raiseAt code.toNat inst d.toNat d2.toNat) := by
  refine guarded_of ?_ _ _
  rw [hs, hknown, hblock]
  simpa using hinst

/-- Settles O23, one command after another: the bit of a defined event is the bit of that event alone. -/
theorem eventsOccurAndRearm : Obligations.EventsOccurAndRearm :=
  fun s _ inst _ d d2 hs hknown hblock hinst =>
    ⟨⟨_, exec_eventRaise hs hknown hblock hinst d d2, rfl, s.raiseAt_evtSet _ inst _ _⟩,
      fun _ => evtStatusClear_answers hs hknown hblock hinst, fun _ => evtForce_answers hs hknown hblock hinst⟩

end Sys2Proof.Machine
end

section
/-! SUPPORT. Operation slots (05; R161 to R173): what a write to a slot leaves of the others, and what votes, raised events and notices
leave of every slot. -/

namespace Sys2Proof.Machine

open Sys2Proof

section
variable (s : State) (i : Nat) (o : OpSlot)

@[simp] theorem State.opSlot_setOp_same : (s.setOp i o).opSlot i = o := tabGet_tabSet_same _ _ _ _

theorem State.opSlot_setOp_ne {j : Nat} (hj : j ≠ i) : (s.setOp i o).opSlot j = s.opSlot j := tabGet_tabSet_ne _ _ _ hj

theorem State.opSlot_congr {s t : State} (h : t.mgmt = s.mgmt) (j : Nat) : t.opSlot j = s.opSlot j := by
  rw [State.opSlot, h, State.opSlot]

@[simp] theorem State.wrote_opSlot (st j : Nat) : (s.wrote st).opSlot j = s.opSlot j := rfl

@[simp] theorem State.raise_opSlot (code d1 d2 j : Nat) : (s.raise code d1 d2).opSlot j = s.opSlot j :=
  State.opSlot_congr (s.raise_mgmt code d1 d2) j

/-! ### Votes -/

theorem State.foldl_setStand_mgmt (f : State → Nat → Stand) (l : List Nat) :
    (l.foldl (fun t k => t.setStand k (f t k)) s).mgmt = s.mgmt :=
  List.foldlRecOn (motive := fun t : State => t.mgmt = s.mgmt) l _ rfl fun _ ht _ _ => ht

theorem State.opHold_mgmt : (s.opHold o).mgmt = s.mgmt := by
  unfold State.opHold
  split
  · rfl
  · split
    · exact s.foldl_setStand_mgmt (fun t k => { t.stand k with opVote := true }) _
    · rfl

theorem State.opRelease_mgmt : (s.opRelease o).mgmt = s.mgmt := by
  unfold State.opRelease
  split
  · rfl
  · split
    · exact s.foldl_setStand_mgmt (fun t k => { t.stand k with opVote := false }) _
    · rfl

@[simp] theorem State.opHold_opSlot (j : Nat) : (s.opHold o).opSlot j = s.opSlot j := State.opSlot_congr (s.opHold_mgmt o) j

@[simp] theorem State.opRelease_opSlot (j : Nat) : (s.opRelease o).opSlot j = s.opSlot j :=
  State.opSlot_congr (s.opRelease_mgmt o) j

/-! ### Ends without notice -/

theorem State.notifyOp_none (h : (s.opSlot i).notify = none) : s.notifyOp i = s := by
  rw [State.notifyOp, h]

theorem State.opDone'_eq (result detail : Nat) (h : (s.opSlot i).notify = none) : s.opDone' i result detail =
    ((s.opRelease (s.opSlot i)).setOp i
      { s.opSlot i with state := .done, result := result, detail := detail }).raise 0x0209 i := by
  refine State.notifyOp_none _ _ ?_
  rw [State.raise_opSlot, State.opSlot_setOp_same, h]

/-- Of an operation that drains no stand. -/
theorem State.opFail_eq (result detail : Nat) (hcode : (s.opSlot i).code ≠ opDrain) (h : (s.opSlot i).notify = none) :
    s.opFail i result detail = ((s.opRelease (s.opSlot i)).setOp i
      { s.opSlot i with state := .failed, result := result, detail := detail }).raise 0x020A i := by
  rw [State.opFail, if_neg hcode]
  refine State.notifyOp_none _ _ ?_
  rw [State.raise_opSlot, State.opSlot_setOp_same, h]

/-- Of an operation that has nothing to take back. -/
theorem State.opCancelled_eq (heffects : s.cancelEffects i = s) (h : (s.opSlot i).notify = none) : s.opCancelled i =
    (s.opRelease (s.opSlot i)).setOp i { s.opSlot i with state := .cancelled, result := rcCancelled, detail := 0 } := by
  rw [State.opCancelled, heffects]
  refine State.notifyOp_none _ _ ?_
  rw [State.opSlot_setOp_same, h]

theorem State.cancelEffects_unbegun (h : (s.opSlot i).begun = false) : s.cancelEffects i = s := by
  rw [State.cancelEffects, h]
  rfl

theorem State.cancelEffects_migrate (h : (s.opSlot i).code = opMigrate) : s.cancelEffects i = s := by
  simp [State.cancelEffects, h]

end

end Sys2Proof.Machine
end

section
/-! Proofs about the slot commands (05; R163, R165 to R169): for each command the slot that it leaves, state by state. -/

namespace Sys2Proof.Machine

open Sys2Proof

/-- From `s` to `t` slot `i` alone is written, with `o`. -/
def State.WritesSlot (s : State) (i : Nat) (o : OpSlot) (t : State) : Prop :=
  t.opSlot i = o ∧ ∀ j, j ≠ i → t.opSlot j = s.opSlot j

namespace State.WritesSlot

variable {s t u : State} {i : Nat} {o : OpSlot}

theorem setOp (s : State) (i : Nat) (o : OpSlot) : s.WritesSlot i o (s.setOp i o) :=
  ⟨s.opSlot_setOp_same i o, fun _ hj => s.opSlot_setOp_ne i o hj⟩

/-- A second write to the slot is the one that stays. -/
theorem again (h : s.WritesSlot i o t) {p : OpSlot} (k : t.WritesSlot i p u) : s.WritesSlot i p u :=
  ⟨k.1, fun j hj => (k.2 j hj).trans (h.2 j hj)⟩

theorem congr (h : s.WritesSlot i o t) (hu : ∀ j, u.opSlot j = t.opSlot j) : s.WritesSlot i o u :=
  ⟨(hu i).trans h.1, fun j hj => (hu j).trans (h.2 j hj)⟩

theorem after (hu : ∀ j, u.opSlot j = s.opSlot j) (h : u.WritesSlot i o t) : s.WritesSlot i o t :=
  ⟨h.1, fun j hj => (h.2 j hj).trans (hu j)⟩

end State.WritesSlot

/-! ### The states of a slot -/

theorem OpState.inactive_iff (x : OpState) : x.active = false ↔ x = .idle ∨ x.terminal = true := by
  cases x <;> decide

theorem OpState.terminal_iff (x : OpState) : x.terminal = true ↔ x = .done ∨ x = .cancelled ∨ x = .failed := by
  cases x <;> decide

/-! ### Suspend, Resume and Cancel (R167) -/

section
variable (s : State) (i : Nat)

theorem State.suspend_writesSlot : s.WritesSlot i
    (if (s.opSlot i).state = .queued then { s.opSlot i with state := .suspended, rejected := false }
      else if (s.opSlot i).state = .running then { s.opSlot i with state := .suspending, rejected := false }
      else { s.opSlot i with rejected := true })
    (s.slotCommand i 2 none) := by
  simp only [State.slotCommand, Nat.reduceEqDiff, if_false, if_true]
  split
  · exact .setOp s i _
  · split
    · exact .setOp s i _
    · exact .setOp s i _

theorem State.resume_writesSlot : s.WritesSlot i
    (if (s.opSlot i).state = .suspended then { s.opSlot i with state := .queued, rejected := false }
      else { s.opSlot i with rejected := true })
    (s.slotCommand i 3 none) := by
  simp only [State.slotCommand, Nat.reduceEqDiff, if_false, if_true]
  split
  · exact .setOp s i _
  · exact .setOp s i _

variable {s i}

theorem State.cancel_writesSlot_begun
    (h : (s.opSlot i).state = .running ∨ (s.opSlot i).state = .suspending ∨ (s.opSlot i).state = .suspended) :
    s.WritesSlot i { s.opSlot i with state := .cancelling, rejected := false } (s.slotCommand i 4 none) := by
  rcases h with h | h | h
  · simp only [State.slotCommand, h]
    exact .setOp s i _
  · simp only [State.slotCommand, h]
    exact .setOp s i _
  · simp only [State.slotCommand, h]
    exact (State.WritesSlot.setOp s i _).congr (State.opHold_opSlot _ _)

theorem State.cancel_writesSlot_terminal (h : (s.opSlot i).state.terminal = true) :
    s.WritesSlot i { s.opSlot i with state := .idle, rejected := false } (s.slotCommand i 4 none) := by
  have hcmd : s.slotCommand i 4 none = s.setOp i { s.opSlot i with state := .idle, rejected := false } := by
    rcases (OpState.terminal_iff _).mp h with h | h | h
    · simp [State.slotCommand, h, OpState.terminal]
    · simp [State.slotCommand, h, OpState.terminal]
    · simp [State.slotCommand, h, OpState.terminal]
  rw [hcmd]
  exact .setOp s i _

theorem State.cancel_writesSlot_rejected (h : (s.opSlot i).state = .idle ∨ (s.opSlot i).state = .cancelling) :
    s.WritesSlot i { s.opSlot i with rejected := true } (s.slotCommand i 4 none) := by
  rcases h with h | h
  · simp only [State.slotCommand, h]
    exact .setOp s i _
  · simp only [State.slotCommand, h]
    exact .setOp s i _

/-- An operation that has not begun takes nothing back (R750). -/
theorem State.cancel_writesSlot_queued (h : (s.opSlot i).state = .queued) (hbegun : (s.opSlot i).begun = false)
    (hnotify : (s.opSlot i).notify = none) :
    s.WritesSlot i { s.opSlot i with state := .cancelled, rejected := false, result := rcCancelled, detail := 0 }
      (s.slotCommand i 4 none) := by
  have hcmd : s.slotCommand i 4 none = (s.setOp i { s.opSlot i with state := .queued, rejected := false }).opCancelled i := by
    simp only [State.slotCommand, h]
    rfl
  have hqueued := s.opSlot_setOp_same i { s.opSlot i with state := .queued, rejected := false }
  rw [hcmd, State.opCancelled_eq _ _ (State.cancelEffects_unbegun _ _ (by rw [hqueued, hbegun])) (by rw [hqueued, hnotify]), hqueued]
  exact (State.WritesSlot.setOp s i _).again (.after (State.opRelease_opSlot _ _) (.setOp _ i _))

/-! ### Start (R163, R165, R168) -/

theorem State.start_writesSlot_rejected (h : (s.opSlot i).state.active = true) (who : Option Nat) :
    s.WritesSlot i { s.opSlot i with rejected := true } (s.slotCommand i 1 who) := by
  have hbusy : ¬ ((s.opSlot i).state = .idle ∨ (s.opSlot i).state.terminal = true) := by
    rw [← OpState.inactive_iff, h]
    exact nofun
  simp only [State.slotCommand, if_true, if_neg hbusy]
  exact .setOp s i _

theorem State.slotCommand_start (h : (s.opSlot i).state.active = false) (who : Option Nat) :
    s.slotCommand i 1 who = s.opStart i who := by
  simp only [State.slotCommand, if_true, if_pos ((OpState.inactive_iff _).mp h)]

end

/-- The slot of an operation that a Start queues. -/
def State.startedSlot (s : State) (i : Nat) (who : Option Nat) : OpSlot :=
  { code := (s.opSlot i).code, arg0 := (s.opSlot i).arg0, arg1 := (s.opSlot i).arg1, arg2 := (s.opSlot i).arg2
    arg3 := (s.opSlot i).arg3, state := .queued, ownerValid := who.isSome, ownerClient := who.getD 0
    ownerEpoch := match who with | some c => (s.sess c).epoch.toNat | none => 0
    order := s.mgmt.nextOrder
    cursor := if (s.opSlot i).code = opDrain then (s.stand (bits (s.opSlot i).arg0.toNat 2 0)).used else 0 }

section
variable {s : State} {i : Nat} {who : Option Nat}

theorem State.opStart_queued (h : s.startCheck (s.opSlot i) who = none) :
    s.WritesSlot i (s.startedSlot i who) (s.opStart i who)
      ∧ (s.opStart i who).mgmt.nextOrder = s.mgmt.nextOrder + 1 ∧ (s.opStart i who).regs = s.regs := by
  have hstart : s.opStart i who = { s.setOp i (s.startedSlot i who) with
      mgmt := { (s.setOp i (s.startedSlot i who)).mgmt with nextOrder := s.mgmt.nextOrder + 1 } } := by
    simp only [State.opStart, h]
    rfl
  rw [hstart]
  exact ⟨(State.WritesSlot.setOp s i _).congr fun _ => rfl, rfl, rfl⟩

theorem State.opStart_failed {r d : Nat} (h : s.startCheck (s.opSlot i) who = some (r, d)) : ∃ t : State,
    s.opStart i who = t.raise 0x020A i
    ∧ s.WritesSlot i { s.startedSlot i who with state := .failed, result := r, detail := d } t := by
  simp only [State.opStart, h]
  exact ⟨_, rfl, ((State.WritesSlot.setOp s i _).congr fun _ => rfl).again (.setOp _ i _)⟩

end

/-! ### The commands -/

section
variable {s : State} (hs : s.live = true) (i : Nat)
include hs

theorem exec_opSuspend : exec (.opSuspend i) s = .next (s.slotCommand i 2 none).wrote := guarded_of hs _ _

theorem exec_opResume : exec (.opResume i) s = .next (s.slotCommand i 3 none).wrote := guarded_of hs _ _

theorem exec_opCancel : exec (.opCancel i) s = .next (s.slotCommand i 4 none).wrote := guarded_of hs _ _

theorem exec_opStart (c : BitVec 12) : exec (.opStart i c) s = .next (s.slotCommand i 1 (s.whoIs c.toNat)).wrote :=
  guarded_of hs _ _

theorem opCancel_answers : ∃ t, exec (.opCancel i) s = .next t
      ∧ ((s.opSlot i).state = .running ∨ (s.opSlot i).state = .suspending ∨ (s.opSlot i).state = .suspended →
          t.opSlot i = { s.opSlot i with state := .cancelling, rejected := false })
      ∧ ((s.opSlot i).state.terminal = true → t.opSlot i = { s.opSlot i with state := .idle, rejected := false })
      ∧ ((s.opSlot i).state = .idle ∨ (s.opSlot i).state = .cancelling → t.opSlot i = { s.opSlot i with rejected := true })
      ∧ ((s.opSlot i).state = .queued → (s.opSlot i).begun = false → (s.opSlot i).notify = none →
          (t.opSlot i).state = .cancelled ∧ (t.opSlot i).result = rcCancelled)
      ∧ ((s.opSlot i).state ≠ .queued ∨ ((s.opSlot i).begun = false ∧ (s.opSlot i).notify = none) →
          ∀ j, j ≠ i → t.opSlot j = s.opSlot j) := by
  refine ⟨_, exec_opCancel hs i, fun h => (State.cancel_writesSlot_begun h).1, fun h => (State.cancel_writesSlot_terminal h).1,
    fun h => (State.cancel_writesSlot_rejected h).1, fun h hbegun hnotify => ?_, fun hclause => ?_⟩
  · rw [State.wrote_opSlot, (State.cancel_writesSlot_queued h hbegun hnotify).1]
    exact ⟨rfl, rfl⟩
  · cases h : (s.opSlot i).state with
    | idle => exact (State.cancel_writesSlot_rejected (.inl h)).2
    | cancelling => exact (State.cancel_writesSlot_rejected (.inr h)).2
    | running => exact (State.cancel_writesSlot_begun (.inl h)).2
    | suspending => exact (State.cancel_writesSlot_begun (.inr (.inl h))).2
    | suspended => exact (State.cancel_writesSlot_begun (.inr (.inr h))).2
    | done => exact (State.cancel_writesSlot_terminal (by rw [h]; rfl)).2
    | cancelled => exact (State.cancel_writesSlot_terminal (by rw [h]; rfl)).2
    | failed => exact (State.cancel_writesSlot_terminal (by rw [h]; rfl)).2
    | queued =>
      obtain ⟨hbegun, hnotify⟩ := hclause.resolve_left (· h)
      exact (State.cancel_writesSlot_queued h hbegun hnotify).2

end

/-- Settles O28, one command after another. -/
theorem slotCommandsFollowTheStateMachine : Obligations.SlotCommandsFollowTheStateMachine := by
  intro s i c hs
  refine ⟨⟨_, exec_opSuspend hs i, s.suspend_writesSlot i⟩, ⟨_, exec_opResume hs i, s.resume_writesSlot i⟩,
    opCancel_answers hs i, fun h => ⟨_, exec_opStart hs i c, s.start_writesSlot_rejected h _⟩, fun h hcheck => ?_,
    fun r d h hcheck => ?_⟩
  · obtain ⟨hslot, horder, hregs⟩ := State.opStart_queued hcheck
    refine ⟨_, exec_opStart hs i c, ?_⟩
    rw [State.slotCommand_start h, State.wrote_opSlot, hslot.1]
    exact ⟨rfl, rfl, rfl, rfl, rfl, rfl, horder, hregs, hslot.2⟩
  · obtain ⟨t, ht, hslot⟩ := State.opStart_failed hcheck
    refine ⟨_, exec_opStart hs i c, ?_⟩
    rw [State.slotCommand_start h, ht, State.wrote_opSlot, State.raise_opSlot, hslot.1]
    refine ⟨rfl, rfl, rfl, t.raise_evtSet 0x020A i 0, fun j hj => ?_⟩
    rw [State.wrote_opSlot, State.raise_opSlot, hslot.2 j hj]

end Sys2Proof.Machine
end

section
/-! Proofs about how operations run and end (05; R162 to R170, R750): readmission, and of a migration or a scrub the suspend point, the end,
the failure and the clean-up. -/

namespace Sys2Proof.Machine

open Sys2Proof

section
variable {s : State} (hs : s.live = true) {i : Nat}
include hs

/-! ### Admission (R162, R163) -/

theorem exec_opAdmit_begun (hadm : s.admissible i = true)
    (hfirst : ∀ j ∈ opSlots, ¬((s.opSlot j).order < (s.opSlot i).order ∧ s.admissible j = true))
    (hbegun : (s.opSlot i).begun = true) :
    exec (.opAdmit i) s = .next ((s.setOp i { s.opSlot i with state := .running }).opHold (s.opSlot i)) := by
  have hnone : (opSlots.any fun j => decide ((s.opSlot j).order < (s.opSlot i).order) && s.admissible j) = false := by
    rw [List.any_eq_false]
    intro j hj
    simpa using hfirst j hj
  refine (guarded_of ?_ _ _).trans ?_
  · rw [hs, hadm, hnone]
    rfl
  · rw [if_pos hbegun]

/-! ### Suspension (R167) -/

theorem exec_opSuspendPoint_migrate (hstate : (s.opSlot i).state = .suspending) (hcode : (s.opSlot i).code = opMigrate)
    (hmove : s.opMoving i = false) : exec (.opSuspendPoint i) s =
      .next ((s.opRelease (s.opSlot i)).setOp i { s.opSlot i with state := .suspended }) :=
  guarded_of (by simp [hs, hstate, hcode, hmove]) _ _

/-! ### Ends (R169) -/

theorem exec_opFinished_scrub (hstate : (s.opSlot i).state = .running) (hbegun : (s.opSlot i).begun = true)
    (hcode : (s.opSlot i).code = opScrub) (hdone : s.scrubTotal (s.opSlot i) ≤ (s.opSlot i).cursor) :
    exec (.opFinished i) s = .next (s.opDone' i rcSuccess 0) := by
  show execOpFinished i s = _
  simp only [execOpFinished, hcode]
  exact guarded_of (by simp [hs, hbegun, hstate, hdone]) _ _

theorem exec_opError_scrub (hstate : (s.opSlot i).state = .running) (hbegun : (s.opSlot i).begun = true)
    (hcode : (s.opSlot i).code = opScrub) {r d : Nat} (herr : s.runError i = some (r, d)) :
    exec (.opError i) s = .next (s.opFail i r d) := by
  show execOpError i s = _
  simp only [execOpError, herr, hcode]
  exact guarded_of (by simp [hs, hbegun, hstate, OpState.votes]) _ _

/-! ### Clean-up (R750) -/

theorem exec_opCleanupDone_migrate (hstate : (s.opSlot i).state = .cancelling) (hcode : (s.opSlot i).code = opMigrate)
    (hmove : s.opMoving i = false) : exec (.opCleanupDone i) s = .next (s.opCancelled i) :=
  guarded_of (by simp [hs, hstate, hcode, hmove]) _ _

end

/-- Settles O29, one command after another. -/
theorem slotEnginesRunAndEnd : Obligations.SlotEnginesRunAndEnd := by
  intro s i hs
  refine ⟨fun hadm hfirst hbegun => ⟨_, exec_opAdmit_begun hs hadm hfirst hbegun, ?_⟩,
    fun hstate hcode hmove => ⟨_, exec_opSuspendPoint_migrate hs hstate hcode hmove, State.opSlot_setOp_same _ i _⟩,
    fun hstate hbegun hcode hnotify hdone => ⟨_, exec_opFinished_scrub hs hstate hbegun hcode hdone, ?_⟩,
    fun r d hstate hbegun hcode hnotify herr => ⟨_, exec_opError_scrub hs hstate hbegun hcode herr, ?_⟩,
    fun hstate hcode hmove hnotify => ⟨_, exec_opCleanupDone_migrate hs hstate hcode hmove, ?_⟩⟩
  · rw [State.opHold_opSlot, State.opSlot_setOp_same]
  · rw [s.opDone'_eq i _ _ hnotify, State.raise_opSlot, State.opSlot_setOp_same]
    exact ⟨rfl, rfl, State.raise_evtSet _ _ _ _⟩
  · rw [s.opFail_eq i r d (by rw [hcode]; decide) hnotify, State.raise_opSlot, State.opSlot_setOp_same]
    exact ⟨rfl, rfl, rfl, State.raise_evtSet _ _ _ _⟩
  · rw [s.opCancelled_eq i (s.cancelEffects_migrate i hcode) hnotify, State.opSlot_setOp_same]
    exact ⟨rfl, rfl⟩

end Sys2Proof.Machine
end

section
/-! Proofs about the common page header and the management lock (05; R138, R140, R142 to R144, R150): what a write to PAGE_CTRL leaves, what a
soft reset and a parity scan leave of a page, and who takes the lock. -/

namespace Sys2Proof.Machine

open Sys2Proof

/-! ### PAGE_CTRL of page 0 (R138, R140, R142) -/

/-- ENABLE takes the written bit; SOFT_RESET and LOCK are only set. -/
def ctrlValue (old v : Word) : Word := ((old ||| v) &&& 4) ||| ((old ||| v) &&& 2) ||| (v &&& 1)

theorem bit_ctrlValue_enable (old v : Word) : bit (ctrlValue old v).toNat 0 = bit v.toNat 0 := by
  simp only [ctrlValue, bit_toNat, BitVec.getLsbD_or, BitVec.getLsbD_and]
  simp

theorem bit_ctrlValue_softReset (old v : Word) : bit (ctrlValue old v).toNat 1 = (bit old.toNat 1 || bit v.toNat 1) := by
  simp only [ctrlValue, bit_toNat, BitVec.getLsbD_or, BitVec.getLsbD_and]
  simp

theorem bit_ctrlValue_lock (old v : Word) : bit (ctrlValue old v).toNat 2 = (bit old.toNat 2 || bit v.toNat 2) := by
  simp only [ctrlValue, bit_toNat, BitVec.getLsbD_or, BitVec.getLsbD_and]
  simp

section
variable {s : State} {a : Nat} (hpage0 : a = blockBase a + 0x00C)
include hpage0

/-- A write that does not set ENABLE, nor SOFT_RESET where ENABLE is 1. -/
theorem State.pageCtrlWrite_page0 {v : Word} (hv : bit v.toNat 0 = false)
    (hreset : (bit v.toNat 1 && s.flag a 0) = false) :
    s.pageCtrlWrite a v = (s.setReg a (ctrlValue (s.reg a) v)).wrote := by
  have hgo : ¬((bit v.toNat 1 && bit (s.reg a).toNat 0) || (bit v.toNat 0 && !s.usesComplete (blockBase a))) = true := by
    rw [hv, Bool.false_and, Bool.or_false, Bool.not_eq_true]
    exact hreset
  rw [State.pageCtrlWrite, if_neg (not_not_intro hpage0), if_neg hgo]
  rfl

theorem State.pageCtrlWrite_refused {v : Word} (hreset : (bit v.toNat 1 && s.flag a 0) = true) :
    s.pageCtrlWrite a v = s.wrote stAccessDenied := by
  rw [State.flag] at hreset
  rw [State.pageCtrlWrite, if_neg (not_not_intro hpage0), if_pos (by rw [hreset, Bool.true_or])]

end

section
variable {s : State} (hs : s.live = true) {addr : BitVec 24} (hi : implemented (ctrlOf addr) = true)
  (hoff : ctrlOf addr % 0x1000 = 0x00C) (hblock : blockBase (ctrlOf addr) = blockBase addr.toNat)
include hblock

theorem ctrlOf_page0 : ctrlOf addr = blockBase (ctrlOf addr) + 0x00C := by rw [hblock, ctrlOf]

include hi hoff

theorem State.single_ctrlOf {v : Word} (hv : bit v.toNat 0 = false) (hreset : (bit v.toNat 1 && s.flag (ctrlOf addr) 0) = false) :
    (s.single (ctrlOf addr) v none).reg (ctrlOf addr) = ctrlValue (s.reg (ctrlOf addr)) v
      ∧ (s.single (ctrlOf addr) v none).mgmt.lastStatus = stOK := by
  have hlow : ctrlOf addr % 0x1000 < 0x40 := by omega
  rw [s.single_header_reg hi hlow, s.single_header_status hi hlow, s.headerWrite_ctrl v hoff,
    State.pageCtrlWrite_page0 (ctrlOf_page0 hblock) hv hreset]
  exact ⟨s.reg_setReg_same _ _, rfl⟩

theorem State.single_ctrlOf_refused {v : Word} (hreset : (bit v.toNat 1 && s.flag (ctrlOf addr) 0) = true) :
    (s.single (ctrlOf addr) v none).reg (ctrlOf addr) = s.reg (ctrlOf addr)
      ∧ (s.single (ctrlOf addr) v none).mgmt.lastStatus = stAccessDenied := by
  have hlow : ctrlOf addr % 0x1000 < 0x40 := by omega
  rw [s.single_header_reg hi hlow, s.single_header_status hi hlow, s.headerWrite_ctrl v hoff,
    State.pageCtrlWrite_refused (ctrlOf_page0 hblock) hreset]
  exact ⟨rfl, rfl⟩

include hs

theorem pageEnable_off_answers : ∃ t, exec (.pageEnable addr false) s = .next t ∧ t.flag (ctrlOf addr) 0 = false
    ∧ t.mgmt.lastStatus = stOK ∧ t.flag (ctrlOf addr) 2 = s.flag (ctrlOf addr) 2 := by
  obtain ⟨hreg, hstatus⟩ := State.single_ctrlOf (s := s) hi hoff hblock (v := BitVec.ofNat 32 (bitNat false)) rfl rfl
  refine ⟨_, guarded_of hs _ _, ?_, hstatus, ?_⟩
  · rw [State.flag, hreg, bit_ctrlValue_enable]
    rfl
  · rw [State.flag, hreg, bit_ctrlValue_lock, State.flag]
    exact Bool.or_false _

theorem pageSoftReset_starts (hen : s.flag (ctrlOf addr) 0 = false) : ∃ t, exec (.pageSoftReset addr false) s = .next t
    ∧ t.flag (ctrlOf addr) 1 = true ∧ t.mgmt.lastStatus = stOK := by
  obtain ⟨hreg, hstatus⟩ := State.single_ctrlOf (s := s) hi hoff hblock (v := BitVec.ofNat 32 (2 + bitNat false)) rfl
    (by rw [hen]; rfl)
  refine ⟨_, guarded_of hs _ _, ?_, hstatus⟩
  rw [State.flag, hreg, bit_ctrlValue_softReset]
  exact Bool.or_true _

theorem pageSoftReset_refused (hen : s.flag (ctrlOf addr) 0 = true) (en : Bool) : ∃ t, exec (.pageSoftReset addr en) s = .next t
    ∧ t.flag (ctrlOf addr) 0 = true ∧ t.flag (ctrlOf addr) 1 = s.flag (ctrlOf addr) 1 ∧ t.mgmt.lastStatus = stAccessDenied := by
  have hbit : bit (BitVec.ofNat 32 (2 + bitNat en)).toNat 1 = true := by cases en <;> rfl
  obtain ⟨hreg, hstatus⟩ := State.single_ctrlOf_refused (s := s) hi hoff hblock (v := BitVec.ofNat 32 (2 + bitNat en))
    (by rw [hbit, hen]; rfl)
  exact ⟨_, guarded_of hs _ _, (State.flag_congr hreg 0).trans hen, State.flag_congr hreg 1, hstatus⟩

end

theorem pageLock_answers {s : State} (hs : s.live = true) {addr : BitVec 24}
    (hpage : (pageOf (pageBase addr.toNat + 0x00C)).isSome = true) : ∃ t, exec (.pageLock addr) s = .next t
      ∧ t.flag (pageBase addr.toNat + 0x00C) 2 = true ∧ ∀ a, a ≠ pageBase addr.toNat + 0x00C → t.reg a = s.reg a := by
  refine ⟨_, guarded_of (by rw [hs, hpage]; rfl) _ _, ?_, fun a ha => ?_⟩
  · rw [State.wrote_flag]
    exact s.flag_setReg_or _ (i := 2) (by decide)
  · rw [State.wrote_reg, s.reg_setReg_ne _ ha]

/-! ### The end of a soft reset (R140) -/

/-- Every key of a table is mapped, where an unlisted one maps to itself. -/
theorem tabGet_tabMap {α : Type} [DecidableEq α] {d : Nat → α} {f : Nat → α → α} {k : Nat} (hk : f k (d k) = d k) (t : Tab α) :
    tabGet d (tabMap d f t) k = f k (tabGet d t k) := by
  induction t with
  | nil => exact hk.symm
  | cons e t ih =>
    obtain ⟨j, v⟩ := e
    by_cases hdrop : f j v = d j
    · by_cases hj : k = j
      · subst hj
        simp [tabMap, tabGet, hdrop, tabGet_tabDel_same]
      · simp [tabMap, tabGet, hdrop, hj, tabGet_tabDel_ne d _ hj, ih]
    · by_cases hj : k = j
      · subst hj
        simp [tabMap, tabGet, hdrop]
      · simp [tabMap, tabGet, hdrop, hj, ih]

theorem softReg_ctrl {a : Nat} (h : a % 0x1000 = 0x00C) (v : Word) : softReg a v = v &&& 5 := if_pos h

theorem resetOf_ctrl {a : Nat} (h : a % 0x1000 = 0x00C) : resetOf a &&& 5 = resetOf a := by
  unfold resetOf
  rw [if_pos (by omega), h]
  split
  · unfold hdrReset
    simp only [Nat.reduceEqDiff, if_false, if_true]
    split
    · rfl
    · rfl
  · rfl

theorem softResetDone_answers {s : State} (hs : s.live = true) {addr : BitVec 24}
    (hpage : (pageOf (blockBase addr.toNat)).isSome = true) (hreset : s.flag (blockBase addr.toNat + 0x00C) 1 = true)
    (hin : inBlock (blockBase addr.toNat) (blockBase addr.toNat + 0x00C) = true) :
    ∃ t, exec (.softResetDone addr) s = .next t ∧ t.flag (blockBase addr.toNat + 0x00C) 1 = false := by
  have hoff : (blockBase addr.toNat + 0x00C) % 0x1000 = 0x00C := by
    have := blockBase_mod addr.toNat
    omega
  refine ⟨_, guarded_of (by rw [hs, hpage, hreset]; rfl) _ _, ?_⟩
  rw [State.flag, State.reg]
  dsimp only
  rw [tabGet_tabMap (by rw [if_pos hin, softReg_ctrl hoff, resetOf_ctrl hoff]), if_pos hin, softReg_ctrl hoff, bit_toNat,
    BitVec.getLsbD_and]
  exact Bool.and_false _

/-! ### The parity scan (R143, R144) -/

/-- The scan has found a register whose parity is wrong: it is listed, and its page's PAGE_PARITY names the page's first. -/
def State.parityFound (s : State) (a : Nat) (flip : Word) : State :=
  let t := { s.setReg a (s.reg a ^^^ flip) with mgmt := { s.mgmt with parityBad := s.mgmt.parityBad ++ [a] } }
  if t.flag (pageBase a + 0x030) 31 then t else t.setReg (pageBase a + 0x030) (BitVec.ofNat 32 (2 ^ 31 + a % 0x1000))

theorem State.parityFound_mgmt (s : State) (a : Nat) (flip : Word) :
    (s.parityFound a flip).mgmt = { s.mgmt with parityBad := s.mgmt.parityBad ++ [a] } := by
  unfold State.parityFound
  dsimp only
  split
  · rfl
  · rfl

section
variable {s : State} (hs : s.live = true)
include hs

theorem exec_parityScan_flip {addr : BitVec 24} (hscan : s.flag Reg.GLB_CTRL 0 = true) (hi : implemented addr.toNat = true)
    (hacc : accessOf addr.toNat = .rw) (hgood : s.mgmt.parityBad = []) :
    exec (.parityScan addr 1 false) s = .next ((s.parityFound addr.toNat 1).raise 0x0301 addr.toNat) := by
  have hodd : (((List.range 32).filter fun i => (1 : Word).getLsbD i).length % 2 == 1) = true := by decide
  show execParityScan addr 1 false s = _
  unfold execParityScan State.parityFound
  simp only [hodd, hi, hacc, hs, hscan, hgood, List.contains_nil, if_false, Bool.false_eq_true]
  rfl

theorem parityScan_answers {addr : BitVec 24} (hscan : s.flag Reg.GLB_CTRL 0 = true) (hi : implemented addr.toNat = true)
    (hacc : accessOf addr.toNat = .rw) (hgood : s.mgmt.parityBad = []) :
    ∃ t, exec (.parityScan addr 1 false) s = .next t ∧ t.mgmt.parityBad = [addr.toNat] ∧ t.evtSet 0x0301 0 = true := by
  refine ⟨_, exec_parityScan_flip hs hscan hi hacc hgood, ?_, State.raise_evtSet _ _ _ _⟩
  rw [State.raise_mgmt, State.parityFound_mgmt, hgood]
  rfl

/-! ### The management lock (R150) -/

variable {c : BitVec 12} {v : Word} (hlive : (s.sess c.toNat).live = true)
include hlive

theorem exec_mgrLock : exec (.mgrLock c v) s = .next (s.lockWrite v (some c.toNat)) := by
  have hwho : s.whoIs c.toNat = some c.toNat := if_pos hlive
  refine (guarded_of hs _ _).trans ?_
  rw [hwho]

theorem mgrLock_denied (h : (s.ctx c.toNat).manager = false ∨ s.lockedOut c.toNat (s.sess c.toNat).epoch = true) :
    exec (.mgrLock c v) s = .next (s.wrote stAccessDenied) := by
  have hdenied : (!(s.ctx c.toNat).manager || s.lockedOut c.toNat (s.sess c.toNat).epoch) = true := by
    rcases h with h | h
    · rw [h]
      rfl
    · rw [h, Bool.or_true]
  rw [exec_mgrLock hs hlive, State.lockWrite, if_pos hdenied]

theorem mgrLock_taken (hmgr : (s.ctx c.toNat).manager = true) (hfree : s.flag Reg.MGT_MGR_LOCK 31 = false)
    (hvalid : bit v.toNat 31 = true) (hself : bits v.toNat 11 0 = c.toNat) : exec (.mgrLock c v) s = .next
      (s.setReg Reg.MGT_MGR_LOCK (BitVec.ofNat 32 (2 ^ 31 + (s.sess c.toNat).epoch.toNat * 2 ^ 24 + c.toNat))).wrote := by
  have hallowed : ¬(!(s.ctx c.toNat).manager || s.lockedOut c.toNat (s.sess c.toNat).epoch) = true := by
    rw [hmgr, State.lockedOut, hfree]
    exact nofun
  rw [exec_mgrLock hs hlive, State.lockWrite, if_neg hallowed, if_pos hvalid, if_pos hself]

end

/-- Settles O26, one command after another. -/
theorem pageHeaderCommands : Obligations.PageHeaderCommands := by
  intro s hs
  refine ⟨fun addr _ hi hoff hblock => ⟨pageEnable_off_answers hs hi hoff hblock, pageSoftReset_starts hs hi hoff hblock,
      fun hen en => pageSoftReset_refused hs hi hoff hblock hen en⟩,
    fun addr => pageLock_answers hs, fun addr => softResetDone_answers hs, ?_,
    fun c v hlive hmgr hfree hvalid hself => ⟨_, mgrLock_taken hs hlive hmgr hfree hvalid hself, rfl, ?_, fun a ha => ?_⟩,
    fun c v hlive => mgrLock_denied hs hlive⟩
  · rintro addr _ hscan hi hacc rfl hgood
    exact parityScan_answers hs hscan hi hacc hgood
  · rw [State.wrote_reg, State.reg_setReg_same]
  · rw [State.wrote_reg, s.reg_setReg_ne _ ha]

end Sys2Proof.Machine
end

section
/-! Proofs about management messages (05; R145 to R147, R150, R172, R249, R250): how a batch is refused, how a batch of one record runs and is
answered, and how an OpCommand is carried out. -/

namespace Sys2Proof.Machine

open Sys2Proof

/-! ### A message taken -/

section
variable {s t : State} {m : InMsg} (htake : s.takeMgmt = some (m, t))
include htake

theorem State.takeMgmt_eq : t = { s with kct := t.kct } := by
  rw [State.takeMgmt] at htake
  split at htake
  · obtain ⟨x, -, hx⟩ := Option.map_eq_some_iff.mp htake
    cases hx
    rfl
  · cases htake

theorem State.takeMgmt_live : t.live = s.live := by
  rw [State.takeMgmt_eq htake]
  rfl

end

/-! ### A batch (R145 to R147, R150) -/

/-- MGT_BATCH_COUNT counts a message that is executed. -/
def State.countBatch (s : State) : State := s.setReg Reg.MGT_BATCH_COUNT (s.reg Reg.MGT_BATCH_COUNT + 1)

@[simp] theorem State.countBatch_mgmt (s : State) : s.countBatch.mgmt = s.mgmt := rfl

theorem readCount_lt (v : Nat) : readCount v < 128 := Nat.mod_lt _ (by decide)

section
variable {s t : State} {m : InMsg} (htake : s.takeMgmt = some (m, t)) (hjobs : s.mgmt.jobs = [])
include htake hjobs

theorem State.batch'_denied (hmgr : (t.ctx m.client).manager = false) (l : List RecordErrs) :
    s.batch' m.type l = (t.denied m.client).refuseBatch m stAccessDenied := by
  simp [State.batch', hjobs, htake, hmgr]

/-- A batch of one record is never too long. -/
theorem State.batch'_one (hmgr : (t.ctx m.client).manager = true)
    (hlock : m.type = tMgmtWrite → t.lockedOut m.client m.epoch = false) {r : Nat × Nat} (hrecs : recordsOf m.body = [r])
    (l : List RecordErrs) :
    s.batch' m.type l = t.countBatch.runJob (MgmtJob.start m) l := by
  have hlock : (((MgmtJob.start m).write && t.lockedOut m.client m.epoch) = true) = False := by
    by_cases htype : m.type = tMgmtWrite
    · simp [hlock htype]
    · simp [MgmtJob.start, htype]
  have htodo : (MgmtJob.start m).todo = [r] := hrecs
  have hread : readCount r.2 ≤ 512 := (readCount_lt r.2).le.trans (by decide)
  simp [State.batch', hjobs, htake, hmgr, hlock, htodo, hread, State.countBatch]

end

/-! ### A job of one record -/

theorem State.live_of_logic {s t : State} (h : t.logic = s.logic) (hs : s.live = true) : t.live = true := by
  rw [State.live, h]
  exact hs

theorem State.sess_of_kct {s t : State} (h : t.kct = s.kct) (c : Nat) : t.sess c = s.sess c := by
  rw [State.sess, State.ctx, h]
  rfl

theorem MgmtJob.status_one (m : InMsg) (st : Nat) : ((MgmtJob.start m).ended st []).status = st := by
  by_cases h : st = stOK
  · rw [h]
    rfl
  · simp [MgmtJob.status, MgmtJob.ended, MgmtJob.start, h]

theorem MgmtJob.answer_one (m : InMsg) (st : Nat) :
    ((MgmtJob.start m).ended st []).answer = beBytes 2 1 ++ List.replicate 2 (0 : Byte) ++ beBytes 4 st := by
  simp [MgmtJob.answer, MgmtJob.ended, MgmtJob.start]

theorem State.doRecords_one {s t : State} {j k : MgmtJob} {l : List RecordErrs}
    (h : s.doRecord j (l.headD RecordErrs.none) = (t, k, true)) (hk : k.todo = []) (n : Nat) :
    s.doRecords j (n + 1) l = (t, k) := by
  rw [State.doRecords, h]
  cases n with
  | zero => rfl
  | succ n => simp [State.doRecords, State.doRecord, hk]

/-- The answer of a job whose records have all been executed and whose session lives (R249, R250). -/
theorem State.runJob_answers {s t : State} {j k : MgmtJob} {l : List RecordErrs}
    (h : s.doRecord j (l.headD RecordErrs.none) = (t, k, true)) (hk : k.todo = []) (hlive : t.live = true)
    (hbound : (t.sess j.client).bound = true) (hepoch : (t.sess j.client).epoch.toNat = j.epoch) : s.runJob j l =
      ({ t with mgmt := { t.mgmt with jobs := [] } } : State).reply k.client (BitVec.ofNat 4 k.epoch) tMgmtResp k.msgId
        k.status k.answer := by
  rw [State.runJob, State.doRecords_one h hk]
  simp [hlive, hbound, hepoch, hk]

section
variable {s : State} {m : InMsg} {a v : Nat} (hrecs : recordsOf m.body = [(a, v)])
include hrecs

/-- A read of a register that does not exist ends its record, and MGT_BATCH_ERR counts it. -/
theorem State.doRecord_read_unimplemented (htype : m.type = tMgmtRead) (hv : v = 1) (hi : implemented a = false) (e : RecordErrs) :
    s.doRecord (MgmtJob.start m) e = (s.count Reg.MGT_BATCH_ERR, (MgmtJob.start m).ended stOutOfRange [], true) := by
  subst hv
  have hcount : readCount 1 = 1 := by decide
  have hread : (MgmtJob.start m).write = false := by rw [MgmtJob.start, htype]; rfl
  have htodo : (MgmtJob.start m).todo = [(a, 1)] := hrecs
  have hwaits : s.readWaits a 1 = none := by simp [State.readWaits, hi]
  have hall : s.readAll a 1 [] = (s, .error (some stOutOfRange)) := by simp [State.readAll, hi]
  simp only [State.doRecord, htodo, hread, hcount, hwaits, hall]
  rfl

/-- A write of a page's EVT_ENABLE leaves the whole value there. -/
theorem State.doRecord_write_evtEnable (htype : m.type = tMgmtWrite) (hi : implemented a = true) (hoff : a % 0x1000 = 0x018)
    (e : RecordErrs) : ∃ t : State, s.doRecord (MgmtJob.start m) e = (t, (MgmtJob.start m).ended stOK [], true)
      ∧ t.reg a = BitVec.ofNat 32 v ∧ t.kct = s.kct ∧ t.logic = s.logic := by
  obtain ⟨t, bad, hw, ht⟩ := s.writeReg_header hi (by omega) (BitVec.ofNat 32 v) (some m.client) e
  rw [s.headerWrite_enable _ hoff] at ht
  have hok : t.mgmt.lastStatus = stOK := by rw [ht]; rfl
  rw [hok] at hw
  have hwrite : (MgmtJob.start m).write = true := by rw [MgmtJob.start, htype]; rfl
  have htodo : (MgmtJob.start m).todo = [(a, v)] := hrecs
  have hclient : (MgmtJob.start m).client = m.client := rfl
  refine ⟨t, ?_, ?_, ?_, ?_⟩
  · simp only [State.doRecord, htodo, hwrite, hclient, hw]
    rfl
  · rw [ht]
    exact s.reg_setReg_same a _
  · rw [ht]
    rfl
  · rw [ht]
    rfl

variable (hlive : s.live = true) (hbound : (s.sess m.client).bound = true) (hepoch : (s.sess m.client).epoch = m.epoch)
include hlive hbound hepoch

theorem State.runJob_answers_one {t : State} {st : Nat} {l : List RecordErrs}
    (hrecord : s.doRecord (MgmtJob.start m) (l.headD RecordErrs.none) = (t, (MgmtJob.start m).ended st [], true))
    (hkct : t.kct = s.kct) (hlogic : t.logic = s.logic) : s.runJob (MgmtJob.start m) l =
      ({ t with mgmt := { t.mgmt with jobs := [] } } : State).reply m.client m.epoch tMgmtResp m.msgId st
        (beBytes 2 1 ++ List.replicate 2 (0 : Byte) ++ beBytes 4 st) := by
  have hsess := State.sess_of_kct hkct m.client
  have hdone : ((MgmtJob.start m).ended st []).todo = [] := congrArg List.tail hrecs
  have hid : BitVec.ofNat 4 ((MgmtJob.start m).ended st []).epoch = m.epoch := BitVec.ofNat_toNat _ m.epoch
  rw [State.runJob_answers hrecord hdone (State.live_of_logic hlogic hlive) ((congrArg Session.bound hsess).trans hbound)
    (congrArg BitVec.toNat ((congrArg Session.epoch hsess).trans hepoch)), MgmtJob.status_one, MgmtJob.answer_one, hid]
  rfl

end

/-! ### The commands -/

theorem State.count_setMgmt (s : State) (x : Mgmt) (a : Nat) : ({ s with mgmt := x } : State).count a = { s.count a with mgmt := x } := by
  unfold State.count
  show (if s.reg a = _ then _ else _) = _
  split
  · rfl
  · rfl

section
variable {s : State} (hs : s.live = true)
include hs

theorem exec_mgmtRead : exec .mgmtRead s = .next (s.batch' tMgmtRead []) := guarded_of hs _ _

theorem exec_mgmtWrite (e : List RecordErrs) : exec (.mgmtWrite e) s = .next (s.batch' tMgmtWrite e) := guarded_of hs _ _

variable {m : InMsg} {t : State} (htake : s.takeMgmt = some (m, t)) (hjobs : s.mgmt.jobs = [])
include htake

/-! ### OpCommand (R145, R172) -/

theorem exec_opCommand_denied (htype : m.type = tOpCommand) (hmgr : (t.ctx m.client).manager = false) :
    exec .opCommand s = .next ((t.denied m.client).refuseOp m (beAt m.body 0 1) stAccessDenied) := by
  show execOpCommand s = _
  rw [execOpCommand, htake]
  refine (guarded_of (by rw [hs, htype]; rfl) _ _).trans ?_
  rw [hmgr]
  rfl

theorem exec_opCommand_slot (htype : m.type = tOpCommand) (hmgr : (t.ctx m.client).manager = true)
    (hlock : t.lockedOut m.client m.epoch = false) (hslot : beAt m.body 0 1 < 32) : exec .opCommand s =
      .next (t.countBatch.opMessage m (beAt m.body 0 1)) := by
  show execOpCommand s = _
  rw [execOpCommand, htake]
  refine (guarded_of (by rw [hs, htype]; rfl) _ _).trans ?_
  simp only [hmgr, hlock, hslot, Bool.not_true, Bool.false_eq_true, if_false, if_true]
  rfl

/-! ### Batches of one record -/

include hjobs
variable (hmgr : (t.ctx m.client).manager = true) (hbound : (t.sess m.client).bound = true)
  (hepoch : (t.sess m.client).epoch = m.epoch) {a v : Nat}
include hmgr hbound hepoch

theorem mgmtRead_unimplemented (htype : m.type = tMgmtRead) (hrecs : recordsOf m.body = [(a, 1)]) (hi : implemented a = false) :
    exec .mgmtRead s = .next ((({ t.countBatch with mgmt := { t.mgmt with jobs := [] } } : State).count Reg.MGT_BATCH_ERR).reply
      m.client m.epoch tMgmtResp m.msgId stOutOfRange
      (beBytes 2 1 ++ List.replicate 2 (0 : Byte) ++ beBytes 4 stOutOfRange)) := by
  have hlive : t.countBatch.live = true := (State.takeMgmt_live htake).trans hs
  have hbatch := State.batch'_one htake hjobs hmgr (by rw [htype]; exact nofun) hrecs []
  rw [htype] at hbatch
  rw [exec_mgmtRead hs, hbatch, State.count_setMgmt, State.runJob_answers_one hrecs hlive hbound hepoch
    (State.doRecord_read_unimplemented hrecs htype rfl hi _) (State.count_kct _ _) (State.count_logic _ _), State.count_mgmt,
    State.countBatch_mgmt]

theorem mgmtWrite_evtEnable (hlock : t.lockedOut m.client m.epoch = false) (htype : m.type = tMgmtWrite)
    (hrecs : recordsOf m.body = [(a, v)]) (hi : implemented a = true) (hoff : a % 0x1000 = 0x018) :
    ∃ t u : State, exec (.mgmtWrite []) s = .next t ∧ u.reg a = BitVec.ofNat 32 v ∧ u.mgmt.jobs = []
      ∧ t = u.reply m.client m.epoch tMgmtResp m.msgId stOK (beBytes 2 1 ++ List.replicate 2 (0 : Byte) ++ beBytes 4 stOK) := by
  have hlive : t.countBatch.live = true := (State.takeMgmt_live htake).trans hs
  have hbatch := State.batch'_one htake hjobs hmgr (fun _ => hlock) hrecs []
  rw [htype] at hbatch
  obtain ⟨u, hrecord, hreg, hkct, hlogic⟩ :=
    t.countBatch.doRecord_write_evtEnable hrecs htype hi hoff (([] : List RecordErrs).headD RecordErrs.none)
  exact ⟨_, { u with mgmt := { u.mgmt with jobs := [] } }, (exec_mgmtWrite hs []).trans (congrArg _ hbatch), hreg, rfl,
    State.runJob_answers_one hrecs hlive hbound hepoch hrecord hkct hlogic⟩

end

/-! ### Event delivery (R158 to R160) -/

section
variable {s : State} (hs : s.live = true) {q : Nat} (hq : q < 8) (hvalid : s.flag (Reg.RAS_SUB q) 31 = true)
include hs hq hvalid

theorem exec_eventDelivery_ended (hended : (s.sess (s.fld (Reg.RAS_SUB q) 11 0)).live = false) :
    exec (.eventDelivery q) s = .next (s.clearSub q) := by
  show execEventDelivery q s = _
  simp only [execEventDelivery, hended, Bool.false_and]
  exact guarded_of (by simp [hs, hq, hvalid]) _ _

theorem eventDelivery_ended (hended : (s.sess (s.fld (Reg.RAS_SUB q) 11 0)).live = false) :
    ∃ t, exec (.eventDelivery q) s = .next t ∧ t.flag (Reg.RAS_SUB q) 31 = false
      ∧ ∀ a, a ≠ Reg.RAS_SUB q → t.reg a = s.reg a := by
  refine ⟨_, exec_eventDelivery_ended hs hq hvalid hended, ?_, fun a ha => s.reg_setReg_ne 0 ha⟩
  have hzero : (s.clearSub q).reg (Reg.RAS_SUB q) = 0 := s.reg_setReg_same _ 0
  rw [State.flag, hzero]
  rfl

/-- One due entry is sent, and the entries after it are due next. -/
theorem exec_eventDelivery_sends {e : LogEntry} (hlive : (s.sess (s.fld (Reg.RAS_SUB q) 11 0)).live = true)
    (hepoch : (s.sess (s.fld (Reg.RAS_SUB q) 11 0)).epoch.toNat = s.fld (Reg.RAS_SUB q) 27 24) (hring : s.log.ring = [e])
    (hdue : e.seq = tabGet (fun _ => 0) s.log.due q) (hsev : s.fld (Reg.RAS_SUB q) 29 28 ≤ e.sev)
    (hmax : 1 ≤ s.fld Reg.RAS_DELIVERY_CFG 4 0) (hroom : s.windowFull (s.fld (Reg.RAS_SUB q) 11 0) = false)
    (hopen : (s.sess (s.fld (Reg.RAS_SUB q) 11 0)).closeSent = false) {id : BitVec 24} {u w : State}
    (hid : s.drawMsgId (s.fld (Reg.RAS_SUB q) 11 0) = (id, u))
    (hw : u.sendMsg (s.fld (Reg.RAS_SUB q) 11 0) tEvent id stOK (eventBody [e]) = w) :
    exec (.eventDelivery q) s = .next { w with log := { w.log with due := tabSet (fun _ => 0) w.log.due q (e.seq + 1) } } := by
  have hfrom : s.logFrom (tabGet (fun _ => 0) s.log.due q) = [e] := by
    have hself : (e.seq - e.seq).toNat < 2 ^ 31 := by rw [BitVec.sub_self]; decide
    rw [← hdue, State.logFrom, hring, List.filter_singleton, decide_eq_true hself]
    rfl
  have hfilter : [e].filter (fun e => decide (s.fld (Reg.RAS_SUB q) 29 28 ≤ e.sev)) = [e] := by simp [hsev]
  have htake : [e].take (s.fld Reg.RAS_DELIVERY_CFG 4 0) = [e] := List.take_of_length_le hmax
  show execEventDelivery q s = _
  simp only [execEventDelivery, hlive, hepoch, hopen, hfrom, hfilter, htake, hroom, hid, List.getLast?_singleton, hw, BEq.rfl,
    Bool.and_self, Bool.not_true, Bool.false_eq_true, if_false, Bool.and_false, Bool.not_false]
  exact guarded_of (by simp [hs, hq, hvalid]) _ _

end

/-- Settles O27, one command after another: a refusal as a whole, a batch of one record, an OpCommand about a slot, and the delivery of
one entry. -/
theorem managementMessageCommands : Obligations.ManagementMessageCommands := by
  intro s hs
  refine ⟨fun m t0 hjobs htake hmgr => ⟨fun htype => ?_, fun e htype => ?_, fun htype => exec_opCommand_denied hs htake htype hmgr⟩,
    ?_, ?_, ?_, fun q hq hvalid hended => eventDelivery_ended hs hq hvalid hended, ?_⟩
  · rw [exec_mgmtRead hs, ← htype, State.batch'_denied htake hjobs hmgr]
  · rw [exec_mgmtWrite hs, ← htype, State.batch'_denied htake hjobs hmgr]
  · intro m t0 a hjobs htake hmgr hbound hepoch htype hrecs hi
    exact ⟨_, mgmtRead_unimplemented hs htake hjobs hmgr hbound hepoch htype hrecs hi, rfl⟩
  · intro m t0 a v hjobs htake hmgr hlock hbound hepoch htype hrecs hi hoff
    exact mgmtWrite_evtEnable hs htake hjobs hmgr hbound hepoch hlock htype hrecs hi hoff
  · rintro m t0 _ hjobs htake hmgr hlock htype rfl hslot
    exact exec_opCommand_slot hs htake htype hmgr hlock hslot
  · intro q e hq hvalid hlive hepoch hring hdue hsev hmax hroom hopen
    exact ⟨_, _, _, exec_eventDelivery_sends hs hq hvalid hlive hepoch hring hdue hsev hmax hroom hopen rfl rfl, rfl, rfl⟩

end Sys2Proof.Machine
end

section
/-! SUPPORT. The MACs and their frames (06): what a write to a MAC leaves of the others, and what counters, frames of the port's own and the
gate lists leave of the links, the events that are set and the time base. -/

namespace Sys2Proof.Machine

open Sys2Proof

section
variable (s : State)

/-! ### MACs and their SAs -/

@[simp] theorem State.mac_setMac_same (m : Nat) (v : Mac) : (s.setMac m v).mac m = v := tabGet_tabSet_same _ _ _ _

theorem State.mac_setMac_ne {m k : Nat} (v : Mac) (hk : k ≠ m) : (s.setMac m v).mac k = s.mac k := tabGet_tabSet_ne _ _ _ hk

theorem State.mac_congr {s t : State} (h : t.ports = s.ports) (k : Nat) : t.mac k = s.mac k := by rw [State.mac, h, State.mac]

@[simp] theorem State.raiseAt_mac (code inst d1 d2 k : Nat) : (s.raiseAt code inst d1 d2).mac k = s.mac k :=
  State.mac_congr (s.raiseAt_ports code inst d1 d2) k

@[simp] theorem State.macCount_ports (m c n : Nat) : (s.macCount m c n).ports = s.ports := s.count64_ports _ n

@[simp] theorem State.macCount_mac (m c n k : Nat) : (s.macCount m c n).mac k = s.mac k :=
  State.mac_congr (s.macCount_ports m c n) k

@[simp] theorem State.setMac_rx (m : Nat) (v : Mac) : (s.setMac m v).ports.rx = s.ports.rx := rfl

@[simp] theorem State.sa_setSa_same (m i : Nat) (v : MsSa) : (s.setSa m i v).sa m i = v := tabGet_tabSet_same _ _ _ _

theorem State.sa_congr {s t : State} (h : t.ports.sas = s.ports.sas) (k i : Nat) : t.sa k i = s.sa k i := by
  rw [State.sa, h, State.sa]

@[simp] theorem State.raiseAt_sa (code inst d1 d2 k i : Nat) : (s.raiseAt code inst d1 d2).sa k i = s.sa k i :=
  State.sa_congr (congrArg Ports.sas (s.raiseAt_ports code inst d1 d2)) k i

/-! ### Counters of a MAC (R219) -/

theorem State.macCount_evtSet (m : Nat) {c : Nat} (hc : c < 18) (n code inst : Nat) :
    (s.macCount m c n).evtSet code inst = s.evtSet code inst :=
  s.evtSet_count64_body n (by simp only [Reg.PRT_CNT, macPort, macIdx]; omega)
    (by simp only [Reg.PRT_CNT, macPort, macIdx]; omega) code inst

theorem State.macCount_msOn (m : Nat) {c : Nat} (hc : c < 18) (n k : Nat) : (s.macCount m c n).msOn k = s.msOn k :=
  State.flag_congr (s.reg_count64_ne n (by simp only [Reg.PRT_CNT, Reg.PRT_MS_CTRL, macPort, macIdx]; omega)
    (by simp only [Reg.PRT_CNT, Reg.PRT_MS_CTRL, macPort, macIdx]; omega)) 0

theorem State.raiseAt_msOn (code inst d1 d2 k : Nat) : (s.raiseAt code inst d1 d2).msOn k = s.msOn k :=
  State.flag_congr (s.raiseAt_reg_body _ _ _ _ (by simp only [Reg.PRT_MS_CTRL, macPort, macIdx]; omega)
    (by simp only [Reg.PRT_MS_CTRL, Reg.RAS_EVT_REPEAT]; omega)) 0

/-! ### Rings of a client (R688, R709) -/

theorem State.joinRing_kct (c m cls : Nat) : (s.joinRing c m cls).kct = s.kct := by
  unfold State.joinRing
  dsimp only
  split
  · split
    · rfl
    · rfl
  · rfl

theorem State.joinRings_kct (c : Nat) : (s.joinRings c).kct = s.kct :=
  List.foldlRecOn (motive := fun t : State => t.kct = s.kct) _ _ rfl fun t ht _ _ => (t.joinRing_kct ..).trans ht

/-! ### Gate lists and the time base (R697, R700) -/

theorem State.foldl_time {α : Type} {f : State → α → State} (hf : ∀ t a, (f t a).time = t.time) (l : List α) :
    (l.foldl f s).time = s.time :=
  List.foldlRecOn (motive := fun t => t.time = s.time) l f rfl fun t ht a _ => (hf t a).trans ht

@[simp] theorem State.gateEntry_time (p : Nat) (jump : Bool) : (s.gateEntry p jump).time = s.time := rfl

theorem State.showGates_time (p : Nat) : (s.showGates p).time = s.time := by
  unfold State.showGates
  extract_lets g s1 s2 s3 s4
  have h1 : s1.time = s.time := s.foldl_time (fun t i => by rw [State.setReg_time, State.setReg_time]) _
  rw [State.setReg_time, State.setReg_time, State.setReg_time, State.setReg_time, h1]

theorem State.gateSwitch_time (p T : Nat) : (s.gateSwitch p T).time = s.time := by
  rw [State.gateSwitch, State.raiseAt_time, State.gateEntry_time, State.showGates_time]
  rfl

theorem State.rephase_time : s.rephase.time = s.time := by
  refine s.foldl_time (fun t p => ?_) _
  dsimp only
  split
  · rfl
  · have hentry : (if (t.gates p).oper.isEmpty then t else t.gateEntry p true).time = t.time := by
      split
      · rfl
      · rfl
    rw [State.raiseAt_time]
    split
    · split
      · rw [State.gateSwitch_time, hentry]
      · exact hentry
    · exact hentry

end

/-! ### Frames of the port's own -/

/-- What a MAC without MACsec leaves as it was when it announces itself: its link, MACsec, the events and the client contexts. -/
structure State.KeepsLink (m : Nat) (s t : State) : Prop where
  linkUp : (t.mac m).linkUp = (s.mac m).linkUp
  msOff : t.msOn m = false
  events : ∀ code inst, t.evtSet code inst = s.evtSet code inst
  kct : t.kct = s.kct

namespace State.KeepsLink

variable {m : Nat} {s t : State}

theorem refl (hms : s.msOn m = false) : s.KeepsLink m s := ⟨rfl, hms, fun _ _ => rfl, rfl⟩

theorem ite {c : Prop} [Decidable c] {u : State} (h : s.KeepsLink m t) (k : s.KeepsLink m u) :
    s.KeepsLink m (if c then t else u) := by
  split
  · exact h
  · exact k

variable (h : s.KeepsLink m t)
include h

theorem macCount {c : Nat} (hc : c < 18) (n : Nat) : s.KeepsLink m (t.macCount m c n) :=
  ⟨h.linkUp, (t.macCount_msOn m hc n m).trans h.msOff,
    fun code inst => (t.macCount_evtSet m hc n code inst).trans (h.events code inst), h.kct⟩

theorem setMac {v : Mac} (hv : v.linkUp = (t.mac m).linkUp) : s.KeepsLink m (t.setMac m v) :=
  ⟨by rw [State.mac_setMac_same, hv, h.linkUp], h.msOff, h.events, h.kct⟩

theorem onAir (len : Nat) : s.KeepsLink m (t.onAir m len) := ⟨h.linkUp, h.msOff, h.events, h.kct⟩

/-- Without MACsec no PN is used, so no event of one is raised (R205). -/
theorem txFrame (len : Nat) : s.KeepsLink m (t.txFrame m len) := by
  unfold State.txFrame
  extract_lets s1 an pn v s2 s3 x
  have h1 : s.KeepsLink m s1 := macCount (macCount (h.onAir len) (by decide) _) (by decide) _
  rw [h1.msOff, Bool.not_false, if_pos rfl]
  exact h1

theorem sendOwn (len : Nat) (e : Emit) : s.KeepsLink m (t.sendOwn m len e) :=
  have hsent := h.txFrame (max 64 (len + t.tagLen m))
  ite ⟨hsent.linkUp, hsent.msOff, hsent.events, hsent.kct⟩ h

theorem announce : s.KeepsLink m (t.announce m) := by
  have harp := ite (c := (t.flag (Reg.PRT_MAC_CFG (macPort m) (macIdx m)) 31 && t.ipv4 m != 0) = true)
    (h.sendOwn 46 (.arpRequest m (t.ipv4 m))) h
  exact ite (List.foldlRecOn (motive := s.KeepsLink m) _ _ harp fun _ hu _ _ => hu.sendOwn _ _) harp

theorem askGateway (v6 : Bool) : s.KeepsLink m (t.askGateway m v6) := by
  cases v6
  · exact ite h (sendOwn (h.setMac (v := { t.mac m with gw4 := { (t.mac m).gw4 with asked := true } }) rfl) _ _)
  · exact ite h (sendOwn (h.setMac (v := { t.mac m with gw6 := { (t.mac m).gw6 with asked := true } }) rfl) _ _)

end State.KeepsLink

end Sys2Proof.Machine
end

section
/-! Proofs about links, received frames and PFC (06; R178 to R190, R197 to R200, R215, R216): one lemma for each command that says what it
answers. -/

namespace Sys2Proof.Machine

open Sys2Proof

variable {s : State} {m : Nat}

/-! ### Links (R182, R197, R199) -/

theorem State.moveTo_noContext (h : s.kct.ctx = []) (m : Nat) : s.moveTo m = s := by
  rw [State.moveTo, h]
  rfl

theorem State.failover_noContext (h : s.kct.ctx = []) (m : Nat) : s.failover m = (s, false) := by
  rw [State.failover, State.sessionsOn, h]
  rfl

theorem linkUp_answers (hon : s.macOn m = true) (hup : s.up (portDom (macPort m)) = true) (hdown : (s.mac m).linkUp = false)
    (hms : s.msOn m = false) (hctx : s.kct.ctx = []) :
    ∃ t, exec (.linkUp m) s = .next t ∧ (t.mac m).linkUp = true ∧ t.evtSet 0x1001 (macPort m) = true ∧ t.kct.ctx = [] := by
  obtain ⟨u, hu⟩ : ∃ u, u = (s.setMac m { s.mac m with linkUp := true }).raiseAt 0x1001 (macPort m) (macIdx m) 0 := ⟨_, rfl⟩
  have hkeeps : u.KeepsLink m (((u.announce m).askGateway m false).askGateway m true) := by
    refine (((State.KeepsLink.refl ?_).announce).askGateway false).askGateway true
    rw [hu, State.raiseAt_msOn]
    exact hms
  have hnone : (((u.announce m).askGateway m false).askGateway m true).kct.ctx = [] := by
    rw [hkeeps.kct, hu, State.raiseAt_kct]
    exact hctx
  refine ⟨((u.announce m).askGateway m false).askGateway m true, ?_, ?_, ?_, hnone⟩
  · rw [← State.moveTo_noContext hnone m, hu]
    exact guarded_of (by simp [hon, hup, hdown, hms]) _ _
  · rw [hkeeps.linkUp, hu, State.raiseAt_mac, State.mac_setMac_same]
  · rw [hkeeps.events, hu, State.raiseAt_evtSet]

theorem exec_linkDown (hs : s.live = true) (hup : (s.mac m).linkUp = true) : exec (.linkDown m) s = .next (s.linkDown m) :=
  guarded_of (by simp [hs, hup]) _ _

theorem State.linkDown_noContext (hup : (s.mac m).linkUp = true) (hctx : s.kct.ctx = []) : s.linkDown m =
    (s.setMac m { s.mac m with
      linkUp := false, paused := 0, xoff := 0
      gw4 := { (s.mac m).gw4 with asked := false, failures := 0 }
      gw6 := { (s.mac m).gw6 with asked := false, failures := 0 } }).raiseAt 0x1002 (macPort m) (macIdx m) 0 := by
  unfold State.linkDown
  extract_lets x g4 g6 s1 y4 y6
  have hnone : s1.kct.ctx = [] := (congrArg Kct.ctx (State.raiseAt_kct ..)).trans hctx
  rw [if_pos hup, State.failover_noContext hnone]
  exact if_neg Bool.false_ne_true

/-- Without client contexts nothing moves: the MAC alone changes, and its event is set. -/
theorem linkDown_answers (hs : s.live = true) (hup : (s.mac m).linkUp = true) (hctx : s.kct.ctx = []) :
    ∃ t, exec (.linkDown m) s = .next t ∧ (t.mac m).linkUp = false ∧ (t.mac m).paused = 0 ∧ (t.mac m).xoff = 0
      ∧ (t.mac m).gw4.failures = 0 ∧ (t.mac m).gw6.failures = 0 ∧ t.evtSet 0x1002 (macPort m) = true
      ∧ ∀ k, k ≠ m → t.mac k = s.mac k := by
  refine ⟨_, exec_linkDown hs hup, ?_⟩
  rw [State.linkDown_noContext hup hctx, State.raiseAt_mac, State.mac_setMac_same]
  refine ⟨rfl, rfl, rfl, rfl, rfl, State.raiseAt_evtSet .., fun k hk => ?_⟩
  rw [State.raiseAt_mac, State.mac_setMac_ne s _ hk]

/-! ### Failback (R200, R298) -/

theorem State.leaveRings_setCurrent_kct (s : State) (c p : Nat) : ((s.leaveRings c).setCurrent c p).kct =
    (s.setSess c { s.sess c with current := p, rate := min (s.sess c).rate (2560 * s.macRate p) }).kct := by
  have hrate : 2560 * s.macRate p = 10 * s.macRate p * 256 := by omega
  rw [hrate]
  rfl

/-- A session that returns to its primary keeps its rate within that MAC's line rate. -/
theorem failback_answers {c : BitVec 12} {p : Nat} (hp : (s.sess c.toNat).primary = p) (h5 : s.up 5 = true)
    (hlive : (s.sess c.toNat).live = true) (haway : (s.sess c.toNat).current ≠ p) (hup : s.macUp p = true)
    (hip : s.hasIp p (s.sess c.toNat).v6 = true) (hdest : (s.destMac c.toNat p).isSome = true) :
    ∃ t, exec (.failback c) s = .next t ∧ t.evtSet 0x1004 (macPort p) = true
      ∧ t.kct = (s.setSess c.toNat
          { s.sess c.toNat with current := p, rate := min (s.sess c.toNat).rate (2560 * s.macRate p) }).kct := by
  subst hp
  refine ⟨_, guarded_of (by simp [h5, hlive, haway, hup, hip, hdest]) _ _, State.raiseAt_evtSet .., ?_⟩
  rw [State.raiseAt_kct, State.joinRings_kct, State.leaveRings_setCurrent_kct]

/-! ### Negotiation and FEC (R178 to R181) -/

theorem anTimeout_answers {a : Ability} (hon : s.macOn m = true) (hup : s.up (portDom (macPort m)) = true)
    (hen : s.flag (Reg.PRT_AN_CFG (macPort m) (macIdx m)) 0 = true) (ha : s.ability m = some a) (hdown : (s.mac m).linkUp = false) :
    ∃ t, exec (.anTimeout m) s = .next t ∧ t.evtSet 0x100C (macPort m) = true ∧ t.ports = s.ports
      ∧ t.out.head? = some (.advertise m a) := by
  have hguard : (s.macOn m && s.up (portDom (macPort m)) && s.anOn m && !(s.mac m).linkUp) = true := by
    simp [hon, hup, hdown, State.anOn, hen, ha]
  show ∃ t, execAnTimeout m s = .next t ∧ _
  simp only [execAnTimeout, ha]
  refine ⟨_, guarded_of hguard _ _, State.raiseAt_evtSet .., ?_, rfl⟩
  rw [State.emit_ports, State.raiseAt_ports, State.count_ports]

theorem fecAlarm_answers (hon : s.macOn m = true) (hup : s.up (portDom (macPort m)) = true) {c u y : Nat}
    (halarm : (s.reg (Reg.PRT_FEC_ALARM (macPort m) (macIdx m))).toNat < u) :
    ∃ t, exec (.fecAlarm m c u y) s = .next t ∧ t.evtSet 0x1005 (macPort m) = true ∧ t.ports = s.ports := by
  have hguard : (s.macOn m && s.up (portDom (macPort m))) = true := by rw [hon, hup]; rfl
  show ∃ t, execFecAlarm m c u y s = .next t ∧ _
  simp only [execFecAlarm, if_pos halarm]
  exact ⟨_, guarded_of hguard _ _, State.raiseAt_evtSet .., by simp only [State.raiseAt_ports, State.count64_ports]⟩

/-! ### Received frames (R183, R215, R216) -/

theorem exec_frameReceive {f : EthFrame} {u : State} {ok : Bool} (hup : s.macUp m = true)
    (hwake : (s.frameWakes && s.wakeMatch m f) = false) (hchecks : s.rxChecks m f = (u, ok)) :
    exec (.frameReceive m f) s = .next (if ok then u.rxAccept m f else u) := by
  refine (guarded_of hup _ _).trans ?_
  rw [hwake, hchecks, if_neg Bool.false_ne_true]

theorem State.rxChecks_badFcs {f : EthFrame} (h : f.fcsOk = false) : s.rxChecks m f = (s.macCount m cRxFcs 1, false) := by
  rw [State.rxChecks, h]
  rfl

theorem exec_wakeFrameMatch {f : EthFrame} (hup : s.macUp m = true) (hwakes : s.frameWakes = true)
    (hmatch : s.wakeMatch m f = true) : exec (.wakeFrameMatch m f) s = .next (s.wakeFrame m f) :=
  guarded_of (by simp [hup, hwakes, hmatch]) _ _

/-! ### PFC (R189, R190) -/

theorem pfcRepeat_answers {c : Nat} (hup : s.macUp m = true) (hxoff : (s.mac m).xoff.getLsbD c = true) (hon : s.pfcOn m c = true)
    (hover : s.fld (Reg.PRT_PFC_THRESH (macPort m) (macIdx m) c) 15 0 * 1024 < s.rxClassBytes m c) :
    ∃ t, exec (.pfcRepeat m c) s = .next t ∧ t.out = .pfc m c 0xFFFF :: s.out ∧ t.ports = s.ports := by
  refine ⟨s.sendPfc m c 0xFFFF, guarded_of (by simp [hup, hxoff, hon, hover]) _ _, ?_, ?_⟩
  · rw [State.sendPfc, State.emit_out, State.macCount, State.count64_out]
  · rw [State.sendPfc, State.emit_ports, State.macCount_ports]

/-- A received PFC frame with the classes that it pauses, counted as one that names a class which is not enabled too. -/
theorem pfcReceive_answers {e : RxEntry} {u : State} {op : Nat} {v : BitVec 8} {q : List Nat}
    (htake : s.takeRx m (fun b => match b with | .macControl op _ _ => op == 0x0101 | _ => false) = some (e, u))
    (hbody : e.frame.body = .macControl op v q) :
    ∃ t, exec (.pfcReceive m) s = .next t ∧ t.ports.rx = u.ports.rx
      ∧ (t.mac m).paused = pfcPaused (BitVec.ofNat 8 (s.fld (Reg.PRT_PFC_CFG (macPort m) (macIdx m)) 7 0)) (u.mac m).paused v q := by
  show ∃ t, execPfcReceive m s = .next t ∧ _
  unfold execPfcReceive
  split
  · next hfound =>
    cases hfound.symm.trans htake
    simp only [hbody]
    refine ⟨_, rfl, ?_, ?_⟩
    · rw [State.setMac_rx]
      split
      · simp only [State.macCount_ports]
      · simp only [State.macCount_ports]
    · rw [State.mac_setMac_same]
      split
      · simp only [State.macCount_mac]
      · simp only [State.macCount_mac]
  · next hnone => cases hnone.symm.trans htake

theorem exec_pfcPauseExpire {c : Nat} (hs : s.live = true) (hpaused : (s.mac m).paused.getLsbD c = true) :
    exec (.pfcPauseExpire m c) s = .next (s.setMac m { s.mac m with paused := setMask (s.mac m).paused c false }) :=
  guarded_of (by simp [hs, hpaused]) _ _

/-- Settles O30, one command after another. -/
theorem linkAndFrameCommands : Obligations.LinkAndFrameCommands := by
  intro s m
  refine ⟨fun hon hup hdown hms hctx => linkUp_answers hon hup hdown hms hctx, fun hs hup => exec_linkDown hs hup,
    fun hs hup hctx => linkDown_answers hs hup hctx,
    fun c h5 hlive haway hup hip hdest => failback_answers rfl h5 hlive haway hup hip hdest,
    fun a hon hup hen ha hdown => anTimeout_answers hon hup hen ha hdown,
    fun c u y hon hup halarm => fecAlarm_answers hon hup halarm,
    fun f hup hwake hfcs => exec_frameReceive hup hwake (State.rxChecks_badFcs hfcs),
    fun f u hup hwake hchecks => exec_frameReceive hup hwake hchecks,
    fun f hup hwakes hmatch => exec_wakeFrameMatch hup hwakes hmatch,
    fun c hup hxoff hon hover => pfcRepeat_answers hup hxoff hon hover,
    fun e u v q htake hbody => pfcReceive_answers htake hbody, fun c hs hpaused => exec_pfcPauseExpire hs hpaused⟩

end Sys2Proof.Machine
end

section
/-! Proofs about neighbours, echo, gateways and the installation of a MACsec SA (06; R192, R193, R195, R203): one lemma for each command
that says what it answers. -/

namespace Sys2Proof.Machine

open Sys2Proof

/-! ### Requests taken from the receive queue (R192, R193, R195) -/

section
variable {s u : State} {m : Nat} {e : RxEntry}

theorem exec_arpRequest {req : Bool} {sm : BitVec 48} {sip tip : BitVec 32}
    (htake : s.takeRx m (fun b => match b with | .arp req .. => req | _ => false) = some (e, u))
    (hbody : e.frame.body = .arp req sm sip tip) :
    exec (.arpRequest m) s = .next (if s.ipv4 m ≠ 0 ∧ tip = s.ipv4 m then (u.learnGw4 m sip sm).sendOwn m 46 (.arpReply m sm sip)
      else u.learnGw4 m sip sm) := by
  show execArpRequest m s = _
  unfold execArpRequest
  split
  · next hfound =>
    cases hfound.symm.trans htake
    simp only [hbody]
  · next hnone => cases hnone.symm.trans htake

theorem exec_neighborSolicitation {target src : BitVec 128} {sm : BitVec 48}
    (htake : s.takeRx m (fun b => match b with | .neighSol .. => true | _ => false) = some (e, u))
    (hbody : e.frame.body = .neighSol target sm src) :
    exec (.neighborSolicitation m) s = .next (if (s.ipv6s m).contains target then
        (u.learnGw6 m src sm).sendOwn m 90 (.neighAdv m sm target { v6 := true, src := target, dst := src })
      else u.learnGw6 m src sm) := by
  show execNeighborSolicitation m s = _
  unfold execNeighborSolicitation
  split
  · next hfound =>
    cases hfound.symm.trans htake
    simp only [hbody]
  · next hnone => cases hnone.symm.trans htake

/-- With `n` the echoes that the device's present second has had (log 223). -/
theorem exec_echoRequest {d : List Byte} {h : IpHeader} {n : Nat}
    (htake : s.takeRx m (fun b => match b with | .echo _ => true | _ => false) = some (e, u))
    (hbody : e.frame.body = .echo d) (hip : e.frame.ip = some h)
    (hn : (if (u.mac m).echoSec = s.now / 1000000000 then (u.mac m).echoes else 0) = n) :
    exec (.echoRequest m) s = if n < s.fld (Reg.PRT_NEIGH_CFG (macPort m) (macIdx m)) 15 0 then
        .next ((u.setMac m { u.mac m with echoes := n + 1, echoSec := s.now / 1000000000 }).sendOwn m e.frame.length
          (.echoReply m e.frame.sa d { v6 := h.v6, src := h.dst, dst := h.src }))
      else .next (u.macCount m cEchoDrop 1) := by
  subst hn
  show execEchoRequest m s = _
  unfold execEchoRequest
  split
  · next hfound =>
    cases hfound.symm.trans htake
    simp only [hbody, hip]
  · next hnone => cases hnone.symm.trans htake

end

/-! ### Gateways (R193) -/

theorem gatewayResolve_thirdFailure {s : State} {m : Nat} (hup : s.macUp m = true) (hgw : s.gwIp4 m ≠ 0)
    (hasked : (s.mac m).gw4.asked = true) (hthird : (gatewayFail (s.mac m).gw4).failures = 3) :
    ∃ t u, exec (.gatewayResolve m false) s = .next t ∧ t = State.askGateway u m false ∧ u.evtSet 0x100E (macPort m) = true
      ∧ (u.mac m).gw4 = gatewayFail (s.mac m).gw4 := by
  have hguard : (s.macUp m && s.gwIp4 m != 0) = true := by rw [hup, bne_iff_ne.mpr hgw]; rfl
  have hraise : ((s.mac m).gw4.asked && (gatewayFail (s.mac m).gw4).failures == 3) = true := by simp [hasked, hthird]
  show ∃ t u, execGatewayResolve m false s = .next t ∧ _
  simp only [execGatewayResolve, Bool.false_eq_true, if_false, hraise, if_true]
  refine ⟨_, _, guarded_of hguard _ _, rfl, State.raiseAt_evtSet .., ?_⟩
  rw [State.raiseAt_mac, State.mac_setMac_same]

/-! ### MACsec SAs (R203, R205) -/

theorem commanding2_up {s : State} {d e : Nat} (hd : d ≠ 0) (he : e ≠ 0) (hdup : s.up d = true) (heup : s.up e = true)
    (hc : s.coreStalled e = false) (ok : Bool) (t : State) : commanding2 d e ok s t = guarded ok s t := by
  simp [commanding2, State.up_not_failed hd hdup, State.up_not_failed he heup, hdup, needing_up heup hc]

/-- The device `u` with the SA that stands in the staging registers of `s` installed under its unwrapped key (R203). -/
def State.saInstalled (s u : State) (p : Nat) (v : Word) (b : List Byte) : State :=
  (u.setSa (4 * p + bits v.toNat 4 3) (bits v.toNat 2 0) (s.stagedSa p (bits v.toNat 4 3) (bits v.toNat 2 0) b)).setReg
    (Reg.PRT_MS_SA_INSTALL p) (v &&& 0x1F)

/-- What an installation leaves in the SA's slot and in the command register. -/
def State.HoldsSa (s : State) (p : Nat) (v : Word) (b : List Byte) (t : State) : Prop :=
  t.sa (4 * p + bits v.toNat 4 3) (bits v.toNat 2 0) = s.stagedSa p (bits v.toNat 4 3) (bits v.toNat 2 0) b
    ∧ t.reg (Reg.PRT_MS_SA_INSTALL p) = v &&& 0x1F

section
variable {s t u : State} {p : Nat} {v : Word} {b : List Byte}

theorem State.saInstalled_holdsSa : s.HoldsSa p v b (s.saInstalled u p v b) :=
  ⟨State.sa_setSa_same .., State.reg_setReg_same ..⟩

theorem State.HoldsSa.raiseAt (h : s.HoldsSa p v b t) (code inst d1 d2 : Nat) : s.HoldsSa p v b (t.raiseAt code inst d1 d2) := by
  obtain ⟨hsa, hreg⟩ := h
  refine ⟨(t.raiseAt_sa ..).trans hsa, (t.raiseAt_reg_body _ _ _ _ ?_ ?_).trans hreg⟩
  · simp only [Reg.PRT_MS_SA_INSTALL]
    omega
  · simp only [Reg.PRT_MS_SA_INSTALL, Reg.RAS_EVT_REPEAT]
    omega

/-- The judgement of a PN changes its MAC alone and may raise an event (R205). -/
theorem State.HoldsSa.judgePn (h : s.HoldsSa p v b t) (m : Nat) : s.HoldsSa p v b (t.judgePn m) := by
  unfold State.judgePn
  dsimp only
  split
  · exact h
  · split
    · exact h
    · split
      · exact h
      · exact State.HoldsSa.raiseAt (t := t.setMac m _) h _ _ _ _

variable (hlock : s.thermal.relock = false) (h11 : s.up 11 = true) (hup : s.up (portDom p) = true) (hgo : bit v.toNat 31 = true)
include hlock h11 hup hgo

/-- The guard of the row: nothing waits for the core clock and GO is written. -/
theorem commanding2_msSa (t : State) : commanding2 (portDom p) 11 (bit v.toNat 31) s t = .next t := by
  have hport : portDom p ≠ 0 := by simp only [portDom]; omega
  rw [commanding2_up hport (by decide) hup h11 (State.coreStalled_of_locked hlock 11)]
  exact guarded_of hgo _ _

theorem exec_msSaInstall_rejected
    (hkey : s.unwrap (s.stageBytes (Reg.PRT_MS_SA p (bits v.toNat 4 3) (bits v.toNat 2 0)) 10) = (u, none)) :
    exec (.msSaInstall p v) s = .next (u.setReg (Reg.PRT_MS_SA_INSTALL p) ((v &&& 0x1F) ||| 0x4000_0000)) := by
  show execMsSaInstall p v s = _
  simp only [execMsSaInstall, hkey]
  exact commanding2_msSa hlock h11 hup hgo _

theorem msSaInstall_installs
    (hkey : s.unwrap (s.stageBytes (Reg.PRT_MS_SA p (bits v.toNat 4 3) (bits v.toNat 2 0)) 10) = (u, some b)) :
    ∃ t, exec (.msSaInstall p v) s = .next t ∧ s.HoldsSa p v b t := by
  show ∃ t, execMsSaInstall p v s = .next t ∧ _
  simp only [execMsSaInstall, hkey]
  refine ⟨_, commanding2_msSa hlock h11 hup hgo _, ?_⟩
  have hholds : s.HoldsSa p v b (s.saInstalled u p v b) := State.saInstalled_holdsSa
  split
  · refine State.HoldsSa.judgePn ?_ _
    split
    · exact hholds.raiseAt _ _ _ _
    · exact hholds
  · exact hholds

end

/-- Settles O31, one command after another. That the echoes are counted within whole seconds of the device's clock is log 223. -/
theorem neighbourEchoAndMacsecCommands : Obligations.NeighbourEchoAndMacsecCommands := by
  intro s m
  refine ⟨fun e u sm sip tip htake hbody => ?_, fun e u target sm src htake hbody => ?_, fun e u d h htake hbody hip => ?_,
    fun hup hgw hasked hthird => gatewayResolve_thirdFailure hup hgw hasked hthird, fun p v _ hlock h11 hup hgo =>
    ⟨fun u hkey => exec_msSaInstall_rejected hlock h11 hup hgo hkey, fun u b hkey => msSaInstall_installs hlock h11 hup hgo hkey⟩⟩
  · rw [exec_arpRequest htake hbody]
    exact ⟨fun hown htip => by rw [if_pos ⟨hown, htip⟩], fun htip => by rw [if_neg fun h => htip h.2]⟩
  · rw [exec_neighborSolicitation htake hbody]
    exact ⟨fun hown => by rw [if_pos hown], fun hother => by rw [if_neg (by rw [hother]; exact Bool.false_ne_true)]⟩
  · constructor
    · intro hsec hrate
      rw [exec_echoRequest htake hbody hip (if_neg hsec), if_pos hrate]
    · intro hsec hrate
      rw [exec_echoRequest htake hbody hip (if_pos hsec), if_neg (Nat.not_lt.mpr hrate)]

end Sys2Proof.Machine
end

section
/-! Proofs about the time base (06; R206 to R212): one lemma for each command that says what it answers. -/

namespace Sys2Proof.Machine

open Sys2Proof

variable {s : State}

/-! ### PTP (R206 to R208) -/

/-- A message is timed by the time base as it stood at its frame's arrival. -/
theorem exec_ptpMessage {u : State} {m dom : Nat} {e : RxEntry} {msg : PtpMsg}
    (htake : s.takeRx m (fun b => match b with | .ptp .. => true | _ => false) = some (e, u))
    (hbody : e.frame.body = .ptp dom msg) : exec (.ptpMessage m) s =
      .next (if s.ptpOn m && s.fld (Reg.PRT_PTP_CFG 0) 31 24 == dom && s.ptpTransportOk e.frame then u.takePtp m e.at_ msg else u) := by
  show execPtpMessage m s = _
  unfold execPtpMessage
  split
  · next hfound =>
    cases hfound.symm.trans htake
    simp only [hbody]
  · next hnone => cases hnone.symm.trans htake

theorem delayReqSend_answers {ip : Option IpTx} {len : Nat} (hparent : s.time.parent.isSome = true)
    (hon : s.ptpOn s.time.parentMac = true) (htx : s.txOk s.time.parentMac = true)
    (hip : ∀ v6, s.ptpUdp = some v6 → s.hasIp s.time.parentMac v6 = true)
    (hframe : s.delayReqFrame s.time.parentMac = (ip, len)) :
    ∃ t u, exec .delayReqSend s = .next t
      ∧ t = State.sendOwn u s.time.parentMac len (.delayReq s.time.parentMac s.time.delaySeq Config.clockIdentity ip)
      ∧ u.time.delaySeq = (s.time.delaySeq + 1) % 2 ^ 16
      ∧ u.time.delayReq = some (s.time.delaySeq, (s.time.nanos : Int) + s.txLat s.time.parentMac) := by
  show ∃ t u, execDelayReqSend s = .next t ∧ _
  simp only [execDelayReqSend, hframe]
  refine ⟨_, _, guarded_of ?_ _ _, rfl, rfl, rfl⟩
  rw [hparent, hon, htx]
  split
  · rfl
  · next v6 hv6 => exact hip v6 hv6

theorem State.unsync_synced (h : s.time.synced = true) : s.unsync =
    ({ s with time := { s.time with synced := false, good := 0 } }).gatePps.raiseAt 0x1009 0 0 0 := if_pos h

/-- PTP_PPS_OUT falls with SYNCED unless OUT_WHEN_UNSYNC holds it (R211). -/
theorem ptpTimeout_answers (hs : s.live = true) (hsync : s.time.synced = true) :
    ∃ t, exec .ptpTimeout s = .next t ∧ t.time.synced = false ∧ t.evtSet 0x1009 0 = true
      ∧ (s.flag (Reg.PRT_PPS_CFG 0) 30 = false → t.time.ppsOut = false) := by
  refine ⟨s.unsync, guarded_of (by simp [hs, hsync]) _ _, ?_⟩
  rw [State.unsync_synced hsync, State.raiseAt_time]
  refine ⟨rfl, State.raiseAt_evtSet .., fun hheld => ?_⟩
  have hdriven : ({ s with time := { s.time with synced := false, good := 0 } } : State).ppsDriven = false := by
    show (s.flag (Reg.PRT_PPS_CFG 0) 31 && (false || s.flag (Reg.PRT_PPS_CFG 0) 30)) = false
    rw [hheld, Bool.or_false, Bool.and_false]
  exact (congrArg (s.time.ppsOut && ·) hdriven).trans (Bool.and_false _)

/-! ### The time set and the pulse per second (R210 to R212) -/

theorem ptpSet_answers {v : Word} (hs : s.live = true) (hset : bit v.toNat 0 = true) (hsync : s.time.synced = false) :
    ∃ t, exec (.ptpSet v) s = .next t ∧ t.time.tbSet = true ∧ t.time.nanos = s.setTime := by
  refine ⟨_, guarded_of (by simp [hs, hset, hsync]) _ _, ?_⟩
  rw [State.rephase_time]
  exact ⟨rfl, Nat.div_add_mod' s.setTime 1000000000⟩

theorem exec_ppsInEdge_timestamps (hs : s.live = true) (hmode : s.fld (Reg.PRT_PPS_CFG 0) 29 28 = 1) : exec .ppsInEdge s =
    .next { s with time := { s.time with ppsInSec := s.time.sec, ppsInNs := s.time.ns } } := by
  show execPpsInEdge s = _
  simp only [execPpsInEdge, hmode]
  exact guarded_of (by rw [hs]; rfl) _ _

theorem ppsInMissing_answers (hs : s.live = true) (hmode : s.fld (Reg.PRT_PPS_CFG 0) 29 28 = 2) :
    ∃ t, exec .ppsInMissing s = .next t ∧ t.time.ppsLocked = false ∧ t.evtSet 0x100D 0 = true := by
  refine ⟨_, guarded_of (by simp [hs, hmode]) _ _, ?_, State.raiseAt_evtSet ..⟩
  rw [State.raiseAt_time]

/-- Settles O32, one command after another. -/
theorem timeBaseCommands : Obligations.TimeBaseCommands := by
  intro s
  refine ⟨fun m e u dom msg htake hbody => ?_,
    fun ip len hparent hon htx hip hframe => delayReqSend_answers hparent hon htx hip hframe,
    fun hs hsync => ptpTimeout_answers hs hsync, fun v hs hset hsync => ptpSet_answers hs hset hsync,
    fun hs => ⟨_, guarded_of hs _ _, rfl⟩, fun hs => guarded_of hs _ _, fun hs hmode => exec_ppsInEdge_timestamps hs hmode,
    fun hs hmode => ppsInMissing_answers hs hmode⟩
  rw [exec_ptpMessage htake hbody]
  constructor
  · intro hen hmask hdom hcarried
    rw [if_pos (by simp [State.ptpOn, hen, hmask, hdom, hcarried])]
  · intro hcarried
    rw [if_neg (by simp [hcarried])]

end Sys2Proof.Machine
end

section
/-! Proofs about key installation, Hellos and received segments (08; R222, R223, R225, R266, R267, R269, R271, R281, R287, R291, R292,
R302): one lemma for each shared operation and command that says what it answers. -/

namespace Sys2Proof.Machine

open Sys2Proof

/-! ### Client contexts -/

@[simp] theorem State.ctx_setCtx_same (s : State) (c : Nat) (v : Ctx) : (s.setCtx c v).ctx c = v := tabGet_tabSet_same _ _ _ _

/-! ### Key installation (R266, R267) -/

/-- The device `u` with the key `b`, under the salt that `s` holds, in the context and phase that the command names (R266). -/
def State.keyInstalled (s u : State) (v : Word) (b : List Byte) : State :=
  (u.setCtx (bits v.toNat 11 0) ((s.ctx (bits v.toNat 11 0)).setKey (bit v.toNat 16)
    { valid := true, key := keyOf b, salt := s.reg Reg.KCT_KEY_SALT })).setReg Reg.KCT_KEY_INSTALL (v &&& 0x0001_0FFF)

/-- The device `u` with ERR set in the command register (R266). -/
def State.keyRefused (u : State) (v : Word) : State :=
  u.setReg Reg.KCT_KEY_INSTALL ((v &&& 0x0001_0FFF) ||| 0x4000_0000)

theorem State.keyRefused_evtSet (u : State) (v : Word) (code inst : Nat) :
    (u.keyRefused v).evtSet code inst = u.evtSet code inst := u.evtSet_setReg_body _ (by decide) code inst

section
variable {s u : State} {v : Word} (hlock : s.thermal.relock = false) (h5 : s.up 5 = true) (h11 : s.up 11 = true)
  (hgo : bit v.toNat 31 = true)
include hlock h5 h11 hgo

/-- The guard of the row: nothing waits for the core clock and GO is written. -/
theorem commanding2_keyInstall (t : State) : commanding2 5 11 (bit v.toNat 31) s t = .next t := by
  rw [commanding2_up (by decide) (by decide) h5 h11 (State.coreStalled_of_locked hlock 11)]
  exact guarded_of hgo _ _

/-- The key of the phase in use is not replaced. -/
theorem exec_keyInstall_phaseInUse (hbound : (s.ctx (bits v.toNat 11 0)).sess.bound = true)
    (hphase : (s.ctx (bits v.toNat 11 0)).sess.txPhase = bit v.toNat 16) :
    exec (.keyInstall v) s = .next (s.keyRefused v).wrote := by
  show execKeyInstall v s = _
  simp only [execKeyInstall, hbound, hphase, beq_self_eq_true, Bool.true_or, Bool.and_self, if_true]
  exact commanding2_keyInstall hlock h5 h11 hgo _

theorem exec_keyInstall_rejected (hbound : (s.ctx (bits v.toNat 11 0)).sess.bound = false)
    (hkey : s.unwrap (s.stageBytes (Reg.KCT_KEY_STAGE 0) 10) = (u, none)) :
    exec (.keyInstall v) s = .next ((u.raise 0x2009 (bits v.toNat 11 0)).keyRefused v).wrote := by
  show execKeyInstall v s = _
  simp only [execKeyInstall, hbound, Bool.false_and, Bool.false_eq_true, if_false, hkey]
  exact commanding2_keyInstall hlock h5 h11 hgo _

theorem exec_keyInstall_unwrapped {b : List Byte} (hbound : (s.ctx (bits v.toNat 11 0)).sess.bound = false)
    (hkey : s.unwrap (s.stageBytes (Reg.KCT_KEY_STAGE 0) 10) = (u, some b)) :
    exec (.keyInstall v) s = .next (s.keyInstalled u v b).wrote := by
  show execKeyInstall v s = _
  simp only [execKeyInstall, hbound, Bool.false_and, Bool.false_eq_true, if_false, hkey]
  exact commanding2_keyInstall hlock h5 h11 hgo _

end

/-! ### Opening a session that waited (R271) -/

theorem exec_sessionOpenDeferred {s : State} {c : BitVec 12} {w : WaitingHello} (hlock : s.thermal.relock = false)
    (h5 : s.up 5 = true) (hwait : (s.ctx c.toNat).waiting = some w) (hsweep : (s.ctx c.toNat).sweeping = false)
    (hfree : (s.ctx c.toNat).sess.bound = false) : exec (.sessionOpenDeferred c) s = .next (s.openSession w) := by
  show execSessionOpenDeferred c s = _
  simp only [execSessionOpenDeferred, hwait, State.sess, hsweep, hfree]
  rw [needing_of_up hlock h5]
  exact guarded_of rfl _ _

/-! ### What becomes of a received frame (R222, R223, R225, R287) -/

section
variable {u : State} {m : Nat} {f : EthFrame} {hdr : BaseHeader} {box : Sealed}

/-- A Hello that does not verify reached a GCM engine and is counted, and nothing else changes. -/
theorem State.hello_unverified (hlen : f.udpLen = 48 + hdr.payloadLen.toNat) (hver : hdr.version = 3)
    (hbad : u.verifies hdr.client.toNat false hdr box hdr.seq.toNat = false) :
    u.hello m f hdr box = (u.cryCount 5 1).count Reg.KCT_RX_AUTHFAIL := by
  rw [State.hello, if_neg (not_not_intro hlen), if_neg fun h => h.2 hver, hbad]
  exact if_pos rfl

theorem State.sequenced_dropped {r : Nat} {done : Bool} {act : State → Nat → State}
    (hdrop : u.checkSeg (u.ctxOf hdr box) f hdr box = .drop r) : u.sequenced m f hdr box done act = u.dropSeg r := by
  simp only [State.sequenced, hdrop]

end

/-! ### Frames taken from the receive queue (R216) -/

section
variable {s u : State} {m : Nat} {e : RxEntry} {hdr : BaseHeader} {box : Sealed}
  (hlock : s.thermal.relock = false) (h5 : s.up 5 = true) (hans : s.boot.answers = true)
  (htake : s.takeKct m = some (e, u)) (hbody : e.frame.body = .kct hdr box)
include hlock h5 hans htake hbody

/-- The frame at the head of a port's KCT queue is taken by the row that names its type, once KCT messages are answered (log 201). -/
theorem kctRow_taken {p : Nat → Bool} (hp : p hdr.type.toNat = true) (g : State → EthFrame → BaseHeader → Sealed → State) :
    kctRow m p g s = .next (g u e.frame hdr box) := by
  simp only [kctRow, htake, hbody]
  rw [needing_of_up hlock h5]
  exact guarded_of (by rw [hp, hans]; rfl) _ _

/-- The same for a row that takes one type alone. -/
theorem kctRow_ofType {ty : Nat} (hty : hdr.type.toNat = ty) (g : State → EthFrame → BaseHeader → Sealed → State) :
    kctRow m (· == ty) g s = .next (g u e.frame hdr box) :=
  kctRow_taken hlock h5 hans htake hbody (p := (· == ty)) (beq_iff_eq.mpr hty) g

theorem exec_hello (hty : hdr.type.toNat = tHello) : exec (.hello m) s = .next (u.hello m e.frame hdr box) := by
  show execHello m s = _
  exact kctRow_ofType hlock h5 hans htake hbody hty _

theorem exec_segmentReceive_readShared (hty : hdr.type.toNat = tReadShared) :
    exec (.segmentReceive m) s = .next (u.sequenced m e.frame hdr box false (fun x _ => x)) := by
  show execSegmentReceive m s = _
  exact kctRow_taken hlock h5 hans htake hbody (by rw [hty]; rfl) _

theorem exec_ackReceive (hty : hdr.type.toNat = tAck) :
    exec (.ackReceive m) s = .next (u.control m e.frame hdr box (fun x _ => x)) := by
  show execAckReceive m s = _
  exact kctRow_ofType hlock h5 hans htake hbody hty _

theorem exec_keepaliveReceive (hty : hdr.type.toNat = tKeepalive) :
    exec (.keepaliveReceive m) s = .next (u.control m e.frame hdr box (fun x _ => x)) := by
  show execKeepaliveReceive m s = _
  exact kctRow_ofType hlock h5 hans htake hbody hty _

theorem exec_nakReceive (hty : hdr.type.toNat = tNak) :
    exec (.nakReceive m) s = .next (u.control m e.frame hdr box (fun x c => x.takeNak c box.plain)) := by
  show execNakReceive m s = _
  exact kctRow_ofType hlock h5 hans htake hbody hty _

theorem exec_closeReceive_dropped {r : Nat} (hty : hdr.type.toNat = tClose)
    (hdrop : u.checkSeg (u.ctxOf hdr box) e.frame hdr box = .drop r) : exec (.closeReceive m) s = .next (u.dropSeg r) := by
  rw [← State.sequenced_dropped hdrop]
  show execCloseReceive m s = _
  exact kctRow_ofType hlock h5 hans htake hbody hty _

/-- A Close of sound form and with a defined reason is taken once it is accepted (R302). -/
theorem exec_closeReceive_sound (hty : hdr.type.toNat = tClose) (hch : hdr.channel = 0) (hlen : box.plain.length = 4)
    (hidx : hdr.segIndex = 0) (hlast : hdr.last = true) (hreason : beAt box.plain 0 1 ≤ 5) : exec (.closeReceive m) s =
      .next (u.sequenced m e.frame hdr box true (fun x c => x.takeClose c (beAt box.plain 0 1))) := by
  show execCloseReceive m s = _
  refine (kctRow_ofType hlock h5 hans htake hbody hty _).trans ?_
  simp only [hch, hlen, hidx, hlast, Nat.not_lt.mpr hreason, ne_eq, not_true_eq_false, Bool.not_true, Bool.false_eq_true, or_self,
    if_false]

end

/-- Settles O33, one command after another. -/
theorem keyHelloAndSegmentCommands : Obligations.KeyHelloAndSegmentCommands := by
  intro s hlock h5
  refine ⟨fun v h11 hgo hbound hphase => ?_, fun v u h11 hgo hbound hkey => ?_, fun v u b h11 hgo hbound hkey => ?_,
    fun c w hwait hsweep hfree => exec_sessionOpenDeferred hlock h5 hwait hsweep hfree,
    fun m e u hdr box hans htake hbody => ⟨exec_hello hlock h5 hans htake hbody, fun hty hlen hver hbad => ?_,
      exec_segmentReceive_readShared hlock h5 hans htake hbody, fun r hty hdrop => ?_, exec_ackReceive hlock h5 hans htake hbody,
      exec_keepaliveReceive hlock h5 hans htake hbody, exec_nakReceive hlock h5 hans htake hbody,
      fun r hty hdrop => exec_closeReceive_dropped hlock h5 hans htake hbody hty hdrop,
      exec_closeReceive_sound hlock h5 hans htake hbody⟩⟩
  · exact ⟨_, exec_keyInstall_phaseInUse hlock h5 h11 hgo hbound hphase, State.reg_setReg_same .., rfl⟩
  · refine ⟨_, exec_keyInstall_rejected hlock h5 h11 hgo hbound hkey, State.reg_setReg_same .., ?_, State.raise_kct ..⟩
    exact (State.keyRefused_evtSet ..).trans (State.raise_evtSet ..)
  · exact ⟨_, exec_keyInstall_unwrapped hlock h5 h11 hgo hbound hkey, State.reg_setReg_same .., State.ctx_setCtx_same ..⟩
  · rw [exec_hello hlock h5 hans htake hbody hty, State.hello_unverified hlen hver hbad]
  · rw [exec_segmentReceive_readShared hlock h5 hans htake hbody hty, State.sequenced_dropped hdrop]

end Sys2Proof.Machine
end

section
/-! Proofs about the timers and controls of a session and the check of a segment by the GCM engines (08, 13; R282, R284, R290, R292,
R294 to R298, R302, R304, R380, R515): what a segment sent, a Close and a failed check leave of a session, and one lemma for each
command that says what it answers. -/

namespace Sys2Proof.Machine

open Sys2Proof

/-! ### Sessions -/

@[simp] theorem State.sess_setSess_same (s : State) (c : Nat) (v : Session) : (s.setSess c v).sess c = v :=
  congrArg Ctx.sess (State.ctx_setCtx_same ..)

/-- What a control segment leaves of its session: its count goes on, and all but a Keepalive and a Nak acknowledge (R278, R290). -/
theorem State.sess_sendSeg_control (s : State) (c : Nat) {t : Nat} (ht : isControl t = true) (ch : Nat) (id : BitVec 24)
    (st idx : Nat) (last ar : Bool) (l : List Byte) (dest : Option Dest) :
    (s.sendSeg c t ch id st idx last ar l dest).sess c = { s.sess c with
      ctrlTx := (s.sess c).ctrlTx + 1
      unacked := if t = tKeepalive ∨ t = tNak then (s.sess c).unacked else 0
      ecnEcho := false } := by
  refine (s.sess_setSess_same c _).trans ?_
  simp only [ht, if_true]

/-- The device's Close: the session is closing from then on, for the reason given (R302, R304). -/
theorem State.sess_sendClose {s : State} {c : Nat} (hlive : (s.sess c).live = true) (hsent : (s.sess c).closeSent = false)
    (reason : Nat) : ((s.sendClose c reason).sess c).state = .closing ∧ ((s.sendClose c reason).sess c).closeReason = reason := by
  rw [State.sendClose, if_pos (by rw [hlive, hsent]; rfl)]
  dsimp only
  rw [State.sess_setSess_same]
  exact ⟨rfl, rfl⟩

/-- The transmit phase moves and event 0x2006 is raised (R282). -/
theorem State.sess_movePhase (s : State) (c : Nat) (phase : Bool) :
    (s.movePhase c phase).sess c = { s.sess c with txPhase := phase, rekeyDue := false } :=
  (State.sess_of_kct (State.raise_kct ..) c).trans (State.sess_setSess_same ..)

/-- The device when the oldest segment of a session is sent again: its timeout doubles, to RTO_MAX at most (R294). -/
def State.retransmitted (s : State) (c ext : Nat) : State :=
  (s.retransmit c ext).setSess c { (s.retransmit c ext).sess c with
    rto := min (2 * ((s.retransmit c ext).sess c).rto) s.rtoMax }

/-! ### The end of a closing session (R302) -/

/-- The end that DEAD_TIME forces (R302). -/
theorem exec_sessionEnd_timeout {s : State} {c : BitVec 12} (h5 : s.up 5 = true)
    (hclosing : (s.sess c.toNat).state = .closing) : exec (.sessionEnd c true) s =
      .next ((s.raise 0x2002 (s.sess c.toNat).closeReason).sessionGone c.toNat .none) :=
  guarded_of (by rw [h5, hclosing]; rfl) _ _

/-- A session that is not closing does not end. -/
theorem exec_sessionEnd_opened {s : State} {c : BitVec 12} (hopened : (s.sess c.toNat).state = .opened)
    (timeout : Bool) : exec (.sessionEnd c timeout) s = .next s := by
  show execSessionEnd c timeout s = _
  rw [execSessionEnd, hopened, show (SessState.opened == SessState.closing) = false from rfl, Bool.and_false]
  exact guarded_false _ _

/-! ### Timers (R284, R290, R292, R294 to R298, R380) -/

section
variable {s : State} {c : BitVec 12} (h5 : s.up 5 = true)
include h5

theorem exec_ackSend (hlive : (s.sess c.toNat).live = true) (hunacked : 0 < (s.sess c.toNat).unacked) :
    exec (.ackSend c) s = .next (s.sendSeg c.toNat tAck 0 0 0 0 true false []) := by
  rw [← show s.sendAck c.toNat = _ from if_pos hlive]
  exact guarded_of (by simp [h5, hlive, hunacked]) _ _

theorem exec_nakDelayExpire {g : RxSeg} (hlive : (s.sess c.toNat).live = true) (hheld : g ∈ (s.sess c.toNat).rxHeld)
    (hgap : (s.sess c.toNat).rxNext < g.ext) : exec (.nakDelayExpire c) s = .next (s.sendNak c.toNat 1) := by
  have hany : ((s.sess c.toNat).rxHeld.any fun g => decide ((s.sess c.toNat).rxNext < g.ext)) = true :=
    List.any_eq_true.mpr ⟨g, hheld, decide_eq_true hgap⟩
  exact guarded_of (by simp only [h5, hlive, hany, Bool.and_self]) _ _

theorem exec_retransmitTimeout {r : Replay} (hold : (s.sess c.toNat).oldest = some r) (hbound : (s.sess c.toNat).bound = true) :
    exec (.retransmitTimeout c) s =
      .next (if s.retxMax ≤ r.count then s.deadSession c.toNat else s.retransmitted c.toNat r.seg.ext) := by
  show execRetransmitTimeout c s = _
  simp only [execRetransmitTimeout, hold]
  exact guarded_of (by rw [h5, hbound]; rfl) _ _

theorem exec_deadTimeExpire (hbound : (s.sess c.toNat).bound = true) (hold : (s.sess c.toNat).oldest.isSome = true) :
    exec (.deadTimeExpire c) s = .next (s.deadSession c.toNat) :=
  guarded_of (by rw [h5, hbound, hold]; rfl) _ _

theorem exec_keepaliveTimer (hlive : (s.sess c.toNat).live = true) (hon : s.fld Reg.KCT_KEEPALIVE 15 0 ≠ 0) :
    exec (.keepaliveTimer c) s = .next (s.sendSeg c.toNat tKeepalive 0 0 0 0 true true []) :=
  guarded_of (by rw [h5, hlive, bne_iff_ne.mpr hon]; rfl) _ _

theorem exec_rekeyGraceExpire (hlive : (s.sess c.toNat).live = true) (hdue : (s.sess c.toNat).rekeyDue = true) :
    exec (.rekeyGraceExpire c) s = .next ((s.sendClose c.toNat 3).raise 0x2008 (s.sessId c.toNat)) :=
  guarded_of (by rw [h5, hlive, hdue]; rfl) _ _

/-- The rate of a session that has waited on it and was not lowered goes up by AI, to ten times its MAC's rate at most (R298). -/
theorem exec_rateIncrease (hlive : (s.sess c.toNat).live = true) (hwaited : (s.sess c.toNat).waited = true)
    (hlow : (s.sess c.toNat).lowered = false) : exec (.rateIncrease c) s = .next (s.setSess c.toNat { s.sess c.toNat with
      rate := min ((s.sess c.toNat).rate + s.fld Reg.KCT_CC_CFG 15 0 * 256) (10 * s.macRate (s.sess c.toNat).current * 256)
      waited := false
      lowered := false }) := by
  show execRateIncrease c s = _
  simp only [execRateIncrease, hwaited, hlow, Bool.not_false, Bool.and_self, if_true]
  exact guarded_of (by rw [h5, hlive]; rfl) _ _

/-- A client that holds its session open and leaves a snoop unanswered loses the session (R380). -/
theorem exec_snoopTimeout {i : Nat} {f : Flight} {x : Snoop} (h7 : s.up 7 = true) (hflight : s.flight? i = some f)
    (hx : x ∈ f.snoops) (hclient : x.client = c.toNat) (hresult : x.result = none) (hwb : x.wbWait = false)
    (hlive : (s.sess c.toNat).live = true) :
    exec (.snoopTimeout i c) s = .next ((s.raise 0x5004 c.toNat).deadSession c.toNat) := by
  have hany : (f.snoops.any fun x => x.client == c.toNat && x.result.isNone && !x.wbWait) = true :=
    List.any_eq_true.mpr ⟨x, hx, by rw [hclient, hresult, hwb, beq_self_eq_true]; rfl⟩
  show execSnoopTimeout i c s = _
  simp only [execSnoopTimeout, hflight]
  exact guarded_of (by rw [h5, h7, hlive, hany]; rfl) _ _

end

/-! ### Controls (R282, R304) -/

section
variable {s : State} {c : BitVec 12} (h5 : s.up 5 = true) (hlock : s.thermal.relock = false)
include h5 hlock

theorem exec_sessCtrlClose : exec (.sessCtrlClose c) s = .next (s.sendClose c.toNat 5).wrote :=
  commanding_up (by decide) h5 (State.coreStalled_of_locked hlock 5) true _

theorem exec_sessCtrlSwitch (hlive : (s.sess c.toNat).live = true)
    (hvalid : ((s.ctx c.toNat).key (!(s.sess c.toNat).txPhase)).valid = true) :
    exec (.sessCtrlSwitch c) s = .next (s.movePhase c.toNat (!(s.sess c.toNat).txPhase)).wrote := by
  refine (commanding_up (by decide) h5 (State.coreStalled_of_locked hlock 5) true _).trans ?_
  have hready : ((s.sess c.toNat).live && ((s.ctx c.toNat).key (!(s.sess c.toNat).txPhase)).valid) = true := by
    rw [hlive, hvalid]
    rfl
  exact congrArg (fun t : State => Host.Outcome.next t.wrote) (if_pos hready)

end

/-! ### The GCM engines (R514, R515) -/

/-- The device after the GCM engines of `fails` have failed a check, one after another. -/
def State.gcmFailed (s : State) (fails : List Nat) : State :=
  fails.foldl (fun t k => (t.engineFail (12 + k)).cryCount 6 1) s

theorem State.engineFail_kct (s : State) (i : Nat) : (s.engineFail i).kct = s.kct := by
  unfold State.engineFail
  generalize (if i < 12 then Reg.CRY_XTS_OOS else Reg.CRY_GCM_OOS) = reg
  dsimp only
  split
  · exact State.raise_kct ..
  · rfl

theorem State.gcmFailed_kct (s : State) (fails : List Nat) : (s.gcmFailed fails).kct = s.kct :=
  List.foldlRecOn (motive := fun t : State => t.kct = s.kct) fails _ rfl fun t ht k _ => (t.engineFail_kct (12 + k)).trans ht

section
variable {s : State} {g : TxSeg} {rest : List TxSeg} (hlock : s.thermal.relock = false) (h5 : s.up 5 = true) (h11 : s.up 11 = true)
  (hgcm : s.kct.gcm = g :: rest)
include hlock h5 h11 hgcm

theorem exec_gcmSegmentVerify_passed (hengines : s.gcmEngines ≠ []) : exec (.gcmSegmentVerify []) s =
    .next (({ s with kct := { s.kct with gcm := rest } } : State).gcmDone g) := by
  have hfew : ([] : List Nat).length < min 3 s.gcmEngines.length := lt_min (by decide) (List.length_pos_iff.mpr hengines)
  show execGcmSegmentVerify [] s = _
  simp only [execGcmSegmentVerify, hgcm]
  rw [needing_of_up hlock h11, if_pos hfew]
  exact guarded_of (by rw [h5]; rfl) _ _

/-- After three engines have failed it, a segment is not sent; a session that has ended meanwhile does not die again (R515). -/
theorem exec_gcmSegmentVerify_failed {fails : List Nat} (hthree : fails.length = 3) (hnodup : fails.Nodup)
    (hengines : ∀ k ∈ fails, k ∈ s.gcmEngines) (hgone : (s.sess g.client).bound = false) :
    exec (.gcmSegmentVerify fails) s =
      .next ((({ s with kct := { s.kct with gcm := rest } } : State).gcmFailed fails).raise 0x800A g.client) := by
  have htake : fails.take 3 = fails := List.take_of_length_le hthree.le
  have hmany : ¬ fails.length < min 3 s.gcmEngines.length := fun h => by
    have := (lt_min_iff.mp h).1
    omega
  have hall : fails.all s.gcmEngines.contains = true :=
    List.all_eq_true.mpr fun k hk => List.contains_iff_mem.mpr (hengines k hk)
  show execGcmSegmentVerify fails s = _
  simp only [execGcmSegmentVerify, hgcm, htake]
  rw [needing_of_up hlock h11, if_neg hmany, hgone]
  exact guarded_of (by rw [h5, hall, decide_eq_true hnodup]; rfl) _ _

end

/-! ### The obligation -/

/-- Settles O34, one command after another. -/
theorem sessionTimerAndControlCommands : Obligations.SessionTimerAndControlCommands := by
  intro s c hlock h5
  refine ⟨fun hclosing => ⟨_, exec_sessionEnd_timeout h5 hclosing, rfl⟩, fun hopened => exec_sessionEnd_opened hopened true,
    fun hlive hunacked => ⟨_, exec_ackSend h5 hlive hunacked, ?ack⟩,
    fun g hlive hheld hgap => ⟨_, exec_nakDelayExpire h5 hlive hheld hgap, ?nak⟩,
    fun r hold hbound hcount => ⟨s.retransmitted c.toNat r.seg.ext, ?again, ?timeout⟩,
    fun r hold hbound hcount => ?dead, exec_deadTimeExpire h5,
    fun hlive hon => ⟨_, exec_keepaliveTimer h5 hlive hon, ?keepalive⟩,
    fun hlive hdue => ⟨_, exec_rekeyGraceExpire h5 hlive hdue, State.raise_evtSet .., State.raise_kct ..⟩,
    fun hlive hwaited hlow => ⟨_, exec_rateIncrease h5 hlive hwaited hlow, ?rate⟩,
    fun hlive hsent => ⟨_, exec_sessCtrlClose h5 hlock, State.sess_sendClose hlive hsent 5⟩,
    fun hlive hvalid => ⟨_, exec_sessCtrlSwitch h5 hlock hlive hvalid, ?phase, State.raise_evtSet ..⟩,
    fun i f x h7 hflight hx hclient hresult hwb hlive => exec_snoopTimeout h5 h7 hflight hx hclient hresult hwb hlive,
    fun g rest h11 hengines hgcm => exec_gcmSegmentVerify_passed hlock h5 h11 hgcm hengines,
    fun g rest h11 hgcm hgone hengines =>
      ⟨_, exec_gcmSegmentVerify_failed hlock h5 h11 hgcm rfl (by decide) ?engines hgone, State.raise_evtSet .., ?rest⟩⟩
  case ack =>
    rw [State.sess_sendSeg_control _ _ (t := tAck) rfl]
    exact ⟨rfl, rfl, rfl, rfl, rfl⟩
  case nak =>
    rw [State.sendNak, State.sess_sendSeg_control _ _ (t := tNak) rfl]
    exact ⟨rfl, rfl, rfl⟩
  case again => rw [exec_retransmitTimeout h5 hold hbound, if_neg (Nat.not_le.mpr hcount)]
  case timeout => rw [State.retransmitted, State.sess_setSess_same]
  case dead => rw [exec_retransmitTimeout h5 hold hbound, if_pos hcount]
  case keepalive =>
    rw [State.sess_sendSeg_control _ _ (t := tKeepalive) rfl]
    exact ⟨rfl, rfl⟩
  case rate =>
    rw [State.sess_setSess_same]
    exact ⟨rfl, rfl⟩
  case phase => exact congrArg Session.txPhase (State.sess_movePhase ..)
  case engines =>
    intro k hk
    have hlt : k < 3 := List.mem_range.mp hk
    exact List.contains_iff_mem.mp (hengines k hlt)
  case rest => rw [State.raise_kct, State.gcmFailed_kct]

end Sys2Proof.Machine
end

section
/-! Proofs about translation's checks (09; R323): the answer of each check where it is the first that fails, and what a request that is
refused leaves. -/

namespace Sys2Proof.Machine

open Sys2Proof

/-! ### The first check that fails (R323) -/

section
variable {s : State} {c t : Nat} {b : List Byte}

theorem State.translate_badFormat (hformat : formatOk t b = false) : s.translate c t b = some (stOutOfRange, 0) := by
  dsimp only [State.translate]
  rw [if_pos (by simp [hformat])]

section
variable (hformat : formatOk t b = true)
include hformat

theorem State.translate_invalid (hvalid : (s.region (bodyRegion b)).valid = false) :
    s.translate c t b = some (stUnmapped, 0) := by
  dsimp only [State.translate]
  rw [if_neg (by simp [hformat]), if_pos (by simp [hvalid])]

section
variable (hvalid : (s.region (bodyRegion b)).valid = true) (henable : (s.region (bodyRegion b)).enable = true)
include hvalid henable

theorem State.translate_clearing (hstate : (s.region (bodyRegion b)).state = 1) :
    s.translate c t b = some (stBusy, (s.reg Reg.PIPE_INIT_RETRY).toNat) := by
  dsimp only [State.translate]
  rw [if_neg (by simp [hformat]), if_neg (by simp [hvalid, henable, hstate]), if_pos hstate]

section
variable (hstate : (s.region (bodyRegion b)).state = 0)
include hstate

theorem State.translate_pastEnd (hend : (s.region (bodyRegion b)).pageCount * 4096 < bodyEnd t b) :
    s.translate c t b = some (stOutOfRange, 0) := by
  dsimp only [State.translate]
  rw [if_neg (by simp [hformat]), if_neg (by simp [hvalid, henable, hstate]), if_neg (by simp [hstate]),
    if_pos (.inr hend)]

theorem State.translate_noGrant (hoffset : bodyOffset b < 2 ^ 46)
    (hend : bodyEnd t b ≤ (s.region (bodyRegion b)).pageCount * 4096) (hevict : isEviction t = false)
    (hgrant : s.grantOf c (bodyRegion b) = none) : s.translate c t b = some (stAccessDenied, 0) := by
  dsimp only [State.translate]
  rw [if_neg (by simp [hformat]), if_neg (by simp [hvalid, henable, hstate]), if_neg (by simp [hstate]),
    if_neg (by omega), if_pos (by simp [hevict, hgrant])]

end
end
end
end

/-! ### What a refused request leaves -/

@[simp] theorem State.countStatus_tier (s : State) (f : Flight) (st : Nat) : (s.countStatus f st).tier = s.tier := by
  rw [State.countStatus_eq]

@[simp] theorem State.countStatus_sram (s : State) (f : Flight) (st : Nat) : (s.countStatus f st).sram = s.sram := by
  rw [State.countStatus_eq]

/-- The device when it has counted the refusal of a request for a page with a status (R355). -/
def State.refusalCounted (s : State) (region page st : Nat) : State :=
  if st = stBusy then (s.pipeCount region page 0).pipeCount region page 7
  else (s.pipeCount region page 0).countStatus
    { id := 0, client := 0, epoch := 0, type := 0, msgId := 0, region := region, page := page } st

/-- Counting a refusal changes no page and takes no tracker. -/
theorem State.refusalCounted_frame (s : State) (region page st : Nat) :
    (s.refusalCounted region page st).pipe = s.pipe ∧ (s.refusalCounted region page st).dram = s.dram ∧
      (s.refusalCounted region page st).tier = s.tier ∧ (s.refusalCounted region page st).coh = s.coh ∧
      (s.refusalCounted region page st).sram = s.sram := by
  unfold State.refusalCounted
  split <;> simp [State.pipeCount]

/-- A request that spends no credit and fails a check of translation is counted and answered. -/
theorem State.serve_refused {s : State} {m : InMsg} {st info : Nat} (hstage : s.stage3 m.client m.type m.body = none)
    (hcredit : bits m.credit.toNat 15 14 = 0)
    (htranslate : (s.pipeCount (bodyRegion m.body) (bodyPage m.body) 0).translate m.client m.type m.body = some (st, info)) :
    s.serve m 0 = (s.refusalCounted (bodyRegion m.body) (bodyPage m.body) st).answer m st info := by
  simp [State.serve, State.refusalCounted, hcredit, hstage, htranslate]

theorem State.answer_eq (s : State) (m : InMsg) (st info : Nat) :
    s.answer m st info = { s with kct := (s.answer m st info).kct } :=
  s.reply_eq ..

/-- Settles O38: each check answers where those before it pass, and a request that one of them refuses changes registers and the
transport alone. -/
theorem translationRefusesAtTheFirstFailedCheck : Obligations.TranslationRefusesAtTheFirstFailedCheck := by
  intro s m
  refine ⟨State.translate_badFormat, State.translate_invalid, State.translate_clearing, State.translate_pastEnd,
    State.translate_noGrant, fun st info hstage hcredit htranslate => ?_⟩
  rw [State.serve_refused hstage hcredit htranslate, State.answer_eq]
  exact s.refusalCounted_frame ..

end Sys2Proof.Machine
end

section
/-! Proofs about the region window (09; R310 to R317, R649): one lemma for each outcome of a command. -/

namespace Sys2Proof.Machine

open Sys2Proof

/-! ### Words in a window's data registers (R310) -/

section
variable (s : State) (a : Nat) (l : List Nat)

theorem State.putWords_eq : s.putWords a l = { s with regs := (s.putWords a l).regs } :=
  List.foldlRecOn (motive := fun t : State => t = { s with regs := t.regs }) _ _ rfl fun t ht i _ => by rw [ht]; rfl

@[simp] theorem State.putWords_pipe : (s.putWords a l).pipe = s.pipe := by rw [State.putWords_eq]

@[simp] theorem State.putWords_dram : (s.putWords a l).dram = s.dram := by rw [State.putWords_eq]

/-- The low half of each word stands in its register. -/
theorem State.reg_putWords {i : Nat} (hi : i < l.length) : (s.putWords a l).reg (a + 8 * i) = BitVec.ofNat 32 (l.getD i 0) := by
  unfold State.putWords
  generalize l.length = n at hi
  induction n with
  | zero => omega
  | succ n ih =>
    rw [List.range_succ, List.foldl_append, List.foldl_cons, List.foldl_nil, State.reg_setReg_ne _ _ (by omega)]
    by_cases hn : i = n
    · rw [hn, State.reg_setReg_same]
    · rw [State.reg_setReg_ne _ _ (by omega), ih (by omega)]

theorem State.reg_putWords_first (hl : 0 < l.length) : (s.putWords a l).reg a = BitVec.ofNat 32 (l.getD 0 0) :=
  s.reg_putWords a l hl

end

/-! ### The table and the end of a command -/

@[simp] theorem State.region_setRegion_same (s : State) (r : Nat) (v : Region) : (s.setRegion r v).region r = v :=
  tabGet_tabSet_same ..

theorem State.region_congr {s t : State} (h : t.pipe.regions = s.pipe.regions) (r : Nat) : t.region r = s.region r := by
  rw [State.region, h, State.region]

@[simp] theorem State.region_rgnEnd (s : State) (code r : Nat) : (s.rgnEnd code).region r = s.region r := rfl

@[simp] theorem State.rgnEnd_regions (s : State) (code : Nat) : (s.rgnEnd code).pipe.regions = s.pipe.regions := rfl

@[simp] theorem State.reg_rgnEnd (s : State) (code a : Nat) : (s.rgnEnd code).reg a = s.reg a := rfl

@[simp] theorem State.lostWrite_pipe (s : State) (b w : Nat) : (s.lostWrite b w).pipe = s.pipe := by
  unfold State.lostWrite
  dsimp only
  split <;> simp

/-! ### What every command of the window does (R310, R649) -/

section
variable {s : State} (hrelock : s.thermal.relock = false) (hup : s.up 3 = true)
include hrelock hup

theorem regionCmd_eq (lost : Bool) (t : State) : regionCmd lost s t = .next (
    if s.pipe.rgnBusy then s.wrote stAccessDenied
    else if lost then (s.lostWrite (s.useBank 0x06 (s.rgnSel / 16384)) (8 * (s.rgnSel % 16384))).rgnEnd stRetry
    else t) :=
  commanding_up (by decide) hup (State.coreStalled_of_locked hrelock 3) true _

theorem regionCmd_busy (hbusy : s.pipe.rgnBusy = true) (lost : Bool) (t : State) :
    regionCmd lost s t = .next (s.wrote stAccessDenied) := by
  rw [regionCmd_eq hrelock hup, if_pos hbusy]

section
variable (hidle : s.pipe.rgnBusy = false)
include hidle

theorem regionCmd_lost (t : State) : regionCmd true s t =
    .next ((s.lostWrite (s.useBank 0x06 (s.rgnSel / 16384)) (8 * (s.rgnSel % 16384))).rgnEnd stRetry) := by
  rw [regionCmd_eq hrelock hup, hidle]
  rfl

theorem regionCmd_idle (t : State) : regionCmd false s t = .next t := by
  rw [regionCmd_eq hrelock hup, hidle]
  rfl

/-! ### Read, Create and the clear of a new array (R311 to R313) -/

theorem exec_regionRead :
    exec .regionRead s = .next ((s.putWords (Reg.PIPE_RGN_DATA 0) (s.region s.rgnSel).words).rgnEnd stOK) :=
  regionCmd_idle hrelock hup hidle _

theorem exec_regionCreate_taken (hvalid : (s.region s.rgnSel).valid = true) :
    exec (.regionCreate false) s = .next (s.rgnEnd stAccessDenied) :=
  (regionCmd_idle hrelock hup hidle _).trans (congrArg _ (if_pos hvalid))

section
variable (hvalid : (s.region s.rgnSel).valid = false)
include hvalid

theorem exec_regionCreate_badCount (hcount : s.rgnData.pageCount = 0 ∨ 2 ^ 34 < s.rgnData.pageCount) :
    exec (.regionCreate false) s = .next (s.rgnEnd stOutOfRange) := by
  have hbad : (!decide (1 ≤ s.rgnData.pageCount ∧ s.rgnData.pageCount ≤ 2 ^ 34) || !s.rgnData.fieldsOk) = true := by
    rw [decide_eq_false (by omega)]
    rfl
  refine (regionCmd_idle hrelock hup hidle _).trans (congrArg _ ?_)
  rw [if_neg (by simp [hvalid]), if_pos hbad]

theorem exec_regionCreate_clears {p : Nat} (hlow : 1 ≤ s.rgnData.pageCount) (hhigh : s.rgnData.pageCount ≤ 2 ^ 34)
    (hfields : s.rgnData.fieldsOk = true) (hrun : s.arrayRun (descPlots s.rgnData.pageCount) = some p) :
    exec (.regionCreate false) s = .next (((s.takePlots p (descPlots s.rgnData.pageCount)).setRegion s.rgnSel
      { s.rgnData with valid := true, enable := true, state := 1, descBase := 256 * p }).rgnEnd stOK) := by
  have hgood : ¬ (!decide (1 ≤ s.rgnData.pageCount ∧ s.rgnData.pageCount ≤ 2 ^ 34) || !s.rgnData.fieldsOk) = true := by
    rw [decide_eq_true ⟨hlow, hhigh⟩, hfields]
    exact Bool.false_ne_true
  refine (regionCmd_idle hrelock hup hidle _).trans (congrArg _ ?_)
  rw [if_neg (by simp [hvalid]), if_neg hgood, hrun]

/-! ### Modify (R314) -/

theorem exec_regionModify_unmapped : exec (.regionModify false) s = .next (s.rgnEnd stUnmapped) :=
  (regionCmd_idle hrelock hup hidle _).trans (congrArg _ (if_pos (by simp [hvalid])))

end

section
variable (hvalid : (s.region s.rgnSel).valid = true)
include hvalid

/-- A disabled region that no client holds takes every field that Modify shares with Create. -/
theorem exec_regionModify_disabled (hdisabled : (s.region s.rgnSel).enable = false)
    (huncached : (s.region s.rgnSel).cachedPages = 0) (hfields : s.rgnData.fieldsOk = true) :
    exec (.regionModify false) s = .next ((s.setRegion s.rgnSel { s.region s.rgnSel with
      policy := s.rgnData.policy, dictClass := s.rgnData.dictClass, writeFormat := s.rgnData.writeFormat
      patternOk := s.rgnData.patternOk, pinned := s.rgnData.pinned, shareGroup := s.rgnData.shareGroup
      shareValid := s.rgnData.shareValid, coherent := s.rgnData.coherent
      homeAtomic := s.rgnData.homeAtomic }).rgnEnd stOK) := by
  refine (regionCmd_idle hrelock hup hidle _).trans (congrArg _ ?_)
  rw [if_neg (by simp [hvalid]),
    if_neg (by simp [hdisabled, huncached, hfields])]

/-! ### Disable and Enable (R311, R315) -/

theorem exec_regionDisable : exec (.regionDisable false) s = .next ({ s.setRegion s.rgnSel { s.region s.rgnSel with enable := false } with
      pipe := { (s.setRegion s.rgnSel { s.region s.rgnSel with enable := false }).pipe with
        rgnBusy := true, rgnCmd := 4, rgnSel := s.rgnSel, rgnHold := s.translated s.rgnSel } } : State).wrote :=
  (regionCmd_idle hrelock hup hidle _).trans (congrArg _ (if_neg (by simp [hvalid])))

theorem exec_regionEnable (hstate : (s.region s.rgnSel).state ≠ 2) : exec (.regionEnable false) s =
    .next (((s.setRegion s.rgnSel { s.region s.rgnSel with enable := true }).enabledUnder s.rgnSel).rgnEnd stOK) := by
  refine (regionCmd_idle hrelock hup hidle _).trans (congrArg _ ?_)
  rw [if_neg (by simp [hvalid]), if_neg hstate]

/-! ### Destroy (R316) -/

theorem exec_regionDestroy_enabled (henable : (s.region s.rgnSel).enable = true) :
    exec (.regionDestroy false) s = .next (s.rgnEnd stAccessDenied) := by
  refine (regionCmd_idle hrelock hup hidle _).trans (congrArg _ ?_)
  rw [if_neg (by simp [hvalid]), if_pos (by simp [henable])]

/-- The device while the selected region is being released: its grants are gone (R316). -/
def State.releasing (s : State) : State :=
  { s with pipe := { (s.setRegion s.rgnSel { s.region s.rgnSel with state := 2 }).pipe with
    grants := tabMap (fun _ => {}) (fun _ g => if g.valid && g.region == s.rgnSel then { g with valid := false } else g) s.pipe.grants
    rgnBusy := true, rgnCmd := 6, rgnSel := s.rgnSel } }

omit hrelock hup hidle hvalid in
theorem State.grantAt_releasing (i : Nat) : s.releasing.grantAt i =
    if (s.grantAt i).valid && (s.grantAt i).region == s.rgnSel then { s.grantAt i with valid := false } else s.grantAt i :=
  tabGet_tabMap rfl s.pipe.grants

omit hrelock hup hidle hvalid in
theorem State.releasing_noGrant {i : Nat} (hgrant : (s.releasing.grantAt i).valid = true) :
    (s.releasing.grantAt i).region ≠ s.rgnSel := by
  rw [State.grantAt_releasing] at hgrant ⊢
  split at hgrant
  · exact absurd hgrant Bool.false_ne_true
  · next hkept =>
    rw [if_neg hkept]
    exact fun hregion => hkept (by simp [hgrant, hregion])

theorem exec_regionDestroy_releases (hdisabled : (s.region s.rgnSel).enable = false)
    (huncached : (s.region s.rgnSel).cachedPages = 0) (hkey : s.keyHeld (.region s.rgnSel) = false) :
    exec (.regionDestroy false) s = .next s.releasing.wrote := by
  refine (regionCmd_idle hrelock hup hidle _).trans (congrArg _ ?_)
  rw [if_neg (by simp [hvalid]), if_neg (by simp [hdisabled, huncached, hkey])]
  rfl

end

end

/-! ### What ends later (R313, R315, R316) -/

theorem regionInitDone_answers {n : Nat} (hvalid : (s.region n).valid = true) (hstate : (s.region n).state = 1)
    (hbrace : s.boot.brace = false) (hready : s.boot.stage = .ready)
    (hopen : s.memoryOpen (slotStand (s.region n).descBase) = true) :
    ∃ t, exec (.regionInitDone n) s = .next t ∧ (t.region n).state = 0 ∧ (t.region n).initMark = (s.region n).pageCount
      ∧ t.evtSet 0x4001 0 = true := by
  have hok : ((s.region n).valid && (s.region n).state == 1 && !s.boot.brace && s.boot.stage == .ready
      && s.memoryOpen (slotStand (s.region n).descBase)) = true := by
    rw [hvalid, hstate, hbrace, hready, hopen]
    rfl
  refine ⟨_, (needing_of_up hrelock hup _ _).trans (guarded_of hok _ _), ?_, ?_, State.raise_evtSet ..⟩ <;>
    rw [State.region_congr (congrArg Pipe.regions (State.raise_pipe ..)), State.region_setRegion_same]

theorem exec_regionDisableDrained : exec .regionDisableDrained s = guarded (s.pipe.rgnBusy && s.pipe.rgnCmd == 4 &&
    (s.pipe.rgnHold.filter fun i => (s.translated s.pipe.rgnSel).contains i).isEmpty) s (s.rgnEnd stOK) :=
  needing_of_up hrelock hup _ _

theorem regionReleased_answers (hbusy : s.pipe.rgnBusy = true) (hcmd : s.pipe.rgnCmd = 6)
    (hopen : s.memoryOpen (slotStand (s.region s.pipe.rgnSel).descBase) = true) :
    ∃ t, exec .regionReleased s = .next t ∧ (t.region s.pipe.rgnSel).valid = false ∧ t.pipe.rgnBusy = false
      ∧ t.evtSet 0x4002 0 = true := by
  have hok : (s.pipe.rgnBusy && s.pipe.rgnCmd == 6 && s.memoryOpen (slotStand (s.region s.pipe.rgnSel).descBase)) = true := by
    rw [hbusy, hcmd, hopen]
    rfl
  refine ⟨_, (needing_of_up hrelock hup _ _).trans (guarded_of hok _ _), ?_, rfl, State.raise_evtSet ..⟩
  rw [State.region_rgnEnd, State.region_congr (congrArg Pipe.regions (State.raise_pipe ..))]
  exact congrArg Region.valid (State.region_setRegion_same ..)

end

/-! ### The obligation -/

/-- Settles O41, one command after another. -/
theorem regionWindowCommands : Obligations.RegionWindowCommands := by
  intro s hrelock hup
  refine ⟨fun l => ?busy, ?lost, fun hidle => ⟨_, exec_regionRead hrelock hup hidle, ?read, rfl, ?word⟩,
    fun hidle hvalid => ⟨_, exec_regionCreate_taken hrelock hup hidle hvalid, rfl, rfl⟩,
    fun hidle hvalid hcount => ⟨_, exec_regionCreate_badCount hrelock hup hidle hvalid hcount, rfl, rfl⟩,
    fun p hidle hvalid hlow hhigh hfields hrun =>
      ⟨_, exec_regionCreate_clears hrelock hup hidle hvalid hlow hhigh hfields hrun, rfl, ?created⟩,
    fun n hvalid hstate hbrace hready hopen => regionInitDone_answers hrelock hup hvalid hstate hbrace hready hopen,
    fun hidle hvalid => ⟨_, exec_regionModify_unmapped hrelock hup hidle hvalid, rfl, rfl⟩,
    fun hidle hvalid hdisabled huncached hfields =>
      ⟨_, exec_regionModify_disabled hrelock hup hidle hvalid hdisabled huncached hfields, rfl, ?modified⟩,
    fun hidle hvalid => ⟨_, exec_regionDisable hrelock hup hidle hvalid, rfl, ?disabled, rfl⟩,
    fun hbusy hcmd hhold => ?drained, fun i hbusy hcmd hi hleft => ?waits,
    fun hidle hvalid hstate => exec_regionEnable hrelock hup hidle hvalid hstate,
    fun hidle hvalid henable => ⟨_, exec_regionDestroy_enabled hrelock hup hidle hvalid henable, rfl, rfl⟩,
    fun hidle hvalid hdisabled huncached hkey =>
      ⟨_, exec_regionDestroy_releases hrelock hup hidle hvalid hdisabled huncached hkey, rfl, ?releasing,
        fun i => s.releasing_noGrant⟩,
    fun hbusy hcmd hopen => regionReleased_answers hrelock hup hbusy hcmd hopen⟩
  case busy =>
    have hrefused : ∀ c, (∃ lost t, exec c s = regionCmd lost s t) → s.pipe.rgnBusy = true →
        exec c s = .next (s.wrote stAccessDenied) := by
      rintro c ⟨lost, t, hc⟩ hbusy
      exact hc.trans (regionCmd_busy hrelock hup hbusy lost t)
    simp only [List.forall_mem_cons, List.not_mem_nil, false_implies, implies_true, and_true]
    exact ⟨hrefused _ ⟨_, _, rfl⟩, hrefused _ ⟨_, _, rfl⟩, hrefused _ ⟨_, _, rfl⟩, hrefused _ ⟨_, _, rfl⟩,
      hrefused _ ⟨_, _, rfl⟩, hrefused _ ⟨_, _, rfl⟩⟩
  case lost =>
    have hretry : ∀ c, (∃ t, exec c s = regionCmd true s t) → s.pipe.rgnBusy = false → ∃ t, exec c s = .next t
        ∧ t.pipe.rgnCode = stRetry ∧ t.pipe.rgnBusy = false ∧ t.pipe.regions = s.pipe.regions := by
      rintro c ⟨t, hc⟩ hidle
      exact ⟨_, hc.trans (regionCmd_lost hrelock hup hidle t), rfl, rfl, by simp⟩
    simp only [List.forall_mem_cons, List.not_mem_nil, false_implies, implies_true, and_true]
    exact ⟨hretry _ ⟨_, rfl⟩, hretry _ ⟨_, rfl⟩, hretry _ ⟨_, rfl⟩, hretry _ ⟨_, rfl⟩, hretry _ ⟨_, rfl⟩⟩
  case read => rw [State.rgnEnd_regions, State.putWords_pipe]
  case word =>
    rw [State.reg_rgnEnd]
    exact State.reg_putWords_first _ _ _ (by simp [Region.words])
  case created => rw [State.region_rgnEnd, State.region_setRegion_same]
  case modified =>
    rw [State.region_rgnEnd, State.region_setRegion_same]
    exact ⟨rfl, rfl, rfl, rfl⟩
  case disabled => exact congrArg Region.enable (State.region_setRegion_same ..)
  case drained =>
    rw [exec_regionDisableDrained hrelock hup]
    exact guarded_of (by rw [hbusy, hcmd, hhold]; rfl) _ _
  case waits =>
    have hmem : i ∈ s.pipe.rgnHold.filter fun i => (s.translated s.pipe.rgnSel).contains i :=
      List.mem_filter.mpr ⟨hi, List.contains_iff_mem.mpr hleft⟩
    rw [exec_regionDisableDrained hrelock hup, List.isEmpty_eq_false_iff_exists_mem.mpr ⟨i, hmem⟩, Bool.and_false]
    exact guarded_false _ _
  case releasing => exact congrArg Region.state (State.region_setRegion_same ..)

end Sys2Proof.Machine
end

section
/-! Proofs about the grant and descriptor windows and the flush (09; R318 to R321, R353, R355, R649): one lemma for each outcome of a
command. -/

namespace Sys2Proof.Machine

open Sys2Proof

/-! ### The grant table and the end of a grant command -/

@[simp] theorem State.grantAt_setGrantAt_same (s : State) (i : Nat) (g : Grant) : (s.setGrantAt i g).grantAt i = g :=
  tabGet_tabSet_same ..

theorem State.grantAt_setGrantAt_ne (s : State) {i j : Nat} (g : Grant) (hj : j ≠ i) :
    (s.setGrantAt i g).grantAt j = s.grantAt j :=
  tabGet_tabSet_ne _ _ _ hj

@[simp] theorem State.gntEnd_grants (s : State) (code : Nat) : (s.gntEnd code).pipe.grants = s.pipe.grants := rfl

@[simp] theorem State.gntUsed_grants (s : State) (i : Nat) : (s.gntUsed i).pipe.grants = s.pipe.grants := rfl

/-- The device when a grant command has written entry `i` and ends with it. -/
def State.grantWritten (s : State) (i : Nat) (g : Grant) : State := (s.setGrantAt i g).gntUsed i

theorem State.grantWritten_same (s : State) (i : Nat) (g : Grant) : (s.grantWritten i g).grantAt i = g :=
  s.grantAt_setGrantAt_same i g

theorem State.grantWritten_ne (s : State) (i : Nat) (g : Grant) (j : Nat) (hj : j ≠ i) :
    (s.grantWritten i g).grantAt j = s.grantAt j :=
  s.grantAt_setGrantAt_ne g hj

section
variable {s : State} (hrelock : s.thermal.relock = false) (hup : s.up 3 = true)
include hrelock hup

/-! ### Grants (R318 to R321, R649) -/

theorem grantCmd_eq (lost : Bool) (t : State) : grantCmd lost s t = .next (
    if lost then (s.lostWrite (s.useBank 0x08 (grantBucket s.gntKey.1 s.gntKey.2 / 32768))
      (4 * (grantBucket s.gntKey.1 s.gntKey.2 % 32768))).gntEnd stRetry
    else t) :=
  commanding_up (by decide) hup (State.coreStalled_of_locked hrelock 3) true _

theorem grantCmd_lost (t : State) : ∃ u, grantCmd true s t = .next u ∧ u.pipe.gntCode = stRetry ∧ u.pipe.grants = s.pipe.grants :=
  ⟨_, grantCmd_eq hrelock hup true t, rfl, by simp⟩

theorem exec_grantRead : exec .grantRead s = .next (match s.grantOf s.gntKey.1 s.gntKey.2 with
    | some (i, g) => (s.putWords (Reg.PIPE_GNT_DATA 0) g.words).gntUsed i
    | none => s.gntEnd stUnmapped) :=
  commanding_up (by decide) hup (State.coreStalled_of_locked hrelock 3) true _

/-! ### Adding a grant -/

section
variable {c r : Nat} (hkey : s.gntKey = (c, r))
include hkey

theorem exec_grantAdd_held (hheld : (s.grantOf c r).isSome = true) :
    exec (.grantAdd false) s = .next (s.gntEnd stAccessDenied) := by
  change execGrantAdd false s = _
  simp [execGrantAdd, hkey, grantCmd_eq hrelock hup, hheld]

section
variable (hnone : s.grantOf c r = none)
include hnone

theorem exec_grantAdd_unmapped (hregion : (s.region r).valid = false) :
    exec (.grantAdd false) s = .next (s.gntEnd stUnmapped) := by
  change execGrantAdd false s = _
  simp [execGrantAdd, hkey, grantCmd_eq hrelock hup, hnone, hregion]

/-- A new grant goes into the first entry of its chain that is not valid, whose place in the chain it keeps (R320). -/
theorem exec_grantAdd_new {g : Grant} {i : Nat} (hregion : (s.region r).valid = true)
    (hdata : s.gntData { valid := true, client := c, region := r } = g) (hrange : g.first ≤ g.last)
    (hfree : (s.grantChain 16 (grantBucket c r)).find? (fun i => !(s.grantAt i).valid) = some i) :
    exec (.grantAdd false) s =
      .next (s.grantWritten i { g with chained := (s.grantAt i).chained, next := (s.grantAt i).next }) := by
  change execGrantAdd false s = _
  simp [execGrantAdd, hkey, grantCmd_eq hrelock hup, hnone, hregion, hdata, Nat.not_lt.mpr hrange, hfree, State.grantWritten]

end

end

/-! ### Reading, changing and removing a grant -/

section
variable {i : Nat} {g : Grant} (hgrant : s.grantOf s.gntKey.1 s.gntKey.2 = some (i, g))
include hgrant

theorem exec_grantRead_held : exec .grantRead s = .next ((s.putWords (Reg.PIPE_GNT_DATA 0) g.words).gntUsed i) := by
  rw [exec_grantRead hrelock hup, hgrant]

theorem exec_grantModify_held : exec (.grantModify false) s = .next (s.grantWritten i (s.gntData g)) := by
  refine (grantCmd_eq hrelock hup false _).trans ?_
  rw [hgrant]
  rfl

theorem exec_grantRemove_held : exec (.grantRemove false) s = .next (s.grantWritten i { g with valid := false }) := by
  refine (grantCmd_eq hrelock hup false _).trans ?_
  rw [hgrant]
  rfl

end

section
variable (hnone : s.grantOf s.gntKey.1 s.gntKey.2 = none)
include hnone

theorem exec_grant_unmapped (hregion : (s.region s.gntKey.2).valid = false) :
    ∀ c ∈ ([.grantRead, .grantAdd false, .grantModify false, .grantRemove false] : List Instr),
      exec c s = .next (s.gntEnd stUnmapped) := by
  simp only [List.forall_mem_cons, List.not_mem_nil, false_implies, implies_true, and_true]
  refine ⟨?read, ?add, ?modify, ?remove⟩
  case read => rw [exec_grantRead hrelock hup, hnone]
  case add => exact exec_grantAdd_unmapped hrelock hup rfl hnone hregion
  case modify =>
    refine (grantCmd_eq hrelock hup false _).trans ?_
    rw [hnone]
    rfl
  case remove =>
    refine (grantCmd_eq hrelock hup false _).trans ?_
    rw [hnone]
    rfl

end

end

/-! ### A page whose descriptor is cached (R351, R352) -/

@[simp] theorem State.touch_dram (s : State) (region page : Nat) : (s.touch region page).dram = s.dram := by
  unfold State.touch
  split <;> rfl

theorem State.descOf?_cached {s : State} {region page : Nat} {x : DcEntry} (hentry : s.dcEntry region page = some x) (m : Nat)
    (e : ReadErrs) : s.descOf? region page m e =
      some ((s.touch region page).count64 Reg.PIPE_DC_HIT_LO 1, .ok x.desc) := by
  rw [State.descOf?, hentry]

@[simp] theorem State.reg_dscEnd (s : State) (code a : Nat) : (s.dscEnd code).reg a = s.reg a := rfl

@[simp] theorem State.dscEnd_dram (s : State) (code : Nat) : (s.dscEnd code).dram = s.dram := rfl

/-- A descriptor command holds BUSY while it works (R355). -/
def State.dscWorks (s : State) (cmd : Nat) : State :=
  ({ s with pipe := { s.pipe with dscBusy := true, dscCmd := cmd } } : State).wrote

/-- The device when a descriptor command has found its page in the cache. -/
def State.dscHit (s : State) (cmd region page : Nat) : State :=
  ((s.dscWorks cmd).touch region page).count64 Reg.PIPE_DC_HIT_LO 1

@[simp] theorem State.dscHit_dram (s : State) (cmd region page : Nat) : (s.dscHit cmd region page).dram = s.dram :=
  State.touch_dram ..

/-! ### Single descriptors (R355) -/

section
variable {s : State} (hrelock : s.thermal.relock = false) (hup : s.up 3 = true) {region page : Nat}
  (hregion : s.fld Reg.PIPE_DSC_REGION 15 0 = region)
  (hpage : (s.reg Reg.PIPE_DSC_PAGE_LO).toNat + 2 ^ 32 * s.fld Reg.PIPE_DSC_PAGE_HI 1 0 = page)
include hrelock hup hregion hpage

theorem descCmd_eq (cmd : Nat) (e : ReadErrs) (f : State → Desc → State) : descCmd cmd e f s = .next (
    if s.pipe.dscBusy && s.pipe.dscCmd != cmd then s.wrote stAccessDenied
    else if !(s.region region).valid || (s.region region).state == 2 then s.dscEnd stUnmapped
    else if (s.region region).pageCount ≤ page then s.dscEnd stOutOfRange
    else (s.dscWorks cmd).agent agentWindow region page 3 e (fun t d => (f t d).dscEnd stOK)
      (fun t _ => t.dscEnd stUncorrectable)) := by
  subst hregion hpage
  exact commanding_up (by decide) hup (State.coreStalled_of_locked hrelock 3) true _

section
variable (hidle : s.pipe.dscBusy = false)
include hidle

theorem descCmd_unmapped (hvalid : (s.region region).valid = false) (cmd : Nat) (e : ReadErrs) (f : State → Desc → State) :
    descCmd cmd e f s = .next (s.dscEnd stUnmapped) := by
  rw [descCmd_eq hrelock hup hregion hpage, if_neg (by simp [hidle]), if_pos (by simp [hvalid])]

section
variable (hvalid : (s.region region).valid = true) (hstate : (s.region region).state = 0)
include hvalid hstate

theorem descCmd_pastEnd (hend : (s.region region).pageCount ≤ page) (cmd : Nat) (e : ReadErrs) (f : State → Desc → State) :
    descCmd cmd e f s = .next (s.dscEnd stOutOfRange) := by
  rw [descCmd_eq hrelock hup hregion hpage, if_neg (by simp [hidle]), if_neg (by simp [hvalid, hstate]), if_pos hend]

theorem descCmd_cached {x : DcEntry} (hin : page < (s.region region).pageCount) (hpipe : s.up (pipeDom region page) = true)
    (hentry : s.dcEntry region page = some x) (hturn : s.lockWait agentWindow region page = false) (cmd : Nat) (e : ReadErrs)
    (f : State → Desc → State) : descCmd cmd e f s =
      .next (((f (s.dscHit cmd region page) x.desc).dscEnd stOK).leavePlace agentWindow region page) := by
  have hworks : (s.dscWorks cmd).dcEntry region page = some x := hentry
  rw [descCmd_eq hrelock hup hregion hpage, if_neg (by simp [hidle]), if_neg (by simp [hvalid, hstate]),
    if_neg (Nat.not_le.mpr hin), State.agent_cached (s := s.dscWorks cmd) _ _ hpipe hturn
      (Option.isSome_iff_exists.mpr ⟨x, hworks⟩) (State.descOf?_cached hworks 3 e)]
  rfl

end

end

end

/-! ### The flush (R353) -/

section
variable {s : State} (hrelock : s.thermal.relock = false) (hup : s.up 3 = true)
include hrelock hup

theorem exec_dcFlush : exec .dcFlush s = .next ({ s with pipe := { s.pipe with flushing := true } } : State).wrote :=
  commanding_up (by decide) hup (State.coreStalled_of_locked hrelock 3) true _

/-- A flush of an empty cache waits for no stand. -/
theorem exec_dcFlushDone_empty (hflush : s.pipe.flushing = true) (hcache : s.pipe.cache = []) :
    exec .dcFlushDone s = .next { s.flushCache with pipe := { s.flushCache.pipe with flushing := false } } := by
  refine (needing_of_up hrelock hup _ _).trans (guarded_of ?_ _ _)
  simp [hflush, hcache]

end

/-! ### The obligation -/

/-- Settles O42, one command after another. -/
theorem grantDescriptorAndFlushCommands : Obligations.GrantDescriptorAndFlushCommands := by
  intro s hrelock hup
  refine ⟨?lost, fun i g hgrant => ⟨⟨_, exec_grantRead_held hrelock hup hgrant, rfl, rfl, ?read⟩,
      ⟨_, exec_grantAdd_held hrelock hup rfl (Option.isSome_iff_exists.mpr ⟨_, hgrant⟩), rfl, rfl⟩,
      ⟨_, exec_grantModify_held hrelock hup hgrant, rfl, rfl, s.grantWritten_same i _, s.grantWritten_ne i _⟩,
      ⟨_, exec_grantRemove_held hrelock hup hgrant, rfl, s.grantWritten_same i _, s.grantWritten_ne i _⟩⟩,
    fun hnone hregion c hc => ⟨_, exec_grant_unmapped hrelock hup hnone hregion c hc, rfl, rfl⟩,
    fun g i hnone hregion hdata hrange hfree =>
      ⟨_, exec_grantAdd_new hrelock hup rfl hnone hregion hdata hrange hfree, rfl, rfl, s.grantWritten_same i _,
        s.grantWritten_ne i _⟩,
    fun e hidle hvalid => ?unmapped, fun e hidle hvalid hstate hend => ?pastEnd,
    fun e page x hpage hidle hvalid hstate hin hpipe hentry hturn => ?cached,
    ⟨_, exec_dcFlush hrelock hup, rfl, rfl⟩,
    fun hflush hcache => ⟨_, exec_dcFlushDone_empty hrelock hup hflush hcache, rfl⟩⟩
  case lost =>
    simp only [List.forall_mem_cons, List.not_mem_nil, false_implies, implies_true, and_true]
    exact ⟨grantCmd_lost hrelock hup _, grantCmd_lost hrelock hup _, grantCmd_lost hrelock hup _⟩
  case read => rw [State.gntUsed_grants, State.putWords_pipe]
  case unmapped =>
    simp only [List.forall_mem_cons, List.not_mem_nil, false_implies, implies_true, and_true]
    have hrefused := descCmd_unmapped hrelock hup rfl rfl hidle hvalid
    exact ⟨hrefused 1 e _, hrefused 2 e _, hrefused 3 e _⟩
  case pastEnd =>
    simp only [List.forall_mem_cons, List.not_mem_nil, false_implies, implies_true, and_true]
    have hrefused := descCmd_pastEnd hrelock hup rfl rfl hidle hvalid hstate hend
    exact ⟨hrefused 1 e _, hrefused 2 e _, hrefused 3 e _⟩
  case cached =>
    have hdone := descCmd_cached hrelock hup rfl hpage.symm hidle hvalid hstate hin hpipe hentry hturn
    refine ⟨⟨_, _, hdone 1 e _, rfl, rfl, rfl, ?_, ?_⟩, ⟨_, _, hdone 2 e _, State.dscHit_dram .., rfl⟩,
      ⟨_, _, hdone 3 e _, State.dscHit_dram .., rfl⟩⟩
    · rw [State.dscEnd_dram, State.putWords_dram, State.dscHit_dram]
    · rw [State.reg_dscEnd]
      exact State.reg_putWords_first _ _ _ (by simp [Desc.words])

end Sys2Proof.Machine
end

section
/-! Proofs about the tiering state (11; R350, R415, R424, R430, R432, R434, R437, R445, R446, R448, R452): one lemma for each outcome of a
command. -/

namespace Sys2Proof.Machine

open Sys2Proof

/-! ### What tiering operations leave -/

theorem tabGet_foldl_tabSet_range_mem {α : Type} [DecidableEq α] (d : Nat → α) (t : Tab α) (f : Nat → α) {n a : Nat} (ha : a < n) :
    tabGet d ((List.range n).foldl (fun u i => tabSet d u i (f i)) t) a = f a := by
  simpa [ha] using tabGet_foldl_tabSet_range d t 0 n f a

@[simp] theorem State.tierCount_stand (s : State) (k n j : Nat) : (s.tierCount k n).stand j = s.stand j := rfl

theorem State.stand_setStand_ne (s : State) {k j : Nat} (v : Stand) (hj : j ≠ k) : (s.setStand k v).stand j = s.stand j :=
  tabGet_tabSet_ne _ _ _ hj

/-- Where no request is at work none resumes. -/
theorem State.resumeStage_noFlights {s : State} (hnone : s.coh.flights = []) (st : Stage) (ok : Flight → Bool) :
    s.resumeStage st ok = s := by
  rw [State.resumeStage, hnone]
  rfl

/-! ### The policy table (R430) -/

section
variable (s : State)

/-- The staged thresholds of a class break their order (R430). -/
def State.policyBad (c : Nat) : Bool :=
  !(decide (s.fld (Reg.TIER_POL c 2) 15 0 ≤ s.fld (Reg.TIER_POL c 1) 15 0
    ∧ s.fld (Reg.TIER_POL c 1) 15 0 < s.fld (Reg.TIER_POL c 1) 31 16))

/-- The device when it has refused the staged table for class `c`. -/
def State.policyRefused (c : Nat) : State :=
  ((s.setReg Reg.TIER_POL_STATUS (BitVec.ofNat 32 (2 ^ 31 + c))).raise 0x6005).wrote

/-- The device when the staged table has taken effect. -/
def State.policyTaken : State :=
  (({ s with tier := { s.tier with policy := (List.range 64).foldl (fun t i =>
    tabSet (fun i => if i % 4 = 0 then 0x1000_0400 else if i % 4 = 1 then 0x2000_0100 else if i % 4 = 2 then 0x0258_0000 else 5)
      t i (s.reg (Reg.TIER_POL (i / 4) (i % 4)))) s.tier.policy } } : State).setReg Reg.TIER_POL_STATUS 0).wrote

theorem State.policyRefused_status (c : Nat) :
    (s.policyRefused c).reg Reg.TIER_POL_STATUS = BitVec.ofNat 32 (2 ^ 31 + c) := by
  rw [State.policyRefused, State.wrote_reg, State.raise_reg_body _ _ _ _ (by decide) (by decide), State.reg_setReg_same]

theorem State.policyTaken_status : s.policyTaken.reg Reg.TIER_POL_STATUS = 0 := by
  rw [State.policyTaken, State.wrote_reg, State.reg_setReg_same]

theorem State.policyTaken_word {c w : Nat} (hc : c < 16) (hw : w < 4) :
    s.policyTaken.policyWord c w = s.reg (Reg.TIER_POL c w) := by
  refine (tabGet_foldl_tabSet_range_mem _ _ _ (by omega)).trans ?_
  rw [show (4 * c + w) / 4 = c by omega, show (4 * c + w) % 4 = w by omega]

end

/-! ### The scan (R437) -/

section
variable (s : State) (r p : Nat) (e : ReadErrs)

/-- The device when the scan has read a descriptor and stands behind it. -/
def State.scanRead : State :=
  { (s.readDirect 4 (descLine (s.region r).descBase p).1 e).1 with
    tier := { (s.readDirect 4 (descLine (s.region r).descBase p).1 e).1.tier with scanRegion := r, scanPage := p + 1 } }

/-- The device when the scan has visited a descriptor: one that reads badly is passed over. -/
def State.scanVisited : State :=
  if (s.readDirect 4 (descLine (s.region r).descBase p).1 e).2.status.badness = 0 then
    (s.scanRead r p e).scanned r p (descOfBytes
      (((s.readDirect 4 (descLine (s.region r).descBase p).1 e).2.bytes.drop (descLine (s.region r).descBase p).2).take 32))
  else s.scanRead r p e

theorem State.scanVisited_cases : s.scanVisited r p e = s.scanRead r p e ∨
    ∃ d, s.scanVisited r p e = State.scanned (s.scanRead r p e) r p d := by
  unfold State.scanVisited
  split
  · exact .inr ⟨_, rfl⟩
  · exact .inl rfl

end

/-- The epochs that the scan's pass has taken (R437). -/
def State.passEpochs (s : State) : Nat := (s.tier.epoch + 65536 - s.tier.scanStart) % 65536

/-- The registers and events of a pass's end: one that took too long is an event of its own (R432). -/
def State.passCounted (s : State) : State :=
  let t := s.setReg Reg.TIER_SCAN_PASS
    (BitVec.ofNat 32 ((s.fld Reg.TIER_SCAN_PASS 31 16 + 1) % 65536 * 65536 + s.passEpochs))
  if 16384 < s.passEpochs then t.raise 0x6004 else t

/-- The scan starts again at the first region, in an epoch (R437). -/
def State.scanFrom (s : State) (epoch : Nat) : State :=
  { s with tier := { s.tier with scanRegion := 0, scanPage := 0, scanStart := epoch } }

theorem State.scanFrom_evtSet (s : State) (epoch c i : Nat) : (s.scanFrom epoch).evtSet c i = s.evtSet c i := rfl

theorem State.passCounted_evtSet {s : State} (hlate : 16384 < s.passEpochs) : s.passCounted.evtSet 0x6004 0 = true := by
  rw [State.passCounted, if_pos hlate]
  exact State.raise_evtSet ..

section
variable {s : State} (hrelock : s.thermal.relock = false) (hup : s.up 8 = true)
include hrelock hup

theorem commanding_tier (ok : Bool) (t : State) : commanding 8 ok s t = guarded ok s t :=
  commanding_up (by decide) hup (State.coreStalled_of_locked hrelock 8) ok t

omit hrelock in
theorem exec_epochAdvance :
    exec .epochAdvance s = .next { s with tier := { s.tier with epoch := (s.tier.epoch + 1) % 65536 } } :=
  guarded_of (State.live_of_up hup) _ _

/-! ### Policy (R430) -/

theorem exec_tierPolCommit : exec .tierPolCommit s = .next (match (List.range 16).find? s.policyBad with
    | some c => s.policyRefused c
    | none => s.policyTaken) :=
  commanding_tier hrelock hup true _

theorem exec_tierPolCommit_refused {c : Nat} (hbad : (List.range 16).find? s.policyBad = some c) :
    exec .tierPolCommit s = .next (s.policyRefused c) := by
  rw [exec_tierPolCommit hrelock hup, hbad]

theorem exec_tierPolCommit_takes (hgood : (List.range 16).find? s.policyBad = none) :
    exec .tierPolCommit s = .next s.policyTaken := by
  rw [exec_tierPolCommit hrelock hup, hgood]

/-! ### The scan (R432, R437) -/

theorem exec_scanVisit {e : ReadErrs} {r p : Nat} (hon : s.scanOn = true) (hpromo : s.promoFirst = false)
    (hbatch : s.batchFirst = false) (hnext : s.scanNext = some (r, p))
    (hread : s.canRead 4 [(descLine (s.region r).descBase p).1] = true) :
    exec (.scanVisit [e]) s = .next (s.scanVisited r p e) := by
  have hok : (s.scanOn && s.canRead 4 [(descLine (s.region r).descBase p).1] && !s.promoFirst && !s.batchFirst) = true := by
    rw [hon, hpromo, hbatch, hread]
    rfl
  change execScanVisit [e] s = _
  rw [execScanVisit, hnext]
  exact (needing_of_up hrelock hup _ _).trans (guarded_of hok _ _)

theorem exec_scanPassEnd (hon : s.scanOn = true) (hnext : s.scanNext = none) :
    exec .scanPassEnd s = .next (s.passCounted.scanFrom s.tier.epoch) :=
  (needing_of_up hrelock hup _ _).trans (guarded_of (by rw [hon, hnext]; rfl) _ _)

/-! ### Hints (R350) -/

section
variable {e : ReadErrs} {h : HintEntry} {rest : List HintEntry} (hhints : s.tier.hints = h :: rest)
include hhints

theorem exec_hintPage_invalid (hvalid : (s.region h.region).valid = false) : exec (.hintPage e) s = .next s.hintNext := by
  change execHintPage e s = _
  rw [execHintPage, hhints]
  refine (needing_of_up hrelock hup _ _).trans (congrArg _ (if_pos (by simp [hvalid])))

theorem exec_hintPage_works (hvalid : (s.region h.region).valid = true) (hstate : (s.region h.region).state = 0)
    (hin : h.page < (s.region h.region).pageCount) : exec (.hintPage e) s = .next (s.agent agentHint h.region h.page 3 e
      (fun t d => (t.hinted h d).hintNext) (fun t _ => t.hintNext)) := by
  change execHintPage e s = _
  rw [execHintPage, hhints]
  refine (needing_of_up hrelock hup _ _).trans (congrArg _ (if_neg (by simp [hvalid, hstate, hin])))

end

/-! ### The mover's stop and stands (R434, R445, R446, R448) -/

theorem exec_moverStop (hoff : s.flag Reg.TIER_CTRL 0 = false) (hmoves : s.tier.moves = []) : exec .moverStop s =
    .next { s with tier := { s.tier with batch0 := {}, batch1 := {}, picked := [], stopped := true } } := by
  refine (needing_of_up hrelock hup _ _).trans ?_
  rw [hmoves, State.live_of_up hup, hoff]
  exact congrArg (fun l : List Move => Host.Outcome.next
    { s with tier := { s.tier with batch0 := {}, batch1 := {}, picked := [], stopped := l.isEmpty } }) hmoves

theorem exec_promoHoldExpire {k : Nat} {p : Promo} (hon : s.moverOn = true) (hp : p ∈ s.tier.promos) (hhint : p.hint = true)
    (hstand : slotStand (s.descPeek p.region p.page).priSlot = k) (hdown : s.standServes k = false) :
    exec (.promoHoldExpire k) s = .next (s.useStand k) := by
  have hwaits : (s.tier.promos.any fun p => p.hint && slotStand (s.descPeek p.region p.page).priSlot == k) = true :=
    List.any_eq_true.mpr ⟨p, hp, by rw [hhint, hstand, beq_self_eq_true]; rfl⟩
  exact (needing_of_up hrelock hup _ _).trans (guarded_of (by rw [hon, hwaits, hdown]; rfl) _ _)

theorem exec_floorLingerExpire {k : Nat} (hvote : (s.stand k).tierVote = true) (hfree : s.standInUse k = false) :
    exec (.floorLingerExpire k) s = .next (s.setStand k { s.stand k with tierVote := false }) :=
  (needing_of_up hrelock hup _ _).trans (guarded_of (by rw [hvote, hfree]; rfl) _ _)

omit hrelock in
theorem standWakeDone_answers {k : Nat} (hexit : (s.stand k).exiting = true) (hnone : s.coh.flights = []) :
    ∃ t, exec (.standWakeDone k) s = .next t ∧ (t.stand k).power = 0 ∧ (t.stand k).exiting = false := by
  have hok : (s.live && (s.stand k).exiting) = true := by
    rw [State.live_of_up hup, hexit]
    rfl
  refine ⟨_, guarded_of hok _ _, ?_⟩
  by_cases hrole : s.role k = 2
  · rw [if_pos hrole, State.resumeStage_noFlights (by exact hnone), State.tierCount_stand, State.stand_setStand_same]
    exact ⟨rfl, rfl⟩
  · rw [if_neg hrole, State.resumeStage_noFlights (by exact hnone), State.stand_setStand_same]
    exact ⟨rfl, rfl⟩

/-! ### The summary (R415) -/

theorem summaryReloadDone_answers (l : List Nat) (hreload : s.tier.reloading = true) :
    ∃ t u, exec (.summaryReloadDone l) s = .next t ∧ t = State.resumeAllocations u ∧ u.tier.reloading = false
      ∧ ∀ x ∈ l, x ∈ u.tier.rebuild :=
  ⟨_, _, (needing_of_up hrelock hup _ _).trans (guarded_of hreload _ _), rfl, rfl,
    fun _ hx => List.mem_dedup.mpr (List.mem_append_right _ hx)⟩

theorem stretchRebuildDone_answers {x : Nat} (hx : x ∈ s.tier.rebuild) :
    ∃ t, exec (.stretchRebuildDone x) s = .next t ∧ x ∉ t.tier.rebuild :=
  ⟨_, (needing_of_up hrelock hup _ _).trans (guarded_of (List.contains_iff_mem.mpr hx) _ _), by simp⟩

/-! ### Roles of stands (R452) -/

section
variable {k : Nat} {v : Word} (hk : k < 8)
include hk

theorem exec_tierStandCfgWrite : exec (.tierStandCfgWrite k v) s = .next (
    if bits v.toNat 1 0 = 3 then s.wrote stOutOfRange
    else if bits v.toNat 1 0 = s.role k then
      (if s.keyHeld (.stand k) then s else s.setStand k { s.stand k with draining := false }).wrote
    else if (!(s.stand k).present && s.tier.channels != 0) || (s.stand k).used != s.standRetired k || s.keyHeld (.stand k) then
      s.wrote stAccessDenied
    else (((s.setStand k { s.stand k with draining := false }).setReg (Reg.TIER_STAND_CFG k)
      (BitVec.ofNat 32 (bits v.toNat 1 0))).judgePressure).wrote) :=
  (commanding_tier hrelock hup _ _).trans (guarded_of (decide_eq_true hk) _ _)

theorem exec_tierStandCfgWrite_reserved (hrole : bits v.toNat 1 0 = 3) :
    exec (.tierStandCfgWrite k v) s = .next (s.wrote stOutOfRange) := by
  rw [exec_tierStandCfgWrite hrelock hup hk, if_pos hrole]

section
variable (hrole : bits v.toNat 1 0 ≠ 3) (hnew : bits v.toNat 1 0 ≠ s.role k)
include hrole hnew

theorem exec_tierStandCfgWrite_held (hheld : s.keyHeld (.stand k) = true) :
    exec (.tierStandCfgWrite k v) s = .next (s.wrote stAccessDenied) := by
  rw [exec_tierStandCfgWrite hrelock hup hk, if_neg hrole, if_neg hnew, if_pos (by simp [hheld])]

theorem exec_tierStandCfgWrite_takes (hfree : s.keyHeld (.stand k) = false) (hpresent : (s.stand k).present = true)
    (hused : (s.stand k).used = s.standRetired k) : exec (.tierStandCfgWrite k v) s =
      .next (((s.setStand k { s.stand k with draining := false }).setReg (Reg.TIER_STAND_CFG k)
        (BitVec.ofNat 32 (bits v.toNat 1 0))).judgePressure).wrote := by
  rw [exec_tierStandCfgWrite hrelock hup hk, if_neg hrole, if_neg hnew, if_neg (by simp [hfree, hpresent, hused])]

end

end

end

/-! ### The obligation -/

/-- Settles O44, one command after another. -/
theorem tieringStateCommands : Obligations.TieringStateCommands := by
  intro s hrelock hup
  refine ⟨exec_epochAdvance hup,
    fun c hbad => ⟨_, exec_tierPolCommit_refused hrelock hup hbad, ?refused, State.raise_evtSet .., s.policyRefused_status c⟩,
    fun hgood => ⟨_, exec_tierPolCommit_takes hrelock hup ?good, s.policyTaken_status, fun c w => s.policyTaken_word⟩,
    fun e r p hon hpromo hbatch hnext hread => ⟨_, s.scanRead r p e, exec_scanVisit hrelock hup hon hpromo hbatch hnext hread,
      rfl, rfl, s.scanVisited_cases r p e⟩,
    fun hon hnext => ⟨_, exec_scanPassEnd hrelock hup hon hnext, rfl, rfl, rfl,
      fun hlate => (State.scanFrom_evtSet ..).trans (State.passCounted_evtSet hlate)⟩,
    fun e h r hhints => exec_hintPage_invalid hrelock hup hhints, fun e h r hhints => exec_hintPage_works hrelock hup hhints,
    exec_moverStop hrelock hup, fun k p => exec_promoHoldExpire hrelock hup,
    fun k hvote hfree => ⟨_, exec_floorLingerExpire hrelock hup hvote hfree, ?withdrawn, fun j => s.stand_setStand_ne _⟩,
    fun k => standWakeDone_answers hup, summaryReloadDone_answers hrelock hup,
    fun x => stretchRebuildDone_answers hrelock hup, fun k v hk => exec_tierStandCfgWrite_reserved hrelock hup hk,
    fun k v hk => exec_tierStandCfgWrite_held hrelock hup hk,
    fun k v hk hrole hnew hfree hpresent hused =>
      ⟨_, exec_tierStandCfgWrite_takes hrelock hup hk hrole hnew hfree hpresent hused, rfl⟩⟩
  case refused => rw [State.policyRefused, State.wrote_tier, State.raise_tier, State.setReg_tier]
  case good =>
    refine List.find?_eq_none.mpr fun c hc => ?_
    rw [State.policyBad, decide_eq_true (hgood c (List.mem_range.mp hc))]
    exact Bool.false_ne_true
  case withdrawn => rw [State.stand_setStand_same]

end Sys2Proof.Machine
end

section
/-! Proofs about the mover (11; R336, R433, R436, R438, R440 to R442, R444, R471): one lemma for each outcome of a command. -/

namespace Sys2Proof.Machine

open Sys2Proof

/-! ### Batches and lanes -/

@[simp] theorem State.batch_setBatch_same (s : State) (i : Nat) (b : Batch) : (s.setBatch i b).batch i = b := by
  by_cases hi : i = 0 <;> simp [State.setBatch, State.batch, hi]

@[simp] theorem State.setBatch_noFloor (s : State) (i : Nat) (b : Batch) : (s.setBatch i b).tier.noFloor = s.tier.noFloor := by
  by_cases hi : i = 0 <;> simp [State.setBatch, hi]

theorem State.batch_congr {s t : State} (h : t.tier = s.tier) (i : Nat) : t.batch i = s.batch i := by
  rw [State.batch, h, State.batch]

@[simp] theorem State.useStand_batch (s : State) (k i : Nat) : (s.useStand k).batch i = s.batch i := rfl

@[simp] theorem State.useStand_noFloor (s : State) (k : Nat) : (s.useStand k).tier.noFloor = s.tier.noFloor := rfl

/-- The device when batch `i` is written whole to stand `k`, in `n` slots (R441). -/
def State.batchDone (s : State) (i k n : Nat) : State :=
  ((((({ s with tier := { s.tier with noFloor := false } } : State).setBatch i {}).useStand k).tierCount 5 1).tierCount 6 n).raise
    0x6003 k n

theorem State.batchDone_tier (s : State) (i k n : Nat) : (s.batchDone i k n).tier =
    ((({ s with tier := { s.tier with noFloor := false } } : State).setBatch i {}).useStand k).tier :=
  State.raise_tier ..

theorem State.batchDone_batch (s : State) (i k n : Nat) : (s.batchDone i k n).batch i = {} := by
  rw [State.batch_congr (s.batchDone_tier i k n), State.useStand_batch, State.batch_setBatch_same]

theorem State.batchDone_noFloor (s : State) (i k n : Nat) : (s.batchDone i k n).tier.noFloor = false := by
  rw [State.batchDone_tier, State.useStand_noFloor, State.setBatch_noFloor]

/-- Where no request is at work no page of the write path waits for a lane. -/
theorem State.pageWaits_noFlights {s : State} (hnone : s.coh.flights = []) : s.pageWaits = false := by
  rw [State.pageWaits, hnone]
  rfl

/-- Where no request is at work the demand lanes hold no page, so one in service is free. -/
theorem State.decoding_noFlights {s : State} {k : Nat} (hnone : s.coh.flights = []) (hlane : s.dLanes.contains k = true) :
    decide (s.decoding false < s.dLanes.length) = true := by
  have hidle : s.decoding false = 0 := by
    rw [State.decoding, hnone]
    rfl
  rw [hidle]
  exact decide_eq_true (List.length_pos_of_mem (List.contains_iff_mem.mp hlane))

section
variable {s : State} (hrelock : s.thermal.relock = false) (hup : s.up 8 = true)
include hrelock hup

/-! ### Starting and committing moves (R336, R433) -/

theorem exec_moveStart {r p : Nat} {e : ReadErrs} (hon : s.moverOn = true) (hpicked : (r, p) ∈ s.tier.picked)
    (hfree : s.dcPinned r p = false) (hnone : s.moveOf r p = none) (hpromo : s.promoFirst = false) :
    exec (.moveStart r p [e]) s = .next (s.agent agentMover r p 3 e (fun t d => t.beginMove r p d [])
      (fun t _ => t.dropWork r p)) := by
  refine (needing_of_up hrelock hup _ _).trans (guarded_of ?_ _ _)
  simp [hon, hpicked, hfree, hnone, hpromo]

theorem exec_moveCommit {r p : Nat} {e : ReadErrs} {m : Move} {u : State} (hpipe : s.up (pipeDom r p) = true)
    (hmove : s.moveOf r p = some m) (hdesc : m.newDesc.isSome = true) (hkind : m.kind ≠ .batch)
    (hcommit : s.commitMove m e = some u) : exec (.moveCommit r p e) s = .next u := by
  change execMoveCommit r p e s = _
  simp only [execMoveCommit, hmove, hpipe, if_true, hcommit, needing_of_up hrelock hup]
  exact guarded_of (by rw [hdesc, bne_iff_ne.mpr hkind]; rfl) _ _

/-! ### Demotion to Understory (R438, R471) -/

section
variable (hon : s.moverOn = true)
include hon

section
variable {r p k engine : Nat} {st : List Byte} {fault : Bool} {m : Move} (hup11 : s.up 11 = true) (hlane : s.up (laneDom k) = true)
  (hk : k < 16) (hmove : s.moveOf r p = some m) (hdesc : m.newDesc = none) (hend : m.ending = none)
  (hflights : s.coh.flights = []) (hengine : s.engineFree engine = true) (hread : s.canRead 4 (s.pageLines m.src) = true)
include hon hup11 hlane hk hmove hdesc hend hflights hengine hread

section
variable (hkind : m.kind = .demoteU) (hnext : s.nextLane = some k)
include hkind hnext

/-- A page whose region has no key is left where it is (R438). -/
theorem exec_demoteUnderstory_noKey (hkeys : s.pageKeys r p = none)
    (hwrites : s.laneWrites (s.writeClass r).2.1 (s.writeClass r).2.2 [] st fault = true) :
    exec (.demoteUnderstory r p k st fault engine true false []) s = .next (((s.emptySlot r).undoMove m false).tierCount 9 1) := by
  change execDemoteUnderstory r p k st fault engine true false [] s = _
  simp only [execDemoteUnderstory, hmove, hkeys, hup, hup11, Bool.and_self, if_true, needing_of_up hrelock hlane]
  refine guarded_of ?_ _ _
  simp [hkind, hdesc, hend, hon, State.pageWaits_noFlights hflights, hnext, hwrites, hengine, hread, hk]

theorem exec_demoteUnderstory_reads {k1 k2 : BitVec 256} {u v : State} {copy : List (List Byte × Byte)} {page : List Byte}
    (hkeys : s.pageKeys r p = some (k1, k2))
    (hwrites : s.laneWrites (s.writeClass r).2.1 (s.writeClass r).2.2
      ((groupPlain k1 k2 r p (s.copyLines (s.slotsOf m.src))).getD []) st fault = true)
    (hlines : s.readLines 4 (s.pageLines m.src) [] = (u, copy, 0))
    (hgroup : u.groupRead 4 k1 k2 r p (s.pageLines m.src) copy [] 0 = (v, some page)) :
    exec (.demoteUnderstory r p k st fault engine true false []) s
      = .next ((v.cryCount 1 64).demoted s m k1 k2 k page st fault engine true false) := by
  change execDemoteUnderstory r p k st fault engine true false [] s = _
  simp only [execDemoteUnderstory, hmove, hkeys, hlines, hgroup, hup, hup11, Bool.and_self, if_true,
    needing_of_up hrelock hlane]
  refine guarded_of ?_ _ _
  simp [hkind, hdesc, hend, hon, State.pageWaits_noFlights hflights, hnext, hwrites, hengine, hread, hk]

end

/-! ### Promotion to Canopy (R444) -/

section
variable (hkind : m.kind = .promoteC) (hserves : s.dLanes.contains k = true)
include hkind hserves

/-- A page whose region has no key is left where it is (R444). -/
theorem exec_promoteCanopy_noKey (hkeys : s.pageKeys r p = none) :
    exec (.promoteCanopy r p k false false engine true false []) s
      = .next (((s.emptySlot r).undoMove m false).tierCount 9 1) := by
  change execPromoteCanopy r p k false false engine true false [] s = _
  simp only [execPromoteCanopy, hmove, hkeys, hup, hup11, Bool.and_self, if_true, needing_of_up hrelock hlane]
  refine guarded_of ?_ _ _
  rw [State.decoding_noFlights hflights hserves]
  simp only [hkind, hdesc, hend, hon, hserves, hengine, hread, hk, decide_true, Bool.or_true]
  rfl

theorem exec_promoteCanopy_reads {k1 k2 : BitVec 256} {u : State} {copy : List (List Byte × Byte)}
    (hkeys : s.pageKeys r p = some (k1, k2)) (hchain : s.chainWhole m.src = true)
    (hlines : s.readLines 4 (s.pageLines m.src) [] = (u, copy, 0)) :
    exec (.promoteCanopy r p k false false engine true false []) s
      = .next (u.promoted s m k1 k2 k false false engine true false copy) := by
  change execPromoteCanopy r p k false false engine true false [] s = _
  simp only [execPromoteCanopy, hmove, hkeys, hchain, hlines, hup, hup11, Bool.and_self, if_true, needing_of_up hrelock hlane]
  refine guarded_of ?_ _ _
  rw [State.decoding_noFlights hflights hserves]
  simp only [hkind, hdesc, hend, hon, hserves, hengine, hread, hk, decide_true, Bool.or_true]
  rfl

end

end

/-! ### Batches (R440 to R442) -/

theorem exec_batchClose {i : Nat} (hopen : s.openBatch = some i) (hmoves : (s.batch i).moves ≠ []) :
    exec .batchClose s = .next (s.setBatch i { s.batch i with closed := true }) := by
  change execBatchClose s = _
  simp only [execBatchClose, hopen, needing_of_up hrelock hup]
  exact guarded_of (by simp [hon, hmoves]) _ _

section
variable {i : Nat} (hclosed : [0, 1].find? (fun i => (s.batch i).closed) = some i)
include hclosed

theorem exec_batchWrite_noRoom (htarget : s.batchTarget (s.batch i) = none) :
    exec .batchWrite s = .next (s.batchNoRoom i) := by
  change execBatchWrite s = _
  simp only [execBatchWrite, hclosed, htarget, needing_of_up hrelock hup]
  exact guarded_of hon _ _

theorem exec_batchWrite_whole {k n : Nat} {u : State} (htarget : s.batchTarget (s.batch i) = some k)
    (hserves : s.standServes k = true)
    (hwritten : (((s.useStand k).batchPlotIn k).setBatch i { s.batch i with stand := k, writing := true }).writeBatch k
      (s.batch i).moves (s.batch i).written = (u, [], n, false)) : exec .batchWrite s = .next (u.batchDone i k n) := by
  change execBatchWrite s = _
  simp only [execBatchWrite, hclosed, htarget, hserves, hwritten, needing_of_up hrelock hup]
  exact guarded_of hon _ _

end

end

end

/-! ### The obligation -/

/-- Settles O45, one command after another. -/
theorem moverCommands : Obligations.MoverCommands := by
  intro s hrelock hup hon
  exact ⟨fun r p e hpicked hfree hnone hpromo => exec_moveStart hrelock hup hon hpicked hfree hnone hpromo,
    fun r p e m u hpipe hmove hdesc hkind hcommit => exec_moveCommit hrelock hup hpipe hmove hdesc hkind hcommit,
    fun r p k st fault e m hup11 hlane hk hmove hkind hdesc hend hflights hnext hengine hread => ⟨fun hkeys hwrites =>
        exec_demoteUnderstory_noKey hrelock hup hon hup11 hlane hk hmove hdesc hend hflights hengine hread hkind hnext hkeys hwrites,
      fun k1 k2 u copy v page hkeys hwrites hlines hgroup =>
        exec_demoteUnderstory_reads hrelock hup hon hup11 hlane hk hmove hdesc hend hflights hengine hread hkind hnext hkeys
          hwrites hlines hgroup⟩,
    fun i hopen hmoves => exec_batchClose hrelock hup hon hopen hmoves,
    fun i hclosed htarget => exec_batchWrite_noRoom hrelock hup hon hclosed htarget,
    fun i k u n hclosed htarget hserves hwritten =>
      ⟨_, exec_batchWrite_whole hrelock hup hon hclosed htarget hserves hwritten, u.batchDone_batch i k n,
        u.batchDone_noFloor i k n, State.raise_evtSet ..⟩,
    fun r p k e m hup11 hlane hk hmove hkind hdesc hend hflights hserves hengine hread hkeys =>
      exec_promoteCanopy_noKey hrelock hup hon hup11 hlane hk hmove hdesc hend hflights hengine hread hkind hserves hkeys,
    fun r p k e m k1 k2 u copy hup11 hlane hk hmove hkind hdesc hend hflights hserves hengine hread hkeys hchain hlines =>
      exec_promoteCanopy_reads hrelock hup hon hup11 hlane hk hmove hdesc hend hflights hengine hread hkind hserves hkeys hchain
        hlines⟩

end Sys2Proof.Machine
end

section
/-! Proofs about share groups and holder sweeps (10; R375, R397, R398): one lemma for each outcome of a command. -/

namespace Sys2Proof.Machine

open Sys2Proof

/-! ### A list kept in rising order -/

theorem mem_insertBy_self {α : Type} (key : α → Nat) (x : α) (l : List α) : x ∈ insertBy key x l := by
  induction l with
  | nil => exact List.mem_singleton_self x
  | cons y r ih =>
    rw [insertBy]
    split
    · exact List.mem_cons_self
    · exact List.mem_cons_of_mem y ih

/-! ### The selected group and the end of a command (R375) -/

/-- The members of the group that COH_SG_SEL names. -/
def State.sgMembers (s : State) : List Nat := s.members (s.fld Reg.COH_SG_SEL 9 0)

/-- The client that COH_SG_CLIENT names. -/
def State.sgClient (s : State) : Nat := s.fld Reg.COH_SG_CLIENT 11 0

section
variable (s : State) (l : List Nat) (code : Nat)

@[simp] theorem State.sgEnd_sgMember : (s.sgEnd code).coh.sgMember = s.sgMembers.contains s.sgClient := rfl

@[simp] theorem State.setGroup_sgMembers : (s.setGroup l).sgMembers = l := tabGet_tabSet_same ..

@[simp] theorem State.setGroup_sgClient : (s.setGroup l).sgClient = s.sgClient := rfl

end

/-! ### Share group commands (R375) -/

section
variable {s : State} (hrelock : s.thermal.relock = false) (hup : s.up 7 = true)
include hrelock hup

theorem commanding_coherence (t : State) : commanding 7 true s t = .next t :=
  commanding_up (by decide) hup (State.coreStalled_of_locked hrelock 7) true t

theorem exec_sgRead : exec .sgRead s = .next (s.sgEnd stOK) := commanding_coherence hrelock hup _

theorem exec_sgAdd_full (hfull : 512 ≤ s.sgMembers.length) : exec .sgAdd s = .next (s.sgEnd stNoSpace) :=
  (commanding_coherence hrelock hup _).trans (congrArg _ (if_pos hfull))

section
variable (hroom : s.sgMembers.length < 512)
include hroom

theorem exec_sgAdd_member (hmember : s.sgMembers.contains s.sgClient = true) : exec .sgAdd s = .next (s.sgEnd stOK) :=
  (commanding_coherence hrelock hup _).trans (congrArg _ ((if_neg (Nat.not_le.mpr hroom)).trans (if_pos hmember)))

theorem exec_sgAdd_joins (hother : ¬ s.sgMembers.contains s.sgClient = true) :
    exec .sgAdd s = .next ((s.setGroup (insertBy id s.sgClient s.sgMembers)).sgEnd stOK) :=
  (commanding_coherence hrelock hup _).trans (congrArg _ ((if_neg (Nat.not_le.mpr hroom)).trans (if_neg hother)))

/-- With room in the group the client is a member afterwards, whether or not it was one. -/
theorem sgAdd_answers : ∃ t, exec .sgAdd s = .next t ∧ t.coh.sgCode = 0 ∧ t.coh.sgMember = true ∧ t.dram = s.dram := by
  by_cases hmember : s.sgMembers.contains s.sgClient = true
  · exact ⟨_, exec_sgAdd_member hrelock hup hroom hmember, rfl, hmember, rfl⟩
  · refine ⟨_, exec_sgAdd_joins hrelock hup hroom hmember, rfl, ?_, rfl⟩
    rw [State.sgEnd_sgMember, State.setGroup_sgMembers, State.setGroup_sgClient]
    exact List.contains_iff_mem.mpr (mem_insertBy_self id s.sgClient s.sgMembers)

end

theorem exec_sgRemove_live (hlive : (s.sess s.sgClient).live = true) : exec .sgRemove s = .next (s.sgEnd stAccessDenied) :=
  (commanding_coherence hrelock hup _).trans (congrArg _ (if_pos (Bool.or_eq_true_iff.mpr (.inl hlive))))

theorem exec_sgRemove_leaves (hdead : (s.sess s.sgClient).live = false) (hsweep : s.coh.sweep = none) :
    exec .sgRemove s = .next ((s.setGroup (s.sgMembers.filter (· != s.sgClient))).sgEnd stOK) := by
  change execSgRemove s = _
  rw [State.sgClient] at hdead
  simp only [execSgRemove, hdead, hsweep, Bool.or_self, Bool.false_eq_true, if_false]
  exact commanding_coherence hrelock hup _

theorem exec_sgClear_empties (hdead : s.sgMembers.any (fun c => (s.sess c).live) = false) :
    exec .sgClear s = .next ((s.setGroup []).sgEnd stOK) :=
  (commanding_coherence hrelock hup _).trans (congrArg _ (if_neg (ne_true_of_eq_false hdead)))

/-! ### Holder sweeps (R397, R398) -/

omit hrelock hup in
@[simp] theorem State.ctx_setSweep (x : Option Sweep) (c : Nat) : (s.setSweep x).ctx c = s.ctx c := rfl

omit hrelock hup in
@[simp] theorem State.ctx_raise (code d1 d2 c : Nat) : (s.raise code d1 d2).ctx c = s.ctx c := by
  rw [State.ctx, State.raise_kct, State.ctx]

theorem exec_holderSweepStart {c : Nat} {rest : List Nat} (hqueue : s.kct.sweepQ = c :: rest) (hidle : s.coh.sweep = none) :
    exec .holderSweepStart s = .next (({ s with kct := { s.kct with sweepQ := rest } } : State).setSweep
      (some { client := c, epoch := (s.sess c).epoch })) := by
  change execHolderSweepStart s = _
  simp only [execHolderSweepStart, hqueue, hidle, needing_of_up hrelock hup]
  exact guarded_of rfl _ _

section
variable {x : Sweep} (hsweep : s.coh.sweep = some x)
include hsweep

section
variable (e : ReadErrs) (hgoing : x.ended = false) (hheld : (s.ctx x.client).held ≠ 0)
include hgoing hheld

theorem exec_holderSweepPage_ends (hnext : s.sweepNext x = none) :
    exec (.holderSweepPage e) s = .next (s.setSweep (some { x with wide := true, ended := true })) := by
  change execHolderSweepPage e s = _
  simp only [execHolderSweepPage, hsweep, hnext, needing_of_up hrelock hup]
  exact guarded_of (by simp [hgoing, hheld]) _ _

theorem exec_holderSweepPage_visits {y : Sweep} {r p : Nat} (hnext : s.sweepNext x = some (y, r, p)) :
    exec (.holderSweepPage e) s = .next (s.agent agentSweep r p 11 e
      (fun t _ => (t.deadHolder r p x.client).1.setSweep (some { y with stale := y.stale + (t.deadHolder r p x.client).2 }))
      (fun t _ => t.setSweep (some { y with passed := y.passed + 1 }))) := by
  change execHolderSweepPage e s = _
  simp only [execHolderSweepPage, hsweep, hnext, needing_of_up hrelock hup]
  exact guarded_of (by simp [hgoing, hheld]) _ _

end

theorem exec_holderSweepEnd (hheld : (s.ctx x.client).held = 0) :
    exec .holderSweepEnd s = .next (((s.setCtx x.client { s.ctx x.client with held := 0, owned := 0, sweeping := false }).setSweep
      none).raise 0x5002 x.stale x.passed) := by
  change execHolderSweepEnd s = _
  simp only [execHolderSweepEnd, hsweep, needing_of_up hrelock hup]
  exact guarded_of (by simp [hheld]) _ _

theorem holderSweepEnd_answers (hheld : (s.ctx x.client).held = 0) : ∃ t, exec .holderSweepEnd s = .next t ∧ t.coh.sweep = none
    ∧ t.evtSet 0x5002 0 = true ∧ (t.ctx x.client).held = 0 ∧ (t.ctx x.client).sweeping = false := by
  refine ⟨_, exec_holderSweepEnd hrelock hup hsweep hheld, congrArg Coh.sweep (State.raise_coh ..), State.raise_evtSet .., ?_⟩
  rw [State.ctx_raise, State.ctx_setSweep, State.ctx_setCtx_same]
  exact ⟨rfl, rfl⟩

end

end

/-! ### The obligation -/

/-- Settles O40, one command after another. -/
theorem shareGroupAndSweepCommands : Obligations.ShareGroupAndSweepCommands := by
  intro s hrelock hup
  refine ⟨⟨_, exec_sgRead hrelock hup, rfl, rfl, rfl⟩,
    fun hroom => sgAdd_answers hrelock hup hroom,
    fun hfull => ⟨_, exec_sgAdd_full hrelock hup hfull, rfl, rfl⟩,
    fun hdead hsweep => ⟨_, exec_sgRemove_leaves hrelock hup hdead hsweep, rfl, ?removed⟩,
    fun hlive => ⟨_, exec_sgRemove_live hrelock hup hlive, rfl, rfl⟩,
    fun hdead => ⟨_, exec_sgClear_empties hrelock hup hdead, rfl, s.setGroup_sgMembers []⟩,
    fun c rest hqueue hidle => ⟨_, exec_holderSweepStart hrelock hup hqueue hidle, rfl, rfl⟩,
    fun e x hsweep hgoing hheld hnext => exec_holderSweepPage_ends hrelock hup hsweep e hgoing hheld hnext,
    fun e x y r p hsweep hgoing hheld hnext => exec_holderSweepPage_visits hrelock hup hsweep e hgoing hheld hnext,
    fun x hsweep hheld => holderSweepEnd_answers hrelock hup hsweep hheld⟩
  case removed =>
    rw [State.sgEnd_sgMember, State.setGroup_sgMembers, State.setGroup_sgClient]
    simp

end Sys2Proof.Machine
end

section
/-! Proofs about the word code (16; R596 to R599). The syndrome is linear, an encoded word has syndrome 0, and the syndrome of an
inverted bit is its column of the parity-check matrix; so a decoder sees the columns of the inverted bits and nothing of the word. The
columns are powers of α: two of them, a and b, are told from their sum and the sum of their cubes as the roots of x² + (a + b)x + ab. -/

namespace Sys2Proof.Machine

open Sys2Proof

/-! ### GF(2^7): powers of α (R597) -/

/-- α^k. -/
def gfPow (k : Nat) : Nat := gfTwice^[k] 1

theorem gfTwice_gfPow (k : Nat) : gfTwice (gfPow k) = gfPow (k + 1) := (Function.iterate_succ_apply' gfTwice k 1).symm

theorem gfTwice_lt {x : Nat} (hx : x < 128) : gfTwice x < 128 := by
  have hall : ∀ x < 128, gfTwice x < 128 := by decide
  exact hall x hx

theorem iterate_gfTwice_lt {x : Nat} (hx : x < 128) (k : Nat) : gfTwice^[k] x < 128 := by
  induction k with
  | zero => exact hx
  | succ k ih => rw [Function.iterate_succ_apply']; exact gfTwice_lt ih

theorem gfPow_lt (k : Nat) : gfPow k < 128 := iterate_gfTwice_lt (by decide) k

theorem xor_lt_128 {x y : Nat} (hx : x < 128) (hy : y < 128) : x ^^^ y < 128 := Nat.xor_lt_two_pow (n := 7) hx hy

theorem two_mul_xor (x y : Nat) : 2 * (x ^^^ y) = 2 * x ^^^ 2 * y := by
  simpa [Nat.shiftLeft_eq, Nat.mul_comm] using Nat.shiftLeft_xor_distrib (a := x) (b := y) (i := 1)

/-- Whether 2x runs over 7 bits is bit 6 of x. -/
theorem gfTwice_eq {x : Nat} (hx : x < 128) : gfTwice x = 2 * x ^^^ bif Nat.testBit x 6 then 0x89 else 0 := by
  have hall : ∀ x < 128, gfTwice x = 2 * x ^^^ bif Nat.testBit x 6 then 0x89 else 0 := by decide
  exact hall x hx

theorem gfTwice_xor {x y : Nat} (hx : x < 128) (hy : y < 128) : gfTwice (x ^^^ y) = gfTwice x ^^^ gfTwice y := by
  rw [gfTwice_eq hx, gfTwice_eq hy, gfTwice_eq (xor_lt_128 hx hy), two_mul_xor, Nat.testBit_xor]
  cases Nat.testBit x 6 <;> cases Nat.testBit y 6 <;> simp [Nat.xor_assoc, Nat.xor_left_comm, Nat.xor_comm]

/-! ### GF(2^7): products -/

theorem gfMul_lt {x : Nat} (hx : x < 128) (n y : Nat) : gfMul n x y < 128 := by
  induction n generalizing x y with
  | zero => exact Nat.zero_lt_succ _
  | succ n ih =>
    rw [gfMul]
    exact xor_lt_128 (by split <;> omega) (ih (gfTwice_lt hx) _)

theorem gfMul_xor_left {x z : Nat} (hx : x < 128) (hz : z < 128) (n y : Nat) :
    gfMul n (x ^^^ z) y = gfMul n x y ^^^ gfMul n z y := by
  induction n generalizing x z y with
  | zero => exact (Nat.xor_self 0).symm
  | succ n ih =>
    rw [gfMul, gfMul, gfMul, gfTwice_xor hx hz, ih (gfTwice_lt hx) (gfTwice_lt hz)]
    split <;> simp [Nat.xor_assoc, Nat.xor_left_comm]

theorem gfMul_gfTwice {x : Nat} (hx : x < 128) (n y : Nat) : gfMul n (gfTwice x) y = gfTwice (gfMul n x y) := by
  induction n generalizing x y with
  | zero => rfl
  | succ n ih =>
    rw [gfMul, gfMul, ih (gfTwice_lt hx), gfTwice_xor (by split <;> omega) (gfMul_lt (gfTwice_lt hx) n _)]
    split <;> rfl

theorem gfMul_one {y : Nat} (hy : y < 128) : gfMul 7 1 y = y := by
  have hall : ∀ y < 128, gfMul 7 1 y = y := by decide
  exact hall y hy

/-- A product by α^k is k doublings. -/
theorem gfMul_gfPow_left (k : Nat) {y : Nat} (hy : y < 128) : gfMul 7 (gfPow k) y = gfTwice^[k] y := by
  induction k with
  | zero => exact gfMul_one hy
  | succ k ih => rw [← gfTwice_gfPow, gfMul_gfTwice (gfPow_lt k), ih, Function.iterate_succ_apply']

theorem gfMul_gfPow (i j : Nat) : gfMul 7 (gfPow i) (gfPow j) = gfPow (i + j) := by
  rw [gfMul_gfPow_left i (gfPow_lt j), gfPow, gfPow, Function.iterate_add_apply]

theorem gfPow_cube (i : Nat) : gfMul 7 (gfPow i) (gfMul 7 (gfPow i) (gfPow i)) = gfPow (3 * i) := by
  rw [gfMul_gfPow, gfMul_gfPow, show i + (i + i) = 3 * i by omega]

theorem gfMul_zero_left (n y : Nat) : gfMul n 0 y = 0 := by
  induction n generalizing y with
  | zero => rfl
  | succ n ih => simp [gfMul, gfTwice, ih]

theorem gfMul_zero_right (n x : Nat) : gfMul n x 0 = 0 := by
  induction n generalizing x with
  | zero => rfl
  | succ n ih => simp [gfMul, ih]

theorem iterate_gfTwice_xor {x y : Nat} (hx : x < 128) (hy : y < 128) (k : Nat) :
    gfTwice^[k] (x ^^^ y) = gfTwice^[k] x ^^^ gfTwice^[k] y := by
  induction k with
  | zero => rfl
  | succ k ih =>
    simp only [Function.iterate_succ_apply']
    rw [ih, gfTwice_xor (iterate_gfTwice_lt hx k) (iterate_gfTwice_lt hy k)]

/-- Every element but 0 is one power of α below 127. -/
theorem exists_gfPow {x : Nat} (hx : x < 128) (h0 : x ≠ 0) : ∃ k < 127, gfPow k = x := by
  have hall : ∀ x < 128, x ≠ 0 → ∃ k < 127, gfPow k = x := by decide +kernel
  exact hall x hx h0

theorem gfPow_injective {i j : Nat} (hi : i < 127) (hj : j < 127) (h : gfPow i = gfPow j) : i = j := by
  have hnodup : ((List.range 127).map gfPow).Nodup := by decide +kernel
  exact List.inj_on_of_nodup_map hnodup (List.mem_range.mpr hi) (List.mem_range.mpr hj) h

theorem gfPow_ne_zero (k : Nat) : gfPow k ≠ 0 := by
  have hstep : ∀ x < 128, x ≠ 0 → gfTwice x ≠ 0 := by decide
  induction k with
  | zero => decide
  | succ k ih => rw [← gfTwice_gfPow]; exact hstep _ (gfPow_lt k) ih

theorem gfMul_xor_right {x y z : Nat} (hx : x < 128) (hy : y < 128) (hz : z < 128) :
    gfMul 7 x (y ^^^ z) = gfMul 7 x y ^^^ gfMul 7 x z := by
  by_cases h0 : x = 0
  · simp [h0, gfMul_zero_left]
  · obtain ⟨k, -, rfl⟩ := exists_gfPow hx h0
    rw [gfMul_gfPow_left k hy, gfMul_gfPow_left k hz, gfMul_gfPow_left k (xor_lt_128 hy hz), iterate_gfTwice_xor hy hz]

theorem gfMul_eq_zero {x y : Nat} (hx : x < 128) (hy : y < 128) (h : gfMul 7 x y = 0) : x = 0 ∨ y = 0 := by
  by_contra hne
  obtain ⟨hx0, hy0⟩ := not_or.mp hne
  obtain ⟨i, -, rfl⟩ := exists_gfPow hx hx0
  obtain ⟨j, -, rfl⟩ := exists_gfPow hy hy0
  exact gfPow_ne_zero _ (gfMul_gfPow i j ▸ h)

/-! ### GF(2^7): roots -/

/-- The condition on which the decoder takes x for the locator of one of two errors with sums s1 and s3 (R598). -/
def isRoot (s1 s3 x : Nat) : Bool :=
  gfMul 7 s1 (gfMul 7 x (x ^^^ s1)) == (s3 ^^^ gfMul 7 s1 (gfMul 7 s1 s1))

/-- α^t (α^t + α^i + α^j) + α^i α^j = (α^t + α^i)(α^t + α^j). -/
theorem quadratic_factors (i j t : Nat) : gfMul 7 (gfPow t) (gfPow t ^^^ (gfPow i ^^^ gfPow j)) ^^^ gfPow (i + j)
    = gfMul 7 (gfPow t ^^^ gfPow i) (gfPow t ^^^ gfPow j) := by
  have hlt := gfPow_lt
  rw [gfMul_xor_left (hlt t) (hlt i), gfMul_xor_right (hlt t) (hlt t) (xor_lt_128 (hlt i) (hlt j)),
    gfMul_xor_right (hlt t) (hlt i) (hlt j), gfMul_xor_right (hlt t) (hlt t) (hlt j), gfMul_xor_right (hlt i) (hlt t) (hlt j)]
  simp only [gfMul_gfPow, Nat.add_comm i t, Nat.xor_assoc, Nat.xor_left_comm]

/-- a³ + b³ + (a + b)³ = (a + b)ab. -/
theorem cubes_of_sum (i j : Nat) : (gfPow (3 * i) ^^^ gfPow (3 * j)) ^^^ gfMul 7 (gfPow i ^^^ gfPow j)
      (gfMul 7 (gfPow i ^^^ gfPow j) (gfPow i ^^^ gfPow j)) = gfMul 7 (gfPow i ^^^ gfPow j) (gfPow (i + j)) := by
  have hlt := gfPow_lt
  have hsq : gfMul 7 (gfPow i ^^^ gfPow j) (gfPow i ^^^ gfPow j) = gfPow (i + i) ^^^ gfPow (j + j) := by
    rw [gfMul_xor_left (hlt i) (hlt j), gfMul_xor_right (hlt i) (hlt i) (hlt j), gfMul_xor_right (hlt j) (hlt i) (hlt j)]
    simp only [gfMul_gfPow, Nat.add_comm j i, Nat.xor_assoc, Nat.xor_left_comm]
    simp
  rw [hsq, gfMul_xor_left (hlt i) (hlt j), gfMul_xor_left (hlt i) (hlt j), gfMul_xor_right (hlt i) (hlt _) (hlt _),
    gfMul_xor_right (hlt j) (hlt _) (hlt _)]
  simp only [gfMul_gfPow]
  have h1 : i + (i + i) = 3 * i := by omega
  have h2 : j + (j + j) = 3 * j := by omega
  have h3 : i + (j + j) = j + (i + j) := by omega
  have h4 : j + (i + i) = i + (i + j) := by omega
  rw [h1, h2, h3, h4]
  generalize gfPow (3 * i) = a
  generalize gfPow (3 * j) = b
  simp [Nat.xor_assoc, Nat.xor_left_comm, Nat.xor_comm]

theorem isRoot_iff {i j t : Nat} (hi : i < 127) (hj : j < 127) (ht : t < 127) (hij : i ≠ j) :
    isRoot (gfPow i ^^^ gfPow j) (gfPow (3 * i) ^^^ gfPow (3 * j)) (gfPow t) = true ↔ t = i ∨ t = j := by
  have hlt := gfPow_lt
  have hsum : gfPow i ^^^ gfPow j < 128 := xor_lt_128 (hlt i) (hlt j)
  have hne : gfPow i ^^^ gfPow j ≠ 0 := fun h => hij (gfPow_injective hi hj (Nat.xor_eq_zero_iff.mp h))
  have hquad : gfMul 7 (gfPow t) (gfPow t ^^^ (gfPow i ^^^ gfPow j)) < 128 := gfMul_lt (hlt t) 7 _
  rw [isRoot, beq_iff_eq, cubes_of_sum, ← Nat.xor_eq_zero_iff, ← gfMul_xor_right hsum hquad (hlt _), quadratic_factors]
  constructor
  · intro h
    have hprod := (gfMul_eq_zero hsum (gfMul_lt (xor_lt_128 (hlt t) (hlt i)) 7 _) h).resolve_left hne
    exact (gfMul_eq_zero (xor_lt_128 (hlt t) (hlt i)) (xor_lt_128 (hlt t) (hlt j)) hprod).imp
      (fun h => gfPow_injective ht hi (Nat.xor_eq_zero_iff.mp h)) (fun h => gfPow_injective ht hj (Nat.xor_eq_zero_iff.mp h))
  · rintro (rfl | rfl)
    · simp [gfMul_zero_left, gfMul_zero_right]
    · simp [gfMul_zero_right]

/-! ### The search for roots -/

theorem gfFind_eq_filter (p : Nat → Bool) (n j : Nat) :
    gfFind p n j (gfPow j) = (List.range' j n).filter fun k => p (gfPow k) := by
  induction n generalizing j with
  | zero => rfl
  | succ n ih => simp [gfFind, List.range'_succ, List.filter_cons, gfTwice_gfPow, ih]

/-- The search yields, in rising order, the exponents it looks for. -/
theorem gfFind_eq {p : Nat → Bool} {l : List Nat} (hsorted : l.Pairwise (· < ·))
    (hmem : ∀ t, t ∈ l ↔ t < 127 ∧ p (gfPow t) = true) :
    gfFind p 127 0 1 = l := by
  have hfilter := gfFind_eq_filter p 127 0
  refine hfilter.trans (List.Pairwise.eq_of_mem_iff ((List.pairwise_lt_range' (s := 0) (n := 127) 1).filter _) hsorted fun t => ?_)
  rw [hmem, List.mem_filter, List.mem_range'_1]
  simp

theorem gfFind_locator {i : Nat} (hi : i < 127) : gfFind (fun a => a == gfPow i) 127 0 1 = [i] := by
  refine gfFind_eq (List.pairwise_singleton _ i) fun t => ?_
  rw [List.mem_singleton, beq_iff_eq]
  exact ⟨by rintro rfl; exact ⟨hi, rfl⟩, fun h => gfPow_injective h.1 hi h.2⟩

theorem gfFind_isRoot {i j : Nat} (hij : i < j) (hj : j < 127) :
    gfFind (isRoot (gfPow i ^^^ gfPow j) (gfPow (3 * i) ^^^ gfPow (3 * j))) 127 0 1 = [i, j] := by
  refine gfFind_eq (List.pairwise_pair.mpr hij) fun t => ?_
  have hroot := fun ht => isRoot_iff (t := t) (hij.trans hj) hj ht hij.ne
  rw [List.mem_pair]
  constructor
  · intro h
    have ht : t < 127 := by omega
    exact ⟨ht, (hroot ht).mpr h⟩
  · exact fun h => (hroot h.1).mp h.2

/-! ### Syndromes (R598) -/

/-- The sum of two syndromes. -/
def syndAdd (x y : Nat × Nat × Bool) : Nat × Nat × Bool := (x.1 ^^^ y.1, x.2.1 ^^^ y.2.1, x.2.2 ^^ y.2.2)

theorem syndAdd_zero (x : Nat × Nat × Bool) : syndAdd (0, 0, false) x = x := by simp [syndAdd]

theorem syndAdd_cancel {x y z : Nat × Nat × Bool} (h : x = syndAdd y z) : y = syndAdd x z := by
  simp [h, syndAdd]

/-- The syndrome of codeword bit `i` alone: its column of the parity-check matrix (R597). -/
def column (i : Nat) : Nat × Nat × Bool := if i ≤ 78 then (gfPow i, gfPow (3 * i), true) else (0, 0, true)

theorem column_of_le {i : Nat} (hi : i ≤ 78) : column i = (gfPow i, gfPow (3 * i), true) := if_pos hi

theorem column_of_gt {i : Nat} (hi : 78 < i) : column i = (0, 0, true) := if_neg (by omega)

theorem column_parity (i : Nat) : (column i).2.2 = true := by
  rw [column]
  split <;> rfl

theorem syndromes_xor (w v n j a b : Nat) : syndromes (w ^^^ v) n j a b = syndAdd (syndromes w n j a b) (syndromes v n j a b) := by
  induction n generalizing j a b with
  | zero => simp [syndromes, syndAdd]
  | succ n ih =>
    simp only [syndromes, ih, Nat.testBit_xor]
    generalize syndromes w n _ _ _ = x
    generalize syndromes v n _ _ _ = y
    cases Nat.testBit w j <;> cases Nat.testBit v j <;> by_cases hj : j ≤ 78 <;>
      simp [syndAdd, hj, Nat.xor_left_comm, Nat.xor_comm]

theorem syndrome_xor (w v : Nat) : syndrome (w ^^^ v) = syndAdd (syndrome w) (syndrome v) := syndromes_xor ..

theorem syndrome_pow {i : Nat} (hi : i < 80) : syndrome (2 ^ i) = column i := by
  have hall : ∀ i < 80, syndrome (2 ^ i) = column i := by decide +kernel
  exact hall i hi

theorem syndrome_flip {i : Nat} (hi : i < 80) (w : Nat) : syndrome (w ^^^ 2 ^ i) = syndAdd (syndrome w) (column i) := by
  rw [syndrome_xor, syndrome_pow hi]

/-! ### Encoded words (R597) -/

/-- What holds of 0 and of the powers of two below 2^n and goes over to sums holds of every number below 2^n. -/
theorem xor_induction {P : Nat → Prop} (hzero : P 0) (hxor : ∀ x y, P x → P y → P (x ^^^ y)) :
    ∀ n, (∀ k < n, P (2 ^ k)) → ∀ m < 2 ^ n, P m := by
  intro n
  induction n with
  | zero => intro _ m hm; exact (Nat.lt_one_iff.mp hm) ▸ hzero
  | succ n ih =>
    intro hpow m hm
    have hlow := ih fun k hk => hpow k (by omega)
    by_cases hbit : m < 2 ^ n
    · exact hlow m hbit
    · have hrest : m ^^^ 2 ^ n < 2 ^ n := by
        refine Nat.lt_pow_two_of_testBit _ fun i hi => ?_
        rcases Nat.eq_or_lt_of_le hi with rfl | hlt
        · rw [Nat.testBit_xor, Nat.testBit_two_pow_self, Nat.testBit_of_two_pow_le_and_two_pow_add_one_gt (by omega) hm]
          rfl
        · rw [Nat.testBit_xor, Nat.testBit_lt_two_pow (hm.trans_le (Nat.pow_le_pow_right (by decide) hlt)),
            Nat.testBit_two_pow_of_ne hlt.ne]
          rfl
      have hsum := hxor _ _ (hlow _ hrest) (hpow n (Nat.lt_succ_self n))
      rwa [Nat.xor_assoc, Nat.xor_self, Nat.xor_zero] at hsum

theorem bchStep_xor (r q : Nat) (b c : Bool) : bchStep (r ^^^ q) (b ^^ c) = bchStep r b ^^^ bchStep q c := by
  have hshift : 2 * (r ^^^ q) % 2 ^ 14 = (2 * r) % 2 ^ 14 ^^^ (2 * q) % 2 ^ 14 := by rw [two_mul_xor, Nat.xor_mod_two_pow]
  simp only [bchStep, Nat.testBit_xor, hshift, show 0x4000 = 2 ^ 14 by rfl]
  cases Nat.testBit r 13 <;> cases Nat.testBit q 13 <;> cases b <;> cases c <;>
    simp [Nat.xor_left_comm, Nat.xor_comm]

theorem bchStep_lt (r : Nat) (b : Bool) : bchStep r b < 2 ^ 14 := by
  have hmod : 2 * r % 0x4000 < 2 ^ 14 := Nat.mod_lt _ (by decide)
  rw [bchStep]
  split
  · exact Nat.xor_lt_two_pow hmod (by decide)
  · exact hmod

theorem bchCheck_xor (m n : Nat) : bchCheck (m ^^^ n) = bchCheck m ^^^ bchCheck n := by
  have hfold : ∀ l r q, (l : List Nat).foldl (fun r i => bchStep r (Nat.testBit (m ^^^ n) (64 - i))) (r ^^^ q)
      = l.foldl (fun r i => bchStep r (Nat.testBit m (64 - i))) r ^^^ l.foldl (fun r i => bchStep r (Nat.testBit n (64 - i))) q := by
    intro l
    induction l with
    | nil => exact fun _ _ => rfl
    | cons i l ih =>
      intro r q
      rw [List.foldl_cons, List.foldl_cons, List.foldl_cons, Nat.testBit_xor, bchStep_xor, ih]
  exact hfold _ 0 0

theorem bchCheck_lt (m : Nat) : bchCheck m < 2 ^ 14 := by
  rw [bchCheck, List.range_succ, List.foldl_append]
  exact bchStep_lt ..

/-- TAG, DATA and CHECK of the message m, below P. -/
def wordBody (m : Nat) : Nat := m * 2 ^ 14 + bchCheck m

theorem encodeWord_eq (d : Nat) (tag : Bool) :
    encodeWord d tag = wordBody (d % 2 ^ 64 + bitNat tag * 2 ^ 64)
      + bitNat (parity (wordBody (d % 2 ^ 64 + bitNat tag * 2 ^ 64)) 79) * 2 ^ 79 := rfl

theorem testBit_wordBody (m k : Nat) :
    Nat.testBit (wordBody m) k = if k < 14 then Nat.testBit (bchCheck m) k else Nat.testBit m (k - 14) := by
  rw [wordBody, Nat.mul_comm, Nat.testBit_two_pow_mul_add m (bchCheck_lt m)]

theorem wordBody_xor (m n : Nat) : wordBody (m ^^^ n) = wordBody m ^^^ wordBody n := by
  refine Nat.eq_of_testBit_eq fun k => ?_
  simp only [Nat.testBit_xor, testBit_wordBody, bchCheck_xor]
  split <;> rfl

theorem wordBody_lt {m : Nat} (hm : m < 2 ^ 65) : wordBody m < 2 ^ 79 := by
  have hcheck := bchCheck_lt m
  rw [wordBody]
  omega

/-- The generator has α and α³ for roots, so s1 and s3 of a message with its CHECK are 0. -/
theorem syndrome_wordBody {m : Nat} (hm : m < 2 ^ 65) : (syndrome (wordBody m)).1 = 0 ∧ (syndrome (wordBody m)).2.1 = 0 := by
  refine xor_induction (P := fun m => (syndrome (wordBody m)).1 = 0 ∧ (syndrome (wordBody m)).2.1 = 0) (by decide +kernel) ?_ 65
    (by decide +kernel) m hm
  rintro x y ⟨hx1, hx3⟩ ⟨hy1, hy3⟩
  rw [wordBody_xor, syndrome_xor]
  exact ⟨by simp [syndAdd, hx1, hy1], by simp [syndAdd, hx3, hy3]⟩

theorem parity_xor (w v n : Nat) : parity (w ^^^ v) n = (parity w n ^^ parity v n) := by
  induction n with
  | zero => rfl
  | succ n ih =>
    rw [parity, parity, parity, ih, Nat.testBit_xor]
    cases Nat.testBit w n <;> cases Nat.testBit v n <;> simp

theorem syndrome_parity {w : Nat} (hw : w < 2 ^ 79) : (syndrome w).2.2 = parity w 79 := by
  refine xor_induction (P := fun w => (syndrome w).2.2 = parity w 79) (by decide +kernel) ?_ 79 (by decide +kernel) w hw
  intro x y hx hy
  rw [syndrome_xor, parity_xor, ← hx, ← hy, syndAdd]

theorem add_two_pow_eq_xor {w n : Nat} (hw : w < 2 ^ n) : w + 2 ^ n = w ^^^ 2 ^ n := by
  refine Nat.eq_of_testBit_eq fun k => ?_
  rw [Nat.add_comm, ← Nat.mul_one (2 ^ n), Nat.testBit_two_pow_mul_add 1 hw, Nat.mul_one, Nat.testBit_xor]
  rcases Nat.lt_trichotomy k n with hlt | rfl | hgt
  · rw [if_pos hlt, Nat.testBit_two_pow_of_ne hlt.ne', Bool.xor_false]
  · rw [if_neg (Nat.lt_irrefl k), Nat.sub_self, Nat.testBit_two_pow_self, Nat.testBit_lt_two_pow hw]
    rfl
  · rw [if_neg hgt.not_gt, Nat.testBit_two_pow_of_ne hgt.ne, Nat.testBit_lt_two_pow (hw.trans (Nat.pow_lt_pow_right (by decide) hgt)),
      Nat.testBit_lt_two_pow (Nat.one_lt_two_pow (by omega))]
    rfl

theorem syndrome_encodeWord (d : Nat) (tag : Bool) : syndrome (encodeWord d tag) = (0, 0, false) := by
  rw [encodeWord_eq]
  have hm : d % 2 ^ 64 + bitNat tag * 2 ^ 64 < 2 ^ 65 := by
    have : bitNat tag ≤ 1 := by cases tag <;> decide
    omega
  generalize d % 2 ^ 64 + bitNat tag * 2 ^ 64 = m at hm
  obtain ⟨h1, h3⟩ := syndrome_wordBody hm
  have hp := syndrome_parity (wordBody_lt hm)
  have hbody : syndrome (wordBody m) = (0, 0, parity (wordBody m) 79) :=
    Prod.ext h1 (Prod.ext h3 hp)
  cases hpar : parity (wordBody m) 79
  · simpa [bitNat, hpar] using hbody
  · rw [show bitNat true * 2 ^ 79 = 2 ^ 79 from rfl, add_two_pow_eq_xor (wordBody_lt hm), syndrome_flip (by decide), hbody, hpar]
    rfl

theorem wordData_encodeWord (d : Nat) (tag : Bool) : wordData (encodeWord d tag) = d % 2 ^ 64 := by
  have hcheck := bchCheck_lt (d % 2 ^ 64 + bitNat tag * 2 ^ 64)
  rw [encodeWord_eq, wordBody, wordData, bits, Nat.shiftRight_eq_div_pow]
  omega

theorem wordTag_encodeWord (d : Nat) (tag : Bool) : wordTag (encodeWord d tag) = tag := by
  have hcheck := bchCheck_lt (d % 2 ^ 64 + bitNat tag * 2 ^ 64)
  have hbit : encodeWord d tag / 2 ^ 78 % 2 = bitNat tag := by
    have htag : bitNat tag ≤ 1 := by cases tag <;> decide
    rw [encodeWord_eq, wordBody]
    omega
  rw [wordTag, Nat.testBit_eq_decide_div_mod_eq, hbit]
  cases tag <;> rfl

/-! ### The poison pattern (R599) -/

theorem syndrome_poisonWord : syndrome poisonWord = (71, 125, false) := by decide +kernel

/-- The poison pattern lies two errors or fewer from no codeword: no one of the columns is its syndrome, and of the roots that the
decoder finds for it only one is a bit of the word. -/
theorem poison_ne_columns {i j : Nat} (hi : i < 80) (hj : j < 80) : syndrome poisonWord ≠ syndAdd (column i) (column j) := by
  have hone : ∀ i ≤ 78, gfPow i ≠ 71 := by decide
  have hroots : ∀ t ≤ 78, isRoot 71 125 (gfPow t) = true → t = 3 := by decide +kernel
  rw [syndrome_poisonWord]
  intro h
  rcases Nat.lt_or_ge 78 i with hi' | hi' <;> rcases Nat.lt_or_ge 78 j with hj' | hj'
  · rw [column_of_gt hi', column_of_gt hj'] at h
    simp [syndAdd] at h
  · rw [column_of_gt hi', column_of_le hj'] at h
    simp only [syndAdd, Nat.zero_xor, Prod.mk.injEq] at h
    exact hone j hj' h.1.symm
  · rw [column_of_le hi', column_of_gt hj'] at h
    simp only [syndAdd, Nat.xor_zero, Prod.mk.injEq] at h
    exact hone i hi' h.1.symm
  · rw [column_of_le hi', column_of_le hj'] at h
    simp only [syndAdd, Prod.mk.injEq] at h
    obtain ⟨h1, h3, -⟩ := h
    have hij : i ≠ j := by
      rintro rfl
      simp at h1
    rw [h1, h3] at hroots
    have hi3 := hroots i hi' ((isRoot_iff (by omega) (by omega) (by omega) hij).mpr (.inl rfl))
    have hj3 := hroots j hj' ((isRoot_iff (by omega) (by omega) (by omega) hij).mpr (.inr rfl))
    exact hij (hi3.trans hj3.symm)

theorem nearPoison_iff (s q : Nat × Nat × Bool) (n j : Nat) : nearPoison s q n j (gfPow j) (gfPow (3 * j)) = true ↔
    ∃ k, j ≤ k ∧ k < j + n ∧ s = syndAdd q (column k) := by
  induction n generalizing j with
  | zero =>
    simp only [nearPoison, Bool.false_eq_true, false_iff, not_exists]
    omega
  | succ n ih =>
    have hhere : (if j ≤ 78 then (q.1 ^^^ gfPow j, q.2.1 ^^^ gfPow (3 * j), !q.2.2) else (q.1, q.2.1, !q.2.2)) = syndAdd q (column j) := by
      rw [column]
      split <;> simp [syndAdd]
    rw [nearPoison, hhere, gfTwice_gfPow, gfTwice_gfPow, gfTwice_gfPow, gfTwice_gfPow, Bool.or_eq_true, beq_iff_eq,
      show 3 * j + 1 + 1 + 1 = 3 * (j + 1) by omega, ih (j + 1)]
    constructor
    · rintro (h | ⟨k, hjk, hkn, h⟩)
      · exact ⟨j, by omega, by omega, h⟩
      · exact ⟨k, by omega, by omega, h⟩
    · rintro ⟨k, hjk, hkn, h⟩
      rcases Nat.eq_or_lt_of_le hjk with rfl | hlt
      · exact .inl h
      · exact .inr ⟨k, by omega, by omega, h⟩

/-- The syndrome of poison, or of poison with one further bit inverted (R599). -/
def PoisonSyndrome (s : Nat × Nat × Bool) : Prop :=
  s = syndrome poisonWord ∨ ∃ k < 80, s = syndAdd (syndrome poisonWord) (column k)

theorem poisonSyndrome_iff (s : Nat × Nat × Bool) :
    PoisonSyndrome s ↔ (s == syndrome poisonWord || nearPoison s (syndrome poisonWord) 80 0 1 1) = true := by
  have hnear := nearPoison_iff s (syndrome poisonWord) 80 0
  rw [Bool.or_eq_true, beq_iff_eq, show (1 : Nat) = gfPow 0 from rfl]
  refine or_congr_right (Iff.trans ?_ hnear.symm)
  simp

theorem not_poisonSyndrome_zero : ¬ PoisonSyndrome (0, 0, false) := by
  rintro (h | ⟨k, hk, h⟩)
  · exact absurd h (by rw [syndrome_poisonWord]; decide)
  · exact absurd (congrArg (·.2.2) h) (by simp [syndAdd, syndrome_poisonWord, column_parity])

theorem not_poisonSyndrome_column {i : Nat} (hi : i < 80) : ¬ PoisonSyndrome (column i) := by
  rintro (h | ⟨k, hk, h⟩)
  · exact absurd (congrArg (·.2.2) h) (by simp [syndrome_poisonWord, column_parity])
  · exact poison_ne_columns hi hk (syndAdd_cancel h)

theorem not_poisonSyndrome_sum {i j : Nat} (hi : i < 80) (hj : j < 80) : ¬ PoisonSyndrome (syndAdd (column i) (column j)) := by
  rintro (h | ⟨k, hk, h⟩)
  · exact poison_ne_columns hi hj h.symm
  · exact absurd (congrArg (·.2.2) h) (by simp [syndAdd, syndrome_poisonWord, column_parity])

/-! ### What the decoder makes of a syndrome (R598) -/

section

variable {w i j : Nat}

theorem wordStatus_poisoned (h : PoisonSyndrome (syndrome w)) : wordStatus w = .poisoned := by
  rw [wordStatus]
  exact if_pos ((poisonSyndrome_iff _).mp h)

theorem wordStatus_clean (h : syndrome w = (0, 0, false)) : wordStatus w = .clean := by
  rw [wordStatus]
  dsimp only
  rw [if_neg (mt (poisonSyndrome_iff _).mpr (h ▸ not_poisonSyndrome_zero)), h]
  simp

theorem wordStatus_one (hi : i < 80) (h : syndrome w = column i) : wordStatus w = .corrected [i] := by
  rw [wordStatus]
  dsimp only
  rw [if_neg (mt (poisonSyndrome_iff _).mpr (h ▸ not_poisonSyndrome_column hi)), h]
  rcases Nat.lt_or_ge 78 i with hi' | hi'
  · rw [column_of_gt hi', show i = 79 by omega]
    rfl
  · rw [column_of_le hi']
    simp [gfPow_cube, gfPow_ne_zero, gfFind_locator (show i < 127 by omega), hi'.not_gt]

/-- Two errors with P among them: of one bit alone the parity would be odd. -/
theorem wordStatus_withP (hi : i < 79) (h : syndrome w = syndAdd (column i) (column 79)) : wordStatus w = .corrected [i, 79] := by
  rw [wordStatus]
  dsimp only
  rw [if_neg (mt (poisonSyndrome_iff _).mpr (h ▸ not_poisonSyndrome_sum (by omega) (by omega))), h, column_of_le (show i ≤ 78 by omega),
    column_of_gt (by decide)]
  simp [syndAdd, gfPow_cube, gfPow_ne_zero, gfFind_locator (show i < 127 by omega), show ¬ 78 < i by omega]

/-- Two errors below P: the decoder takes the two candidates that it finds. -/
theorem wordStatus_of_roots {s1 s3 : Nat} (hpoison : ¬ PoisonSyndrome (syndrome w)) (hs : syndrome w = (s1, s3, false)) (h1 : s1 ≠ 0)
    (h3 : s3 ≠ gfMul 7 s1 (gfMul 7 s1 s1)) (hroots : gfFind (isRoot s1 s3) 127 0 1 = [i, j]) (hi : i ≤ 78) (hj : j ≤ 78) :
    wordStatus w = .corrected [i, j] := by
  have hfound : gfFind (fun a => gfMul 7 s1 (gfMul 7 a (a ^^^ s1)) == (s3 ^^^ gfMul 7 s1 (gfMul 7 s1 s1))) 127 0 1 = [i, j] := hroots
  rw [wordStatus]
  dsimp only
  rw [if_neg (mt (poisonSyndrome_iff _).mpr hpoison), hs]
  simp [h1, h3, hfound, hi, hj]

theorem wordStatus_two (hij : i < j) (hj : j < 80) (h : syndrome w = syndAdd (column i) (column j)) :
    wordStatus w = .corrected [i, j] := by
  have hlt := gfPow_lt
  rcases Nat.lt_or_ge 78 j with hj' | hj'
  · obtain rfl : j = 79 := by omega
    exact wordStatus_withP hij h
  · have hi' : i ≤ 78 := by omega
    have hsum : gfPow i ^^^ gfPow j ≠ 0 := fun h0 =>
      hij.ne (gfPow_injective (by omega) (by omega) (Nat.xor_eq_zero_iff.mp h0))
    have hcube : gfPow (3 * i) ^^^ gfPow (3 * j) ≠
        gfMul 7 (gfPow i ^^^ gfPow j) (gfMul 7 (gfPow i ^^^ gfPow j) (gfPow i ^^^ gfPow j)) := by
      intro h0
      have hprod := cubes_of_sum i j
      rw [h0, Nat.xor_self] at hprod
      exact (gfMul_eq_zero (xor_lt_128 (hlt i) (hlt j)) (hlt _) hprod.symm).elim hsum (gfPow_ne_zero _)
    have hpoison : ¬ PoisonSyndrome (syndrome w) := h ▸ not_poisonSyndrome_sum (hij.trans hj) hj
    rw [column_of_le hi', column_of_le hj'] at h
    exact wordStatus_of_roots hpoison h hsum hcube (gfFind_isRoot hij (by omega)) hi' hj'

end

theorem fixWord_one (w i : Nat) : fixWord (w ^^^ 2 ^ i) (.corrected [i]) = w := by simp [fixWord]

theorem fixWord_two (w i j : Nat) : fixWord (w ^^^ 2 ^ i ^^^ 2 ^ j) (.corrected [i, j]) = w := by
  simp [fixWord, Nat.xor_assoc]

/-! ### The obligations -/

/-- Settles O60: of an encoded word with errors the decoder sees the sum of their columns (R596 to R598). -/
theorem wordCodeCorrectsOneAndTwoBitErrors : Obligations.WordCodeCorrectsOneAndTwoBitErrors := by
  rintro d tag w rfl
  have hzero := syndrome_encodeWord d.toNat tag
  have hflip : ∀ i < 80, syndrome (encodeWord d.toNat tag ^^^ 2 ^ i) = column i := by
    intro i hi
    rw [syndrome_flip hi, hzero, syndAdd_zero]
  refine ⟨⟨wordStatus_clean hzero, ?data, wordTag_encodeWord ..⟩, fun i hi => ?one, fun i j hij hj => ?two⟩
  case data => rw [wordData_encodeWord, Nat.mod_eq_of_lt d.isLt]
  case one =>
    rw [wordStatus_one hi (hflip i hi)]
    exact ⟨⟨_, rfl⟩, fixWord_one ..⟩
  case two =>
    rw [wordStatus_two hij hj (by rw [syndrome_flip hj, hflip i (hij.trans hj)])]
    exact ⟨⟨_, rfl⟩, fixWord_two ..⟩

/-- Settles O59: every encoded word has syndrome 0, and the poison pattern has not. -/
theorem poisonPatternIsNoCodeword : Obligations.PoisonPatternIsNoCodeword := by
  refine ⟨by decide, by decide, by decide, by decide, fun d tag h => ?encoded, wordStatus_poisoned (.inl rfl), fun j hj =>
    wordStatus_poisoned (.inr ⟨j, hj, syndrome_flip hj _⟩)⟩
  case encoded =>
    have hzero := syndrome_encodeWord d tag
    rw [h, syndrome_poisonWord] at hzero
    simp at hzero

end Sys2Proof.Machine
end

section
/-! Proofs about the queue, reset and the answer of every command (01, 03, 04): a row answers a next state because every guard does, and
every choice between answers. -/

namespace Sys2Proof.Machine

open Sys2Proof

/-! ### The queue and reset -/

/-- Settles O1: what waits in front runs, on the device with the queue's rest. -/
theorem stepRunsFrontCommand : Obligations.StepRunsFrontCommand := fun _ _ _ => step_cons rfl

/-- Settles O2, by what an idle step does. That a device without commands idles is log 1, that an idle step is ten nanoseconds log 2. -/
theorem idleStepOnlyPassesTime : Obligations.IdleStepOnlyPassesTime := by
  intro s hempty
  constructor
  · intro hlive
    rw [step_nil hempty, State.idle, hlive, if_pos rfl, if_pos rfl]
  · intro hdead
    rw [step_nil hempty, State.idle, hdead, if_neg Bool.false_ne_true, if_neg Bool.false_ne_true]

/-- Settles O3: the state after reset is written out, every table of it empty. -/
theorem resetStateIsUnpowered : Obligations.ResetStateIsUnpowered :=
  ⟨rfl, rfl, rfl, rfl, by decide, rfl, fun _ => rfl, fun _ => rfl, rfl, rfl, by decide⟩

/-! ### Answers -/

/-- The row answers a next state. -/
def Answers (r : Host.Outcome State Fault Refusal) : Prop := ∃ t, r = .next t

section
variable {s t : State} {ok : Bool} {d e : Nat}

theorem answers_guarded : Answers (guarded ok s t) := ⟨_, rfl⟩

theorem answers_ite {c : Prop} [Decidable c] {r q : Host.Outcome State Fault Refusal} (hr : Answers r) (hq : Answers q) :
    Answers (if c then r else q) := by
  split
  · exact hr
  · exact hq

theorem answers_needing : Answers (needing d ok s t) := answers_ite answers_guarded ⟨_, rfl⟩

theorem answers_commanding : Answers (commanding d ok s t) := answers_ite ⟨_, rfl⟩ answers_needing

theorem answers_commanding2 : Answers (commanding2 d e ok s t) := answers_ite ⟨_, rfl⟩ (answers_ite answers_needing ⟨_, rfl⟩)

end

section
variable (s : State)

/-! ### Rows with a shape of their own -/

theorem answers_kctRow (m : Nat) (p : Nat → Bool) (f : State → EthFrame → BaseHeader → Sealed → State) : Answers (kctRow m p f s) := by
  unfold kctRow
  split
  · exact ⟨_, rfl⟩
  · split
    · exact answers_needing
    · exact ⟨_, rfl⟩

theorem answers_serving (d : Nat) (f : Flight) (ok : Bool) (t : State) : Answers (serving d f ok s t) :=
  answers_ite ⟨_, rfl⟩ answers_needing

theorem answers_requestRow (t : Nat) (c : BitVec 12) (i : BitVec 24) (crc : Nat) : Answers (requestRow t c i crc s) := by
  unfold requestRow
  split
  · exact ⟨_, rfl⟩
  · exact answers_ite answers_guarded answers_needing

theorem answers_winCmd (x y : BitVec 80) (op : SramOp) (meet : Option SramMeet) : Answers (winCmd s x y op meet) :=
  answers_ite answers_guarded (answers_ite answers_guarded (answers_ite answers_guarded answers_commanding))

theorem answers_execHint (c : BitVec 12) (i : BitVec 24) (crc : Nat) : Answers (execHint c i crc s) := by
  unfold execHint
  split
  · exact ⟨_, rfl⟩
  · exact answers_ite answers_guarded (answers_ite answers_needing ⟨_, rfl⟩)

theorem answers_execDescriptorFetchDone (i : Nat) (e : ReadErrs) : Answers (execDescriptorFetchDone i e s) := by
  unfold execDescriptorFetchDone
  split
  · exact ⟨_, rfl⟩
  · exact answers_ite ⟨_, rfl⟩ (answers_ite ⟨_, rfl⟩ (answers_ite ⟨_, rfl⟩ (answers_serving ..)))

theorem answers_execMemoryWriteAccept (i n : Nat) (crc : Bool) : Answers (execMemoryWriteAccept i n crc s) := by
  unfold execMemoryWriteAccept
  split
  · exact ⟨_, rfl⟩
  · exact answers_ite ⟨_, rfl⟩ (answers_ite ⟨_, rfl⟩ (answers_ite ⟨_, rfl⟩ (answers_ite ⟨_, rfl⟩ (answers_ite ⟨_, rfl⟩
      (answers_ite ⟨_, rfl⟩ (answers_ite ⟨_, rfl⟩ (answers_ite ⟨_, rfl⟩ ⟨_, rfl⟩)))))))

theorem answers_execMemoryReadReturn (n b : Nat) (e : ReadErrs) (crc : Bool) : Answers (execMemoryReadReturn n b e crc s) := by
  unfold execMemoryReadReturn
  extract_lets x
  split
  · exact ⟨_, rfl⟩
  · refine answers_ite answers_guarded (answers_ite answers_guarded ?_)
    split
    · exact answers_guarded
    · exact answers_ite answers_guarded answers_needing

theorem answers_execLockTimeout (i : Nat) : Answers (execLockTimeout i s) := by
  unfold execLockTimeout
  split
  · exact ⟨_, rfl⟩
  · refine answers_ite ?_ answers_guarded
    split <;> exact ⟨_, rfl⟩

theorem answers_execHandshakeTimeout (w : HsRef) (k : Nat) (b : Bool) : Answers (execHandshakeTimeout w k b s) := by
  unfold execHandshakeTimeout
  dsimp only
  split <;> split <;> exact ⟨_, rfl⟩

theorem answers_execCompressDone (i k : Nat) (l : List Byte) (b crc : Bool) : Answers (execCompressDone i k l b crc s) := by
  unfold execCompressDone
  split
  · exact ⟨_, rfl⟩
  · exact answers_ite answers_needing ⟨_, rfl⟩

theorem answers_execDecompressDone (i k : Nat) (a b crc : Bool) : Answers (execDecompressDone i k a b crc s) := by
  unfold execDecompressDone
  split
  · exact ⟨_, rfl⟩
  · exact answers_ite answers_needing ⟨_, rfl⟩

theorem answers_execXtsUnitCheck (i k : Nat) (a b crc : Bool) : Answers (execXtsUnitCheck i k a b crc s) := by
  unfold execXtsUnitCheck
  split
  · exact ⟨_, rfl⟩
  · split
    · exact ⟨_, rfl⟩
    · exact answers_serving ..

theorem answers_execEvacData (a b : Nat) (l : List Byte) (x y z : Bool) (k : Nat) (u v w : Bool) (e : ReadErrs) :
    Answers (execEvacData a b l x y z k u v w e s) := by
  unfold execEvacData
  split
  · exact ⟨_, rfl⟩
  · refine answers_ite answers_guarded ?_
    split
    · exact answers_guarded
    · exact answers_ite answers_guarded (answers_ite answers_guarded (answers_ite answers_guarded (answers_ite answers_needing ⟨_, rfl⟩)))

theorem answers_execEchoRequest (m : Nat) : Answers (execEchoRequest m s) := by
  unfold execEchoRequest
  split
  · split
    · exact answers_ite ⟨_, rfl⟩ ⟨_, rfl⟩
    · exact ⟨_, rfl⟩
  · exact ⟨_, rfl⟩

/-! ### Every row -/

/-- Settles O4: whatever a row asks for, without it the device stays as it is, stalls its domain or refuses the command, each of them a
next state. That no command stops the device is log 171, what a row whose conditions do not hold leaves is logs 11 and 170. -/
theorem noCommandStops : Obligations.NoCommandStops := by
  intro c s
  change Answers (exec c s)
  cases c
  -- The row needs the domain of its unit.
  case regionInitDone | regionDisableDrained | regionReleased | dcFlushDone | scanPassEnd | moveStart | promoHoldExpire |
    floorLingerExpire | moverStop | thinningRun | stretchRebuildDone | regWindowBoundary | migrateTierPage |
    drainStandMove | thinStandMove | importOpen | evacSend | summaryReloadDone =>
    exact answers_needing
  case sessCtrlClose | sessCtrlSwitch | sgRead | sgAdd | sgRemove | sgClear | regionRead | regionCreate | regionModify |
    regionDisable | regionEnable | regionDestroy | grantRead | grantAdd | grantModify | grantRemove | descRead |
    descSetPin | descClearPin | dcFlush | tierPolCommit | tierStandCfgWrite | claneReturn | dlaneReturn | classDataWrite |
    classCommit | classUnload | classClearStage | dwkBurn | keySlotLoad | keySlotZeroise | keySlotRead | xtsEngineReturn |
    fpTargetWrite | dimmOff | cetClearSel | cetClearAll | mregCommit | mregEfficiencyWrite | sessShapeWrite | cshpWrite |
    gclCommit | ingSessCfgWrite | ingProfileRead | ingProfileWrite =>
    exact answers_commanding
  case msSaInstall | keyInstall => exact answers_commanding2
  case eraseRegionStep | resizeRegionStep => exact answers_ite answers_needing answers_needing
  case retireStep => exact answers_ite answers_needing (answers_ite answers_needing answers_needing)
  case winRead | winWrite | winAdd | winSwap | winSet | winClear => exact answers_winCmd ..
  -- It takes what waits, if anything does.
  case sessionOpenDeferred | hintPage | trackerFree | creditExpire | pageQueueAdvance | snpResp | holderSweepStart |
    holderSweepPage | holderSweepEnd | scanVisit | batchClose | batchWrite | classUnloadDone | gcmSegmentVerify |
    rekeyPage =>
    unfold exec
    simp only [execSessionOpenDeferred, execHintPage, execTrackerFree, execCreditExpire, execPageQueueAdvance,
      execSnpResp, execHolderSweepStart, execHolderSweepPage, execHolderSweepEnd, execScanVisit, execBatchClose,
      execBatchWrite, execClassUnloadDone, execGcmSegmentVerify, execRekeyPage]
    split
    · exact ⟨_, rfl⟩
    · exact answers_needing
  case moveCommit | demoteUnderstory | promoteCanopy =>
    unfold exec
    simp only [execMoveCommit, execDemoteUnderstory, execPromoteCanopy]
    split
    · exact ⟨_, rfl⟩
    · exact answers_ite answers_needing ⟨_, rfl⟩
  case cacheWayUnpinned | writeCommit =>
    unfold exec
    simp only [execCacheWayUnpinned, execWriteCommit]
    split
    · exact ⟨_, rfl⟩
    · exact answers_serving ..
  case warmSweepDescriptor | lastGaspErase | flashOpDone | opCommand | opError | bulkCompletion | entryQuiesced |
    entrySaved | entryDramDone | pointOfNoReturn | entryDone | scrubNowLine | evacAck | intLinkWriteAck | anTimeout |
    retransmitTimeout | snoopTimeout | egressQueueRoom | gclSwitch | alertWaitEnd | wheelSlot | bistRegionTest |
    profileWordProgrammed | feedSwitch | feedBreakEnd | feedOvervoltage | pllLockTimeout =>
    unfold exec
    simp only [execWarmSweepDescriptor, execLastGaspErase, execFlashOpDone, execOpCommand, execOpError,
      execBulkCompletion, execEntryQuiesced, execEntrySaved, execEntryDramDone, execPointOfNoReturn, execEntryDone,
      execScrubNowLine, execEvacAck, execIntLinkWriteAck, execAnTimeout, execRetransmitTimeout, execSnoopTimeout,
      execEgressQueueRoom, execGclSwitch, execAlertWaitEnd, execWheelSlot, execBistRegionTest, execProfileWordProgrammed,
      execFeedSwitch, execFeedBreakEnd, execFeedOvervoltage, execPllLockTimeout]
    split <;> exact ⟨_, rfl⟩
  case exitWave =>
    unfold exec
    simp only [execExitWave]
    split
    · exact ⟨_, rfl⟩
    · exact answers_ite answers_guarded answers_guarded
  case pfcReceive | arpRequest | neighborSolicitation | ptpMessage =>
    unfold exec
    simp only [execPfcReceive, execArpRequest, execNeighborSolicitation, execPtpMessage]
    split
    · split <;> exact ⟨_, rfl⟩
    · exact ⟨_, rfl⟩
  case echoRequest => exact answers_execEchoRequest ..
  case hello | segmentReceive | ackReceive | keepaliveReceive | nakReceive | closeReceive | helloAckReceive =>
    unfold exec
    simp only [execHello, execSegmentReceive, execAckReceive, execKeepaliveReceive, execNakReceive, execCloseReceive,
      execHelloAckReceive]
    exact answers_kctRow ..
  case readShared | readOwn | upgrade | readCurrent | writeThrough | writeBackDirty | evictClean | atomic | readBulk |
    writeBulk =>
    exact answers_requestRow ..
  case hint => exact answers_execHint ..
  case descriptorFetchDone => exact answers_execDescriptorFetchDone ..
  case memoryWriteAccept => exact answers_execMemoryWriteAccept ..
  case memoryReadReturn => exact answers_execMemoryReadReturn ..
  case lockTimeout => exact answers_execLockTimeout ..
  case handshakeTimeout => exact answers_execHandshakeTimeout ..
  case compressDone => exact answers_execCompressDone ..
  case decompressDone => exact answers_execDecompressDone ..
  case xtsUnitCheck => exact answers_execXtsUnitCheck ..
  case evacData => exact answers_execEvacData ..
  case warmReset => exact answers_ite answers_guarded answers_guarded
  -- It acts under its own guard alone.
  all_goals exact ⟨_, rfl⟩

end

end Sys2Proof.Machine
end

section
/-! SUPPORT. The guards of a unit whose domain is Up while no clock relocks, and a run of table writes. -/

namespace Sys2Proof.Machine

open Sys2Proof

section
variable {s : State} {d : Nat} (hrelock : s.thermal.relock = false) (hup : s.up d = true)
include hrelock hup

theorem needing_of_running (ok : Bool) (t : State) : needing d ok s t = guarded ok s t :=
  needing_up hup (State.coreStalled_of_locked hrelock d) ok t

theorem commanding_of_running (hd : d ≠ 0) (t : State) : commanding d true s t = .next t :=
  commanding_up hd hup (State.coreStalled_of_locked hrelock d) true t

theorem commanding_of_allowed (hd : d ≠ 0) {ok : Bool} (hok : ok = true) (t : State) : commanding d ok s t = .next t := by
  rw [hok, commanding_of_running hrelock hup hd]

end

/-- A read after `n` writes in a row from key `p` on. -/
theorem tabGet_foldl_tabSet {α : Type} [DecidableEq α] (d : Nat → α) (t : Tab α) (p n : Nat) (f : Nat → α) (j : Nat) :
    tabGet d ((List.range n).foldl (fun t i => tabSet d t (p + i) (f i)) t) j = if p ≤ j ∧ j < p + n then f (j - p) else tabGet d t j := by
  induction n with
  | zero => rw [if_neg (by omega)]; rfl
  | succ n ih =>
    rw [List.range_succ, List.foldl_append, List.foldl_cons, List.foldl_nil, tabGet_tabSet, ih]
    by_cases hj : j = p + n
    · rw [if_pos hj, if_pos (by omega), hj, Nat.add_sub_cancel_left]
    · rw [if_neg hj]
      exact if_congr (by omega) rfl rfl

end Sys2Proof.Machine
end

section
/-! Proofs about the lanes and classes of the compressor (12; R479, R488 to R490, R496, R779): one lemma for each outcome of a command. -/

namespace Sys2Proof.Machine

open Sys2Proof

/-! ### Classes -/

section
variable (s : State) (c code : Nat) (k : CmpClass)

@[simp] theorem State.classOf?_setClass_same : (s.setClass c k).classOf? c = k := tabGet_tabSet_same ..

theorem State.classOf?_setClass_ne {d : Nat} (hd : d ≠ c) : (s.setClass c k).classOf? d = s.classOf? d := tabGet_tabSet_ne _ _ _ hd

@[simp] theorem State.clsEnd_classOf? (d : Nat) : (s.clsEnd code).classOf? d = s.classOf? d := rfl

@[simp] theorem State.clsEnd_classes : (s.clsEnd code).cmp.classes = s.cmp.classes := rfl

@[simp] theorem State.clsEnd_clsCode : (s.clsEnd code).cmp.clsCode = code := rfl

@[simp] theorem State.clsEnd_reg (a : Nat) : (s.clsEnd code).reg a = s.reg a := rfl

@[simp] theorem State.clsEnd_evtSet (e i : Nat) : (s.clsEnd code).evtSet e i = s.evtSet e i := rfl

end

/-! ### What a Commit makes of a class (R489) -/

section
variable {s : State} {c : Nat} {codes dict : Option (List Byte)}

theorem State.commitClass_denied (h : c = 0 ∨ (s.classOf? c).loaded = true) :
    s.commitClass c codes dict = (s.raise 0x7005 (c * 256 + stAccessDenied), stAccessDenied) := if_pos h

theorem State.commitClass_outOfRange (h : ¬(c = 0 ∨ (s.classOf? c).loaded = true))
    (hparts : codes = none ∧ dict = none ∨ ∃ l, codes = some l ∧ codeTableOk l = false) :
    s.commitClass c codes dict = (s.raise 0x7005 (c * 256 + stOutOfRange), stOutOfRange) := by
  refine (if_neg h).trans ?_
  rcases hparts with ⟨rfl, rfl⟩ | ⟨l, rfl, hbad⟩
  · rfl
  · simp [hbad]

theorem State.commitClass_loads (h0 : c ≠ 0) (hempty : (s.classOf? c).loaded = false) (hsome : ¬(codes = none ∧ dict = none))
    (hgood : ∀ l, codes = some l → codeTableOk l = true) : s.commitClass c codes dict = (s.setClass c
      { s.classOf? c with loaded := true, codes := codes, dict := dict, crc := classCrc codes dict }, stOK) := by
  refine (if_neg (by simp [h0, hempty])).trans ((if_neg (by simpa using hsome)).trans (if_neg ?_))
  cases codes with
  | none => exact Bool.false_ne_true
  | some l => simp [hgood l rfl]

end

/-! ### The commands -/

section
variable {s : State} (hrelock : s.thermal.relock = false) (hup : s.up 9 = true)
include hrelock hup

theorem commanding_compressor (t : State) : commanding 9 true s t = .next t := commanding_of_running hrelock hup (by decide) t

theorem exec_claneReturn (v : Word) :
    exec (.claneReturn v) s = .next (s.setReg Reg.CMP_CLANE_OOS (s.reg Reg.CMP_CLANE_OOS &&& ~~~v)).wrote :=
  commanding_compressor hrelock hup _

theorem exec_dlaneReturn (v : Word) :
    exec (.dlaneReturn v) s = .next (s.setReg Reg.CMP_DLANE_OOS (s.reg Reg.CMP_DLANE_OOS &&& ~~~v)).wrote :=
  commanding_compressor hrelock hup _

theorem exec_classDataWrite_full {v : Word} (hfull : 4256 ≤ s.fld Reg.CMP_CLS_PTR 12 0) :
    exec (.classDataWrite v) s = .next (s.wrote stOutOfRange) :=
  (commanding_compressor hrelock hup _).trans (congrArg _ (if_pos hfull))

theorem classDataWrite_answers {v : Word} {p : Nat} (hp : s.fld Reg.CMP_CLS_PTR 12 0 = p) (hroom : p < 4256) :
    ∃ t, exec (.classDataWrite v) s = .next t ∧ t.reg Reg.CMP_CLS_PTR = BitVec.ofNat 32 (p + 4)
      ∧ (∀ i, i < 4 → tabGet (fun _ => 0) t.cmp.stage (p + i) = BitVec.ofNat 8 (v.toNat >>> (8 * i)))
      ∧ ∀ j, j < p ∨ p + 4 ≤ j → tabGet (fun _ => 0) t.cmp.stage j = tabGet (fun _ => 0) s.cmp.stage j := by
  subst hp
  refine ⟨_, (commanding_compressor hrelock hup _).trans (congrArg _ (if_neg hroom.not_ge)), State.reg_setReg_same ..,
    fun i hi => ?_, fun j hj => ?_⟩
  · refine (tabGet_foldl_tabSet ..).trans ((if_pos (by omega)).trans ?_)
    rw [Nat.add_sub_cancel_left]
  · exact (tabGet_foldl_tabSet ..).trans (if_neg (by omega))

theorem exec_classCommit (hidle : s.cmp.unloading = none) {c : Nat} (hc : c = s.fld Reg.CMP_CLS_SEL 3 0)
    {u : State} {code : Nat} (hu : s.commitClass c s.stagedParts.1 s.stagedParts.2 = (u, code)) :
    exec .classCommit s = .next (u.clsEnd code) := by
  subst hc
  have hgo : exec .classCommit s = .next ((s.commitClass (s.fld Reg.CMP_CLS_SEL 3 0) s.stagedParts.1 s.stagedParts.2).1.clsEnd
      (s.commitClass (s.fld Reg.CMP_CLS_SEL 3 0) s.stagedParts.1 s.stagedParts.2).2) :=
    (commanding_compressor hrelock hup _).trans (congrArg _ (if_neg (by simp [hidle])))
  rw [hgo, hu]

theorem classCommit_denied (hidle : s.cmp.unloading = none) {c : Nat} (hc : c = s.fld Reg.CMP_CLS_SEL 3 0)
    (h : c = 0 ∨ (s.classOf? c).loaded = true) : ∃ t, exec .classCommit s = .next t ∧ t.cmp.clsCode = stAccessDenied
      ∧ t.cmp.classes = s.cmp.classes ∧ t.evtSet 0x7005 0 = true :=
  ⟨_, exec_classCommit hrelock hup hidle hc (State.commitClass_denied h), rfl,
    by rw [State.clsEnd_classes, State.raise_cmp], State.raise_evtSet ..⟩

theorem classCommit_outOfRange (hidle : s.cmp.unloading = none) {c : Nat} (hc : c = s.fld Reg.CMP_CLS_SEL 3 0)
    (h : ¬(c = 0 ∨ (s.classOf? c).loaded = true))
    (hparts : s.stagedParts.1 = none ∧ s.stagedParts.2 = none ∨ ∃ l, s.stagedParts.1 = some l ∧ codeTableOk l = false) :
    ∃ t, exec .classCommit s = .next t ∧ t.cmp.clsCode = stOutOfRange ∧ t.cmp.classes = s.cmp.classes ∧ t.evtSet 0x7005 0 = true :=
  ⟨_, exec_classCommit hrelock hup hidle hc (State.commitClass_outOfRange h hparts), rfl,
    by rw [State.clsEnd_classes, State.raise_cmp], State.raise_evtSet ..⟩

theorem classCommit_loads (hidle : s.cmp.unloading = none) {c : Nat} (hc : c = s.fld Reg.CMP_CLS_SEL 3 0)
    (h0 : c ≠ 0) (hempty : (s.classOf? c).loaded = false) (hsome : ¬(s.stagedParts.1 = none ∧ s.stagedParts.2 = none))
    (hgood : ∀ l, s.stagedParts.1 = some l → codeTableOk l = true) : ∃ t, exec .classCommit s = .next t ∧ t.cmp.clsCode = stOK
      ∧ t.classOf? c = { s.classOf? c with loaded := true, codes := s.stagedParts.1, dict := s.stagedParts.2,
                                           crc := classCrc s.stagedParts.1 s.stagedParts.2 }
      ∧ ∀ d, d ≠ c → t.classOf? d = s.classOf? d :=
  ⟨_, exec_classCommit hrelock hup hidle hc (State.commitClass_loads h0 hempty hsome hgood), rfl, by simp,
    fun _ hd => (State.clsEnd_classOf? ..).trans (State.classOf?_setClass_ne _ _ _ hd)⟩

theorem exec_class_busy {c : Nat} (hbusy : s.cmp.unloading = some c) :
    ∀ k ∈ ([.classCommit, .classUnload, .classClearStage] : List Instr), exec k s = .next (s.wrote stAccessDenied) := by
  have hsome : s.cmp.unloading.isSome = true := by rw [hbusy]; rfl
  have hdenied (t : State) : commanding 9 true s (if s.cmp.unloading.isSome then s.wrote stAccessDenied else t)
      = .next (s.wrote stAccessDenied) := by rw [commanding_compressor hrelock hup, if_pos hsome]
  simp only [List.forall_mem_cons]
  exact ⟨hdenied _, hdenied _, hdenied _, fun _ h => nomatch h⟩

theorem exec_classUnload_zero (hidle : s.cmp.unloading = none) (h0 : s.fld Reg.CMP_CLS_SEL 3 0 = 0) :
    exec .classUnload s = .next (s.clsEnd stAccessDenied) :=
  (commanding_compressor hrelock hup _).trans (congrArg _ ((if_neg (by simp [hidle])).trans (if_pos h0)))

theorem exec_classUnload_starts {c : Nat} (hidle : s.cmp.unloading = none) (hc : s.fld Reg.CMP_CLS_SEL 3 0 = c) (h0 : c ≠ 0)
    (hloaded : (s.classOf? c).loaded = true) (hnamed : s.classNamed c = false) (hpages : (s.classOf? c).pages = 0) :
    exec .classUnload s = .next ({ s with cmp := { s.cmp with unloading := some c } } : State).wrote := by
  subst hc
  exact (commanding_compressor hrelock hup _).trans (congrArg _ ((if_neg (by simp [hidle])).trans ((if_neg h0).trans
    ((if_neg (by simp [hloaded])).trans (if_neg (by simp [hnamed, hpages]))))))

theorem exec_classUnloadDone {c : Nat} (hbusy : s.cmp.unloading = some c) (hfree : s.classInUse c = false) :
    exec .classUnloadDone s
      = .next (({ s.setClass c {} with cmp := { (s.setClass c {}).cmp with unloading := none } } : State).clsEnd stOK) := by
  change execClassUnloadDone s = _
  unfold execClassUnloadDone
  simp only [hbusy]
  rw [needing_of_running hrelock hup, hfree]
  rfl

theorem exec_classClearStage (hidle : s.cmp.unloading = none) : exec .classClearStage s
    = .next ((({ s with cmp := { s.cmp with stage := [] } } : State).setReg Reg.CMP_CLS_PTR 0).clsEnd stOK) :=
  (commanding_compressor hrelock hup _).trans (congrArg _ (if_neg (by simp [hidle])))

end

/-! ### The obligations -/

/-- Settles O46, one command after another. -/
theorem compressionClassCommands : Obligations.CompressionClassCommands := by
  intro s hrelock hup
  refine ⟨fun v => ⟨_, exec_claneReturn hrelock hup v, State.reg_setReg_same .., fun a ha => State.reg_setReg_ne _ _ ha⟩,
    fun v => ⟨_, exec_dlaneReturn hrelock hup v, State.reg_setReg_same .., fun a ha => State.reg_setReg_ne _ _ ha⟩,
    fun v hfull => exec_classDataWrite_full hrelock hup hfull,
    fun v hroom => classDataWrite_answers hrelock hup rfl hroom,
    fun hidle h0 => classCommit_denied hrelock hup hidle rfl (.inl h0), ?commit,
    fun c hbusy => exec_class_busy hrelock hup hbusy,
    fun hidle h0 => exec_classUnload_zero hrelock hup hidle h0,
    fun hidle h0 hloaded hnamed hpages => ⟨_, exec_classUnload_starts hrelock hup hidle rfl h0 hloaded hnamed hpages, rfl⟩,
    fun c hbusy hfree => ⟨_, exec_classUnloadDone hrelock hup hbusy hfree, rfl,
      (State.clsEnd_classOf? ..).trans (s.classOf?_setClass_same c {}), rfl⟩,
    fun hidle => ⟨_, exec_classClearStage hrelock hup hidle, rfl, (State.clsEnd_reg ..).trans (State.reg_setReg_same ..)⟩⟩
  case commit =>
    intro codes dict hidle h0 hempty hparts htable
    obtain ⟨t, hexec, hcode, hclass, -⟩ := classCommit_loads hrelock hup hidle rfl h0 hempty (by simp [hparts])
      (by simpa [hparts] using htable)
    exact ⟨t, hexec, hcode, by rw [hclass], by rw [hclass, hparts], by rw [hclass, hparts]⟩

/-- Settles O58, by what a Commit makes of the class that it selects. -/
theorem classCommitLoadsOrRefuses : Obligations.ClassCommitLoadsOrRefuses := by
  intro s c hrelock hup hidle hc
  have hnone : s.stagedParts = (none, none) ↔ s.stagedParts.1 = none ∧ s.stagedParts.2 = none := Prod.ext_iff
  constructor
  · intro hrefused
    by_cases hdenied : c = 0 ∨ (s.classOf? c).loaded = true
    · obtain ⟨t, hexec, hcode, hclasses, hevt⟩ := classCommit_denied hrelock hup hidle hc hdenied
      exact ⟨t, hexec, hclasses, hevt, .inl ⟨hcode, hdenied⟩⟩
    · have hparts : s.stagedParts = (none, none) ∨ ∃ l, s.stagedParts.1 = some l ∧ codeTableOk l = false := by tauto
      obtain ⟨t, hexec, hcode, hclasses, hevt⟩ := classCommit_outOfRange hrelock hup hidle hc hdenied (hparts.imp_left hnone.mp)
      exact ⟨t, hexec, hclasses, hevt, .inr ⟨hcode, hparts⟩⟩
  · intro h0 hempty hsome hgood
    obtain ⟨t, hexec, hcode, hclass, hother⟩ := classCommit_loads hrelock hup hidle hc h0 hempty (mt hnone.mpr hsome) hgood
    exact ⟨t, hexec, hcode, by rw [hclass], by rw [hclass], by rw [hclass], by rw [hclass]; rfl, hother⟩

end Sys2Proof.Machine
end

section
/-! Proofs about relocation, resizing and retirement (11, 21; R449 to R451, R750 to R753): one lemma for each outcome of a command. An agent
that has its page's descriptor does what the command says of such a page; the lemmas about thinning and draining say so of the pages
that stay where they are. -/

namespace Sys2Proof.Machine

open Sys2Proof

section
variable {s : State} {p r g : Nat} {e : ReadErrs} (hrelock : s.thermal.relock = false) (hup : s.up 8 = true)
include hrelock hup

theorem needing_mover {ok : Bool} (hok : ok = true) (t : State) : needing 8 ok s t = .next t :=
  (needing_of_running hrelock hup ok t).trans (guarded_of hok s t)

/-! ### Thinning and draining (R449 to R451) -/

theorem thinningRun_answers (hon : s.thinOn = true) (hpin : s.dcPinned r g = false) (hmove : s.moveOf r g = none) :
    ∃ t go, exec (.thinningRun r g [e]) s = .next t ∧ t = s.agent agentMover r g 3 e go (fun t _ => t)
      ∧ ∀ u d, Desc.movable d = false → go u d = u := by
  refine ⟨_, _, needing_mover hrelock hup (by simp [hon, hpin, hmove]) _, rfl, fun u d hstays => ?_⟩
  dsimp only
  split
  · rfl
  · exact if_pos (by simp [hstays])

theorem thinStandMove_answers (hworks : (s.opSlot p).working opThin = true) (hbrace : s.boot.brace = false)
    (hdrain : s.boot.draining = false) (hpin : s.dcPinned r g = false) (hmove : s.moveOf r g = none) :
    ∃ t go, exec (.thinStandMove p r g [e]) s = .next t ∧ t = s.agent agentMover r g 3 e go (fun t _ => t)
      ∧ ∀ u d, Desc.movable d = false → go u d = u :=
  ⟨_, _, needing_mover hrelock hup (by simp [hworks, hbrace, hdrain, hpin, hmove]) _, rfl, fun u d hstays => if_pos (by simp [hstays])⟩

theorem drainStandMove_answers {k : Nat} (hk : k = bits (s.opSlot p).arg0.toNat 2 0) (hworks : (s.opSlot p).working opDrain = true)
    (hon : s.moverOn = true) (hpin : s.dcPinned r g = false) (hmove : s.moveOf r g = none) :
    ∃ t go, exec (.drainStandMove p r g [e]) s = .next t ∧ t = s.agent agentMover r g 3 e go (fun t _ => t)
      ∧ (∀ u d, Desc.movable d = false → go u d = u) ∧ (∀ u d, slotStand (Desc.priSlot d) ≠ k → go u d = u)
      ∧ ∀ u d, Desc.movable d = true → Desc.poison d = false → slotStand (Desc.priSlot d) = k →
        State.bestStand u (fun j => j != k && u.role j == u.role k && decide (d.slotsHeld ≤ u.freeOf j)) = none →
        go u d = u.opFail p rcNoSpace 0 := by
  subst hk
  refine ⟨_, _, needing_mover hrelock hup (by simp [hworks, hon, hpin, hmove]) _, rfl, fun u d hstays => if_pos (by simp [hstays]),
    fun u d helse => if_pos (by simp [helse]), fun u d hmovable hsound hhere hfull => ?_⟩
  rw [if_neg (by simp [hmovable, hsound, hhere]), hfull]

/-! ### Migration (R751) -/

theorem exec_migrateTierPage (hworks : (s.opSlot p).working opMigrate = true) (hon : s.moverOn = true)
    (hmore : (s.opSlot p).cursor < s.migrateCount (s.opSlot p))
    (hpin : s.dcPinned (s.opSlot p).region ((s.opSlot p).migrateFirst + (s.opSlot p).cursor) = false)
    (hmove : s.moveOf (s.opSlot p).region ((s.opSlot p).migrateFirst + (s.opSlot p).cursor) = none) :
    exec (.migrateTierPage p [e]) s = .next (s.agent agentMover (s.opSlot p).region ((s.opSlot p).migrateFirst + (s.opSlot p).cursor) 3 e
      (fun t d => t.migrateStep p (s.opSlot p).region ((s.opSlot p).migrateFirst + (s.opSlot p).cursor)
        (bits (s.opSlot p).arg0.toNat 19 16) d []) (fun t _ => t.migrateNext p 0)) :=
  needing_mover hrelock hup (by simp [hworks, hon, hmore, hpin, hmove]) _

/-! ### Resizing (R752) -/

section
variable {n : Nat} (hn : n = (s.region (s.opSlot p).region).pageCount) (hworks : (s.opSlot p).working opResize = true)
  (hbegun : (s.opSlot p).begun = true) (hmore : (s.opSlot p).cursor < (s.opSlot p).total) (hbrace : s.boot.brace = false)
  (hdrain : s.boot.draining = false)
include hn hworks hbegun hmore hbrace hdrain

theorem exec_resizeRegionStep_shrink (hshrink : (s.opSlot p).newCount < n) (hfree : s.tracked (s.opSlot p).region (n - 1) = false) :
    exec (.resizeRegionStep p e) s = .next (s.agent (agentOp p) (s.opSlot p).region (n - 1) 11 e (fun t d => t.shrinkOne p (n - 1) d)
      (fun t _ => t.shrinkOne p (n - 1) {})) := by
  subst hn
  exact (if_pos hshrink).trans (needing_mover hrelock hup (by simp [hworks, hbegun, hmore, hbrace, hdrain, hfree]) _)

theorem exec_resizeRegionStep_beyond (hgrow : n ≤ (s.opSlot p).newCount) (hbeyond : 2048 * descPlots n < (s.opSlot p).newCount)
    (hopen : s.memoryOpen (slotStand (s.region (s.opSlot p).region).descBase) = true) :
    exec (.resizeRegionStep p e) s = .next (s.growBeyond p) := by
  subst hn
  refine (if_neg hgrow.not_gt).trans ((needing_mover hrelock hup (by simp [hworks, hbegun, hmore, hbrace, hdrain, hopen]) _).trans ?_)
  exact congrArg _ (if_neg hbeyond.not_ge)

end

/-! ### Retirement (R753) -/

section
variable (hworks : (s.opSlot p).working opRetire = true) (hbegun : (s.opSlot p).begun = true) (hbrace : s.boot.brace = false)
  (hdrain : s.boot.draining = false)
include hworks hbegun hbrace hdrain

theorem exec_retireStep_entry (hkind : (s.opSlot p).kind ≠ 2) (hfirst : (s.opSlot p).cursor = 0) :
    exec (.retireStep p r g [e]) s = .next (s.retireEntry p) :=
  (if_neg hkind).trans ((if_pos hfirst).trans (needing_mover hrelock hup (by simp [hworks, hbegun, hbrace, hdrain]) _))

theorem exec_retireStep_sram (hkind : (s.opSlot p).kind = 2) (hfirst : (s.opSlot p).cursor = 0)
    (hbank : s.up (29 + bankGroup (s.opSlot p).sramRegion.1) = true) : exec (.retireStep p r g [e]) s = .next (s.retireSram p) :=
  (if_pos hkind).trans ((needing_of_running hrelock hbank _ _).trans
    (guarded_of (by simp [hup, hworks, hbegun, hbrace, hdrain, hfirst]) _ _))

theorem exec_retireStep_page (hkind : (s.opSlot p).kind ≠ 2) (hlater : (s.opSlot p).cursor ≠ 0) (hon : s.moverOn = true)
    (hpin : s.dcPinned r g = false) (hmove : s.moveOf r g = none) : exec (.retireStep p r g [e]) s
      = .next (s.agent agentMover r g 3 e (fun t d => t.retireMove p r g d []) (fun t _ => t)) :=
  (if_neg hkind).trans ((if_neg hlater).trans
    (needing_mover hrelock hup (by simp [hworks, hbegun, hbrace, hdrain, hon, hpin, hmove]) _))

end

end

/-! ### The obligation -/

/-- Settles O56, one command after another. -/
theorem relocationAndResizeCommands : Obligations.RelocationAndResizeCommands := by
  intro s p r g e hrelock hup hbrace hdrain
  exact ⟨fun hon hpin hmove => thinningRun_answers hrelock hup hon hpin hmove,
    fun k hk hworks hon hpin hmove => drainStandMove_answers hrelock hup hk hworks hon hpin hmove,
    fun hworks hpin hmove => thinStandMove_answers hrelock hup hworks hbrace hdrain hpin hmove,
    fun hworks hon hmore hpin hmove => exec_migrateTierPage hrelock hup hworks hon hmore hpin hmove,
    fun n hn hworks hbegun hmore hshrink hfree =>
      exec_resizeRegionStep_shrink hrelock hup hn hworks hbegun hmore hbrace hdrain hshrink hfree,
    fun n hn hworks hbegun hmore hgrow hbeyond hopen =>
      exec_resizeRegionStep_beyond hrelock hup hn hworks hbegun hmore hbrace hdrain hgrow hbeyond hopen,
    fun hworks hbegun hkind hfirst => exec_retireStep_entry hrelock hup hworks hbegun hbrace hdrain hkind hfirst,
    fun hworks hbegun hkind hfirst hbank => exec_retireStep_sram hrelock hup hworks hbegun hbrace hdrain hkind hfirst hbank,
    fun hworks hbegun hkind hlater hon hpin hmove =>
      exec_retireStep_page hrelock hup hworks hbegun hbrace hdrain hkind hlater hon hpin hmove⟩

end Sys2Proof.Machine
end

section
/-! Proofs about the wrap key, the key slots, the engines, rekey and erase (13; R498, R500, R503, R504, R514, R519, R523): what the end of a
key slot command shows, and one lemma for each outcome of a command. -/

namespace Sys2Proof.Machine

open Sys2Proof

/-! ### Key slots and the window's registers (R502, R503) -/

section
variable (s : State) (k code : Nat)

@[simp] theorem State.keySlot_setKeySlot_same (v : KeySlot) : (s.setKeySlot k v).keySlot k = v := tabGet_tabSet_same ..

theorem State.keySlot_congr {t : State} (h : t.cry = s.cry) : t.keySlot k = s.keySlot k := by rw [State.keySlot, h, State.keySlot]

theorem State.ksEnd_eq : ∃ st, s.ksEnd k code = (((s.setReg Reg.CRY_KS_STATE st).setReg Reg.CRY_KS_KCV
    (BitVec.ofNat 32 (s.keySlot k).kcv)).setReg Reg.CRY_KS_STATUS (BitVec.ofNat 32 code)).wrote := ⟨_, rfl⟩

@[simp] theorem State.ksEnd_cry : (s.ksEnd k code).cry = s.cry := by
  obtain ⟨st, h⟩ := s.ksEnd_eq k code
  rw [h]
  rfl

@[simp] theorem State.ksEnd_status : (s.ksEnd k code).reg Reg.CRY_KS_STATUS = BitVec.ofNat 32 code := by
  obtain ⟨st, h⟩ := s.ksEnd_eq k code
  rw [h, State.wrote_reg, State.reg_setReg_same]

theorem State.ksEnd_kcv : (s.ksEnd k code).reg Reg.CRY_KS_KCV = BitVec.ofNat 32 (s.keySlot k).kcv := by
  obtain ⟨st, h⟩ := s.ksEnd_eq k code
  rw [h, State.wrote_reg, State.reg_setReg_ne _ _ (by decide), State.reg_setReg_same]

theorem State.ksEnd_stage (w : Nat) : (s.ksEnd k code).reg (Reg.CRY_KS_STAGE w) = s.reg (Reg.CRY_KS_STAGE w) := by
  have hstatus : Reg.CRY_KS_STAGE w ≠ Reg.CRY_KS_STATUS := by dsimp only [Reg.CRY_KS_STAGE, Reg.CRY_KS_STATUS]; omega
  have hstate : Reg.CRY_KS_STAGE w ≠ Reg.CRY_KS_STATE := by dsimp only [Reg.CRY_KS_STAGE, Reg.CRY_KS_STATE]; omega
  have hkcv : Reg.CRY_KS_STAGE w ≠ Reg.CRY_KS_KCV := by dsimp only [Reg.CRY_KS_STAGE, Reg.CRY_KS_KCV]; omega
  obtain ⟨st, h⟩ := s.ksEnd_eq k code
  rw [h, State.wrote_reg, State.reg_setReg_ne _ _ hstatus, State.reg_setReg_ne _ _ hkcv, State.reg_setReg_ne _ _ hstate]

theorem State.ksEnd_evtSet (e i : Nat) : (s.ksEnd k code).evtSet e i = s.evtSet e i := by
  obtain ⟨st, h⟩ := s.ksEnd_eq k code
  rw [h, State.wrote_evtSet, State.evtSet_setReg_body _ _ (by decide), State.evtSet_setReg_body _ _ (by decide),
    State.evtSet_setReg_body _ _ (by decide)]

@[simp] theorem State.clearStage_cry : s.clearStage.cry = s.cry :=
  State.foldl_keeps (f := fun t w => t.setReg (Reg.CRY_KS_STAGE w) 0) State.cry (fun _ _ => rfl) _ s

@[simp] theorem State.clearProv_cry : s.clearProv.cry = s.cry :=
  State.foldl_keeps (f := fun t w => t.setReg (Reg.CRY_DWK_PROV w) 0) State.cry (fun _ _ => rfl) _ s

theorem State.clearStage_stage {w : Nat} (hw : w < 18) : s.clearStage.reg (Reg.CRY_KS_STAGE w) = 0 := by
  refine foldl_establishes (f := fun t w => t.setReg (Reg.CRY_KS_STAGE w) 0) (P := fun t => t.reg (Reg.CRY_KS_STAGE w) = 0)
    (fun t v h => ?_) (fun t => State.reg_setReg_same ..) (List.mem_range.mpr hw) s
  rw [State.reg_setReg]
  split
  · rfl
  · exact h

theorem State.zeroise_cry : (s.zeroise k).cry = (s.setKeySlot k {}).cry := by
  rw [State.zeroise, State.raise_cry]
  rfl

end

section
variable {s : State} (hrelock : s.thermal.relock = false) (hup : s.up 11 = true)
include hrelock hup

theorem commanding_crypto (t : State) : commanding 11 true s t = .next t := commanding_of_running hrelock hup (by decide) t

/-! ### The wrap key (R498) -/

theorem exec_dwkBurn {v : Word} (hv : bit v.toNat 0 = true) : exec (.dwkBurn v) s = .next
    (if s.cry.provisioned || s.cry.burning || !s.unlocked then s.wrote stAccessDenied
     else ({ s with cry := { s.cry with fuseF := s.provKey ^^^ Config.pufValue, burning := true } } : State).wrote) := by
  change commanding 11 (bit v.toNat 0) s _ = _
  rw [hv, commanding_crypto hrelock hup]

omit hrelock in
theorem dwkProvisioned_answers (hburn : s.cry.burning = true) : ∃ t, exec .dwkProvisioned s = .next t ∧ t.cry.provisioned = true
    ∧ t.cry.valid = true ∧ t.evtSet 0x8009 0 = true ∧ t.cry.slots = s.cry.slots := by
  have hcry := (State.raise_cry ({ s with cry := { s.cry with burning := false, provisioned := true, valid := true } } : State).clearProv
    0x8009 0 0).trans (State.clearProv_cry _)
  refine ⟨_, guarded_of (by rw [hup, hburn]; rfl) _ _, ?_, ?_, State.raise_evtSet .., ?_⟩ <;> rw [hcry]

/-! ### Loading (R500, R503) -/

theorem exec_keySlotLoad_loaded (hloaded : (s.keySlot (s.fld Reg.CRY_KS_SEL 11 0)).loaded = true) :
    exec .keySlotLoad s = .next (s.clearStage.ksEnd (s.fld Reg.CRY_KS_SEL 11 0) stAccessDenied) :=
  (commanding_crypto hrelock hup _).trans (congrArg _ (if_pos hloaded))

section
variable {u : State} (hempty : (s.keySlot (s.fld Reg.CRY_KS_SEL 11 0)).loaded = false)
include hempty

theorem exec_keySlotLoad_unauthentic (hunwrap : s.unwrap (s.stageBytes (Reg.CRY_KS_STAGE 0) 18) = (u, none)) :
    exec .keySlotLoad s = .next (u.clearStage.ksEnd (s.fld Reg.CRY_KS_SEL 11 0) stAuthFail) := by
  refine (commanding_crypto hrelock hup _).trans (congrArg _ ((if_neg (by simp [hempty])).trans ?_))
  rw [hunwrap]

theorem exec_keySlotLoad_equal {p : List Byte} (hunwrap : s.unwrap (s.stageBytes (Reg.CRY_KS_STAGE 0) 18) = (u, some p))
    (heq : keyOf (p.take 32) = keyOf (p.drop 32)) :
    exec .keySlotLoad s = .next (u.clearStage.ksEnd (s.fld Reg.CRY_KS_SEL 11 0) stOutOfRange) := by
  refine (commanding_crypto hrelock hup _).trans (congrArg _ ((if_neg (by simp [hempty])).trans ?_))
  rw [hunwrap]
  exact if_pos heq

theorem exec_keySlotLoad_loads {p : List Byte} (hunwrap : s.unwrap (s.stageBytes (Reg.CRY_KS_STAGE 0) 18) = (u, some p))
    (hne : keyOf (p.take 32) ≠ keyOf (p.drop 32)) {k : Nat} (hk : s.fld Reg.CRY_KS_SEL 11 0 = k) : exec .keySlotLoad s = .next
      (((u.setKeySlot k
        { loaded := true, k1 := keyOf (p.take 32), k2 := keyOf (p.drop 32), kcv := keyCheck (keyOf (p.take 32)) }).clearStage.raise
        0x8005 (k * 2 ^ 32 + keyCheck (keyOf (p.take 32)))).ksEnd k stOK) := by
  subst hk
  refine (commanding_crypto hrelock hup _).trans (congrArg _ ((if_neg (by simp [hempty])).trans ?_))
  rw [hunwrap]
  exact if_neg hne

theorem keySlotLoad_loads_answers {p : List Byte} (hunwrap : s.unwrap (s.stageBytes (Reg.CRY_KS_STAGE 0) 18) = (u, some p))
    (hne : keyOf (p.take 32) ≠ keyOf (p.drop 32)) : ∃ t, exec .keySlotLoad s = .next t
      ∧ t.keySlot (s.fld Reg.CRY_KS_SEL 11 0)
        = { loaded := true, k1 := keyOf (p.take 32), k2 := keyOf (p.drop 32), kcv := keyCheck (keyOf (p.take 32)) }
      ∧ t.evtSet 0x8005 0 = true ∧ t.reg Reg.CRY_KS_STATUS = 0 := by
  refine ⟨_, exec_keySlotLoad_loads hrelock hup hempty hunwrap hne rfl, ?_, ?_, State.ksEnd_status ..⟩
  · rw [State.keySlot_congr _ _ ((State.ksEnd_cry ..).trans ((State.raise_cry ..).trans (State.clearStage_cry _))),
      State.keySlot_setKeySlot_same]
  · rw [State.ksEnd_evtSet, State.raise_evtSet]

end

/-! ### Zeroising and reading (R503, R504) -/

theorem exec_keySlotZeroise_used (hrefs : s.keyRefs (s.fld Reg.CRY_KS_SEL 11 0) ≠ 0) :
    exec .keySlotZeroise s = .next (s.ksEnd (s.fld Reg.CRY_KS_SEL 11 0) stAccessDenied) :=
  (commanding_crypto hrelock hup _).trans (congrArg _ (if_pos (by simp [hrefs])))

theorem exec_keySlotZeroise_free (hrefs : s.keyRefs (s.fld Reg.CRY_KS_SEL 11 0) = 0)
    (hheld : s.rekeyHeld (s.fld Reg.CRY_KS_SEL 11 0) = false) : exec .keySlotZeroise s
      = .next ((s.zeroise (s.fld Reg.CRY_KS_SEL 11 0)).ksEnd (s.fld Reg.CRY_KS_SEL 11 0) stOK) :=
  (commanding_crypto hrelock hup _).trans (congrArg _ (if_neg (by simp [hrefs, hheld])))

theorem exec_keySlotRead : exec .keySlotRead s = .next (s.ksEnd (s.fld Reg.CRY_KS_SEL 11 0) stOK) :=
  commanding_crypto hrelock hup _

/-! ### Engines (R514) -/

theorem exec_xtsEngineReturn (v : Word) : exec (.xtsEngineReturn false v) s
    = .next (s.setReg Reg.CRY_XTS_OOS (s.reg Reg.CRY_XTS_OOS &&& ~~~v)).wrote := commanding_crypto hrelock hup _

theorem exec_gcmEngineReturn (v : Word) : exec (.xtsEngineReturn true v) s
    = .next (s.setReg Reg.CRY_GCM_OOS (s.reg Reg.CRY_GCM_OOS &&& ~~~v)).wrote := commanding_crypto hrelock hup _

/-! ### Rekey and erase (R519, R523) -/

theorem rekeyPage_answers {n k rec : Nat} {e : ReadErrs} {v : RekeyRec} (hrec : s.rekeyOf (s.opSlot n).region = some (rec, v))
    (hworks : (s.opSlot n).working opRekey = true) (hmore : v.mark < (s.region (s.opSlot n).region).pageCount)
    (hbrace : s.boot.brace = false) (hdrain : s.boot.draining = false) (hfree : s.tracked (s.opSlot n).region v.mark = false)
    (hengine : s.engineFree k = true) : ∃ t go, exec (.rekeyPage n k true false [e]) s = .next t
      ∧ t = s.agent (agentOp n) (s.opSlot n).region v.mark 3 e go (fun t _ => t.rekeyNext n rec 1 0)
      ∧ ∀ u d, Desc.stored d = false → go u d = State.rekeyNext u n rec 0 0 := by
  change ∃ t go, execRekeyPage n k true false [e] s = .next t ∧ _
  unfold execRekeyPage
  simp only [hrec]
  refine ⟨_, _, (needing_of_running hrelock hup _ _).trans (guarded_of (by simp [hworks, hmore, hbrace, hdrain, hfree, hengine]) _ _), rfl,
    fun u d hnot => if_pos (by simp [hnot])⟩

theorem exec_eraseRegionStep_first {n : Nat} {e : ReadErrs} (hfirst : (s.opSlot n).cursor = 0)
    (hworks : (s.opSlot n).working opErase = true) (hidle : s.regionInCrypto (s.opSlot n).region = false) :
    exec (.eraseRegionStep n e) s = .next ((s.eraseKeys (s.opSlot n).region).setOp n { s.opSlot n with cursor := 1 }) :=
  (if_pos hfirst).trans ((needing_of_running hrelock hup _ _).trans (guarded_of (by simp [hworks, hidle]) _ _))

end

/-! ### The obligation -/

/-- Settles O47, one command after another. -/
theorem keySlotAndEraseCommands : Obligations.KeySlotAndEraseCommands := by
  intro s hrelock hup
  refine ⟨fun v hv hprov => (exec_dwkBurn hrelock hup hv).trans (congrArg _ (if_pos (by simp [hprov]))),
    fun v hv hprov hburn hopen => (exec_dwkBurn hrelock hup hv).trans (congrArg _ (if_neg (by simp [hprov, hburn, hopen]))),
    fun hburn => dwkProvisioned_answers hup hburn,
    fun hloaded => ⟨_, exec_keySlotLoad_loaded hrelock hup hloaded, (State.ksEnd_cry ..).trans (State.clearStage_cry s),
      State.ksEnd_status .., fun w hw => ?stage⟩,
    fun u hempty hunwrap =>
      ⟨_, exec_keySlotLoad_unauthentic hrelock hup hempty hunwrap, (State.ksEnd_cry ..).trans (State.clearStage_cry u),
        State.ksEnd_status ..⟩,
    fun u p hempty hunwrap heq =>
      ⟨_, exec_keySlotLoad_equal hrelock hup hempty hunwrap heq, (State.ksEnd_cry ..).trans (State.clearStage_cry u),
        State.ksEnd_status ..⟩,
    fun u p hempty hunwrap hne => keySlotLoad_loads_answers hrelock hup hempty hunwrap hne,
    fun hrefs => ⟨_, exec_keySlotZeroise_used hrelock hup hrefs, State.ksEnd_cry .., State.ksEnd_status ..⟩,
    fun hrefs hheld => ⟨_, exec_keySlotZeroise_free hrelock hup hrefs hheld, ?zeroised, ?raised⟩,
    ⟨_, exec_keySlotRead hrelock hup, State.ksEnd_cry .., State.ksEnd_status .., State.ksEnd_kcv ..⟩,
    fun v => ⟨_, exec_xtsEngineReturn hrelock hup v, State.reg_setReg_same .., State.reg_setReg_ne _ _ (by decide)⟩,
    fun v => ⟨_, exec_gcmEngineReturn hrelock hup v, State.reg_setReg_same .., State.reg_setReg_ne _ _ (by decide)⟩,
    fun n k e rec v hrec hworks hmore hbrace hdrain hfree hengine =>
      rekeyPage_answers hrelock hup hrec hworks hmore hbrace hdrain hfree hengine,
    fun n e hfirst hworks hidle => exec_eraseRegionStep_first hrelock hup hfirst hworks hidle⟩
  case stage => rw [State.ksEnd_stage, State.clearStage_stage _ hw]
  case zeroised => rw [State.keySlot_congr _ _ ((State.ksEnd_cry ..).trans (State.zeroise_cry ..)), State.keySlot_setKeySlot_same]
  case raised => rw [State.ksEnd_evtSet, State.zeroise, State.raise_evtSet]

end Sys2Proof.Machine
end

section
/-! SUPPORT. Channels, subchannels and ranks (14): what a read of each returns after a write. -/

namespace Sys2Proof.Machine

open Sys2Proof

section
variable (s : State) (n : Nat)

theorem State.chan_setChan_ne {m : Nat} (hm : m ≠ n) (v : Chan) : (s.setChan n v).chan m = s.chan m := tabGet_tabSet_ne _ _ _ hm

theorem State.chan_congr {s t : State} (h : t.dram = s.dram) (m : Nat) : t.chan m = s.chan m := by rw [State.chan, h, State.chan]

theorem State.rank_congr {s t : State} (h : t.dram = s.dram) (m r : Nat) : t.rank m r = s.rank m r := by
  rw [State.rank, State.chan_congr h, State.rank]

@[simp] theorem State.setChan_bytes (v : Chan) : (s.setChan n v).dram.bytes = s.dram.bytes := rfl

@[simp] theorem State.setChan_evtSet (v : Chan) (c i : Nat) : (s.setChan n v).evtSet c i = s.evtSet c i := rfl

@[simp] theorem State.sub_setSub_same {b : Nat} (v : SubChan) : (s.setSub n b v).sub n b = v := by
  rw [State.sub, State.setSub, State.chan_setChan_same]
  split <;> rfl

@[simp] theorem State.setSub_bytes (b : Nat) (v : SubChan) : (s.setSub n b v).dram.bytes = s.dram.bytes := rfl

theorem State.chan_setRank (r : Nat) (v : Rank) :
    (s.setRank n r v).chan n = { s.chan n with ranks := tabSet (fun _ => {}) (s.chan n).ranks r v } := State.chan_setChan_same ..

@[simp] theorem State.rank_setRank_same (r : Nat) (v : Rank) : (s.setRank n r v).rank n r = v := by
  rw [State.rank, State.chan_setRank, tabGet_tabSet_same]

theorem State.rank_setRank_ne {r k : Nat} (hk : k ≠ r) (v : Rank) : (s.setRank n r v).rank n k = s.rank n k := by
  rw [State.rank, State.chan_setRank, tabGet_tabSet_ne _ _ _ hk, State.rank]

@[simp] theorem State.drcCount_dram (k : Nat) : (s.drcCount n k).dram = s.dram := rfl

end

/-! ### The first entry that satisfies a test -/

section
variable {α : Type} {p : α → Bool} (f : α → α)

theorem length_updFirst (l : List α) : (updFirst p f l).length = l.length := by
  induction l with
  | nil => rfl
  | cons x r ih =>
    rw [updFirst]
    split
    · rfl
    · rw [List.length_cons, ih, List.length_cons]

theorem mem_updFirst {l : List α} (h : l.any p = true) : ∃ x, p x = true ∧ f x ∈ updFirst p f l := by
  induction l with
  | nil => exact nomatch h
  | cons y r ih =>
    rw [updFirst]
    split
    · exact ⟨y, ‹_›, List.mem_cons_self⟩
    · rename_i hy
      rw [List.any_cons, Bool.eq_false_of_not_eq_true hy, Bool.false_or] at h
      obtain ⟨x, hx, hmem⟩ := ih h
      exact ⟨x, hx, List.mem_cons_of_mem y hmem⟩

end

end Sys2Proof.Machine
end

section
/-! Proofs about the commands of a DRAM channel (14; R536, R537, R540, R543, R545, R553, R554): one lemma for each outcome of a command. -/

namespace Sys2Proof.Machine

open Sys2Proof

section
variable {s : State} {n : Nat}

theorem State.chan_ready_of_runs (hruns : s.chanRuns n = true) : (s.chan n).state = .ready := by
  simp only [State.chanRuns, Bool.and_eq_true, beq_iff_eq] at hruns
  exact hruns.1.1

/-! ### Issuing, ageing and idle rows (R536, R537, R540) -/

theorem exec_dramCommandIssue {b : Nat} (hruns : s.chanRuns n = true) (hb : b < 2) (k : Nat) : exec (.dramCommandIssue n b k) s
    = .next (match ((s.drainUpdate n b).work n b)[k]? with
      | some w => ((s.drainUpdate n b).issue n b w).pump n
      | none => s.drainUpdate n b) :=
  (guarded_of (by simp [hruns, hb]) s _).trans rfl

theorem entryAged_answers {la : Nat} {e : Entry} (hruns : s.chanRuns n = true) (hmem : e ∈ (s.sub n 0).queue) (hla : e.la = la)
    (hyoung : e.aged = false) : ∃ t, exec (.entryAged n 0 la) s = .next t ∧ (t.sub n 0).queue.length = (s.sub n 0).queue.length
      ∧ (∃ x ∈ (t.sub n 0).queue, x.la = la ∧ x.aged = true) ∧ t.dram.bytes = s.dram.bytes := by
  have hany : (s.sub n 0).queue.any (fun e => e.la == la && !e.aged) = true := List.any_eq_true.mpr ⟨e, hmem, by simp [hla, hyoung]⟩
  obtain ⟨x, hx, hold⟩ := mem_updFirst (fun e => { e with aged := true }) hany
  have hqueue (v : SubChan) : ((s.setSub n 0 v).drcCount n 4).sub n 0 = v := State.sub_setSub_same ..
  refine ⟨_, guarded_of (by rw [hruns, hany]; rfl) s _, ?_, ⟨{ x with aged := true }, ?_, ?_, rfl⟩, rfl⟩
  · rw [hqueue, length_updFirst]
  · rw [hqueue]
    exact hold
  · simp only [Bool.and_eq_true, beq_iff_eq] at hx
    exact hx.1

theorem exec_rowIdleExpire {b r k : Nat} (hruns : s.chanRuns n = true) (hb : b < 2) (hk : k < 32)
    (hidle : (s.sub n b).queue.any (fun e => s.lineBank e.la == 32 * r + k && s.rowHit (s.sub n b) e) = false) :
    exec (.rowIdleExpire n b r k) s = .next (s.closeBank n b (32 * r + k)) :=
  guarded_of (by rw [hruns, hidle]; simp [hb, hk]) s _

/-! ### Refresh (R543, R545) -/

/-- A refresh of rank `r` more is owed. -/
def Rank.owing (k : Rank) (most : Nat) : Rank :=
  { k with owed := k.owed + 1, force := k.force || decide (most ≤ k.owed + 1), powerDown := false }

theorem refreshDue_answers {r : Nat} (hready : (s.chan n).state = .ready) (hup : s.up (chanDom n) = true)
    (hthere : (s.stand r).present = true) (hawake : (s.rank n r).selfRefresh = false) :
    ∃ t, exec (.refreshDue n r) s = .next t ∧ (t.rank n r).owed = (s.rank n r).owed + 1 ∧ (t.rank n r).powerDown = false
      ∧ ((t.rank n r).force = true ↔ (s.rank n r).force = true ∨ s.fld (Reg.DRC_REF_CFG n) 3 0 ≤ (s.rank n r).owed + 1)
      ∧ ((s.rank n r).owed + 1 = s.fld (Reg.DRC_REF_CFG n) 3 0 → t.evtSet 0xA003 n = true) := by
  obtain ⟨t, hexec, hdram, hevt⟩ : ∃ t, exec (.refreshDue n r) s = .next t
      ∧ t.dram = (s.setRank n r ((s.rank n r).owing (s.fld (Reg.DRC_REF_CFG n) 3 0))).dram
      ∧ ((s.rank n r).owed + 1 = s.fld (Reg.DRC_REF_CFG n) 3 0 → t.evtSet 0xA003 n = true) := by
    refine ⟨_, guarded_of (by simp [hready, hup, hthere, hawake]) s _, ?_, fun hmost => ?_⟩
    · split
      · rw [State.raiseAt_dram]
        split <;> rfl
      · split <;> rfl
    · rw [if_pos hmost, State.raiseAt_evtSet]
  have hrank := (State.rank_congr hdram n r).trans (State.rank_setRank_same ..)
  exact ⟨t, hexec, by rw [hrank]; rfl, by rw [hrank]; rfl, by rw [hrank]; simp [Rank.owing], hevt⟩

/-! ### Parity alerts (R553, R554) -/

theorem parityAlert_first {q : Nat} (hruns : s.chanRuns n = true) (hon : s.flag (Reg.DRC_CTRL n) 0 = true)
    (hthere : ((s.chan n).dimm q).present = true) (hnew : q ∉ (s.chan n).alert) (hclear : (s.chan n).reissued = []) :
    ∃ t, exec (.parityAlert n q) s = .next t ∧ (t.chan n).alert = (s.chan n).alert ++ [q] ∧ t.evtSet 0xA001 n = true
      ∧ (t.chan n).state = .ready ∧ t.dram.bytes = s.dram.bytes := by
  refine ⟨_, (guarded_of (by rw [hruns, hon, hthere]; rfl) s _).trans (congrArg _ (if_neg (by simp [hnew, hclear]))), ?_, ?_, ?_, ?_⟩
  · rw [State.chan_setChan_same]
  · rw [State.setChan_evtSet, State.raiseAt_evtSet]
  · rw [State.chan_setChan_same]
    exact (congrArg Chan.state (State.chan_congr (s.drcCount_dram n 14) n)).trans (State.chan_ready_of_runs hruns)
  · rw [State.setChan_bytes, State.raiseAt_dram, State.drcCount_dram]

theorem exec_parityAlert_second {q : Nat} (hruns : s.chanRuns n = true) (hon : s.flag (Reg.DRC_CTRL n) 0 = true)
    (hthere : ((s.chan n).dimm q).present = true) (hagain : q ∈ (s.chan n).alert) :
    exec (.parityAlert n q) s = .next (((s.drcCount n 14).raiseAt 0xA002 n q 0).failChannel n) := by
  refine (guarded_of (by rw [hruns, hon, hthere]; rfl) s _).trans (congrArg _ (if_pos ?_))
  rw [List.contains_iff_mem.mpr hagain, Bool.true_or]

theorem alertWaitEnd_answers {q : Nat} {others : List Nat} (hruns : s.chanRuns n = true) (halert : (s.chan n).alert = q :: others) :
    ∃ t, exec (.alertWaitEnd n) s = .next t ∧ (t.chan n).alert = others := by
  change ∃ t, execAlertWaitEnd n s = .next t ∧ _
  unfold execAlertWaitEnd
  simp only [halert]
  exact ⟨_, guarded_of hruns s _, congrArg Chan.alert (State.chan_setChan_same ..)⟩

end

/-! ### The obligation -/

/-- Settles O48, one command after another. -/
theorem dramChannelCommands : Obligations.DramChannelCommands := by
  intro s n
  refine ⟨fun b w hb hruns hwork => (exec_dramCommandIssue hruns hb 0).trans (by rw [hwork]),
    fun b k hb hruns hwork => (exec_dramCommandIssue hruns hb k).trans (by rw [hwork]; rfl),
    fun la e hruns hmem hla hyoung => entryAged_answers hruns hmem hla hyoung,
    fun r hready hup hthere hawake => refreshDue_answers hready hup hthere hawake,
    fun b r k hb hk hruns hidle => exec_rowIdleExpire hruns hb hk hidle,
    fun q hruns hon hthere hnew hclear => parityAlert_first hruns hon hthere hnew hclear,
    fun q hruns hon hthere hagain => ⟨_, _, exec_parityAlert_second hruns hon hthere hagain, rfl, State.raiseAt_evtSet ..⟩,
    fun q others hruns halert => alertWaitEnd_answers hruns halert⟩

end Sys2Proof.Machine
end

section
/-! Proofs about operating points and training (15; R566, R567, R571 to R574, R577 to R580, R595): one lemma for each outcome of a
command. -/

namespace Sys2Proof.Machine

open Sys2Proof

section
variable {s : State} {n : Nat}

/-! ### The operating point (R566, R567, R574, R595) -/

theorem exec_fpTargetWrite (hup : s.up (chanDom 0) = true) (v : Word) : exec (.fpTargetWrite v) s
    = .next (if bits v.toNat 1 0 = 3 then s.wrote stOutOfRange
      else (s.setReg (Reg.DRC_FP_CTRL 0) (BitVec.ofNat 32 (bits v.toNat 1 0))).wrote) :=
  (commanding_chan hup true _).trans (guarded_true s _)

section
variable (hs : s.live = true) (hdue : s.fpEffective ≠ s.fpNow) (hsettled : s.flag (Reg.DRC_FP_STATUS 0) 31 = false)
  (hready : s.boot.stage = .ready)
include hs hdue hsettled hready

theorem fpChange_guard : (s.live && ((s.fpEffective != s.fpNow || s.flag (Reg.DRC_FP_STATUS 0) 30) && !s.flag (Reg.DRC_FP_STATUS 0) 31
    && s.boot.stage == .ready)) = true := by simp [hs, hdue, hsettled, hready]

theorem exec_fpChange_deferred (hruns : s.phaseRuns = true) : exec .fpChange s = .next (s.setFld (Reg.DRC_FP_STATUS 0) 30 30 1) :=
  (guarded_of (fpChange_guard hs hdue hsettled hready) s _).trans (congrArg _ ((if_neg hdue).trans (if_pos hruns)))

theorem exec_fpChange_quiets (hruns : s.phaseRuns = false) : exec .fpChange s = .next ((s.chanList.foldl (fun t m =>
    if (t.chan m).state = .failed then t
    else ((t.flushWrites m fun _ => true).presentStands.filter fun k => decide (((t.flushWrites m fun _ => true).stand k).power ≤ 1)).foldl
      (fun u k => u.enterSelfRefresh m k) (t.flushWrites m fun _ => true)) s).setFld (Reg.DRC_FP_STATUS 0) 31 30 2) :=
  (guarded_of (fpChange_guard hs hdue hsettled hready) s _).trans (congrArg _ ((if_neg hdue).trans (if_neg (by simp [hruns]))))

end

theorem exec_fpChangeDone (hs : s.live = true) (hchanging : s.flag (Reg.DRC_FP_STATUS 0) 31 = true) : exec .fpChangeDone s
    = .next (s.chanList.foldl (fun t m => t.restartPass m s.fpEffective) (s.chanList.foldl (fun t m => t.wakeRanks m)
      (((s.setFld (Reg.DRC_FP_STATUS 0) 31 30 0).setFld (Reg.DRC_FP_STATUS 0) 1 0 s.fpEffective).raise 0xA00A
        (s.fpNow * 256 + s.fpEffective)))).rescale.pumpAll :=
  guarded_of (by rw [hs, hchanging]; rfl) s _

/-! ### Training (R571 to R573, R577, R578) -/

/-- A phase in which the engine reads nothing of the training row. -/
theorem exec_trainingPhaseEnd (hs : s.live = true) (htrains : s.trains n = true) (l : List (List Bool)) :
    exec (.trainingPhaseEnd n l []) s = .next (match s.phaseSettings n (s.trainPhase n) (s.trainPoint n) l with
      | none => s.trainFail n
      | some k => (s.setChan n { s.chan n with
          settings := tabSet (fun _ => []) (s.chan n).settings (24 + s.trainPhase n) k }).phaseDone n) := by
  refine (guarded_of (by rw [hs, htrains]; rfl) s _).trans ?_
  simp only [List.foldl_nil, ite_self] <;> rfl

theorem exec_phaseLimitExpire (hs : s.live = true) (htrains : s.trains n = true) :
    exec (.phaseLimitExpire n) s = .next (s.trainFail n) := guarded_of (by rw [hs, htrains]; rfl) s _

/-! ### Recalibration (R580) -/

theorem recalibrate_answers {r : Nat} (x : Int) (hruns : s.chanRuns n = true) (hthere : (s.stand r).present = true)
    (hawake : (s.rank n r).selfRefresh = false) : ∃ t, exec (.recalibrate n r x) s = .next t ∧ (t.rank n r).calAt = s.now
      ∧ (t.rank n r).dqShift = (s.rank n r).dqShift + (if s.fld (Reg.DRC_RECAL_CFG n) 7 0 < x.natAbs then x else 0)
      ∧ ∀ j, j ≠ r → t.rank n j = s.rank n j := by
  refine ⟨_, guarded_of (by rw [hruns, hthere, hawake]; rfl) s _, ?_, ?_, fun j hj => State.rank_setRank_ne _ _ hj _⟩
  · rw [State.rank_setRank_same]
  · rw [State.rank_setRank_same]
    by_cases hdrift : s.fld (Reg.DRC_RECAL_CFG n) 7 0 < x.natAbs <;> simp [hdrift]

end

/-! ### The obligation -/

/-- Settles O50, one command after another. -/
theorem operatingPointAndTrainingCommands : Obligations.OperatingPointAndTrainingCommands := by
  intro s n
  refine ⟨fun v hup hv => (exec_fpTargetWrite hup v).trans (congrArg _ (if_pos hv)),
    fun v hup hv => ⟨_, (exec_fpTargetWrite hup v).trans (congrArg _ (if_neg hv)), State.reg_setReg_same ..⟩,
    fun hs hdue hsettled hready hruns => exec_fpChange_deferred hs hdue hsettled hready hruns,
    fun hs hdue hsettled hready hruns => exec_fpChange_quiets hs hdue hsettled hready hruns,
    fun u hs hchanging hu => hu ▸ exec_fpChangeDone hs hchanging,
    fun l hs htrains hfails => (exec_trainingPhaseEnd hs htrains l).trans (by rw [hfails]),
    fun l k hs htrains hpasses => (exec_trainingPhaseEnd hs htrains l).trans (by rw [hpasses]),
    fun hs htrains => exec_phaseLimitExpire hs htrains,
    fun r x hruns hthere hawake => recalibrate_answers x hruns hthere hawake⟩

end Sys2Proof.Machine
end

section
/-! Proofs about the sensors of a DIMM and self-refresh (15; R581, R584, R586 to R593): one lemma for each outcome of a command. -/

namespace Sys2Proof.Machine

open Sys2Proof

/-! ### Refresh rates and self-refresh -/

theorem State.rank_setHot (s : State) (n q : Nat) (hot : Bool) {r : Nat} (hr : r < 4) :
    ((s.setHot n q hot).rank n (4 * q + r)).hot = hot := by
  refine foldl_establishes (f := fun t r => State.setRank t n (4 * q + r) { t.rank n (4 * q + r) with hot := hot })
    (P := fun t => (t.rank n (4 * q + r)).hot = hot) (fun t k h => ?_) (fun t => ?_) (List.mem_range.mpr hr) s
  · by_cases hk : 4 * q + r = 4 * q + k
    · rw [hk, State.rank_setRank_same]
    · rw [State.rank_setRank_ne _ _ hk, h]
  · rw [State.rank_setRank_same]

/-- A rank that owes no refresh is in self-refresh afterwards and still owes none. -/
theorem State.enterSelfRefresh_rank (s : State) (n r : Nat) (hready : (s.chan n).state ≠ .failed) (howed : (s.rank n r).owed = 0) :
    ((s.enterSelfRefresh n r).rank n r).selfRefresh = true ∧ ((s.enterSelfRefresh n r).rank n r).owed = 0 := by
  by_cases hin : (s.rank n r).selfRefresh = true
  · rw [State.enterSelfRefresh, if_pos (.inr hin)]
    exact ⟨hin, howed⟩
  · have hentered (u : State) (k : Rank) (cmd : Nat) : ((u.setRank n r k).sendCmd n 0 cmd r 0 0 0).rank n r = k :=
      u.rank_setRank_same n r k
    rw [State.enterSelfRefresh, if_neg (not_or.mpr ⟨hready, hin⟩)]
    dsimp only
    rw [hentered]
    exact ⟨rfl, rfl⟩

section
variable {s : State} {n : Nat}

/-! ### Sensors (R581, R584, R586) -/

section
variable {q : Nat} (hup : s.up (chanDom n) = true) (hthere : ((s.chan n).dimm q).present = true) (hpower : (s.stand (4 * q)).power ≠ 3)
include hup hthere hpower

theorem sensor_guard : (s.up (chanDom n) && ((s.chan n).dimm q).present && (s.stand (4 * q)).power != 3) = true := by
  simp [hup, hthere, hpower]

theorem exec_sensorPoll (x : Int) (l : List Int) :
    exec (.sensorPoll n q (x :: l) false) s = .next ((s.polled n q).dimmTemp n q (l.foldl max x)) :=
  guarded_of (sensor_guard hup hthere hpower) s _

theorem exec_sensorPoll_none : exec (.sensorPoll n q [] false) s = .next ((s.polled n q).setFld (Reg.DRC_DIMM_TEMP n q) 31 31 0) :=
  guarded_of (sensor_guard hup hthere hpower) s _

theorem exec_sensorPoll_fault (x : Int) (l : List Int) (hgood : s.flag (Reg.DRC_PMIC_STATUS n q) 29 = false) :
    exec (.sensorPoll n q (x :: l) true) s = .next (((s.polled n q).dimmTemp n q (l.foldl max x)).pmicFault n q) :=
  (guarded_of (sensor_guard hup hthere hpower) s _).trans (congrArg _ (if_pos (by simp [hgood])))

theorem sensorUnreadable_answers : ∃ t, exec (.sensorUnreadable n q) s = .next t ∧ t.evtSet 0xA00D n = true
    ∧ ∀ r, r < 4 → (t.rank n (4 * q + r)).hot = true := by
  refine ⟨_, guarded_of (sensor_guard hup hthere hpower) s _, State.raiseAt_evtSet .., fun r hr => ?_⟩
  rw [State.rank_congr (State.raiseAt_dram ..), State.rank_setHot _ _ _ _ hr]

end

/-! ### Power-down and self-refresh (R587 to R592) -/

theorem exec_pdIdleExpire {r : Nat} (hruns : s.chanRuns n = true) (hmode : s.pwr.current = 1 ∨ s.pwr.current = 2)
    (hpower : (s.stand r).power ≤ 1) (hawake : (s.rank n r).selfRefresh = false) (hqueued : s.rankQueued n r = false)
    (hopenA : (s.sub n 0).openBanks r = []) (hopenB : (s.sub n 1).openBanks r = []) (howed : (s.rank n r).owed = 0) :
    exec (.pdIdleExpire n r) s = .next (s.setRank n r { s.rank n r with powerDown := true }) := by
  refine guarded_of ?_ s _
  rcases hmode with hmode | hmode <;> simp [hruns, hmode, hpower, hawake, hqueued, hopenA, hopenB, howed]

theorem State.owed_of_sreReady {k : Nat} (h : s.sreReady n k = true) : (s.rank n k).owed = 0 := by
  simp only [State.sreReady, Bool.and_eq_true, beq_iff_eq] at h
  exact h.1.1.2

theorem selfRefreshEntry_answers {k : Nat} (hruns : s.chanRuns n = true) (hthere : (s.stand k).present = true)
    (hpower : (s.stand k).power ≤ 1) (hunwanted : s.standWanted k = false) (hboot : s.boot.stage = .ready)
    (hready : s.sreReady n k = true) (hchan : n ∈ s.chanList) (hnew : n ∉ (s.stand k).sreDone) :
    ∃ t u, exec (.selfRefreshEntry k n) s = .next t ∧ t = State.entryComplete u k ∧ (u.rank n k).selfRefresh = true
      ∧ (u.rank n k).owed = 0 ∧ (u.stand k).sreDone = (s.stand k).sreDone ++ [n] ∧ (u.stand k).entering = true := by
  have hstate : (s.chan n).state ≠ .failed := by rw [State.chan_ready_of_runs hruns]; decide
  have hup : s.up (chanDom n) = true := by
    simp only [State.chanRuns, Bool.and_eq_true] at hruns
    exact hruns.1.2
  have hrank := (s.setStand k { s.stand k with entering := true }).enterSelfRefresh_rank n k hstate (State.owed_of_sreReady hready)
  refine ⟨_, ((s.setStand k { s.stand k with entering := true }).enterSelfRefresh n k).setStand k
      { s.stand k with entering := true, sreDone := (s.stand k).sreDone ++ [n] },
    (guarded_of (by simp [hup, hthere, hpower, hunwanted, hboot]) s _).trans (congrArg _ (if_pos (by simp [hruns, hready, hnew, hchan]))),
    rfl, hrank.1, hrank.2, ?_, ?_⟩ <;> rw [State.stand_setStand_same]

theorem selfRefreshAbort_answers {k : Nat} (hs : s.live = true) (hentering : (s.stand k).entering = true)
    (hwanted : s.standWanted k = true) : ∃ t, exec (.selfRefreshAbort k) s = .next t ∧ (t.stand k).entering = false
      ∧ (t.stand k).sreDone = [] := by
  refine ⟨_, guarded_of (by simp [hs, hentering, hwanted]) s _, ?_, ?_⟩ <;> rw [State.stand_setStand_same]

theorem exec_clkStopDelayExpire {q : Nat} (hup : s.up (chanDom n) = true) (hen : s.flag (Reg.DRC_SR_CFG n) 31 = true)
    (hsettled : s.flag (Reg.DRC_FP_STATUS 0) 31 = false) (hq : q < 2) (hsome : ∃ r, r < 4 ∧ (s.stand (4 * q + r)).present = true)
    (hon : q ∉ (s.chan n).dckOff)
    (hall : ∀ r, r < 4 → (s.stand (4 * q + r)).present = true → (s.rank n (4 * q + r)).selfRefresh = true) :
    exec (.clkStopDelayExpire n q) s = .next (s.setChan n { s.chan n with dckOff := (s.chan n).dckOff ++ [q] }) := by
  have hmem (k : Nat) : k ∈ (((List.range 4).map (4 * q + ·)).filter fun k => (s.stand k).present) ↔
      ∃ r, r < 4 ∧ 4 * q + r = k ∧ (s.stand k).present = true := by simp [← exists_and_right, and_assoc]
  refine guarded_of ?_ s _
  obtain ⟨r, hr, hthere⟩ := hsome
  have hne : (((List.range 4).map (4 * q + ·)).filter fun k => (s.stand k).present).isEmpty = false :=
    List.isEmpty_eq_false_iff_exists_mem.mpr ⟨_, (hmem _).mpr ⟨r, hr, rfl, hthere⟩⟩
  have hin : ((((List.range 4).map (4 * q + ·)).filter fun k => (s.stand k).present).all fun k => (s.rank n k).selfRefresh) = true := by
    refine List.all_eq_true.mpr fun k hk => ?_
    obtain ⟨j, hj, rfl, hthere⟩ := (hmem k).mp hk
    exact hall j hj hthere
  simp only [hup, hen, hsettled, hq, hne, hin, Bool.and_eq_true, Bool.not_eq_true', decide_eq_true_eq]
  simpa using hon

theorem exec_selfRefreshExit {k : Nat} (hs : s.live = true) (hthere : (s.stand k).present = true) (hpower : (s.stand k).power = 2)
    (hstays : (s.stand k).exiting = false) (hwanted : s.standWanted k = true) (hup : ∀ m ∈ s.chanList, s.up (chanDom m) = true) :
    exec (.selfRefreshExit k) s
      = .next ((s.chanList.foldl (fun t m => t.exitSelfRefresh m k) s).setStand k { s.stand k with exiting := true }) := by
  refine (guarded_of (by simp [hs, hthere, hpower, hstays, hwanted]) s _).trans (congrArg _ (if_pos ?_))
  exact List.all_eq_true.mpr fun m hm => by rw [hup m hm, Bool.true_or]

/-! ### DIMM power-off (R593) -/

theorem exec_dimmOff_denied {v : Word} (hup : s.up (chanDom 0) = true) (hv : bit v.toNat 0 = true) (hstays : s.dimmMayGo 0 = false) :
    exec (.dimmOff v) s = .next (s.wrote stAccessDenied) := by
  refine (commanding_chan hup true _).trans ((guarded_true s _).trans (congrArg _ (if_neg fun hall => ?_)))
  have hmay := List.all_eq_true.mp hall 0 (by simp [hv])
  rw [hstays] at hmay
  exact nomatch hmay

theorem exec_dimmOff_goes (hup : s.up (chanDom 0) = true) (hmay : s.dimmMayGo 0 = true)
    (hon : s.flag (Reg.DRC_DIMM_OFF_STATUS 0) 0 = false) (hthere : (s.stand 0).present = true) :
    exec (.dimmOff 1) s = .next (s.dimmGo 0).wrote := by
  have hone : ([0, 1].filter fun q => bit (1 : Word).toNat q) = [0] := by decide
  change commanding (chanDom 0) true s (if ([0, 1].filter fun q => bit (1 : Word).toNat q).all s.dimmMayGo then _ else _) = _
  rw [commanding_chan hup, guarded_true, hone, if_pos (by simp [hmay])]
  simp only [List.foldl_cons, List.foldl_nil]
  rw [if_neg (by simp [hon, hthere])]

end

/-! ### The obligation -/

/-- Settles O51, one command after another. -/
theorem sensorAndSelfRefreshCommands : Obligations.SensorAndSelfRefreshCommands := by
  intro s n
  exact ⟨fun q x l hup hthere hpower => exec_sensorPoll hup hthere hpower x l,
    fun q hup hthere hpower => exec_sensorPoll_none hup hthere hpower,
    fun q x l hup hthere hpower hgood => exec_sensorPoll_fault hup hthere hpower x l hgood,
    fun q hup hthere hpower => sensorUnreadable_answers hup hthere hpower,
    fun r hruns hmode hpower hawake hqueued hopenA hopenB howed =>
      exec_pdIdleExpire hruns hmode hpower hawake hqueued hopenA hopenB howed,
    fun k hruns hthere hpower hunwanted hboot hready hchan hnew =>
      selfRefreshEntry_answers hruns hthere hpower hunwanted hboot hready hchan hnew,
    fun k hs hentering hwanted => selfRefreshAbort_answers hs hentering hwanted,
    fun q hup hen hsettled hq hsome hon hall => exec_clkStopDelayExpire hup hen hsettled hq hsome hon hall,
    fun k hs hthere hpower hstays hwanted hup => exec_selfRefreshExit hs hthere hpower hstays hwanted hup,
    fun v hup hv hstays => exec_dimmOff_denied hup hv hstays,
    fun hup hmay hon hthere => exec_dimmOff_goes hup hmay hon hthere⟩

end Sys2Proof.Machine
end

section
/-! Proofs about the SRAM die (17; R641 to R643, R646, R649 to R652, R657 to R661): what a bank holds as its owner changes, what a window
access leaves, and one lemma for each outcome of a command. -/

namespace Sys2Proof.Machine

open Sys2Proof

/-! ### Banks and their words -/

section
variable (s : State) (b : Nat)

@[simp] theorem State.bankAt_setBank_same (v : SramBank) : (s.setBank b v).bankAt b = v := by
  rw [State.bankAt, State.setBank, tabGet_tabSet_same]
  split
  · rename_i h
    exact h.symm
  · rfl

theorem State.bankAt_setBank_ne {c : Nat} (hc : c ≠ b) (v : SramBank) : (s.setBank b v).bankAt c = s.bankAt c := by
  rw [State.bankAt, State.setBank, tabGet_tabSet_ne _ _ _ hc, State.bankAt]

theorem State.bankAt_congr {s t : State} (h : t.sram = s.sram) (c : Nat) : t.bankAt c = s.bankAt c := by
  rw [State.bankAt, h, State.bankAt]

@[simp] theorem State.setBank_words (v : SramBank) : (s.setBank b v).sram.words = s.sram.words := rfl

@[simp] theorem State.setBank_winWait (v : SramBank) : (s.setBank b v).sram.winWait = s.sram.winWait := rfl

theorem State.zeroBank_bankAt : (s.zeroBank b).bankAt b = { s.bankAt b with foreign := false } := State.bankAt_setBank_same ..

theorem State.zeroBank_words : (s.zeroBank b).sram.words = s.sram.words.filter fun e => e.1 / 2 ^ 17 != b := rfl

/-- As a bank's contents become its owner's, the bank keeps all but the mark of an open layout, and no word comes to the die. -/
theorem State.loadBank_sram : ∃ f, (s.loadBank b).bankAt b = { s.bankAt b with foreign := f }
    ∧ ∀ e ∈ (s.loadBank b).sram.words, e ∈ s.sram.words := by
  have hzeroed : ∀ t : State, t.sram = s.sram → ∃ f, (t.zeroBank b).bankAt b = { s.bankAt b with foreign := f }
      ∧ ∀ e ∈ (t.zeroBank b).sram.words, e ∈ s.sram.words := by
    intro t ht
    refine ⟨false, ?_, fun e he => ?_⟩
    · rw [State.zeroBank_bankAt, State.bankAt_congr ht]
    · rw [State.zeroBank_words, ht] at he
      exact (List.mem_filter.mp he).1
  unfold State.loadBank
  dsimp only
  split
  · refine hzeroed _ ?_
    apply State.foldl_keeps State.sram
    exact fun _ _ => rfl
  · split
    · refine hzeroed _ ?_
      apply State.foldl_keeps State.sram
      exact fun _ _ => rfl
    · split <;> exact ⟨(s.bankAt b).foreign, rfl, fun e he => he⟩

@[simp] theorem State.setPromise_sram (on : Bool) : (s.setPromise b on).sram = s.sram := by
  unfold State.setPromise
  dsimp only
  split <;> simp

/-- The write of an owner may end the promise of the test, and leaves the die as it is. -/
theorem State.untestedPromise_sram : (if s.untested then s.setPromise promiseSramTest false else s).sram = s.sram := by
  split
  · exact State.setPromise_sram ..
  · rfl

end

section
variable {s : State} (hs : s.live = true)
include hs

/-! ### Ownership (R641 to R643) -/

theorem exec_bankOwnerWrite_unknown {b : Nat} {v : Word} (hcode : ownerCode (bits v.toNat 7 0) = false)
    (hother : bits v.toNat 7 0 ≠ (bankReset b).owner) : exec (.bankOwnerWrite b v) s = .next (s.wrote stOutOfRange) :=
  (guarded_of hs s _).trans (congrArg _ (if_pos (by simp [hcode, hother])))

theorem exec_bankOwnerWrite_refused {b : Nat} {v : Word} (hcode : ownerCode (bits v.toNat 7 0) = true)
    (hchange : bits v.toNat 7 0 ≠ (s.bankAt b).owner) (hrefused : s.ownRefused b (bits v.toNat 7 0) (bits v.toNat 23 16) = true) :
    exec (.bankOwnerWrite b v) s = .next (s.wrote stAccessDenied) :=
  (guarded_of hs s _).trans (congrArg _ ((if_neg (by simp [hcode])).trans (if_pos (by simp [hchange, hrefused]))))

omit hs in
theorem State.ownRefused_of_lock {b o i : Nat} (h : (s.bankAt b).lock = true) : s.ownRefused b o i = true := by
  simp [State.ownRefused, h]

/-- The bank's row as a write with CLEAR leaves it (R641, R642). -/
def SramBank.handed (k : SramBank) (v : Word) : SramBank :=
  { k with owner := bits v.toNat 7 0, index := bits v.toNat 23 16, lock := k.lock || bit v.toNat 31, notest := bit v.toNat 30, busy := true }

theorem bankOwnerWrite_clears {b : Nat} {v : Word} (hcode : ownerCode (bits v.toNat 7 0) = true)
    (hchange : bits v.toNat 7 0 ≠ (s.bankAt b).owner) (hallowed : s.ownRefused b (bits v.toNat 7 0) (bits v.toNat 23 16) = false)
    (hclear : bit v.toNat 29 = true) : ∃ t, exec (.bankOwnerWrite b v) s = .next t ∧ (t.bankAt b).owner = bits v.toNat 7 0
      ∧ (t.bankAt b).index = bits v.toNat 23 16 ∧ (t.bankAt b).busy = true ∧ ∀ e ∈ t.sram.words, e.1 / 2 ^ 17 ≠ b := by
  have hchanged : (bits v.toNat 7 0 != (s.bankAt b).owner || bits v.toNat 23 16 != (s.bankAt b).index) = true := by simp [hchange]
  obtain ⟨t, u, hexec, hsram⟩ : ∃ t u : State, exec (.bankOwnerWrite b v) s = .next t
      ∧ t.sram = (((u.setBank b ((s.bankAt b).handed v)).zeroBank b).loadBank b).sram := by
    refine ⟨_, ?_, (guarded_of hs s _).trans (congrArg _ ((if_neg (by simp [hcode])).trans (if_neg (by simp [hallowed])))), ?_⟩
    · exact (s.unloadBank b).setBank b { (s.bankAt b).handed v with
        busy := (s.bankAt b).busy, foreign := ((s.unloadBank b).bankAt b).foreign }
    refine (State.wrote_sram ..).trans ((State.untestedPromise_sram _).trans ?_)
    rewrite [hchanged, hclear]
    rfl
  obtain ⟨f, hbank, hwords⟩ := ((u.setBank b ((s.bankAt b).handed v)).zeroBank b).loadBank_sram b
  rw [State.zeroBank_bankAt, State.bankAt_setBank_same] at hbank
  have hrow : t.bankAt b = { (s.bankAt b).handed v with foreign := f } := (State.bankAt_congr hsram b).trans hbank
  refine ⟨t, hexec, ?_, ?_, ?_, fun e he => ?_⟩
  · rw [hrow]; rfl
  · rw [hrow]; rfl
  · rw [hrow]; rfl
  · have hkept := hwords e (hsram ▸ he)
    rw [State.zeroBank_words] at hkept
    simpa using (List.mem_filter.mp hkept).2

/-! ### Clearing (R642) -/

theorem exec_bankClearDone {b : Nat} (hbusy : (s.bankAt b).busy = true) : exec (.bankClearDone b) s = .next
    (match s.sram.winWait with
    | some op =>
      if s.winBank = b then
        ({ s.setBank b { s.bankAt b with busy := false } with
          sram := { (s.setBank b { s.bankAt b with busy := false }).sram with winWait := none } } : State).winRun b s.winAddr 0 0 op none
      else s.setBank b { s.bankAt b with busy := false }
    | none => s.setBank b { s.bankAt b with busy := false }) :=
  guarded_of (by rw [hs, hbusy]; rfl) s _

/-! ### The window (R646 to R652) -/

theorem winCmd_denied {x y : BitVec 80} {op : SramOp} {meet : Option SramMeet} (hwait : s.sram.winWait = none)
    (hout : 368 ≤ s.winBank ∨ (s.bankAt s.winBank).owner ≠ ownMgt ∨ (s.bankAt s.winBank).lock = true) :
    winCmd s x y op meet = .next (s.winEnd stAccessDenied) :=
  (if_neg (by simp [hwait])).trans ((if_pos hout).trans (guarded_of hs s _))

section
variable (hwait : s.sram.winWait = none) (hbank : s.winBank < 368) (howner : (s.bankAt s.winBank).owner = ownMgt)
  (hlock : (s.bankAt s.winBank).lock = false) (hword : s.winAddr < bankWords s.winBank)
  (hup : s.up (29 + bankGroup s.winBank) = true)
include hwait hbank howner hlock hword hup

omit hs in
theorem winCmd_reaches {x y : BitVec 80} {op : SramOp} {meet : Option SramMeet} (hkind : sramWrong (bankLarge s.winBank) op = false) :
    winCmd s x y op meet = .next (if (s.bankAt s.winBank).busy then
        ({ s.setReg Reg.SRM_WIN_STATUS 0x8000_0000 with
          sram := { (s.setReg Reg.SRM_WIN_STATUS 0x8000_0000).sram with winWait := some op } } : State).wrote
      else s.winRun s.winBank s.winAddr x y op meet) := by
  refine (if_neg (by simp [hwait])).trans ((if_neg (by simp [hbank, howner, hlock])).trans ((if_neg (by simp [hword, hkind])).trans ?_))
  exact (commanding_up (by omega) hup (s.coreStalled_out (by omega)) true _).trans (guarded_true ..)

end

end

section
variable {s u : State} {b w r : Nat} {x y : BitVec 80}

theorem State.winRun_read (hread : s.readWord b w x y = (u, .ok r)) :
    s.winRun b w x y .read none = (u.setWinData r).winEnd stOK := by
  unfold State.winRun State.metOp State.wordOp
  rw [hread]

theorem State.winRun_read_error {k : Nat} (hread : s.readWord b w x y = (u, .error k)) :
    s.winRun b w x y .read none = u.winEnd k := by
  unfold State.winRun State.metOp State.wordOp
  rw [hread]

theorem State.winRun_write (v : DWord) : s.winRun b w x y (.write v) none = (s.setWord b w { data := v }).winEnd stOK := rfl

theorem State.winRun_write_lost (v z : DWord) (f : Bool) : s.winRun b w x y (.write v) (some { op := .write z, first := f })
    = ((s.setWord b w { data := z }).lostWrite b w).winEnd stRetry := by
  cases h : bankLarge b <;> rfl

theorem State.winRun_add (v : DWord) (hread : s.readWord b w x y = (u, .ok r)) : s.winRun b w x y (.add v) none
    = (((u.setWord b w { data := BitVec.ofNat 64 r + v }).srmCount 8 1).setWinData r).winEnd stOK := by
  unfold State.winRun State.metOp State.wordOp
  rw [hread]
  rfl

theorem State.winRun_swap (v : DWord) (hread : s.readWord b w x y = (u, .ok r)) : s.winRun b w x y (.swap v) none
    = (((u.setWord b w { data := v }).srmCount 8 1).setWinData r).winEnd stOK := by
  unfold State.winRun State.metOp State.wordOp
  rw [hread]
  rfl

theorem State.winRun_set (v : DWord) (hread : s.readWord b w x y = (u, .ok r)) : s.winRun b w x y (.set v) none
    = ((u.setWord b w { data := BitVec.ofNat 64 r ||| v }).srmCount 9 1).winEnd stOK := by
  unfold State.winRun State.metOp State.wordOp
  rw [hread]
  rfl

theorem State.winRun_clear (v : DWord) (hread : s.readWord b w x y = (u, .ok r)) : s.winRun b w x y (.clear v) none
    = ((u.setWord b w { data := BitVec.ofNat 64 r &&& ~~~v }).srmCount 9 1).winEnd stOK := by
  unfold State.winRun State.metOp State.wordOp
  rw [hread]
  rfl

end

/-! ### The background test and a march (R656 to R661) -/

section
variable {s : State} (hs : s.live = true)
include hs

theorem bistRegionTest_answers {b r : Nat} (hon : s.flag Reg.SRM_CTRL 0 = true)
    (hnext : s.nextTest 369 s.sram.bistBank s.sram.bistRegion = some (b, r)) :
    ∃ t u : State, exec (.bistRegionTest [] 0 0 false) s = .next t ∧ u.sram.bistBank = b ∧ u.sram.bistRegion = r + 1
      ∧ (t = u ∨ t = u.cycleEnds) ∧ u.sram.words = s.sram.words := by
  change ∃ t u : State, execBistRegionTest [] 0 0 false s = .next t ∧ _
  unfold execBistRegionTest
  rw [hnext]
  refine ⟨_, { ((s.srmCount 3 0).srmCount 4 0).srmCount 7 1 with
      sram := { (((s.srmCount 3 0).srmCount 4 0).srmCount 7 1).sram with bistBank := b, bistRegion := r + 1 } },
    guarded_of (by rw [hs, hon]; rfl) s _, rfl, rfl, ?_, rfl⟩
  split
  · exact .inr rfl
  · exact .inl rfl

theorem exec_bistRegionTest_ends (hon : s.flag Reg.SRM_CTRL 0 = true) (hnext : s.nextTest 369 s.sram.bistBank s.sram.bistRegion = none) :
    exec (.bistRegionTest [] 0 0 false) s = .next s.cycleEnds := by
  change execBistRegionTest [] 0 0 false s = _
  unfold execBistRegionTest
  simp only [hnext]
  exact guarded_of (by rw [hs, hon]; rfl) s _

theorem bistCycleLate_answers (hon : s.flag Reg.SRM_CTRL 0 = true) : ∃ t, exec .bistCycleLate s = .next t ∧ t.evtSet 0xC006 0 = true
    ∧ t.flag Reg.RAS_PROMISE_STATUS promiseSramTest = false :=
  ⟨_, guarded_of (by rw [hs, hon]; rfl) s _, State.setPromise_keeps_evtSet _ _ _ (State.raise_evtSet ..),
    State.flag_setPromise_same _ _ _ (by decide)⟩

theorem exec_marchSramDone_passes {p : Nat} (hcode : (s.opSlot p).code = opMarch) (hstate : (s.opSlot p).state = .running)
    (hfirst : (s.opSlot p).cursor = 0) (hkeeps : bit (s.opSlot p).arg1.toNat 0 = true) : exec (.marchSramDone p false) s
      = .next (s.setOp p { s.opSlot p with cursor := 1, progress := bankWords (bits (s.opSlot p).arg0.toNat 8 0) }) := by
  refine (guarded_of (by simp [hs, hcode, hstate, hfirst, OpState.votes]) s _).trans ?_
  simp only [hkeeps]
  rfl

end

/-! ### The commands of the window -/

section
variable {s : State}

theorem winCmds_denied (hs : s.live = true) (x y : BitVec 80) (hwait : s.sram.winWait = none)
    (hout : 368 ≤ s.winBank ∨ (s.bankAt s.winBank).owner ≠ ownMgt ∨ (s.bankAt s.winBank).lock = true) :
    ∀ c ∈ ([.winRead x y none, .winWrite none, .winAdd x y none, .winSwap x y none, .winSet x y none, .winClear x y none] : List Instr),
      exec c s = .next (s.winEnd stAccessDenied) := by
  have hdenied : ∀ x y op, winCmd s x y op none = .next (s.winEnd stAccessDenied) := fun _ _ _ => winCmd_denied hs hwait hout
  simp only [List.forall_mem_cons]
  exact ⟨hdenied .., hdenied .., hdenied .., hdenied .., hdenied .., hdenied .., fun _ h => nomatch h⟩

theorem flag_busy_of_setReg (t : State) : (t.setReg Reg.SRM_WIN_STATUS 0x8000_0000).flag Reg.SRM_WIN_STATUS 31 = true := by
  rw [State.flag, State.reg_setReg_same]
  decide

section
variable (hwait : s.sram.winWait = none) (hbank : s.winBank < 368) (howner : (s.bankAt s.winBank).owner = ownMgt)
  (hlock : (s.bankAt s.winBank).lock = false) (hword : s.winAddr < bankWords s.winBank)
  (hup : s.up (29 + bankGroup s.winBank) = true)
include hwait hbank howner hlock hword hup

theorem winWrite_waits (hbusy : (s.bankAt s.winBank).busy = true) : ∃ t, exec (.winWrite none) s = .next t
    ∧ t.flag Reg.SRM_WIN_STATUS 31 = true ∧ t.sram.winWait = some (.write s.winData) ∧ t.sram.words = s.sram.words :=
  ⟨_, (winCmd_reaches hwait hbank howner hlock hword hup rfl).trans (congrArg _ (if_pos hbusy)),
    (State.wrote_flag ..).trans (flag_busy_of_setReg s), congrArg Sram.winWait (State.wrote_sram ..),
    (congrArg Sram.words (State.wrote_sram ..)).trans rfl⟩

theorem winCmd_runs (hidle : (s.bankAt s.winBank).busy = false) {x y : BitVec 80} {op : SramOp} {meet : Option SramMeet}
    (hkind : sramWrong (bankLarge s.winBank) op = false) :
    winCmd s x y op meet = .next (s.winRun s.winBank s.winAddr x y op meet) :=
  (winCmd_reaches hwait hbank howner hlock hword hup hkind).trans (congrArg _ (if_neg (by simp [hidle])))

end

end

/-- Settles O53, one command after another. -/
theorem sramBankAndWindowCommands : Obligations.SramBankAndWindowCommands := by
  unfold Obligations.SramBankAndWindowCommands
  intro s hs
  refine ⟨fun b v hcode hother => exec_bankOwnerWrite_unknown hs hcode hother,
    fun b v hcode hchange hlock => exec_bankOwnerWrite_refused hs hcode hchange (State.ownRefused_of_lock hlock),
    fun b v hcode hchange hallowed hclear => bankOwnerWrite_clears hs hcode hchange hallowed hclear, ?_, ?_,
    fun x y hwait hout => winCmds_denied hs x y hwait hout, ?_, fun b r hon hnext => bistRegionTest_answers hs hon hnext,
    fun hon hnext => exec_bistRegionTest_ends hs hon hnext, fun hon => bistCycleLate_answers hs hon,
    fun p hcode hstate hfirst hkeeps => exec_marchSramDone_passes hs hcode hstate hfirst hkeeps⟩
  · intro b hbusy hwait
    refine ⟨_, (exec_bankClearDone hs hbusy).trans (by rw [hwait]), ?_, fun c hc => State.bankAt_setBank_ne s b hc _⟩
    rw [State.bankAt_setBank_same]
  · intro op hbusy hwait
    refine ⟨_, (exec_bankClearDone hs hbusy).trans (by rw [hwait]; exact congrArg _ (if_pos rfl)), ?_, rfl⟩
    exact congrArg SramBank.busy (s.bankAt_setBank_same s.winBank { s.bankAt s.winBank with busy := false })
  · rintro b w v rfl rfl rfl hwait hbank howner hlock hword hup
    refine ⟨winWrite_waits hwait hbank howner hlock hword hup, fun hidle => ?_⟩
    have hruns := @winCmd_runs s hwait hbank howner hlock hword hup hidle
    refine ⟨fun x y u r hread => (hruns rfl).trans (congrArg _ (State.winRun_read hread)),
      fun x y u k hread => (hruns rfl).trans (congrArg _ (State.winRun_read_error hread)),
      (hruns rfl).trans (congrArg _ (State.winRun_write _)), fun x f => (hruns rfl).trans (congrArg _ (State.winRun_write_lost _ x f)),
      fun hsmall x y u r hread => ⟨?_, ?_⟩, fun hlarge x y u r hread => ⟨?_, ?_⟩⟩
    · exact (@hruns x y (.add _) none hsmall).trans (congrArg _ (State.winRun_add _ hread))
    · exact (@hruns x y (.swap _) none hsmall).trans (congrArg _ (State.winRun_swap _ hread))
    · exact (hruns (by rw [sramWrong, hlarge]; rfl)).trans (congrArg _ (State.winRun_set _ hread))
    · exact (hruns (by rw [sramWrong, hlarge]; rfl)).trans (congrArg _ (State.winRun_clear _ hread))

end Sys2Proof.Machine
end

section
/-! Proofs about memory bandwidth regulation (18; R667, R670 to R672, R676 to R680): one lemma for each outcome of a command. -/

namespace Sys2Proof.Machine

open Sys2Proof

/-- The budgets that a commit takes from the registers: master 10 has none (R676). -/
def State.stagedBudgets (s : State) : List Nat := (List.range 12).map fun m => if m = 10 then 0 else s.fld (Reg.MREG_BUDGET m) 23 0

/-- The table that a commit stages: window, channel factor and budgets (R676). -/
def State.stagedTable (s : State) : Nat × Nat × List Nat := (s.fld Reg.MREG_WINDOW 10 0, s.fld Reg.MREG_CHAN_FACTOR 3 0, s.stagedBudgets)

@[simp] theorem State.rescale_reg (s : State) (a : Nat) : s.rescale.reg a = s.reg a := rfl

section
variable {s : State} (hrelock : s.thermal.relock = false) (hup : s.up 12 = true)
include hrelock hup

/-! ### The commit of a table (R676 to R678) -/

theorem exec_mregCommit_pending {x : Nat × Nat × List Nat} (hnext : s.mreg.next = some x) :
    exec .mregCommit s = .next (s.wrote stAccessDenied) :=
  (commanding_of_running hrelock hup (by decide) _).trans (congrArg _ (if_pos (by simp [hnext])))

theorem mregCommit_refuses (hnext : s.mreg.next = none) (hchecked : s.mreg.checked = true)
    (hover : s.overAdmission (s.fld Reg.MREG_WINDOW 10 0) s.stagedBudgets = true) :
    ∃ t, exec .mregCommit s = .next t ∧ t.mreg.next = none ∧ t.mreg.err = true ∧ t.evtSet 0x9001 0 = true := by
  refine ⟨_, (commanding_of_running hrelock hup (by decide) _).trans (congrArg _ ((if_neg (by simp [hnext])).trans
    ((if_neg (by simp [hchecked])).trans (if_pos hover)))), ?_, ?_, ?_⟩
  · rw [State.wrote_mreg, State.raise_mreg]
    exact hnext
  · rw [State.wrote_mreg, State.raise_mreg]
  · rw [State.wrote_evtSet]
    exact State.raise_evtSet ..

theorem mregCommit_stages (hnext : s.mreg.next = none) (hchecked : s.mreg.checked = true)
    (hwithin : s.overAdmission (s.fld Reg.MREG_WINDOW 10 0) s.stagedBudgets = false) :
    ∃ t, exec .mregCommit s = .next t ∧ t.mreg.err = false ∧ t.mreg.dAdmit = s.dFull ∧ t.mreg.next = some s.stagedTable := by
  refine ⟨_, (commanding_of_running hrelock hup (by decide) _).trans (congrArg _ ((if_neg (by simp [hnext])).trans
    ((if_neg (by simp [hchecked])).trans (if_neg (ne_true_of_eq_false hwithin))))), ?_, ?_, ?_⟩
  all_goals rewrite [State.wrote_mreg]
  all_goals rfl

theorem mregCommit_provisional (hnext : s.mreg.next = none) (hunchecked : s.mreg.checked = false) :
    ∃ t, exec .mregCommit s = .next t ∧ t.mreg.provisional = true ∧ t.mreg.next.isSome = true := by
  refine ⟨_, (commanding_of_running hrelock hup (by decide) _).trans (congrArg _ ((if_neg (by simp [hnext])).trans
    (if_pos (by simp [hunchecked])))), ?_, ?_⟩
  all_goals rewrite [State.wrote_mreg]
  all_goals rfl

/-! ### The shares (R679) -/

theorem exec_mregEfficiencyWrite_refused {v : Word} (hlock : s.pageLocked Reg.MREG_EFFICIENCY = false)
    (hout : bits v.toNat 6 0 < 50 ∨ 90 < bits v.toNat 6 0) : exec (.mregEfficiencyWrite false v) s = .next (s.wrote stOutOfRange) :=
  (commanding_of_running hrelock hup (by decide) _).trans (congrArg _ ((if_neg (ne_true_of_eq_false hlock)).trans (if_pos hout)))

theorem mregEfficiencyWrite_sets {admission : Bool} {v : Word} {a : Nat} {top : Nat}
    (ha : a = if admission then Reg.MREG_ADMIT_PCT else Reg.MREG_EFFICIENCY) (htop : top = if admission then 95 else 90)
    (hlock : s.pageLocked a = false) (hlow : 50 ≤ bits v.toNat 6 0) (hhigh : bits v.toNat 6 0 ≤ top) :
    ∃ t, exec (.mregEfficiencyWrite admission v) s = .next t ∧ t.reg a = BitVec.ofNat 32 (bits v.toNat 6 0) := by
  subst ha htop
  refine ⟨_, (commanding_of_running hrelock hup (by decide) _).trans (congrArg _ ((if_neg (ne_true_of_eq_false hlock)).trans
    (if_neg (by omega)))), ?_⟩
  rw [State.wrote_reg, State.rescale_reg, State.reg_setReg_same]

/-! ### A window's end (R667, R670 to R672) -/

theorem regWindowBoundary_restarts : ∃ t u : State, exec .regWindowBoundary s = .next t ∧ t = u.applyTable.applyScale.pumpAll
    ∧ u.mreg.counts = [] ∧ u.dram.bytes = s.dram.bytes := by
  refine ⟨_, _, needing_of_running hrelock hup true _, rfl, rfl, ?_⟩
  refine (State.foldl_keeps (fun t => t.dram.bytes) (fun t m => ?_) _ _).trans ?_
  · rw [State.count_dram, State.raise_dram]
  · apply State.foldl_keeps (fun t => t.dram.bytes)
    exact fun _ _ => rfl

end

/-- Settles O49, one command after another. -/
theorem bandwidthRegulationCommands : Obligations.BandwidthRegulationCommands := by
  unfold Obligations.BandwidthRegulationCommands
  intro s hrelock hup
  exact ⟨fun x hnext => exec_mregCommit_pending hrelock hup hnext,
    fun hnext hchecked hover => mregCommit_refuses hrelock hup hnext hchecked hover,
    fun hnext hchecked hwithin => mregCommit_stages hrelock hup hnext hchecked hwithin,
    fun hnext hunchecked => mregCommit_provisional hrelock hup hnext hunchecked,
    fun v hlock hout => exec_mregEfficiencyWrite_refused hrelock hup hlock hout,
    fun v hlock hlow hhigh => mregEfficiencyWrite_sets hrelock hup rfl rfl hlock hlow hhigh,
    fun v hlock hlow hhigh => mregEfficiencyWrite_sets hrelock hup rfl rfl hlock hlow hhigh,
    regWindowBoundary_restarts hrelock hup⟩

end Sys2Proof.Machine
end

section
/-! Proofs about egress scheduling and gate lists (19; R685, R687, R691, R694, R696, R697): what a change of a port's gates leaves, and
one lemma for each outcome of a command. -/

namespace Sys2Proof.Machine

open Sys2Proof

/-! ### Gates, shapers and sessions -/

section
variable (s : State) (p : Nat)

theorem State.gates_congr {s t : State} (h : t.egr = s.egr) (p : Nat) : t.gates p = s.gates p := by
  rw [State.gates, h, State.gates]

@[simp] theorem State.gates_setGates_same (g : Gates) : (s.setGates p g).gates p = g := tabGet_tabSet_same ..

@[simp] theorem State.shaper_setShaper_same (m c : Nat) (x : ClsShaper) : (s.setShaper m c x).shaper m c = x := tabGet_tabSet_same ..

@[simp] theorem State.esess_setEsess_same (c : Nat) (x : EgrSess) : (s.setEsess c x).esess c = x := tabGet_tabSet_same ..

theorem State.gateEntry_gates (jump : Bool) : (s.gateEntry p jump).gates p = { s.gates p with
    entry := (gclPos (s.gates p).oper (s.gates p).base s.time.nanos).1
    mask := gclMask (s.gates p).oper (gclPos (s.gates p).oper (s.gates p).base s.time.nanos).1 } :=
  State.gates_setGates_same ..

theorem State.showGates_egr : (s.showGates p).egr = s.egr := by
  unfold State.showGates
  extract_lets g s1 s2 s3 s4
  have hlist : s1.egr = s.egr := State.foldl_keeps State.egr (fun t i => by rw [State.setReg_egr, State.setReg_egr]) _ s
  rw [State.setReg_egr, State.setReg_egr, State.setReg_egr, State.setReg_egr, hlist]

/-- The pending list of a port becomes operational from T on, at the entry that holds now (R697). -/
theorem State.gateSwitch_gates (T : Nat) : (s.gateSwitch p T).gates p =
    { oper := (s.gates p).pendingList, base := T, pending := none, pendingList := []
      entry := (gclPos (s.gates p).pendingList T s.time.nanos).1
      mask := gclMask (s.gates p).pendingList (gclPos (s.gates p).pendingList T s.time.nanos).1 } := by
  rw [State.gateSwitch, State.gates_congr (State.raiseAt_egr ..), State.gateEntry_gates, State.gates_congr (State.showGates_egr ..),
    State.showGates_time, State.gates_congr (State.setFld_egr ..), State.gates_congr (State.setFld_egr ..), State.gates_setGates_same]
  rfl

end

/-- The report of a late base leaves the gates. -/
theorem State.gates_of_commit (s : State) (p : Nat) (late : Bool) (d : Nat) :
    (if late then s.raiseAt 0x3002 p d 0 else s).wrote.gates p = s.gates p := by
  rw [State.gates_congr (State.wrote_egr ..)]
  split
  · exact State.gates_congr (State.raiseAt_egr ..) p
  · rfl

/-- Whole cycles from a base reach any time: the number of them is rounded up. -/
theorem le_add_ceil_mul (e b : Nat) {c : Nat} (hc : 0 < c) : e ≤ b + (e - b + c - 1) / c * c := by
  have hdiv := Nat.div_add_mod (e - b + c - 1) c
  have hmod := Nat.mod_lt (e - b + c - 1) hc
  rw [Nat.mul_comm] at hdiv
  omega

/-- The base time that stands in the registers of a port (R696). -/
def State.adminBase (s : State) (p : Nat) : Nat :=
  (s.reg (Reg.EGR_GCL_ADMIN_BASE_SEC_LO p)).toNat * 1000000000
    + s.fld (Reg.EGR_GCL_ADMIN_BASE_SEC_HI p) 15 0 * 2 ^ 32 * 1000000000 + s.fld (Reg.EGR_GCL_ADMIN_BASE_NS p) 29 0

/-- The earliest time at which a list that is committed now may be switched to (R697). -/
def State.switchLead (s : State) (p : Nat) : Nat := s.time.nanos + s.fld (Reg.EGR_SWITCH_LEAD p) 15 0 * 1000

/-- The time at which a list that is committed now is switched to: whole cycles after its base (R697). -/
def State.switchTime (s : State) (p : Nat) : Nat :=
  s.adminBase p + (s.switchLead p - s.adminBase p + max (gclCycle (s.adminList p)) 1 - 1) / max (gclCycle (s.adminList p)) 1
    * max (gclCycle (s.adminList p)) 1

theorem State.switchLead_le_switchTime (s : State) (p : Nat) : s.switchLead p ≤ s.switchTime p :=
  le_add_ceil_mul _ _ (Nat.lt_of_lt_of_le Nat.one_pos (le_max_right ..))

section
variable {s : State} (hrelock : s.thermal.relock = false) (hup : s.up 6 = true)

section
include hrelock hup

/-! ### The commit of a gate list (R696, R697) -/

theorem gclCommit_refuses {p k x : Nat} {v : Word} (hgo : bit v.toNat 0 = true) (hpending : (s.gates p).pending = none)
    (hcheck : s.gclCheck p = some (k, x)) : ∃ t, exec (.gclCommit p v) s = .next t ∧ t.egr = s.egr ∧ t.evtSet 0x3003 p = true := by
  change ∃ t, execGclCommit p v s = .next t ∧ _
  unfold execGclCommit
  simp only [hcheck]
  refine ⟨_, (commanding_of_allowed hrelock hup (by decide) hgo _).trans (congrArg _ (if_neg (by simp [hpending]))), ?_, ?_⟩
  · rw [State.wrote_egr, State.raiseAt_egr, State.setReg_egr]
  · rw [State.wrote_evtSet, State.raiseAt_evtSet]

theorem gclCommit_pends {p : Nat} {v : Word} (hgo : bit v.toNat 0 = true) (hpending : (s.gates p).pending = none)
    (hcheck : s.gclCheck p = none) : ∃ t T, exec (.gclCommit p v) s = .next t ∧ (t.gates p).pending = some T
      ∧ (t.gates p).pendingList = s.adminList p ∧ (t.gates p).oper = (s.gates p).oper
      ∧ s.time.nanos + s.fld (Reg.EGR_SWITCH_LEAD p) 15 0 * 1000 ≤ T := by
  obtain ⟨t, hexec, hgates⟩ : ∃ t, exec (.gclCommit p v) s = .next t
      ∧ t.gates p = { s.gates p with pending := some (s.switchTime p), pendingList := s.adminList p } := by
    change ∃ t, execGclCommit p v s = .next t ∧ _
    unfold execGclCommit
    simp only [hcheck]
    refine ⟨_, (commanding_of_allowed hrelock hup (by decide) hgo _).trans (congrArg _ (if_neg (by simp [hpending]))), ?_⟩
    rewrite [State.gates_of_commit, State.gates_congr (State.setReg_egr ..), State.gates_congr (State.setReg_egr ..),
      State.gates_congr (State.setReg_egr ..), State.gates_congr (State.setReg_egr ..), State.gates_setGates_same]
    unfold State.switchTime State.adminBase State.switchLead
    rfl
  exact ⟨t, _, hexec, by rw [hgates], by rw [hgates], by rw [hgates], s.switchLead_le_switchTime p⟩

theorem exec_gclCommit_pending {p : Nat} {v : Word} (hgo : bit v.toNat 0 = true) (hpending : (s.gates p).pending.isSome = true) :
    exec (.gclCommit p v) s = .next (s.wrote stAccessDenied) :=
  (commanding_of_allowed hrelock hup (by decide) hgo _).trans (congrArg _ (if_pos hpending))

/-! ### Shaping (R694) -/

theorem sessShapeWrite_sets {v : Word} (hquantum : bits v.toNat 25 16 ≠ 0) (hrate : bits v.toNat 15 0 ≠ 0) :
    ∃ t u : State, exec (.sessShapeWrite v) s = .next t ∧ t = u.joinRings s.egrSel ∧ (u.esess s.egrSel).shape = v &&& 0x03FF_FFFF
      ∧ (bit v.toNat 31 = false → (u.esess s.egrSel).e = 16 * (s.now : Int)) := by
  refine ⟨_, _, commanding_of_allowed hrelock hup (by decide) (by simp [hquantum, hrate]) _, rfl, ?_, fun hfull => ?_⟩
  · rw [State.esess_setEsess_same, State.esess_setEsess_same]
  · rw [State.esess_setEsess_same, if_neg (ne_true_of_eq_false hfull)]

theorem cshpWrite_sets {m c : Nat} {v : Word} (hburst : bits v.toNat 30 20 ≠ 0) : ∃ t, exec (.cshpWrite m c v) s = .next t
    ∧ t.reg (Reg.EGR_CSHP (macPort m) (macIdx m) c) = v &&& 0x7FF7_FFFF ∧ (t.shaper m c).at_ = s.now
    ∧ (bit v.toNat 31 = false → (t.shaper m c).tokens = 0) := by
  refine ⟨_, commanding_of_allowed hrelock hup (by decide) (by simp [hburst]) _, State.reg_setReg_same .., ?_, fun hfull => ?_⟩
  · rw [State.shaper_setShaper_same]
  · rw [State.shaper_setShaper_same, if_neg (ne_true_of_eq_false hfull)]

end

include hup

/-! ### Gates in time (R687, R697) -/

theorem gclSwitch_switches {p T : Nat} (hpending : (s.gates p).pending = some T) (hdue : T ≤ s.time.nanos) :
    ∃ t, exec (.gclSwitch p) s = .next t ∧ (t.gates p).pending = none ∧ (t.gates p).oper = (s.gates p).pendingList
      ∧ (t.gates p).base = T ∧ t.evtSet 0x3001 p = true := by
  have hgates := s.gateSwitch_gates p T
  refine ⟨s.gateSwitch p T, ?_, by rw [hgates], by rw [hgates], by rw [hgates], State.raiseAt_evtSet ..⟩
  change execGclSwitch p s = _
  unfold execGclSwitch
  simp only [hpending]
  exact guarded_of (by simp [hup, hdue]) s _

theorem gateListEntryEnd_enters {p : Nat} (hoper : (s.gates p).oper ≠ []) : ∃ t, exec (.gateListEntryEnd p) s = .next t
    ∧ (t.gates p).mask = gclMask (s.gates p).oper (gclPos (s.gates p).oper (s.gates p).base s.time.nanos).1
    ∧ (t.gates p).oper = (s.gates p).oper := by
  refine ⟨_, guarded_of (by simp [hup, hoper]) s _, ?_, ?_⟩
  · rw [State.gateEntry_gates]
  · rw [State.gateEntry_gates]

/-! ### Frames and queues (R685, R687, R691) -/

theorem exec_frameTransmit {m : Nat} (hok : s.txOk m = true) (hfree : s.freeAt m ≤ s.now) :
    exec (.frameTransmit m) s = .next (State.sendFrom m 8 s) := guarded_of (by simp [hup, hok, hfree]) s _

theorem exec_wheelSlot_session {c : BitVec 12} (hdue : (s.esess c.toNat).e ≤ 16 * (s.now : Int)) :
    exec (.wheelSlot (.session c)) s = .next (s.joinRings c.toNat) := guarded_of (by simp [hup, hdue]) s _

theorem wheelSlot_fills {m c : Nat} (hbelow : (s.shaper m c).tokens < 0) (hdue : 0 ≤ s.tokens m c) :
    ∃ t, exec (.wheelSlot (.shaper m c)) s = .next t ∧ (t.shaper m c).tokens = s.tokens m c ∧ (t.shaper m c).at_ = s.now := by
  refine ⟨_, guarded_of (by simp [hup, hbelow, hdue]) s _, ?_, ?_⟩
  · rw [State.shaper_setShaper_same]
  · rw [State.shaper_setShaper_same]

theorem egressQueueRoom_enqueues {c : BitVec 12} {g : TxSeg} {r : List TxSeg}
    (hfirst : takeFirst (fun g => g.client == c.toNat) s.kct.stage11 = some (g, r)) (hroom : s.roomFor g = true) :
    ∃ t u : State, exec (.egressQueueRoom c) s = .next t ∧ t = (u.toReplay g).enqueue g ∧ u.kct.stage11 = r ∧ u.kct.ctx = s.kct.ctx := by
  change ∃ t u : State, execEgressQueueRoom c s = .next t ∧ _
  unfold execEgressQueueRoom
  simp only [hfirst]
  exact ⟨_, _, guarded_of (by simp [hup, hroom]) s _, rfl, rfl, rfl⟩

end

/-- Settles O35, one command after another. -/
theorem egressAndGateCommands : Obligations.EgressAndGateCommands := by
  unfold Obligations.EgressAndGateCommands
  intro s p hrelock hup
  exact ⟨fun v k x hgo hpending hcheck => gclCommit_refuses hrelock hup hgo hpending hcheck,
    fun v hgo hpending hcheck => gclCommit_pends hrelock hup hgo hpending hcheck,
    fun v hgo hpending => exec_gclCommit_pending hrelock hup hgo hpending,
    fun T hpending hdue => gclSwitch_switches hup hpending hdue,
    fun hoper => gateListEntryEnd_enters hup hoper,
    fun m hok hfree => exec_frameTransmit hup hok hfree,
    fun c hdue => exec_wheelSlot_session hup hdue,
    fun m c hbelow hdue => wheelSlot_fills hup hbelow hdue,
    fun c g r hfirst hroom => egressQueueRoom_enqueues hup hfirst hroom,
    fun v hquantum hrate => sessShapeWrite_sets hrelock hup hquantum hrate,
    fun m c v hburst => cshpWrite_sets hrelock hup hburst⟩

end Sys2Proof.Machine
end

section
/-! Proofs about the power domains (20; R716, R718, R720, R724, R742 to R745): fields of a register that is written, and one lemma for each
outcome of a command. -/

namespace Sys2Proof.Machine

open Sys2Proof

/-! ### Fields -/

theorem getLsbD_putBits (w : Word) {hi lo v i : Nat} (hword : lo + i < 32) (hfield : i < hi + 1 - lo) :
    (putBits w hi lo v).getLsbD (lo + i) = v.testBit i := by
  simp only [putBits, BitVec.getLsbD_or, BitVec.getLsbD_and, BitVec.getLsbD_not, BitVec.getLsbD_ofNat, Nat.testBit_shiftLeft,
    Nat.testBit_two_pow_sub_one, Nat.add_sub_cancel_left]
  simp [hword, hfield]

/-- A field holds the value that was put into it. -/
theorem bits_putBits_same (w : Word) {hi lo v : Nat} (hhi : hi < 32) (hlo : lo ≤ hi) (hv : v < 2 ^ (hi + 1 - lo)) :
    bits (putBits w hi lo v).toNat hi lo = v := by
  refine Nat.eq_of_testBit_eq fun i => ?_
  rw [bits, Nat.testBit_mod_two_pow, Nat.testBit_shiftRight, BitVec.testBit_toNat]
  by_cases hfield : i < hi + 1 - lo
  · rw [decide_eq_true hfield, Bool.true_and, getLsbD_putBits w (by omega) hfield]
  · rw [decide_eq_false hfield, Bool.false_and,
      Nat.testBit_lt_two_pow (Nat.lt_of_lt_of_le hv (Nat.pow_le_pow_right Nat.two_pos (Nat.le_of_not_lt hfield)))]

theorem bits_lt (w hi lo : Nat) : bits w hi lo < 2 ^ (hi + 1 - lo) := Nat.mod_lt _ (Nat.two_pow_pos _)

theorem State.fld_setFld_same (s : State) (a : Nat) {hi lo v : Nat} (hhi : hi < 32) (hlo : lo ≤ hi) (hv : v < 2 ^ (hi + 1 - lo)) :
    (s.setFld a hi lo v).fld a hi lo = v := by
  rw [State.fld, State.setFld, State.reg_setReg_same, bits_putBits_same _ hhi hlo hv]

section
variable {s : State} {d : Nat} (hs : s.live = true)
include hs

/-! ### Up and down (R716, R718, R742) -/

theorem exec_domainPowerUp (hlow : 1 ≤ d) (hhigh : d ≤ 36) (hrests : (s.dom d).resting = true) (hwanted : s.wanted d = true)
    (hexit : s.pwr.exiting = none) : exec (.domainPowerUp d) s = .next (s.powerUp d) :=
  guarded_of (by simp [hs, hlow, hhigh, hrests, hwanted, hexit]) s _

omit hs in
theorem exec_domainPowerUp_unwanted (hwanted : s.wanted d = false) : exec (.domainPowerUp d) s = .next s := by
  change execDomainPowerUp d s = _
  unfold execDomainPowerUp
  dsimp only
  rw [hwanted, Bool.and_false, Bool.false_and, guarded_false]

theorem exec_domainUp_first {ok : Bool} (hstate : (s.dom d).state = .poweringUp) (hagain : (s.dom d).again = false)
    (himplicit : (s.dom d).implicit = false) (hlocked : ((pllsOf d).all fun p => s.pll p == .locked) = true) :
    exec (.domainUp d ok) s
      = .next (((s.setDom d { s.dom d with state := .up, again := false, implicit := false }).domainReady d ok).resumeDomain d) := by
  refine (guarded_of (by rw [hs, hstate, hlocked]; rfl) s _).trans ?_
  rw [if_neg (ne_true_of_eq_false himplicit), if_neg (ne_true_of_eq_false hagain)]

theorem exec_domainHysteresisExpire (hlow : 1 ≤ d) (hhigh : d ≤ 36) (hhyst : s.inHyst d = true) :
    exec (.domainHysteresisExpire d) s = .next (s.dropDomain d) := guarded_of (by simp [hs, hlow, hhigh, hhyst]) s _

theorem domainPowerDownDone_loses (hstate : (s.dom d).state = .poweringDown) : ∃ t u, exec (.domainPowerDownDone d) s = .next t
    ∧ t = State.loseState u d ∧ (u.dom d).state = .off ∧ (∀ a, lostReg d a = true → u.reg a = resetOf a)
    ∧ ∀ a, lostReg d a = false → u.reg a = s.reg a := by
  have hreg : ∀ a, tabGet resetOf (tabMap resetOf (fun a v => if lostReg d a then resetOf a else v) s.regs) a
      = if lostReg d a then resetOf a else s.reg a := fun a => tabGet_tabMap (by rw [ite_self]) s.regs
  refine ⟨_, _, guarded_of (by rw [hs, hstate]; rfl) s _, rfl, ?_, fun a ha => (hreg a).trans (if_pos ha),
    fun a ha => (hreg a).trans (if_neg (ne_true_of_eq_false ha))⟩
  exact congrArg Dom.state (s.dom_setDom_same d { s.dom d with state := .off, clockGated := false })

/-! ### A wake that takes too long (R744, R745) -/

theorem domainWakeTimeout_retries (hstate : (s.dom d).state = .poweringUp) (hagain : (s.dom d).again = false) :
    ∃ t, exec (.domainWakeTimeout d) s = .next t ∧ (t.dom d).state = .poweringUp ∧ (t.dom d).again = true
      ∧ ∀ e, e ≠ d → t.dom e = s.dom e := by
  refine ⟨_, (guarded_of (by rw [hs, hstate]; rfl) s _).trans (congrArg _ (if_neg (ne_true_of_eq_false hagain))), ?_, ?_,
    fun e he => State.dom_setDom_ne _ _ he⟩
  · rw [State.dom_setDom_same, hstate]
  · rw [State.dom_setDom_same]

theorem exec_domainWakeTimeout_fails (hstate : (s.dom d).state = .poweringUp) (hagain : (s.dom d).again = true) :
    exec (.domainWakeTimeout d) s = .next (s.failDomain d 1) :=
  (guarded_of (by rw [hs, hstate]; rfl) s _).trans (congrArg _ (if_pos hagain))

/-! ### Votes and idle clocks (R720, R724) -/

theorem pwrVoteWrite_votes {v : Word} (hlow : 1 ≤ d) (hhigh : d ≤ 36) (hfailed : s.domFailed d = false) (habsent : s.chanAbsent d = false) :
    ∃ t, exec (.pwrVoteWrite false d v) s = .next t ∧ t.fld (Reg.PWR_VOTE d) 31 24 = bits v.toNat 31 24
      ∧ ∀ a, a ≠ Reg.PWR_VOTE d → t.reg a = s.reg a := by
  refine ⟨(s.setFld (Reg.PWR_VOTE d) 31 24 (bits v.toNat 31 24)).wrote,
    (guarded_of hs s _).trans (congrArg (fun t => Host.Outcome.next (State.wrote t)) (if_pos (by simp [hlow, hhigh, hfailed, habsent]))),
    ?_, fun a ha => ?_⟩
  · rw [State.fld, State.wrote_reg]
    exact State.fld_setFld_same s _ (by decide) (by decide) (bits_lt ..)
  · rw [State.wrote_reg, State.reg_setFld_ne _ _ _ _ ha]

theorem pwrVoteWrite_votes_stand {v : Word} (hstand : d < 8) : ∃ t, exec (.pwrVoteWrite true d v) s = .next t
    ∧ t.fld (Reg.PWR_STAND_VOTE d) 31 24 = bits v.toNat 31 24 := by
  refine ⟨(s.setFld (Reg.PWR_STAND_VOTE d) 31 24 (bits v.toNat 31 24)).wrote,
    (guarded_of hs s _).trans (congrArg (fun t => Host.Outcome.next (State.wrote t)) (if_pos (by simp [hstand]))), ?_⟩
  rw [State.fld, State.wrote_reg]
  exact State.fld_setFld_same s _ (by decide) (by decide) (bits_lt ..)

omit hs in
theorem exec_clockIdleGate (hlow : 1 ≤ d) (hhigh : d ≤ 28) (hup : s.up d = true) (hquiet : 1 ≤ s.pwr.current) (hidle : s.work' d = false) :
    exec (.clockIdleGate d) s = .next (s.setDom d { s.dom d with clockGated := true }) :=
  guarded_of (by simp [hlow, hhigh, hup, hquiet, hidle]) s _

end

/-- Settles O54, one command after another. -/
theorem domainPowerCommands : Obligations.DomainPowerCommands := by
  unfold Obligations.DomainPowerCommands
  intro s d hs
  exact ⟨fun hlow hhigh hrests hwanted hexit => exec_domainPowerUp hs hlow hhigh hrests hwanted hexit,
    fun hwanted => exec_domainPowerUp_unwanted hwanted,
    fun ok hstate hagain himplicit hlocked => exec_domainUp_first hs hstate hagain himplicit hlocked,
    fun hstate hagain => domainWakeTimeout_retries hs hstate hagain,
    fun hstate hagain => exec_domainWakeTimeout_fails hs hstate hagain,
    fun hlow hhigh hhyst => exec_domainHysteresisExpire hs hlow hhigh hhyst,
    fun hstate => domainPowerDownDone_loses hs hstate,
    fun v hlow hhigh hfailed habsent => pwrVoteWrite_votes hs hlow hhigh hfailed habsent,
    fun v hstand => pwrVoteWrite_votes_stand hs hstand,
    fun hlow hhigh hup hquiet hidle => exec_clockIdleGate hlow hhigh hup hquiet hidle⟩

end Sys2Proof.Machine
end

section
/-! Proofs about the power states (20; R725 to R730, R733, R736, R739, R740): what an abandoned entry leaves, and one lemma for each
outcome of a command. -/

namespace Sys2Proof.Machine

open Sys2Proof

/-! ### What powering down and abandoning leave -/

section
variable (s : State)

theorem State.powerDown_ap (d : Nat) : (s.powerDown d).pwr.ap = s.pwr.ap := by
  unfold State.powerDown
  refine (State.foldl_keeps (fun t => t.pwr.ap) (fun t p => ?_) _ _).trans rfl
  split <;> rfl

theorem State.dropDomain_ap (d : Nat) : (s.dropDomain d).pwr.ap = s.pwr.ap := by
  unfold State.dropDomain
  split
  · rfl
  · exact s.powerDown_ap d

/-- A counter of the power block lies outside the page of the block's events. -/
theorem State.evtSet_count_pwr (k n : Nat) {c : Nat} (hc : evtPage c 0 = 0x020000) :
    (s.count64 (Reg.PWR_CNT k) n).evtSet c 0 = s.evtSet c 0 := by
  refine State.evtSet_congr (s.reg_count64_ne n ?_ ?_)
  all_goals rw [hc, Reg.PWR_CNT]; omega

/-- An entry that is abandoned before its clocks have stopped. -/
theorem State.abandonEntry_early {e : Nat} (hentering : s.pwr.entering = some e) (hap : s.pwr.ap < 4) (r : Nat) :
    s.abandonEntry r = (((({ s with pwr := { s.pwr with entering := none, ap := 0 } } : State).pwrResult r).raise 0x0402
      (s.pwr.ap * 256 + r)).count64 (Reg.PWR_CNT 2) 1) := by
  have hnot : s.pwr.ap ≠ 4 := by omega
  unfold State.abandonEntry
  rw [if_pos (by simp [hentering]; omega), if_neg hnot]

/-- What such an entry leaves: no entry, its result and the event. -/
theorem State.abandonEntry_settles {e : Nat} (hentering : s.pwr.entering = some e) (hap : s.pwr.ap < 4) (r : Nat) :
    (s.abandonEntry r).pwr.entering = none ∧ (s.abandonEntry r).reg Reg.PWR_RESULT = BitVec.ofNat 32 (0x8000_0000 + r)
      ∧ (s.abandonEntry r).evtSet 0x0402 0 = true := by
  rw [s.abandonEntry_early hentering hap r]
  refine ⟨?_, ?_, ?_⟩
  · rw [State.count64_pwr, State.raise_pwr]
    rfl
  · rw [State.reg_count64_ne _ _ (by decide) (by decide), State.raise_reg_body _ _ _ _ (by decide) (by decide), State.pwrResult,
      State.reg_setReg_same]
  · rw [State.evtSet_count_pwr _ _ _ (by decide), State.raise_evtSet]

end

section
variable {s : State} (hs : s.live = true)
include hs

/-! ### Requests and idle times (R725, R726, R728, R729) -/

theorem exec_pwrReqWrite_unknown {v : Word} (hoff : s.fld Reg.PWR_REQ 2 0 ≠ 4) (hout : 4 < bits v.toNat 2 0) :
    exec (.pwrReqWrite v) s = .next (s.wrote stOutOfRange) :=
  (guarded_of (by simp [hs, hoff]) s _).trans (congrArg _ (if_pos hout))

theorem pwrReqWrite_wakes {v : Word} (hoff : s.fld Reg.PWR_REQ 2 0 ≠ 4) (hshallow : bits v.toNat 2 0 < s.effective)
    (hknown : s.effective ≤ 4) : ∃ t u : State, exec (.pwrReqWrite v) s = .next t ∧ t = (u.wakeEvent 4).wrote ∧ u.fld Reg.PWR_REQ 2 0 = bits v.toNat 2 0
      ∧ u.reg Reg.PWR_RESULT = 0 := by
  refine ⟨_, (s.setReg Reg.PWR_RESULT 0).setFld Reg.PWR_REQ 2 0 (bits v.toNat 2 0),
    (guarded_of (by simp [hs, hoff]) s _).trans (congrArg _ ((if_neg (by omega)).trans (if_pos hshallow))), rfl,
    State.fld_setFld_same _ _ (by decide) (by decide) (bits_lt ..), ?_⟩
  rw [State.reg_setFld_ne _ _ _ _ (by decide), State.reg_setReg_same]

theorem exec_idleDrowsyExpire (hauto : s.flag Reg.PWR_AUTO 31 = true) (hshallow : s.pwr.auto < 2) :
    exec .idleDrowsyExpire s = .next (s.autoDepth 2) := guarded_of (by simp [hs, hauto, hshallow]) s _

theorem exec_idleDormantExpire (hauto : s.flag Reg.PWR_AUTO 31 = true) (hshallow : s.pwr.auto < 3) :
    exec .idleDormantExpire s = .next (s.autoDepth 3) := guarded_of (by simp [hs, hauto, hshallow]) s _

theorem exec_alarm (hon : s.flag Reg.PWR_WAKE_CFG 1 = true) (hfirst : s.pwr.alarmDone = false)
    (hdue : (s.reg Reg.PWR_ALARM_SEC_LO).toNat + 2 ^ 32 * s.fld Reg.PWR_ALARM_SEC_HI 15 0 ≤ s.time.sec) :
    exec .alarm s = .next (({ s with pwr := { s.pwr with alarmDone := true } } : State).wakeEvent 2) :=
  guarded_of (by rw [hs, hon, hfirst, decide_eq_true hdue]; rfl) s _

/-! ### Entries (R730, R733, R736) -/

section
variable {e : Nat} (hentering : s.pwr.entering = some e)
include hentering

theorem exec_entryQuiesced (hap : s.pwr.ap = 1)
    (hquiet : ∀ d ∈ s.dropping e, s.hwVotes d % 512 - 2 * bitNat (s.stateVote d) = 0 ∧ s.mgrVotes d = 0)
    (hgroups : e = 3 → ∀ g, g < 8 → s.hwVotes (29 + g) - 2 * bitNat (s.stateVote (29 + g)) - 4 * bitNat (s.depVote g) = 0) :
    exec .entryQuiesced s = .next { s with pwr := { s.pwr with ap := 2 } } := by
  have hdomains : ((s.dropping e).all fun d => s.hwVotes d % 512 - 2 * bitNat (s.stateVote d) == 0 && s.mgrVotes d == 0) = true := by
    rw [List.all_eq_true]
    intro d hd
    obtain ⟨hhw, hmgr⟩ := hquiet d hd
    rw [hhw, hmgr]
    rfl
  have hsram : ((if e = 3 then (List.range 8).map (29 + ·) else []).all fun d =>
      s.hwVotes d - 2 * bitNat (s.stateVote d) - 4 * bitNat (s.depVote (d - 29)) == 0) = true := by
    by_cases he : e = 3
    · rw [if_pos he, List.all_map, List.all_eq_true]
      intro g hg
      rw [Function.comp_apply, Nat.add_sub_cancel_left, hgroups he g (List.mem_range.mp hg)]
      rfl
    · rw [if_neg he, List.all_nil]
  change execEntryQuiesced s = _
  unfold execEntryQuiesced
  simp only [hentering]
  exact guarded_of (by rw [hs, hap, hdomains, hsram]; rfl) s _

theorem exec_entrySaved (hap : s.pwr.ap = 2) : exec .entrySaved s = .next
    { (if e = 3 then s.saveAll else s) with pwr := { (if e = 3 then s.saveAll else s).pwr with ap := 3 } } := by
  change execEntrySaved s = _
  unfold execEntrySaved
  simp only [hentering]
  exact guarded_of (by rw [hs, hap]; rfl) s _

theorem exec_entryDramDone (hap : s.pwr.ap = 3) (hpoint : e = 2 → s.fpNow = s.fpEffective)
    (hstands : e ≠ 2 → ∀ k ∈ s.presentStands, 2 ≤ (s.stand k).power) :
    exec .entryDramDone s = .next ((s.dropping e).foldl (fun u d => u.setDom d { u.dom d with clockGated := true })
      { s with pwr := { s.pwr with ap := 4 } }) := by
  have hdone : (if e = 2 then s.fpNow == s.fpEffective else s.presentStands.all fun k => decide (2 ≤ (s.stand k).power)) = true := by
    by_cases he : e = 2
    · rw [if_pos he, hpoint he, beq_self_eq_true]
    · rw [if_neg he, List.all_eq_true]
      exact fun k hk => decide_eq_true (hstands he k hk)
  change execEntryDramDone s = _
  unfold execEntryDramDone
  simp only [hentering]
  exact guarded_of (by rw [hs, hap, hdone]; rfl) s _

theorem entryDone_settles (hap : s.pwr.ap = 5) (hwake : s.pwr.wakeAfter = false)
    (hrested : (allDoms.all fun d => s.inSet e d || (s.dom d).resting || (s.dom d).state == .failed) = true) :
    ∃ t, exec .entryDone s = .next t ∧ t.pwr.current = e ∧ t.pwr.entering = none ∧ t.evtSet 0x0401 0 = true := by
  change ∃ t, execEntryDone s = .next t ∧ _
  unfold execEntryDone
  simp only [hentering]
  refine ⟨_, (guarded_of (by rw [hs, hap, hrested]; rfl) s _).trans (congrArg _ (if_neg (ne_true_of_eq_false hwake))), ?_, ?_, ?_⟩
  · rw [State.count64_pwr, State.raise_pwr]
    rfl
  · rw [State.count64_pwr, State.raise_pwr]
    rfl
  · rw [State.evtSet_count_pwr _ _ _ (by decide), State.raise_evtSet]

theorem entryLimitExpire_abandons (hap : s.pwr.ap = 1 ∨ s.pwr.ap = 2) : ∃ t, exec .entryLimitExpire s = .next t
    ∧ t.pwr.entering = none ∧ t.reg Reg.PWR_RESULT = 0x80000004 ∧ t.evtSet 0x0402 0 = true ∧ t.evtSet 0x0403 0 = true
    ∧ (s.fld Reg.PWR_REQ 2 0 < e → t.pwr.auto = 0) := by
  have hlimit : (s.live && s.pwr.entering.isSome && (s.pwr.ap == 1 || s.pwr.ap == 2)) = true := by
    rcases hap with h | h <;> rw [hs, hentering, h] <;> rfl
  obtain ⟨hnone, hresult, hevent⟩ := s.abandonEntry_settles hentering (by omega) 4
  refine ⟨_, guarded_of hlimit s _, ?_, ?_, State.raise_keeps_evtSet _ _ _ _ ?_, State.raise_evtSet .., fun hauto => ?_⟩
  · rw [State.raise_pwr, apply_ite State.pwr, apply_ite Pwr.entering, hnone, ite_self]
  · rw [State.raise_reg_body _ _ _ _ (by decide) (by decide)]
    refine Eq.trans ?_ hresult
    split <;> rfl
  · rw [← hevent]
    split <;> rfl
  · rw [State.raise_pwr, if_pos (by rw [hentering]; exact decide_eq_true hauto)]

end

/-! ### Off (R739) -/

theorem exec_offRequest (hoff : s.fld Reg.PWR_REQ 2 0 = 4) (hfirst : s.pwr.offWait = false) :
    exec .offRequest s = .next (s.liveClients.foldl (fun t c => t.sendClose c 5)
      (({ s with pwr := { s.pwr with offWait := true } } : State).raise 0x0407)) :=
  guarded_of (by simp [hs, hoff, hfirst]) s _

theorem offSessionsEnded_sends {timeout : Bool} (hwait : s.pwr.offWait = true) (hended : timeout = true ∨ s.liveClients = [])
    (hlink : s.intake.linkWrite = none) : ∃ t, exec (.offSessionsEnded timeout) s = .next t ∧ t.pwr.offWait = false
      ∧ t.intake.linkWrite = some { addr := Reg.INT_CTRL, value := s.reg Reg.INT_CTRL ||| 0x40 } :=
  ⟨_, guarded_of (by simp [hs, hwait, hended, hlink]) s _, rfl, rfl⟩

/-! ### Exits (R740) -/

theorem exitWave_second (hexit : s.pwr.exiting = some 2) : ∃ t, exec .exitWave s = .next t ∧ t.pwr.exiting = some 3
    ∧ t = { (s.waveDoms 2).foldl (fun t d => t.powerUp d) s with
        pwr := { ((s.waveDoms 2).foldl (fun t d => t.powerUp d) s).pwr with exiting := some 3 } } := by
  change ∃ t, execExitWave s = .next t ∧ _
  unfold execExitWave
  simp only [hexit]
  exact ⟨_, guarded_of hs s _, rfl, rfl⟩

theorem exitWave_ends (hexit : s.pwr.exiting = some 4) (hready : (allDoms.all fun d => decide (29 ≤ d) || !s.inSet s.effective d
    || s.chanAbsent d || (s.dom d).state == .up || (s.dom d).state == .failed) = true) :
    ∃ t, exec .exitWave s = .next t ∧ t.pwr.current = s.effective ∧ t.pwr.exiting = none ∧ t.evtSet 0x0401 0 = true := by
  change ∃ t, execExitWave s = .next t ∧ _
  unfold execExitWave
  simp only [hexit]
  refine ⟨_, (if_neg (by decide)).trans (guarded_of (by rw [hs, hready]; rfl) s _), ?_, ?_, ?_⟩
  · rw [State.setReg_pwr, State.raise_pwr]
  · rw [State.setReg_pwr, State.raise_pwr]
  · rw [State.evtSet_setReg_body _ _ (by decide), State.raise_evtSet]

/-! ### The point of no return (R730, R738) -/

theorem exec_pointOfNoReturn_drowsy (hentering : s.pwr.entering = some 2) (hap : s.pwr.ap = 4) :
    exec .pointOfNoReturn s = .next ((s.dropping 2).foldl (fun u d => if (u.dom d).state = .up then u.powerDown d else u)
      { s with pwr := { s.pwr with ap := 5 } }) := by
  change execPointOfNoReturn s = _
  unfold execPointOfNoReturn
  simp only [hentering]
  refine (guarded_of (by rw [hs, hap]; rfl) s _).trans (congrArg _ ((if_neg fun h => absurd h.1 (by decide)).trans ?_))
  simp only [Nat.reduceEqDiff, if_false, List.foldl_nil, hentering]

theorem pointOfNoReturn_dormant (hentering : s.pwr.entering = some 3) (hap : s.pwr.ap = 4) :
    ∃ t, exec .pointOfNoReturn s = .next t ∧ t.pwr.ap = 5 := by
  change ∃ t, execPointOfNoReturn s = .next t ∧ _
  unfold execPointOfNoReturn
  simp only [hentering]
  refine ⟨_, guarded_of (by rw [hs, hap]; rfl) s _, ?_⟩
  have hpll : ∀ (c : Prop) [Decidable c] (t : State), (if c then t.setPll .sram .off else t).pwr.ap = t.pwr.ap :=
    fun c _ t => by split <;> rfl
  refine (hpll _ _).trans ((State.foldl_keeps (fun t => t.pwr.ap) (fun t d => ?_) _ _).trans
    ((State.foldl_keeps (fun t => t.pwr.ap) (fun t d => ?_) _ _).trans rfl))
  · split
    · exact t.dropDomain_ap d
    · rfl
  · split
    · exact t.powerDown_ap d
    · rfl

end

/-- Settles O55, one command after another. -/
theorem powerStateCommands : Obligations.PowerStateCommands := by
  unfold Obligations.PowerStateCommands
  intro s hs
  refine ⟨fun v hoff hout => exec_pwrReqWrite_unknown hs hoff hout,
    fun v hoff hshallow hknown => pwrReqWrite_wakes hs hoff hshallow hknown,
    fun hauto hshallow => exec_idleDrowsyExpire hs hauto hshallow, fun hauto hshallow => exec_idleDormantExpire hs hauto hshallow,
    fun hon hfirst hdue => exec_alarm hs hon hfirst hdue,
    fun e hentering hap hquiet hgroups => exec_entryQuiesced hs hentering hap hquiet hgroups,
    fun hentering hap => (exec_entrySaved hs hentering hap).trans rfl, fun hentering hap => ⟨_, exec_entrySaved hs hentering hap, rfl, rfl⟩,
    fun e hentering hap hpoint hstands => exec_entryDramDone hs hentering hap hpoint hstands,
    fun hentering hap => exec_pointOfNoReturn_drowsy hs hentering hap, fun hentering hap => pointOfNoReturn_dormant hs hentering hap,
    fun e hentering hap hwake hrested => entryDone_settles hs hentering hap hwake hrested,
    fun e hentering hap => entryLimitExpire_abandons hs hentering hap, fun hoff hfirst => exec_offRequest hs hoff hfirst,
    fun timeout hwait hended hlink => offSessionsEnded_sends hs hwait hended hlink, fun hexit => exitWave_second hs hexit,
    fun hexit hready => exitWave_ends hs hexit hready⟩

end Sys2Proof.Machine
end
